-- ==== Sys2Proof/Syntax.lean ====
section
/-! DEFINITION. The commands of the block: one constructor for each row of spec/opcode_table.json, with the operands
that the row's rule names. Events that come from outside carry what they bring (a reading, a message, which check
failed); a register's strobe carries the fields of the word written. -/

namespace Sys2Proof

/-- A queue of descriptors: the four queues of a region (R131) or the chip queue. -/
inductive QueueId where
  | tile (region : Nat)
  | move (region : Nat)
  | spin (region : Nat)
  | ctrl (region : Nat)
  | chip
deriving DecidableEq, Repr

/-- What a start-up test found of one die-to-die link (R33, R393): its unit code (Table DIE-5), the spare wires it
assigned, and whether they cover the failed wires. -/
structure LinkTest where
  unit : Nat
  spares : Nat
  covered : Bool
deriving DecidableEq, Repr

/-- A failed check of a block during a tile attempt (R69, R80): the local block, the detecting source and the cell. -/
structure BlockFail where
  block : Nat
  source : Nat
  row : Nat
  col : Nat
deriving DecidableEq, Repr

/-- An error that a read of a store meets: the address, and whether its code can correct it (R34, R62, R144). -/
structure ReadError where
  addr : Nat
  correctable : Bool
deriving DecidableEq, Repr

/-- The report of one region's Tempo window (R42): chain completions and the busy fraction in 1/256. -/
structure TempoReport where
  completions : Nat
  busy : Nat
deriving DecidableEq, Repr

/-- What a descriptor's completion means for the outer step (R20, R28, R92): nothing, the end of a phase of one owned
tensor, or a position of Orthogonalise reached. -/
inductive StepMark where
  | none
  | gathered
  | exchanged
  | orthogonalised (matrix : Nat)
  | applyEntered
  | applied
  | orthAt (matrix iter product stage : Nat)
deriving DecidableEq, Repr

/-- A field held in three copies (R408). -/
inductive TripleField where
  | rteSel
  | pgCmd (group : Nat)
  | kslotUse (slot : Nat)
  | kslotRoot (slot : Nat)
  | laserEn (word : Nat)
  | mbrEpoch
deriving DecidableEq, Repr

/-- A copy of a field in three copies found to hold another value (R408). -/
structure Upset where
  field : TripleField
  copy : Nat
  value : Nat
deriving DecidableEq, Repr

/-- A fabric packet (Table FAB-5): its header fields, its payload, its PCRC, and whether its FEC codeword could be
corrected. -/
structure Packet where
  cls : Nat
  dl : Nat
  repoch : Nat
  ver : Nat
  mcast : Bool
  last : Bool
  poison : Bool
  opcode : Nat
  hops : Nat
  mepoch : Nat
  dst : Nat
  src : Nat
  len : Nat
  opId : Nat
  addr : Nat
  pkt : Nat
  data : List Byte
  pcrc : Nat
  fecOk : Bool
deriving DecidableEq, Repr

/-- An operation that this gateway initiates (R188, R189): the hub, the target endpoint or group, the device address at
the target, the buffer at this gateway, its bytes, the value of a CTR_ADD, the OP_ID it chooses, and the counter that
completion signals. -/
structure FabReq where
  hub : Nat
  mcast : Bool
  dst : Nat
  addr : Nat
  buf : Nat
  len : Nat
  value : Nat
  opId : Nat
  sig : Option Nat
  inc : Nat
deriving DecidableEq, Repr

/-- What a request or PUT command does: the gateway initiates an operation, or the target at a hub takes the oldest
packet of that opcode delivered there. -/
inductive FabCmd where
  | issue (req : FabReq)
  | take (hub : Nat)
deriving DecidableEq, Repr

/-- A peer's IDENT on a fabric port (R176), with the credits it advertises by VC (R177). -/
structure FabIdent where
  part : Nat
  id : Nat
  role : Nat
  dir : Nat
  x : Nat
  y : Nat
  z : Nat
  cred : List Nat
deriving DecidableEq, Repr

/-- A segment that Tailrace hands to Sluice (R256, R331): its flow, the header fields KIND, HALF, STAGE, OBJ and BLK, the
device address and length of its data (at most four blocks of 4,096 bytes), whether it is coded raw as a replacement
(RAWF), and the work item that owns the data. KIND 3 carries this side's tokens and epoch, and no data. -/
structure SegReq where
  flow : Nat
  kind : Nat
  half : Bool
  stage : Nat
  obj : Nat
  blk : Nat
  addr : Nat
  len : Nat
  rawf : Bool
  item : Nat
deriving DecidableEq, Repr

/-- The place that the running descriptors name for an arriving object (R259, R294): the address of its first byte, its
own bytes, and the counter that its completion signals, with the increment. -/
structure SegPlace where
  addr : Nat
  bytes : Nat
  sig : Option Nat
  inc : Nat
deriving DecidableEq, Repr

/-- The powers of a lane at the four monitor stages (R355), in 0.01 dBm: stages 1 to 3 of its transmit direction, and stage
4 of this device's receiver. -/
structure LanePower where
  s1 : Int
  s2 : Int
  s3 : Int
  s4 : Int
deriving DecidableEq, Repr

/-- The commands: one for each row of the opcode table, in the table's order. -/
inductive Instr where
  | powerCycle
  | deviceReset
  | pwrReset (key : Nat) (go : Bool)
  | pcieReset
  | pcieControllerReady
  | internalResetEnd
  | hubSelfTest (badHubs : List Nat) (links : List LinkTest)
  | memorySelfTest (badBase badStacks badLines badBlocks : List Nat)
  | journalRestore
  | baseImageVerify
  | vqBelowWarning (monitor mv : Nat)
  | vqRecovery (readings : List Nat)
  | admitHoldRelease
  | vqFloor (monitor mv : Nat)
  | vqPor (monitor mv : Nat)
  | railWarn (rail monitor mv : Nat)
  | vqOvervoltageWarn (monitor mv : Nat)
  | rail (rail monitor mv : Nat)
  | railRecovery (rail monitor mv : Nat)
  | temperatureSample (readings : List Int)
  | errNMinLowEnd
  | errnRelease
  | fltForce (word mask : Nat)
  | fltForceClr
  | fltCntClr
  | regionSelfTest (region : Nat)
  | dramStackTest (stack : Nat) (destroy : Bool)
  | hubTestRequest
  | selfTestStart
  | selfTestDrainDeadline
  | regionSelfTestDone (failed : Nat)
  | dramStackTestDone (failed : Bool)
  | barAccess (addr size : Nat)
  | linkReplay (link : Nat) (again : Bool)
  | tempoWindow (reports : List TempoReport)
  | tile (region : Nat) (errors : List ReadError)
  | tileAttemptEnd (region array : Nat) (fails : List BlockFail)
  | tileDrain (region array : Nat) (errors : List ReadError)
  | swRetire (region mask : Nat)
  | qrnBlkRestore (region mask : Nat)
  | spareCheck (region : Nat) (passed : Bool)
  | scbPar (region : Nat)
  | seqRestart (region : Nat)
  | flitResent (queue : QueueId) (sid : Nat) (second : Bool)
  | qrnCntClr (region : Nat)
  | moveLinear (region : Nat) (errors : List ReadError)
  | moveTwoDimensional (region : Nat) (errors : List ReadError)
  | moveTranspose (region : Nat) (errors : List ReadError)
  | moveZeroFill (region : Nat)
  | spinNop (region : Nat)
  | mov (region : Nat)
  | scl (region : Nat)
  | fma (region : Nat)
  | add (region : Nat)
  | mul (region : Nat)
  | fil (region : Nat)
  | ssq (region : Nat)
  | amax (region : Nat)
  | fin (region : Nat)
  | qmx4 (region : Nat)
  | qmx8 (region : Nat)
  | oavg (region tensor : Nat)
  | omom (region tensor : Nat)
  | ones (region tensor : Nat)
  | odir (region : Nat)
  | oqx (region : Nat)
  | oapp (region tensor : Nat)
  | mdlt (region : Nat)
  | spnOpcode (region : Nat)
  | spinBatch (region : Nat) (failed rerunFailed : Bool)
  | nop (queue : QueueId)
  | syncSet (queue : QueueId)
  | syncAdd (queue : QueueId)
  | normInv
  | recip
  | mergeW
  | finVerdict (matrix iter product : Nat)
  | clear
  | openStep
  | commit
  | scatterDone
  | phase
  | coll
  | dispatch
  | descriptorCompletion (queue : QueueId) (sid : Nat) (mark : StepMark)
  | dlMiss (queue : QueueId) (sid : Nat)
  | regionDrained (region : Nat)
  | seqPhaseReq (phase : Nat)
  | phaseRefused (region : Nat)
  | seqRun (entry : Nat)
  | seqCntClr
  | replicaConfirm (epoch mask : Nat)
  | replicaLost
  | slotOpen (mask : Nat)
  | slotClose (mask : Nat)
  | slotLease (slot : Nat)
  | bar2SlotWrite (offset : Nat) (data : List Byte)
  | loaderDma (slot : Nat)
  | loaderDmaDone (error : Bool)
  | load (slot : Nat) (applyAtEn : Bool)
  | abort
  | imageVerified
  | applying
  | applied
  | imgArbCommit
  | patrolScrub (addr : Nat) (error : Option Bool) (overwritten : Bool)
  | pndRetrain (link : Nat) (auto : Bool)
  | pndDown (link : Nat)
  | pondLanesLocked (link : Nat)
  | pondAligned (link : Nat)
  | pondIdent (link : Nat) (msg : List Byte)
  | pondTrainingTimeout (link : Nat)
  | pondSilence (link : Nat)
  | pondBackoffEnd (link : Nat)
  | pondActiveDeadline (link : Nat)
  | rd (link tag addr granules dst : Nat)
  | wr (link addr : Nat) (data : List Byte) (poison : Nat)
  | rdc (link : Nat) (msg : List Byte)
  | wra (link : Nat) (msg : List Byte)
  | pondNop (link : Nat) (msg : List Byte)
  | pondReplayTimer (link : Nat)
  | pondIdleNop (link : Nat)
  | plTimeout (link : Nat) (read : Bool) (tag : Nat)
  | hopperRequest (hub owner size : Nat) (listError : Bool)
  | hopperRelease (owner handle : Nat)
  | hopAudit (pool : Nat)
  | hopAuditDone (pool : Nat)
  | rebuild (pool : Nat)
  | hopCntClr (pool : Nat)
  | memCntClr
  | pndCntClr (link : Nat)
  | clrStage
  | fabRetrain (port : Nat) (auto : Bool)
  | fabDown (port : Nat)
  | fabLanesLocked (port : Nat)
  | fabAligned (port : Nat)
  | fabIdent (port : Nat) (ident : FabIdent)
  | fabSilence (port : Nat)
  | fabTrainingTimeout (port : Nat)
  | fabBackoffEnd (port : Nat)
  | fabActiveDeadline (port : Nat)
  | linkControlBlock (port : Nat) (block : List Byte)
  | controlBlockSend (port : Nat)
  | packetArrival (port : Nat) (packet : Packet)
  | packetForward (ingress vc : Nat)
  | hopLifeExpiry (ingress vc : Nat)
  | put (c : FabCmd)
  | get (c : FabCmd)
  | ctrAdd (c : FabCmd)
  | putAck (hub : Nat)
  | getData (hub : Nat)
  | ctrAck (hub : Nat)
  | opTimeout (opId newOpId : Nat)
  | contextExpiry (hub src opId : Nat)
  | fabCntClr
  | fabPortCntClr (port : Nat)
  | rteSel (sel : Nat)
  | rteValid (valid : Nat)
  | rteWindowWrite (multicast : Bool) (index entry : Nat)
  | routesStaging
  | elementNop (group seq elem : Nat)
  | send (group seq elem : Nat)
  | reduce (group seq elem : Nat)
  | bcast (group seq elem : Nat)
  | collect (group seq elem : Nat)
  | dones (group seq elem : Nat)
  | release (group seq elem : Nat)
  | tally (group seq elem : Nat)
  | colData (hub : Nat)
  | colGrant (hub : Nat)
  | colBcast (hub : Nat)
  | colDone (hub : Nat)
  | colNack (hub : Nat)
  | colRelease (hub : Nat)
  | colTally (hub : Nat)
  | chunkReissue (group seq chunk : Nat)
  | slotReclaim (group seq chunk : Nat)
  | slotReclaimEnd (hub slot : Nat)
  | lingerEnd (group seq : Nat)
  | earlyGrantExpiry (group seq chunk : Nat)
  | nackTimer (group seq elem : Nat)
  | releaseRepeat (group seq elem : Nat)
  | tallyRepeat (hub group dst seq tokens epoch : Nat)
  | colFlipArm
  | colFlipCancel
  | colCancel (group seq : Nat)
  | colCntClr
  | frameTransmit (port : Nat)
  | frameReceive (port : Nat) (lanes : List (List Nat)) (skew : Nat)
  | alignmentSighting (port pos : Nat) (markers : List Nat) (skew : Nat)
  | candidateCheck (port pos : Nat) (lanes : List (List Nat))
  | preFecWindow (port : Nat)
  | rehunt (port : Nat)
  | swapArm (port : Nat)
  | swapCancel (port : Nat)
  | rxReady (port : Nat)
  | tsiWindowWrite (receive : Bool) (port slot entry : Nat)
  | holdOffEnd (port : Nat) (degrade : Bool)
  | wtrExpiry (group : Nat)
  | lhlPgCmd (group cmd : Nat)
  | protectionSwitch (group us : Nat)
  | lhlCntClr (port : Nat)
  | secondBoundary
  | segmentReceive (port flow : Nat) (place : SegPlace)
  | stepCtl
  | segmentHandoff (req : SegReq)
  | ack
  | ackMap
  | rawReq
  | voidRange
  | ackTimer (flow : Nat)
  | rtoExpiry (flow seq : Nat)
  | voidRepeat (flow : Nat)
  | echoTimer (port : Nat)
  | echoRequest
  | echoReply
  | mbrEpoch (epoch : Nat)
  | membershipNotice (namesAbsent : Bool)
  | noticeTimer (port : Nat)
  | noticeEntryExpiry (site : Nat)
  | reachTimeout (site : Nat)
  | partition (site : Nat)
  | pinComplete
  | pinFetch (epoch mask : Nat)
  | rejoin
  | mergeClose
  | merge
  | mergeCommit
  | mbrAdmit (site : Nat) (fromRemote : Bool)
  | heartbeatTouch
  | hbLapse
  | mlrFlowCntClr (flow : Nat)
  | bolterTableInstall (slot : Nat)
  | windowRead (addr len : Nat)
  | windowWrite (addr : Nat) (data : List Byte) (poison : Bool)
  | entropyFail (proportion : Bool)
  | entropyRecovery
  | maskReseed (hub : Nat)
  | cipherRequest (hub : Nat)
  | install (index : Nat) (reset : Bool)
  | advance (slot : Nat)
  | kslotClear (slot : Nat)
  | kslotOpen (slot : Nat)
  | kslotLease (slot : Nat)
  | hostRequest (slot blocks : Nat)
  | cryCntClr
  | cmpCntClr
  | timInc (hi : Nat)
  | timSet
  | timStep
  | timSlew
  | slewEnd
  | timeStep
  | timSnap
  | refclkLoss
  | refclkReturn
  | timeUnitSync (diff : Int)
  | holdover
  | ppsInEdge
  | ppsInLost
  | ppsOutEdge
  | ppsOutEnd
  | ieee1588Message
  | ptpSend (port len : Nat) (oneStep : Bool)
  | pop
  | refill
  | gateEntryChange (port : Nat)
  | gateListSwitch (port : Nat)
  | gateArm (port : Nat)
  | gateCancel (port : Nat)
  | histogramSample
  | sluHistClr
  | ringSweepDone (port lane : Nat) (transmit : Bool) (lines : List (Nat × Nat))
  | toneWindow (port lane : Nat) (transmit : Bool) (tone : Nat)
  | monitorSample (port : Nat) (powers : List LanePower)
  | averagingWindow (port : Nat) (errors : List Nat)
  | shadowMarker (port lane code inverse : Nat) (equal : Bool) (skew : Nat)
  | reportUnit (port : Nat) (unit : List Byte)
  | laneLoss (port lane : Nat)
  | mirrorRelease (port : Nat)
  | calibrationTimer (port : Nat)
  | calNow (port : Nat)
  | calCancel (port : Nat)
  | calibrationLaneDone (port : Nat)
  | optCommission (port : Nat)
  | commissioningDone (port : Nat) (powers : List LanePower)
  | optLaserRestore (laser : Nat)
  | optLaserEn (word value : Nat)
  | optCntClr
  | genStatusMode (mode key : Nat)
  | genDigestRef (crc : Nat)
  | digestCompute (unitFault : Bool)
  | tmr (upsets : List Upset)
  | genCntClr
  | rcsWriteBack (addr value : Nat)
  | registerWrite (addr value : Nat)
  | postedWriteDone (block : Nat)
  | otpKeyWrite (index : Nat)
  | otpKeyRevoke (index : Nat)
  | writeRunning (bank : Nat)
  | activate (bank : Nat)
  | verify (bank : Nat)
  | writeCert (slot len : Nat)
  | bootStoreOpDone (failed : Bool)
  | flush
  | journalSnapshot (writeBad : Bool)
  | journalEraseDone
  | doeDiscovery (index : Nat)
  | getCerts
  | getQuote (nonce : List Byte)
  | getBody
  | doeAbort
  | attQTail (index : Nat)
  | quoteQueueEntry (dmaError last : Bool)
  | smbPart
  | smbStatus
  | smbTemp (command : Nat)
  | smbVq (command : Nat)
  | smbRail (command : Nat)
  | smbPwrStat
  | smbOther (command : Nat)
  | pwrMinClr
  | lineLanesLocked (port : Nat)
  | pondMessageDiscard (link : Nat) (msg : List Byte)
  | otpWriteDone (readBackBad : Bool)
  | reportsOkLapse (port : Nat)
  | vqOvervoltageClear (monitor : Nat)
deriving DecidableEq, Repr

end Sys2Proof
end

