-- ==== Sys2Proof/Machine/Keccak.lean ====
section
/-! DEFINITION. SHAKE256 and KMAC256 (R12: FIPS 202 and SP 800-185). The spec names the standards and does not repeat them; the
algorithms are PRESUMED from the standards. -/

namespace Sys2Proof.Machine

/-- The round constants of Keccak-f[1600]. -/
def keccakRc : List Nat :=
  [0x0000000000000001, 0x0000000000008082, 0x800000000000808A, 0x8000000080008000, 0x000000000000808B, 0x0000000080000001,
   0x8000000080008081, 0x8000000000008009, 0x000000000000008A, 0x0000000000000088, 0x0000000080008009, 0x000000008000000A] ++
  [0x000000008000808B, 0x800000000000008B, 0x8000000000008089, 0x8000000000008003, 0x8000000000008002, 0x8000000000000080,
   0x000000000000800A, 0x800000008000000A, 0x8000000080008081, 0x8000000000008080, 0x0000000080000001, 0x8000000080008008]

/-- The rotation of each lane, lane x of row y at 5y + x. -/
def keccakRot : List Nat :=
  [0, 1, 62, 28, 27, 36, 44, 6, 55, 20, 3, 10, 43] ++ [25, 39, 41, 45, 15, 21, 8, 18, 2, 61, 56, 14]

/-- A 64-bit lane rotated left. -/
def rotLane (v n : Nat) : Nat := (v <<< n) % 2 ^ 64 ||| (v >>> (64 - n))

/-- One round of Keccak-f[1600]. -/
def keccakRound (a : List Nat) (rc : Nat) : List Nat :=
  let at_ := fun (l : List Nat) i => (l[i]?).getD 0
  let c := (List.range 5).map fun x => at_ a x ^^^ at_ a (x + 5) ^^^ at_ a (x + 10) ^^^ at_ a (x + 15) ^^^ at_ a (x + 20)
  let d := (List.range 5).map fun x => at_ c ((x + 4) % 5) ^^^ rotLane (at_ c ((x + 1) % 5)) 1
  let t := (List.range 25).map fun i => at_ a i ^^^ at_ d (i % 5)
  let b := (List.range 25).map fun i =>
    let from_ := (i % 5 + 3 * (i / 5)) % 5 + 5 * (i % 5)
    rotLane (at_ t from_) (at_ keccakRot from_)
  (List.range 25).map fun i =>
    let n := fun k => at_ b (i / 5 * 5 + (i % 5 + k) % 5)
    let v := at_ b i ^^^ ((n 1 ^^^ (2 ^ 64 - 1)) &&& n 2)
    if i = 0 then v ^^^ rc else v

/-- Keccak-f[1600]. -/
def keccakF (a : List Nat) : List Nat := keccakRc.foldl keccakRound a

/-- The number that bytes spell least significant first. -/
def laneNat : List Byte → Nat
  | [] => 0
  | b :: bs => b.toNat + 256 * laneNat bs

/-- The n bytes of a number, least significant first. -/
def laneBytes : Nat → Nat → List Byte
  | 0, _ => []
  | n + 1, v => BitVec.ofNat 8 v :: laneBytes n (v / 256)

/-- Blocks of 136 bytes absorbed. -/
def keccakAbsorb (st : List Nat) (bs : List Byte) : Nat → List Nat
  | 0 => st
  | n + 1 =>
    let block := bs.take 136
    let lanes := (List.range 25).map fun i => laneNat ((block.drop (8 * i)).take 8)
    keccakAbsorb (keccakF (List.zipWith (· ^^^ ·) st lanes)) (bs.drop 136) n

/-- The output of `n` squeezes of 136 bytes. -/
def keccakSqueeze (st : List Nat) : Nat → List Byte
  | 0 => []
  | n + 1 => (st.take 17).flatMap (laneBytes 8) ++ keccakSqueeze (keccakF st) n

/-- KECCAK[512] of bytes with the first byte of the padding, and a number of output bytes. -/
def keccak512 (first : Byte) (bs : List Byte) (n : Nat) : List Byte :=
  let q := 136 - bs.length % 136
  let pad := if q = 1 then [first ||| 0x80#8] else first :: List.replicate (q - 2) 0#8 ++ [0x80#8]
  let m := bs ++ pad
  (keccakSqueeze (keccakAbsorb (List.replicate 25 0) m (m.length / 136)) ((n + 135) / 136)).take n

/-- SHAKE256 (FIPS 202): the bytes hashed and the number of bytes of output. -/
@[irreducible] def shake256 (bs : List Byte) (n : Nat) : List Byte := keccak512 0x1F#8 bs n

/-- How many bytes a number takes, at least one. -/
def byteLen (v : Nat) : Nat := if v < 256 then 1 else if v < 65536 then 2 else if v < 2 ^ 24 then 3 else 4

/-- left_encode of SP 800-185. -/
def leftEncode (v : Nat) : List Byte := beBytes 1 (byteLen v) ++ beBytes (byteLen v) v

/-- right_encode of SP 800-185. -/
def rightEncode (v : Nat) : List Byte := beBytes (byteLen v) v ++ beBytes 1 (byteLen v)

/-- encode_string of SP 800-185. -/
def encodeString (bs : List Byte) : List Byte := leftEncode (8 * bs.length) ++ bs

/-- bytepad to 136 bytes. -/
def bytepad (bs : List Byte) : List Byte :=
  let x := leftEncode 136 ++ bs
  x ++ List.replicate ((136 - x.length % 136) % 136) 0#8

/-- KMAC256 (SP 800-185): key, message, output bytes, customisation. -/
@[irreducible] def kmac256 (key msg : List Byte) (n : Nat) (custom : List Byte) : List Byte :=
  keccak512 0x04#8 (bytepad (encodeString [0x4B#8, 0x4D#8, 0x41#8, 0x43#8] ++ encodeString custom) ++
    (bytepad (encodeString key) ++ msg ++ rightEncode (8 * n))) n

end Sys2Proof.Machine
end

