-- ==== Sys2Proof/Machine/SlhDsa.lean ====
section
/-! DEFINITION. SLH-DSA with SHAKE256 (R12: FIPS 205): key generation and signing with SLH-DSA-SHAKE-128f, verification with
SLH-DSA-SHAKE-256s. The spec names the standard and does not repeat it; the algorithms are PRESUMED from the standard. -/

namespace Sys2Proof.Machine

/-- A parameter set of FIPS 205: n, h, d, a, k; the Winternitz parameter is 16. -/
structure SlhSet where
  n : Nat
  h : Nat
  d : Nat
  a : Nat
  k : Nat
deriving DecidableEq, Repr

/-- SLH-DSA-SHAKE-128f. -/
def slh128f : SlhSet := ⟨16, 66, 22, 6, 33⟩
/-- SLH-DSA-SHAKE-256s. -/
def slh256s : SlhSet := ⟨32, 64, 8, 14, 22⟩

/-- The height of one tree. -/
def SlhSet.hp (p : SlhSet) : Nat := p.h / p.d
/-- The chains of one one-time key. -/
def SlhSet.len (p : SlhSet) : Nat := 2 * p.n + 3
/-- The bytes of a FORS signature. -/
def SlhSet.forsBytes (p : SlhSet) : Nat := p.k * (1 + p.a) * p.n
/-- The bytes of one tree's signature. -/
def SlhSet.treeBytes (p : SlhSet) : Nat := (p.len + p.hp) * p.n
/-- The bytes of a signature. -/
def SlhSet.sigBytes (p : SlhSet) : Nat := p.n + p.forsBytes + p.d * p.treeBytes

/-- An address: layer, tree, type and three words. -/
structure SlhAdrs where
  layer : Nat
  tree : Nat
  typ : Nat
  w1 : Nat
  w2 : Nat
  w3 : Nat
deriving DecidableEq, Repr

/-- The 32 bytes of an address. -/
def SlhAdrs.bytes (x : SlhAdrs) : List Byte :=
  beBytes 4 x.layer ++ beBytes 12 x.tree ++ beBytes 4 x.typ ++ beBytes 4 x.w1 ++ beBytes 4 x.w2 ++ beBytes 4 x.w3

/-- An address of another type for the same key pair. -/
def SlhAdrs.retype (x : SlhAdrs) (typ : Nat) : SlhAdrs := { x with typ := typ, w2 := 0, w3 := 0 }

/-- F, H and T of FIPS 205, and PRF with the secret seed as the message: PK.seed, address, message. -/
def slhHash (p : SlhSet) (pkSeed : List Byte) (x : SlhAdrs) (m : List Byte) : List Byte := shake256 (pkSeed ++ x.bytes ++ m) p.n

/-- base_2b: `out` digits of b bits of a string, most significant first. -/
def base2b (bs : List Byte) (b out : Nat) : List Nat :=
  let v := beNat bs
  (List.range out).map fun i => v / 2 ^ (8 * bs.length - b * (i + 1)) % 2 ^ b

/-- Part i of a string of parts of n bytes. -/
def hashPart (n i : Nat) (bs : List Byte) : List Byte := (bs.drop (n * i)).take n

/-! One-time signatures (WOTS+). -/

/-- `s` steps of a chain from step i. -/
def slhChain (p : SlhSet) (pkSeed : List Byte) (x : SlhAdrs) (v : List Byte) (i : Nat) : Nat → List Byte
  | 0 => v
  | s + 1 => slhChain p pkSeed x (slhHash p pkSeed { x with w3 := i } v) (i + 1) s

/-- The start of chain i of a key pair. -/
def wotsSecret (p : SlhSet) (skSeed pkSeed : List Byte) (x : SlhAdrs) (i : Nat) : List Byte :=
  slhHash p pkSeed { x.retype 5 with w2 := i } skSeed

/-- The public key of the chains' ends. -/
def wotsCompress (p : SlhSet) (pkSeed : List Byte) (x : SlhAdrs) (ends : List Byte) : List Byte :=
  slhHash p pkSeed (x.retype 1) ends

/-- A one-time public key. -/
def wotsKey (p : SlhSet) (skSeed pkSeed : List Byte) (x : SlhAdrs) : List Byte :=
  wotsCompress p pkSeed x ((List.range p.len).flatMap fun i =>
    slhChain p pkSeed { x with w2 := i } (wotsSecret p skSeed pkSeed x i) 0 15)

/-- The digits of a message with those of its checksum. -/
def wotsDigits (p : SlhSet) (m : List Byte) : List Nat :=
  let d := base2b m 4 (2 * p.n)
  d ++ base2b (beBytes 2 (16 * (d.map fun v => 15 - v).sum)) 4 3

/-- A one-time signature. -/
def wotsSign (p : SlhSet) (skSeed pkSeed : List Byte) (x : SlhAdrs) (m : List Byte) : List Byte :=
  ((wotsDigits p m).zipIdx).flatMap fun v =>
    slhChain p pkSeed { x with w2 := v.2 } (wotsSecret p skSeed pkSeed x v.2) 0 v.1

/-- The public key that a one-time signature gives. -/
def wotsFromSig (p : SlhSet) (pkSeed : List Byte) (x : SlhAdrs) (m sig : List Byte) : List Byte :=
  wotsCompress p pkSeed x (((wotsDigits p m).zipIdx).flatMap fun v =>
    slhChain p pkSeed { x with w2 := v.2 } (hashPart p.n v.2 sig) v.1 (15 - v.1))

/-! Trees (XMSS) and their hypertree. -/

/-- Node i at height z of a tree. -/
def xmssNode (p : SlhSet) (skSeed pkSeed : List Byte) (x : SlhAdrs) (i : Nat) : Nat → List Byte
  | 0 => wotsKey p skSeed pkSeed { x with typ := 0, w1 := i, w2 := 0, w3 := 0 }
  | z + 1 => slhHash p pkSeed { x with typ := 2, w1 := 0, w2 := z + 1, w3 := i }
      (xmssNode p skSeed pkSeed x (2 * i) z ++ xmssNode p skSeed pkSeed x (2 * i + 1) z)

/-- A tree's signature of a message with leaf `idx`. -/
def xmssSign (p : SlhSet) (skSeed pkSeed : List Byte) (x : SlhAdrs) (idx : Nat) (m : List Byte) : List Byte :=
  wotsSign p skSeed pkSeed { x with typ := 0, w1 := idx, w2 := 0, w3 := 0 } m ++
    (List.range p.hp).flatMap fun j => xmssNode p skSeed pkSeed x ((idx / 2 ^ j) ^^^ 1) j

/-- The node above a node of height j, index i in its level, and its neighbour; `base` is the address of the tree's nodes. -/
def slhUp (p : SlhSet) (pkSeed : List Byte) (base : SlhAdrs) (j i : Nat) (node auth : List Byte) : List Byte :=
  slhHash p pkSeed { base with w2 := j + 1, w3 := i / 2 } (if i % 2 = 0 then node ++ auth else auth ++ node)

/-- The root above leaf `i` by the neighbours in `auth`, from height j on. -/
def slhClimb (p : SlhSet) (pkSeed : List Byte) (base : SlhAdrs) (auth : List Byte) (j i : Nat) (node : List Byte) : Nat → List Byte
  | 0 => node
  | n + 1 => slhClimb p pkSeed base auth (j + 1) (i / 2) (slhUp p pkSeed base j i node (hashPart p.n j auth)) n

/-- The root that a tree's signature gives. -/
def xmssFromSig (p : SlhSet) (pkSeed : List Byte) (x : SlhAdrs) (idx : Nat) (m sig : List Byte) : List Byte :=
  slhClimb p pkSeed { x with typ := 2, w1 := 0, w2 := 0, w3 := 0 } (sig.drop (p.len * p.n)) 0 idx
    (wotsFromSig p pkSeed { x with typ := 0, w1 := idx, w2 := 0, w3 := 0 } m sig) p.hp

/-- A hypertree signature from layer j on. -/
def htSign (p : SlhSet) (skSeed pkSeed : List Byte) (j tree leaf : Nat) (m : List Byte) : Nat → List Byte
  | 0 => []
  | n + 1 =>
    let x : SlhAdrs := ⟨j, tree, 0, 0, 0, 0⟩
    let sig := xmssSign p skSeed pkSeed x leaf m
    sig ++ htSign p skSeed pkSeed (j + 1) (tree / 2 ^ p.hp) (tree % 2 ^ p.hp) (xmssFromSig p pkSeed x leaf m sig) n

/-- The root that a hypertree signature gives. -/
def htRoot (p : SlhSet) (pkSeed : List Byte) (j tree leaf : Nat) (m sig : List Byte) : Nat → List Byte
  | 0 => m
  | n + 1 => htRoot p pkSeed (j + 1) (tree / 2 ^ p.hp) (tree % 2 ^ p.hp)
      (xmssFromSig p pkSeed ⟨j, tree, 0, 0, 0, 0⟩ leaf m (sig.take p.treeBytes)) (sig.drop p.treeBytes) n

/-! Few-time signatures (FORS). -/

/-- The secret value of leaf i. -/
def forsSecret (p : SlhSet) (skSeed pkSeed : List Byte) (x : SlhAdrs) (i : Nat) : List Byte :=
  slhHash p pkSeed { x.retype 6 with w3 := i } skSeed

/-- Node i at height z. -/
def forsNode (p : SlhSet) (skSeed pkSeed : List Byte) (x : SlhAdrs) (i : Nat) : Nat → List Byte
  | 0 => slhHash p pkSeed { x with w2 := 0, w3 := i } (forsSecret p skSeed pkSeed x i)
  | z + 1 => slhHash p pkSeed { x with w2 := z + 1, w3 := i }
      (forsNode p skSeed pkSeed x (2 * i) z ++ forsNode p skSeed pkSeed x (2 * i + 1) z)

/-- A FORS signature of a digest. -/
def forsSign (p : SlhSet) (skSeed pkSeed : List Byte) (x : SlhAdrs) (md : List Byte) : List Byte :=
  ((base2b md p.a p.k).zipIdx).flatMap fun v =>
    forsSecret p skSeed pkSeed x (v.2 * 2 ^ p.a + v.1) ++
      (List.range p.a).flatMap fun j => forsNode p skSeed pkSeed x (v.2 * 2 ^ (p.a - j) + ((v.1 / 2 ^ j) ^^^ 1)) j

/-- The FORS public key that a signature gives. -/
def forsFromSig (p : SlhSet) (pkSeed : List Byte) (x : SlhAdrs) (md sig : List Byte) : List Byte :=
  slhHash p pkSeed (x.retype 4) (((base2b md p.a p.k).zipIdx).flatMap fun v =>
    let part := hashPart ((1 + p.a) * p.n) v.2 sig
    let leaf := v.2 * 2 ^ p.a + v.1
    slhClimb p pkSeed x (part.drop p.n) 0 leaf (slhHash p pkSeed { x with w2 := 0, w3 := leaf } (part.take p.n)) p.a)

/-! The signature scheme. -/

/-- The message with its context, pure signing. -/
def slhMessage (m ctx : List Byte) : List Byte := beBytes 1 0 ++ beBytes 1 ctx.length ++ ctx ++ m

/-- What the digest of a message names: the FORS digest, the tree and the leaf. -/
def slhDigest (p : SlhSet) (r pk m : List Byte) : List Byte × Nat × Nat :=
  let n1 := (p.k * p.a + 7) / 8
  let n2 := (p.h - p.hp + 7) / 8
  let n3 := (p.hp + 7) / 8
  let g := shake256 (r ++ pk ++ m) (n1 + n2 + n3)
  (g.take n1, beAt g n1 n2 % 2 ^ (p.h - p.hp), beAt g (n1 + n2) n3 % 2 ^ p.hp)

/-- The address of the FORS trees of a leaf. -/
def forsAdrs (tree leaf : Nat) : SlhAdrs := ⟨0, tree, 3, leaf, 0, 0⟩

/-- The public key of a parameter set made from SK.seed, SK.prf and PK.seed. -/
def slhPublic (p : SlhSet) (seeds : List Byte) : List Byte :=
  let pkSeed := hashPart p.n 2 seeds
  pkSeed ++ xmssNode p (hashPart p.n 0 seeds) pkSeed ⟨p.d - 1, 0, 0, 0, 0, 0⟩ 0 p.hp

/-- A signature: seeds of the key, message with its context, opt_rand. -/
def slhSignWith (p : SlhSet) (seeds m opt : List Byte) : List Byte :=
  let skSeed := hashPart p.n 0 seeds
  let pkSeed := hashPart p.n 2 seeds
  let r := shake256 (hashPart p.n 1 seeds ++ opt ++ m) p.n
  let g := slhDigest p r (slhPublic p seeds) m
  let x := forsAdrs g.2.1 g.2.2
  let fors := forsSign p skSeed pkSeed x g.1
  r ++ fors ++ htSign p skSeed pkSeed 0 g.2.1 g.2.2 (forsFromSig p pkSeed x g.1 fors) p.d

/-- Whether a signature verifies: public key, message with its context, signature. -/
def slhVerifyWith (p : SlhSet) (pk m sig : List Byte) : Bool :=
  let pkSeed := pk.take p.n
  let g := slhDigest p (sig.take p.n) pk m
  let fors := (sig.drop p.n).take p.forsBytes
  sig.length == p.sigBytes && pk.length == 2 * p.n &&
    htRoot p pkSeed 0 g.2.1 g.2.2 (forsFromSig p pkSeed (forsAdrs g.2.1 g.2.2) g.1 fors) (sig.drop (p.n + p.forsBytes)) p.d ==
      pk.drop p.n

/-- Verification of an SLH-DSA-SHAKE-256s signature (R107): public key, message, context string, signature. -/
@[irreducible] def slhVerify (pk m ctx sig : List Byte) : Bool := slhVerifyWith slh256s pk (slhMessage m ctx) sig

/-- The SLH-DSA-SHAKE-128f public key made from SK.seed, SK.prf and PK.seed (R413). -/
@[irreducible] def slhKeyGen (seeds : List Byte) : List Byte := slhPublic slh128f seeds

/-- An SLH-DSA-SHAKE-128f signature (R420): seeds of the identity key, message, context string, opt_rand. -/
@[irreducible] def slhSign (seeds m ctx opt : List Byte) : List Byte := slhSignWith slh128f seeds (slhMessage m ctx) opt

end Sys2Proof.Machine
end

