-- ==== Sys2Proof/Machine/Check.lean ====
section
/-! DEFINITION. The check codes of the spec (Table SC-6, R32, R177, R231): CRC-32C and the CRC-16 of polynomial 0x8BB7. -/

namespace Sys2Proof.Machine

/-- One bit of a reflected CRC-32C register: shifted right, with the reflected Castagnoli polynomial when a one leaves. -/
def crc32cBit (c : Nat) : Nat := if c % 2 = 1 then (c / 2) ^^^ 0x82F63B78 else c / 2

/-- One byte taken into a CRC-32C register. -/
def crc32cByte (c : Nat) (b : Byte) : Nat :=
  crc32cBit (crc32cBit (crc32cBit (crc32cBit (crc32cBit (crc32cBit (crc32cBit (crc32cBit (c ^^^ b.toNat))))))))

/-- CRC-32C (Table SC-6): polynomial 0x1EDC6F41, initial value all ones, input and output reflected, final XOR all
ones. -/
def crc32c (bs : List Byte) : Nat := bs.foldl crc32cByte 0xFFFFFFFF ^^^ 0xFFFFFFFF

/-- One bit of a CRC-16 register of polynomial 0x8BB7, most significant bit first. -/
def crc16Bit (c : Nat) : Nat := if 0x8000 ≤ c then (2 * c % 0x10000) ^^^ 0x8BB7 else 2 * c

/-- One byte taken into a CRC-16 register. -/
def crc16Byte (c : Nat) (b : Byte) : Nat :=
  crc16Bit (crc16Bit (crc16Bit (crc16Bit (crc16Bit (crc16Bit (crc16Bit (crc16Bit (c ^^^ (b.toNat * 256)))))))))

/-- The CRC-16 of polynomial 0x8BB7 from an initial value (R32, R177: 0x0000; R231: 0xFFFF). -/
def crc16 (init : Nat) (bs : List Byte) : Nat := bs.foldl crc16Byte init

end Sys2Proof.Machine
end

