-- ==== Sys2Proof/Machine/Bolter.lean ====
section
/-! DEFINITION. Bolter's code (R289–R295): the canonical prefix codes of a table, a block of 4,096 bytes coded or raw, and
the decoder with the causes of its shape faults. -/

namespace Sys2Proof.Machine

/-- A window of a BOLTER_TABLE body (Table BC-5): its base, length and block map. -/
structure BWindow where
  base : Nat
  len : Nat
  map : Nat
deriving DecidableEq, Repr

/-- A table as its body gives it (Table BC-5). -/
structure BTable where
  epoch : Nat
  fp32 : Bool
  line : Bool
  windows : List BWindow
  elens : List Nat
  mlens : List Nat
deriving DecidableEq, Repr

/-- The table that a body of 556 bytes holds. -/
def parseTable (b : List Byte) : BTable where
  epoch := beAt b 0 2
  fp32 := bits (beAt b 2 1) 1 0 == 1
  line := bit (beAt b 3 1) 0
  windows := (List.range (beAt b 4 1)).map fun w => ⟨beAt b (32 + 32 * w) 6, beAt b (40 + 32 * w) 8, beAt b (48 + 32 * w) 6⟩
  elens := (slice b 160 268).map (·.toNat)
  mlens := (slice b 428 128).map (·.toNat)

/-- One symbol of a canonical code: the symbol, its length and its code (R292). -/
structure CodeSym where
  sym : Nat
  len : Nat
  code : Nat
deriving DecidableEq, Repr

/-- The canonical code of a list of lengths (R292). -/
def canonCode (lens : List Nat) : List CodeSym :=
  ((List.range 15).foldl (fun (acc : Nat × List CodeSym) l =>
    let syms := (lens.zipIdx.filter fun x => x.1 == l + 1).map Prod.snd
    (2 * acc.1 + syms.length, acc.2 ++ syms.zipIdx.map fun x => ⟨x.1, l + 1, 2 * acc.1 + x.2⟩)) (0, [])).2

/-- The `n` low bits of a number, most significant first. -/
def natBits : Nat → Nat → List Bool
  | 0, _ => []
  | n + 1, v => bit v n :: natBits n v

/-- The number that bits spell, most significant first. -/
def bitsNat (bs : List Bool) : Nat := bs.foldl (fun r b => 2 * r + b2n b) 0

/-- The bits of bytes. -/
def bytesBits (bs : List Byte) : List Bool := bs.flatMap fun b => natBits 8 b.toNat

/-- Bits as bytes, the last padded with zeros (R290). -/
def bitsBytes : Nat → List Bool → List Byte
  | 0, _ => []
  | n + 1, bs =>
    if bs.isEmpty then []
    else BitVec.ofNat 8 (bitsNat ((bs ++ List.replicate 8 false).take 8)) :: bitsBytes n (bs.drop 8)

/-- An element's fields (R289, R290): sign, exponent, the top 7 mantissa bits and the low 16. -/
structure BElem where
  sign : Bool
  exp : Nat
  man : Nat
  low : Nat
deriving DecidableEq, Repr

/-- The element of a format from its bits. -/
def belemOf (fp32 : Bool) (v : Nat) : BElem :=
  if fp32 then ⟨bit v 31, bits v 30 23, bits v 22 16, v % 65536⟩ else ⟨bit v 15, bits v 14 7, v % 128, 0⟩

/-- The bytes of an element. -/
def BElem.bytes (fp32 : Bool) (e : BElem) : List Byte :=
  if fp32 then beBytes 4 (b2n e.sign * 2 ^ 31 + e.exp * 2 ^ 23 + e.man * 65536 + e.low)
  else beBytes 2 (b2n e.sign * 2 ^ 15 + e.exp * 128 + e.man)

/-- Whether an element is ±0 (R291). -/
def BElem.isZero (e : BElem) : Bool := e.exp == 0 && e.man == 0 && e.low == 0

/-- The elements of a block. -/
def blockElems (fp32 : Bool) (data : List Byte) : List BElem :=
  let n := if fp32 then 4 else 2
  (List.range (4096 / n)).map fun i => belemOf fp32 (beAt data (n * i) n)

/-- An exponent symbol with the uncoded bits that follow it. -/
structure ExpSym where
  sym : Nat
  extra : Nat
  run : Nat
deriving DecidableEq, Repr

/-- The symbol of a run of zero elements (R291). -/
def runSym (n : Nat) : List ExpSym := if n = 0 then [] else [⟨256 + n.log2, n.log2, n - 2 ^ n.log2⟩]

/-- The exponent symbols of elements, each run of zeros as long as it can be (R291). -/
def expSyms (run : Nat) : List BElem → List ExpSym
  | [] => runSym run
  | e :: t => if e.isZero then expSyms (run + 1) t else runSym run ++ ⟨e.exp, 0, 0⟩ :: expSyms 0 t

/-- The code of a symbol. -/
def codeOf (code : List CodeSym) (s : Nat) : Option (List Bool) :=
  (code.find? fun c => c.sym == s).map fun c => natBits c.len c.code

/-- The bits of exponent symbols, none where a symbol has no code. -/
def codeExps (code : List CodeSym) : List ExpSym → Option (List Bool)
  | [] => some []
  | x :: t => match codeOf code x.sym, codeExps code t with
    | some a, some b => some (a ++ natBits x.extra x.run ++ b)
    | _, _ => none

/-- The bits of mantissa symbols. -/
def codeMans (code : List CodeSym) : List BElem → Option (List Bool)
  | [] => some []
  | e :: t => match codeOf code e.man, codeMans code t with
    | some a, some b => some (a ++ b)
    | _, _ => none

/-- The 64 bytes of a header (Table BC-2). -/
def blockHead (fp32 raw : Bool) (tepoch clen nz dcrc e m l : Nat) : List Byte :=
  beBytes 1 (16 + 4 * b2n fp32 + 2 * b2n raw) ++ [0#8] ++ beBytes 2 tepoch ++ beBytes 2 clen ++ beBytes 2 nz ++
    beBytes 4 dcrc ++ beBytes 2 e ++ beBytes 2 m ++ beBytes 2 l ++ List.replicate 46 0#8

/-- A raw block (R289). -/
def rawBlock (fp32 : Bool) (data : List Byte) : List Byte :=
  blockHead fp32 true 0 4160 0 (crc32c data) 0 0 0 ++ data

/-- A coded block, none where it must be stored raw (R290, R293). -/
def codeBlock (t : BTable) (data : List Byte) : Option (List Byte) :=
  let es := blockElems t.fp32 data
  let live := es.filter fun e => !e.isZero
  match codeExps (canonCode t.elens) (expSyms 0 es), codeMans (canonCode t.mlens) live with
  | some eb, some mb =>
    let e := bitsBytes 65536 eb
    let m := bitsBytes 65536 mb
    let l := if t.fp32 then live.flatMap fun x => beBytes 2 x.low else []
    let sign := bitsBytes 2048 (es.map fun x => x.sign)
    let clen := 64 + sign.length + e.length + m.length + l.length
    if 4032 < clen then none
    else some (blockHead t.fp32 false t.epoch clen live.length (crc32c data) e.length m.length l.length ++ sign ++ e ++
      m ++ l)
  | _, _ => none

/-! Decoding (R295, Table BC-4). -/

/-- A decoded block, or the cause of a shape fault. -/
inductive Decoded where
  | good (data : List Byte)
  | fault (cause : Nat)
deriving DecidableEq, Repr

/-- What a symbol read gives: a symbol and the bits after it, the end of the plane, or a code with no symbol. -/
inductive SymRead where
  | sym (s : Nat) (rest : List Bool)
  | ended
  | unknown
deriving DecidableEq, Repr

/-- One symbol read: lengths tried in order from `15 − n + 1`. -/
def readSym (code : List CodeSym) (bs : List Bool) : Nat → SymRead
  | 0 => .unknown
  | n + 1 =>
    let l := 15 - n
    if bs.length < l then .ended
    else match code.find? fun c => c.len == l && c.code == bitsNat (bs.take l) with
      | some c => .sym c.sym (bs.drop l)
      | none => readSym code bs n

/-- The exponent plane read until `left` elements are accounted for: for each element its exponent, or none in a zero
run; with the bits left, or the cause of a fault. -/
def readExps (code : List CodeSym) : Nat → Nat → List Bool → List (Option Nat) → Except Nat (List (Option Nat) × List Bool)
  | 0, _, _, _ => .error 1
  | fuel + 1, left, bs, acc =>
    if left = 0 then .ok (acc, bs)
    else match readSym code bs 15 with
      | .ended => .error 1
      | .unknown => .error 2
      | .sym s rest =>
        if s < 256 then readExps code fuel (left - 1) rest (acc ++ [some s])
        else
          let k := s - 256
          if rest.length < k then .error 1
          else
            let run := 2 ^ k + bitsNat (rest.take k)
            if left < run then .error 1
            else readExps code fuel (left - run) (rest.drop k) (acc ++ List.replicate run none)

/-- `n` mantissa symbols read. -/
def readMans (code : List CodeSym) : Nat → List Bool → List Nat → Except Nat (List Nat × List Bool)
  | 0, bs, acc => .ok (acc, bs)
  | n + 1, bs, acc => match readSym code bs 15 with
    | .sym s rest => readMans code n rest (acc ++ [s])
    | _ => .error 2

/-- Whether what is left of a plane is zero padding within its last byte (R290). -/
def paddingOk (bs : List Bool) : Bool := decide (bs.length < 8) && bs.all (!·)

/-- Elements put together from the planes. -/
def joinElems : List Bool → List (Option Nat) → List Nat → List Nat → List BElem
  | s :: ss, none :: es, ms, ls => ⟨s, 0, 0, 0⟩ :: joinElems ss es ms ls
  | s :: ss, some e :: es, m :: ms, l :: ls => ⟨s, e, m, l⟩ :: joinElems ss es ms ls
  | s :: ss, some e :: es, m :: ms, [] => ⟨s, e, m, 0⟩ :: joinElems ss es ms []
  | _, _, _, _ => []

/-- The planes of a coded block decoded. -/
def decodePlanes (t : BTable) (fp32 : Bool) (b : List Byte) : Decoded :=
  let n := if fp32 then 1024 else 2048
  let e := beAt b 12 2
  let m := beAt b 14 2
  let nz := beAt b 6 2
  let o := 64 + n / 8
  match readExps (canonCode t.elens) (n + 1) n (bytesBits (slice b o e)) [] with
  | .error c => .fault c
  | .ok (es, rest) =>
    let live := (es.filter Option.isSome).length
    if !paddingOk rest ∨ live ≠ nz then .fault 2
    else match readMans (canonCode t.mlens) live (bytesBits (slice b (o + e) m)) [] with
      | .error c => .fault c
      | .ok (ms, left) =>
        if !paddingOk left then .fault 2
        else
          let lows := if fp32 then (List.range nz).map fun i => beAt b (o + e + m + 2 * i) 2 else []
          let data := (joinElems (bytesBits (slice b 64 (n / 8))) es ms lows).flatMap (BElem.bytes fp32)
          if crc32c data = beAt b 8 4 then .good data else .fault 3

/-- A Bolter block decoded (R295). The bytes given end at CLEN or at what the wire or the map gives, if that is
shorter; `tables` are those of the valid slots. -/
def decodeBlock (tables : List BTable) (b : List Byte) : Decoded :=
  let v := beAt b 0 1
  let elem := bits v 3 2
  let clen := beAt b 4 2
  if b.length < 64 ∨ v / 16 ≠ 1 ∨ 1 < elem then .fault 2
  else if bit v 1 then
    if clen ≠ 4160 ∨ b.length < 4160 then .fault 2
    else if crc32c (slice b 64 4096) = beAt b 8 4 then .good (slice b 64 4096) else .fault 3
  else
    let n := if elem = 1 then 1024 else 2048
    let sum := 64 + n / 8 + beAt b 12 2 + beAt b 14 2 + beAt b 16 2
    if clen < 64 ∨ 4032 < clen ∨ clen ≠ sum ∨ b.length < clen ∨ beAt b 16 2 ≠ 2 * beAt b 6 2 * elem then .fault 2
    else match tables.find? fun t => t.epoch == beAt b 2 2 with
      | none => .fault 4
      | some t => decodePlanes t (elem == 1) b

end Sys2Proof.Machine
end

