-- ==== Sys2Proof/Machine/Table.lean ====
section
/-! DEFINITION. Sparse tables with one canonical form: entries by strictly rising key. A table with a default value
lists no entry equal to the default, so equal tables are equal lists. -/

namespace Sys2Proof.Machine

/-- A sparse table: entries by strictly rising key. -/
abbrev Tab (α : Type) := List (Nat × α)

/-- The value listed at a key. -/
def Tab.find {α : Type} : Tab α → Nat → Option α
  | [], _ => none
  | (k, v) :: t, n => if k = n then some v else Tab.find t n

/-- The table with a value listed at a key. -/
def Tab.insert {α : Type} : Tab α → Nat → α → Tab α
  | [], n, v => [(n, v)]
  | (k, w) :: t, n, v =>
    if n < k then (n, v) :: (k, w) :: t
    else if n = k then (n, v) :: t
    else (k, w) :: Tab.insert t n v

/-- The table with nothing listed at a key. -/
def Tab.erase {α : Type} : Tab α → Nat → Tab α
  | [], _ => []
  | (k, w) :: t, n => if k = n then Tab.erase t n else (k, w) :: Tab.erase t n

/-- What a key reads as in a table with a default. -/
def Tab.get {α : Type} (d : α) (t : Tab α) (n : Nat) : α := (Tab.find t n).getD d

/-- The table in which a key reads as a value. -/
def Tab.put {α : Type} [DecidableEq α] (d : α) (t : Tab α) (n : Nat) (v : α) : Tab α :=
  if v = d then Tab.erase t n else Tab.insert t n v

/-- A table with every listed value changed; what becomes the default is no longer listed. -/
def Tab.change {α : Type} [DecidableEq α] (d : α) (f : α → α) : Tab α → Tab α
  | [] => []
  | (k, v) :: t => if f v = d then Tab.change d f t else (k, f v) :: Tab.change d f t

/-- Every key of a table lies above `n`. -/
def Tab.above {α : Type} (n : Nat) : Tab α → Bool
  | [] => true
  | (k, _) :: _ => decide (n < k)

/-- The keys rise strictly. -/
def Tab.sorted {α : Type} : Tab α → Bool
  | [] => true
  | (k, _) :: t => Tab.above k t && Tab.sorted t

/-- Canonical form of a table with a default: rising keys, no entry equal to the default. -/
def Tab.wf {α : Type} [DecidableEq α] (d : α) (t : Tab α) : Bool :=
  Tab.sorted t && t.all (fun e => decide (e.2 ≠ d))

/-- A set of numbers as a table of marks. -/
abbrev Marks := Tab Unit

/-- Membership of a set of numbers. -/
def Marks.has (m : Marks) (n : Nat) : Bool := (Tab.find m n).isSome

/-- A set with a number put in. -/
def Marks.add (m : Marks) (n : Nat) : Marks := Tab.insert m n ()

/-- A set with a number taken out. -/
def Marks.del (m : Marks) (n : Nat) : Marks := Tab.erase m n

/-- A set with a number put in or taken out. -/
def Marks.to (m : Marks) (n : Nat) (b : Bool) : Marks := if b then m.add n else m.del n

end Sys2Proof.Machine
end

