-- ==== Sys2Proof/Machine/Registers.lean ====
section
/-! DEFINITION. The register fields of the BAR0 map: where each field stands and what it reads after power-on reset
(R10), written from the register tables of the spec's chapters. A field is found by its register's BAR0 address and
its lowest bit; a register that exists many times (R8) is reached by index and stride. -/

namespace Sys2Proof.Machine

/-- One field of a register: the BAR0 address of its register (index 0), its lowest bit, its width, its value after
power-on reset, the strides of up to three indices (R8), and the offset of the instance meant. -/
structure Fld where
  base : Nat
  lo : Nat
  width : Nat
  rst : Nat
  s1 : Nat
  s2 : Nat
  s3 : Nat
  off : Nat
deriving DecidableEq, Repr

/-- The field of the instance at the given indices (R8). -/
def Fld.ix (f : Fld) (i : Nat) (j : Nat := 0) (k : Nat := 0) : Fld :=
  { f with s1 := 0, s2 := 0, s3 := 0, off := f.off + i * f.s1 + j * f.s2 + k * f.s3 }

/-- The key of a field in the register file: the address of its register's first instance and its lowest bit, and above
them the offset of the instance, so that no index of one register reaches another. -/
def Fld.key (f : Fld) : Nat := f.base * 32 + f.lo + f.off * 2 ^ 30

/-- The block of BAR0 in which the first instance of a key's register stands (Table CTL-2). -/
def keyBlock (k : Nat) : Nat := k % 2 ^ 30 / 2 ^ 25

end Sys2Proof.Machine

namespace Sys2Proof.Machine.F


/-! Block GEN (15_control_persistence_security.md). -/

def GEN_ID_PART : Fld := ⟨0x00000000, 16, 16, 0xAB1, 0x0, 0x0, 0x0, 0⟩
def GEN_ID_STEPPING : Fld := ⟨0x00000000, 8, 8, 0xA1, 0x0, 0x0, 0x0, 0⟩
def GEN_ID_ES : Fld := ⟨0x00000000, 0, 1, 0x0, 0x0, 0x0, 0x0, 0⟩
def GEN_SERIAL_LO_SERIAL : Fld := ⟨0x00000004, 0, 32, 0x0, 0x0, 0x0, 0x0, 0⟩
def GEN_SERIAL_HI_SERIAL : Fld := ⟨0x00000008, 0, 32, 0x0, 0x0, 0x0, 0x0, 0⟩
def GEN_STATUS_MODE_KEY : Fld := ⟨0x00000010, 16, 16, 0x0, 0x0, 0x0, 0x0, 0⟩
def GEN_STATUS_MODE_MODE : Fld := ⟨0x00000010, 0, 1, 0x1, 0x0, 0x0, 0x0, 0⟩
def GEN_HEARTBEAT_TOUCH : Fld := ⟨0x00000014, 0, 1, 0x0, 0x0, 0x0, 0x0, 0⟩
def GEN_DIGEST_REF_CRC : Fld := ⟨0x00000020, 0, 32, 0x0, 0x0, 0x0, 0x0, 0⟩
def GEN_DIGEST_NOW_CRC : Fld := ⟨0x00000024, 0, 32, 0x0, 0x0, 0x0, 0x0, 0⟩
def GEN_DIGEST_STAT_STATE : Fld := ⟨0x00000028, 28, 4, 0x0, 0x0, 0x0, 0x0, 0⟩
def GEN_DIGEST_STAT_MISMATCHES : Fld := ⟨0x00000028, 0, 16, 0x0, 0x0, 0x0, 0x0, 0⟩
def GEN_EVT_SEQ : Fld := ⟨0x00000030, 24, 8, 0x0, 0x0, 0x0, 0x0, 0⟩
def GEN_EVT_POST_DROP : Fld := ⟨0x00000030, 2, 1, 0x0, 0x0, 0x0, 0x0, 0⟩
def GEN_EVT_TMR : Fld := ⟨0x00000030, 1, 1, 0x0, 0x0, 0x0, 0x0, 0⟩
def GEN_EVT_DIGEST : Fld := ⟨0x00000030, 0, 1, 0x0, 0x0, 0x0, 0x0, 0⟩
def GEN_CNT_TMR : Fld := ⟨0x00000034, 16, 16, 0x0, 0x0, 0x0, 0x0, 0⟩
def GEN_CNT_POST_DROP : Fld := ⟨0x00000034, 0, 16, 0x0, 0x0, 0x0, 0x0, 0⟩
def GEN_CNT_CLR_CLR : Fld := ⟨0x00000038, 0, 1, 0x0, 0x0, 0x0, 0x0, 0⟩
def GEN_IRQ_MAP_EN : Fld := ⟨0x00000100, 7, 1, 0x0, 0x4, 0x0, 0x0, 0⟩
def GEN_IRQ_MAP_VEC : Fld := ⟨0x00000100, 0, 6, 0x0, 0x4, 0x0, 0x0, 0⟩

/-! Block OTP (15_control_persistence_security.md). -/

def OTP_STAT_BUSY : Fld := ⟨0x00100000, 31, 1, 0x0, 0x0, 0x0, 0x0, 0⟩
def OTP_STAT_REASON : Fld := ⟨0x00100000, 24, 4, 0x0, 0x0, 0x0, 0x0, 0⟩
def OTP_STAT_GEN : Fld := ⟨0x00100000, 0, 16, 0x0, 0x0, 0x0, 0x0, 0⟩
def OTP_PEND_PEND : Fld := ⟨0x00100004, 0, 1, 0x0, 0x0, 0x0, 0x0, 0⟩
def OTP_KEY_STATE_STATE : Fld := ⟨0x00100008, 0, 8, 0x0, 0x0, 0x0, 0x0, 0⟩
def OTP_ARB_LEFT : Fld := ⟨0x0010000C, 0, 7, 0x0, 0x0, 0x0, 0x0, 0⟩
def OTP_KEY_CTL_REVOKE : Fld := ⟨0x00100010, 9, 1, 0x0, 0x0, 0x0, 0x0, 0⟩
def OTP_KEY_CTL_WRITE : Fld := ⟨0x00100010, 8, 1, 0x0, 0x0, 0x0, 0x0, 0⟩
def OTP_KEY_CTL_INDEX : Fld := ⟨0x00100010, 0, 2, 0x0, 0x0, 0x0, 0x0, 0⟩
def OTP_KEY_HASH_HASH : Fld := ⟨0x00100100, 0, 32, 0x0, 0x20, 0x4, 0x0, 0⟩
def OTP_KEY_DATA_DATA : Fld := ⟨0x00100180, 0, 32, 0x0, 0x4, 0x0, 0x0, 0⟩
def OTP_FUSE_FUSE : Fld := ⟨0x00100200, 0, 32, 0x0, 0x4, 0x0, 0x0, 0⟩

/-! Block IMG (05_structure_images_and_schedulers.md). -/

def IMG_STAT_STATE : Fld := ⟨0x00200000, 28, 4, 0x0, 0x0, 0x0, 0x0, 0⟩
def IMG_STAT_SLOT_OPEN : Fld := ⟨0x00200000, 24, 4, 0x0, 0x0, 0x0, 0x0, 0⟩
def IMG_STAT_REASON : Fld := ⟨0x00200000, 16, 8, 0x0, 0x0, 0x0, 0x0, 0⟩
def IMG_STAT_BOOT_BANK : Fld := ⟨0x00200000, 15, 1, 0x0, 0x0, 0x0, 0x0, 0⟩
def IMG_STAT_BOOT_FALLBACK : Fld := ⟨0x00200000, 14, 1, 0x0, 0x0, 0x0, 0x0, 0⟩
def IMG_PEND_PEND : Fld := ⟨0x00200004, 0, 1, 0x0, 0x0, 0x0, 0x0, 0⟩
def IMG_RUN_ID_LO_ID : Fld := ⟨0x00200008, 0, 32, 0x0, 0x0, 0x0, 0x0, 0⟩
def IMG_RUN_ID_HI_ID : Fld := ⟨0x0020000C, 0, 32, 0x0, 0x0, 0x0, 0x0, 0⟩
def IMG_RUN_ARB_ARB : Fld := ⟨0x00200010, 0, 32, 0x0, 0x0, 0x0, 0x0, 0⟩
def IMG_OTP_ARB_ARB : Fld := ⟨0x00200014, 0, 32, 0x0, 0x0, 0x0, 0x0, 0⟩
def IMG_HELD_ID_LO_ID : Fld := ⟨0x00200018, 0, 32, 0x0, 0x0, 0x0, 0x0, 0⟩
def IMG_HELD_ID_HI_ID : Fld := ⟨0x0020001C, 0, 32, 0x0, 0x0, 0x0, 0x0, 0⟩
def IMG_SLOT_OPEN_CLOSE : Fld := ⟨0x00200020, 4, 4, 0x0, 0x0, 0x0, 0x0, 0⟩
def IMG_SLOT_OPEN_OPEN : Fld := ⟨0x00200020, 0, 4, 0x0, 0x0, 0x0, 0x0, 0⟩
def IMG_SLOT_LEASE_MS : Fld := ⟨0x00200030, 0, 32, 0x0, 0x4, 0x0, 0x0, 0⟩
def IMG_LEASE_CFG_SEC : Fld := ⟨0x00200040, 0, 12, 0x1E, 0x0, 0x0, 0x0, 0⟩
def IMG_DMA_ADDR_LO_ADDR : Fld := ⟨0x00200050, 0, 32, 0x0, 0x0, 0x0, 0x0, 0⟩
def IMG_DMA_ADDR_HI_ADDR : Fld := ⟨0x00200054, 0, 32, 0x0, 0x0, 0x0, 0x0, 0⟩
def IMG_DMA_LEN_LEN : Fld := ⟨0x00200058, 0, 32, 0x0, 0x0, 0x0, 0x0, 0⟩
def IMG_DMA_CTL_SLOT : Fld := ⟨0x0020005C, 4, 2, 0x0, 0x0, 0x0, 0x0, 0⟩
def IMG_DMA_CTL_GO : Fld := ⟨0x0020005C, 0, 1, 0x0, 0x0, 0x0, 0x0, 0⟩
def IMG_DMA_STAT_BUSY : Fld := ⟨0x00200060, 31, 1, 0x0, 0x0, 0x0, 0x0, 0⟩
def IMG_DMA_STAT_ERR : Fld := ⟨0x00200060, 30, 1, 0x0, 0x0, 0x0, 0x0, 0⟩
def IMG_DMA_STAT_DONE : Fld := ⟨0x00200060, 0, 20, 0x0, 0x0, 0x0, 0x0, 0⟩
def IMG_LOAD_SLOT : Fld := ⟨0x00200070, 8, 2, 0x0, 0x0, 0x0, 0x0, 0⟩
def IMG_LOAD_APPLY_AT_EN : Fld := ⟨0x00200070, 2, 1, 0x0, 0x0, 0x0, 0x0, 0⟩
def IMG_LOAD_ABORT : Fld := ⟨0x00200070, 1, 1, 0x0, 0x0, 0x0, 0x0, 0⟩
def IMG_LOAD_LOAD : Fld := ⟨0x00200070, 0, 1, 0x0, 0x0, 0x0, 0x0, 0⟩
def IMG_ARB_COMMIT_COMMIT : Fld := ⟨0x00200074, 0, 1, 0x0, 0x0, 0x0, 0x0, 0⟩
def IMG_APPLY_AT_LO_EPOCH : Fld := ⟨0x00200078, 0, 32, 0x0, 0x0, 0x0, 0x0, 0⟩
def IMG_APPLY_AT_HI_EPOCH : Fld := ⟨0x0020007C, 0, 32, 0x0, 0x0, 0x0, 0x0, 0⟩
def IMG_EVT_SEQ : Fld := ⟨0x00200080, 24, 8, 0x0, 0x0, 0x0, 0x0, 0⟩
def IMG_EVT_BOOT_FALLBACK : Fld := ⟨0x00200080, 4, 1, 0x0, 0x0, 0x0, 0x0, 0⟩
def IMG_EVT_LEASE_EXPIRED : Fld := ⟨0x00200080, 3, 1, 0x0, 0x0, 0x0, 0x0, 0⟩
def IMG_EVT_HELD : Fld := ⟨0x00200080, 2, 1, 0x0, 0x0, 0x0, 0x0, 0⟩
def IMG_EVT_APPLIED : Fld := ⟨0x00200080, 1, 1, 0x0, 0x0, 0x0, 0x0, 0⟩
def IMG_EVT_REJECTED : Fld := ⟨0x00200080, 0, 1, 0x0, 0x0, 0x0, 0x0, 0⟩
def IMG_REJ_INFO_REASON : Fld := ⟨0x00200084, 24, 8, 0x0, 0x0, 0x0, 0x0, 0⟩
def IMG_REJ_INFO_SECTION : Fld := ⟨0x00200084, 14, 10, 0x0, 0x0, 0x0, 0x0, 0⟩
def IMG_RUN_DIGEST_D : Fld := ⟨0x00200100, 0, 32, 0x0, 0x4, 0x0, 0x0, 0⟩
def IMG_SHARD_DIGEST_D : Fld := ⟨0x00200140, 0, 32, 0x0, 0x4, 0x0, 0x0, 0⟩
def IMG_GEN_GEN : Fld := ⟨0x00200180, 0, 16, 0x0, 0x0, 0x0, 0x0, 0⟩

/-! Block SEQ (05_structure_images_and_schedulers.md). -/

def SEQ_STAT_ADMIT_HOLD : Fld := ⟨0x00300000, 31, 1, 0x0, 0x0, 0x0, 0x0, 0⟩
def SEQ_STAT_APPLY_WAIT : Fld := ⟨0x00300000, 30, 1, 0x0, 0x0, 0x0, 0x0, 0⟩
def SEQ_STAT_ITEMS_ACTIVE : Fld := ⟨0x00300000, 0, 16, 0x0, 0x0, 0x0, 0x0, 0⟩
def SEQ_PEND_PEND : Fld := ⟨0x00300004, 0, 1, 0x0, 0x0, 0x0, 0x0, 0⟩
def SEQ_CFG_AUTO_RESTART : Fld := ⟨0x00300008, 1, 1, 0x1, 0x0, 0x0, 0x0, 0⟩
def SEQ_CFG_DL_CANCEL : Fld := ⟨0x00300008, 0, 1, 0x0, 0x0, 0x0, 0x0, 0⟩
def SEQ_PHASE_DL_US : Fld := ⟨0x0030000C, 0, 24, 0x2710, 0x0, 0x0, 0x0, 0⟩
def SEQ_PHASE_MASK_LO_MASK : Fld := ⟨0x00300010, 0, 32, 0x0, 0x0, 0x0, 0x0, 0⟩
def SEQ_PHASE_MASK_HI_MASK : Fld := ⟨0x00300014, 0, 32, 0x0, 0x0, 0x0, 0x0, 0⟩
def SEQ_PHASE_REQ_GO : Fld := ⟨0x00300018, 8, 1, 0x0, 0x0, 0x0, 0x0, 0⟩
def SEQ_PHASE_REQ_PHASE : Fld := ⟨0x00300018, 0, 3, 0x0, 0x0, 0x0, 0x0, 0⟩
def SEQ_RUN_GO : Fld := ⟨0x0030001C, 8, 1, 0x0, 0x0, 0x0, 0x0, 0⟩
def SEQ_RUN_ENTRY : Fld := ⟨0x0030001C, 0, 8, 0x0, 0x0, 0x0, 0x0, 0⟩
def SEQ_RESTART_GO : Fld := ⟨0x00300020, 8, 1, 0x0, 0x0, 0x0, 0x0, 0⟩
def SEQ_RESTART_REGION : Fld := ⟨0x00300020, 0, 6, 0x0, 0x0, 0x0, 0x0, 0⟩
def SEQ_EVT_SEQ : Fld := ⟨0x00300030, 24, 8, 0x0, 0x0, 0x0, 0x0, 0⟩
def SEQ_EVT_RESTARTED : Fld := ⟨0x00300030, 3, 1, 0x0, 0x0, 0x0, 0x0, 0⟩
def SEQ_EVT_PHASE_REFUSED : Fld := ⟨0x00300030, 2, 1, 0x0, 0x0, 0x0, 0x0, 0⟩
def SEQ_EVT_DESC_BAD : Fld := ⟨0x00300030, 1, 1, 0x0, 0x0, 0x0, 0x0, 0⟩
def SEQ_EVT_DL_MISS : Fld := ⟨0x00300030, 0, 1, 0x0, 0x0, 0x0, 0x0, 0⟩
def SEQ_FE_DESC_DESC_ID : Fld := ⟨0x00300034, 0, 32, 0x0, 0x0, 0x0, 0x0, 0⟩
def SEQ_FE_INFO_SOURCE : Fld := ⟨0x00300038, 24, 8, 0x0, 0x0, 0x0, 0x0, 0⟩
def SEQ_FE_INFO_ITEM : Fld := ⟨0x00300038, 8, 16, 0x0, 0x0, 0x0, 0x0, 0⟩
def SEQ_FE_INFO_CHIP : Fld := ⟨0x00300038, 7, 1, 0x0, 0x0, 0x0, 0x0, 0⟩
def SEQ_FE_INFO_REGION : Fld := ⟨0x00300038, 0, 6, 0x0, 0x0, 0x0, 0x0, 0⟩
def SEQ_CNT_DL_MISS : Fld := ⟨0x0030003C, 16, 16, 0x0, 0x0, 0x0, 0x0, 0⟩
def SEQ_CNT_SKIPPED : Fld := ⟨0x0030003C, 0, 16, 0x0, 0x0, 0x0, 0x0, 0⟩
def SEQ_CNT_CLR_CLR : Fld := ⟨0x00300040, 0, 1, 0x0, 0x0, 0x0, 0x0, 0⟩
def SEQ_DONE_LO_COUNT : Fld := ⟨0x00300048, 0, 32, 0x0, 0x0, 0x0, 0x0, 0⟩
def SEQ_DONE_HI_COUNT : Fld := ⟨0x0030004C, 0, 32, 0x0, 0x0, 0x0, 0x0, 0⟩
def SEQ_REG_PHASE_PHASE : Fld := ⟨0x00301000, 28, 4, 0x0, 0x4, 0x0, 0x0, 0⟩
def SEQ_REG_PHASE_SWITCHING : Fld := ⟨0x00301000, 27, 1, 0x0, 0x4, 0x0, 0x0, 0⟩
def SEQ_REG_PHASE_TARGET : Fld := ⟨0x00301000, 24, 3, 0x0, 0x4, 0x0, 0x0, 0⟩
def SEQ_REG_PHASE_REFUSED : Fld := ⟨0x00301000, 23, 1, 0x0, 0x4, 0x0, 0x0, 0⟩
def SEQ_REG_PHASE_EXCLUDED : Fld := ⟨0x00301000, 22, 1, 0x0, 0x4, 0x0, 0x0, 0⟩
def SEQ_REG_PHASE_GEN : Fld := ⟨0x00301000, 0, 16, 0x0, 0x4, 0x0, 0x0, 0⟩
def SEQ_REG_QUEUE_TILE : Fld := ⟨0x00301100, 24, 8, 0x0, 0x4, 0x0, 0x0, 0⟩
def SEQ_REG_QUEUE_MOVE : Fld := ⟨0x00301100, 16, 8, 0x0, 0x4, 0x0, 0x0, 0⟩
def SEQ_REG_QUEUE_SPIN : Fld := ⟨0x00301100, 8, 8, 0x0, 0x4, 0x0, 0x0, 0⟩
def SEQ_REG_QUEUE_CTRL : Fld := ⟨0x00301100, 0, 8, 0x0, 0x4, 0x0, 0x0, 0⟩
def SEQ_GCTR_VALUE : Fld := ⟨0x00310000, 0, 32, 0x0, 0x4, 0x0, 0x0, 0⟩
def SEQ_GPOISON_POISON : Fld := ⟨0x00314000, 0, 32, 0x0, 0x4, 0x0, 0x0, 0⟩
def SEQ_SREG_VALUE : Fld := ⟨0x00315000, 0, 32, 0x0, 0x4, 0x0, 0x0, 0⟩

/-! Block QRN (03_quern_arrays.md). -/

def QRN_DIE_ID_REGIONS : Fld := ⟨0x00400000, 8, 8, 0x10, 0x100000, 0x0, 0x0, 0⟩
def QRN_DIE_ID_DIE : Fld := ⟨0x00400000, 0, 2, 0x0, 0x100000, 0x0, 0x0, 0⟩
def QRN_PEND_PEND : Fld := ⟨0x00400004, 0, 1, 0x0, 0x100000, 0x0, 0x0, 0⟩
def QRN_TEMPO_CFG_LOW_MTS : Fld := ⟨0x00400010, 0, 16, 0x320, 0x100000, 0x0, 0x0, 0⟩
def QRN_RETIRE_CFG_SPARE_CHECK : Fld := ⟨0x00400014, 8, 1, 0x1, 0x100000, 0x0, 0x0, 0⟩
def QRN_RETIRE_CFG_CE_LIMIT : Fld := ⟨0x00400014, 0, 8, 0x10, 0x100000, 0x0, 0x0, 0⟩
def QRN_SLOWEST_REGION : Fld := ⟨0x00400018, 16, 6, 0x0, 0x100000, 0x0, 0x0, 0⟩
def QRN_SLOWEST_RATE_MTS : Fld := ⟨0x00400018, 0, 16, 0x0, 0x100000, 0x0, 0x0, 0⟩
def QRN_REG_STAT_STATE : Fld := ⟨0x00410000, 28, 4, 0x0, 0x100000, 0x1000, 0x0, 0⟩
def QRN_REG_STAT_JOIN : Fld := ⟨0x00410000, 25, 3, 0x0, 0x100000, 0x1000, 0x0, 0⟩
def QRN_REG_STAT_FMT : Fld := ⟨0x00410000, 22, 3, 0x0, 0x100000, 0x1000, 0x0, 0⟩
def QRN_REG_STAT_SPARE_RES : Fld := ⟨0x00410000, 21, 1, 0x0, 0x100000, 0x1000, 0x0, 0⟩
def QRN_REG_STAT_SPARE_USED : Fld := ⟨0x00410000, 20, 1, 0x0, 0x100000, 0x1000, 0x0, 0⟩
def QRN_REG_STAT_WORKING : Fld := ⟨0x00410000, 15, 5, 0x10, 0x100000, 0x1000, 0x0, 0⟩
def QRN_TEMPO_RATE_SEQ : Fld := ⟨0x00410004, 24, 8, 0x0, 0x100000, 0x1000, 0x0, 0⟩
def QRN_TEMPO_RATE_BUSY : Fld := ⟨0x00410004, 16, 8, 0x0, 0x100000, 0x1000, 0x0, 0⟩
def QRN_TEMPO_RATE_RATE_MTS : Fld := ⟨0x00410004, 0, 16, 0x0, 0x100000, 0x1000, 0x0, 0⟩
def QRN_BLK_RETIRED_RETIRED : Fld := ⟨0x00410008, 0, 16, 0x0, 0x100000, 0x1000, 0x0, 0⟩
def QRN_BLK_RETIRE_RETIRE : Fld := ⟨0x0041000C, 0, 16, 0x0, 0x100000, 0x1000, 0x0, 0⟩
def QRN_BLK_RESTORE_RESTORE : Fld := ⟨0x00410010, 0, 16, 0x0, 0x100000, 0x1000, 0x0, 0⟩
def QRN_BLK_MAP_SPARE_VALID : Fld := ⟨0x00410014, 31, 1, 0x0, 0x100000, 0x1000, 0x0, 0⟩
def QRN_BLK_MAP_SPARE_PHYS : Fld := ⟨0x00410014, 24, 4, 0x0, 0x100000, 0x1000, 0x0, 0⟩
def QRN_BLK_MAP_REPL_VALID : Fld := ⟨0x00410014, 23, 1, 0x0, 0x100000, 0x1000, 0x0, 0⟩
def QRN_BLK_MAP_REPL_PHYS : Fld := ⟨0x00410014, 16, 4, 0x0, 0x100000, 0x1000, 0x0, 0⟩
def QRN_BLK_MAP_REPL_POS : Fld := ⟨0x00410014, 0, 4, 0x0, 0x100000, 0x1000, 0x0, 0⟩
def QRN_EVT_SEQ : Fld := ⟨0x00410018, 24, 8, 0x0, 0x100000, 0x1000, 0x0, 0⟩
def QRN_EVT_NO_BLOCKS : Fld := ⟨0x00410018, 5, 1, 0x0, 0x100000, 0x1000, 0x0, 0⟩
def QRN_EVT_STOPPED : Fld := ⟨0x00410018, 4, 1, 0x0, 0x100000, 0x1000, 0x0, 0⟩
def QRN_EVT_SPARE_GONE : Fld := ⟨0x00410018, 3, 1, 0x0, 0x100000, 0x1000, 0x0, 0⟩
def QRN_EVT_DEGRADED : Fld := ⟨0x00410018, 2, 1, 0x0, 0x100000, 0x1000, 0x0, 0⟩
def QRN_EVT_RETIRED : Fld := ⟨0x00410018, 1, 1, 0x0, 0x100000, 0x1000, 0x0, 0⟩
def QRN_EVT_LOW_RATE : Fld := ⟨0x00410018, 0, 1, 0x0, 0x100000, 0x1000, 0x0, 0⟩
def QRN_FE_LOC_LOC : Fld := ⟨0x0041001C, 0, 32, 0x0, 0x100000, 0x1000, 0x0, 0⟩
def QRN_FE_SRC_SOURCE : Fld := ⟨0x00410020, 24, 8, 0x0, 0x100000, 0x1000, 0x0, 0⟩
def QRN_FE_SRC_TILE : Fld := ⟨0x00410020, 0, 16, 0x0, 0x100000, 0x1000, 0x0, 0⟩
def QRN_CNT_A_RETRY : Fld := ⟨0x00410024, 16, 16, 0x0, 0x100000, 0x1000, 0x0, 0⟩
def QRN_CNT_A_SRAM_CE : Fld := ⟨0x00410024, 0, 16, 0x0, 0x100000, 0x1000, 0x0, 0⟩
def QRN_CNT_B_SRAM_UC : Fld := ⟨0x00410028, 16, 16, 0x0, 0x100000, 0x1000, 0x0, 0⟩
def QRN_CNT_B_FLIT : Fld := ⟨0x00410028, 0, 16, 0x0, 0x100000, 0x1000, 0x0, 0⟩
def QRN_CNT_C_NAN : Fld := ⟨0x0041002C, 16, 16, 0x0, 0x100000, 0x1000, 0x0, 0⟩
def QRN_CNT_C_INF : Fld := ⟨0x0041002C, 0, 16, 0x0, 0x100000, 0x1000, 0x0, 0⟩
def QRN_CNT_CLR_CLR : Fld := ⟨0x00410030, 0, 1, 0x0, 0x100000, 0x1000, 0x0, 0⟩
def QRN_TILES_LO_TILES : Fld := ⟨0x00410040, 0, 32, 0x0, 0x100000, 0x1000, 0x0, 0⟩
def QRN_TILES_HI_TILES : Fld := ⟨0x00410044, 0, 32, 0x0, 0x100000, 0x1000, 0x0, 0⟩
def QRN_FILL_LO_BYTES : Fld := ⟨0x00410048, 0, 32, 0x0, 0x100000, 0x1000, 0x0, 0⟩
def QRN_FILL_HI_BYTES : Fld := ⟨0x0041004C, 0, 32, 0x0, 0x100000, 0x1000, 0x0, 0⟩

/-! Block UPD (04_update_engine.md). -/

def UPD_STEP_STAT_STATE : Fld := ⟨0x00800000, 28, 4, 0x0, 0x0, 0x0, 0x0, 0⟩
def UPD_STEP_STAT_UNATTENDED : Fld := ⟨0x00800000, 27, 1, 0x0, 0x0, 0x0, 0x0, 0⟩
def UPD_STEP_STAT_PARTNER_WAIT : Fld := ⟨0x00800000, 26, 1, 0x0, 0x0, 0x0, 0x0, 0⟩
def UPD_STEP_STAT_HELD_TUNE : Fld := ⟨0x00800000, 25, 1, 0x0, 0x0, 0x0, 0x0, 0⟩
def UPD_STEP_STAT_APPLIED : Fld := ⟨0x00800000, 0, 21, 0x0, 0x0, 0x0, 0x0, 0⟩
def UPD_PEND_PEND : Fld := ⟨0x00800004, 0, 1, 0x0, 0x0, 0x0, 0x0, 0⟩
def UPD_OUTER_EPOCH_LO_EPOCH : Fld := ⟨0x00800008, 0, 32, 0x0, 0x0, 0x0, 0x0, 0⟩
def UPD_OUTER_EPOCH_HI_EPOCH : Fld := ⟨0x0080000C, 0, 32, 0x0, 0x0, 0x0, 0x0, 0⟩
def UPD_ANCHOR_MASK_MASK : Fld := ⟨0x00800010, 0, 8, 0x0, 0x0, 0x0, 0x0, 0⟩
def UPD_RULE_RULE : Fld := ⟨0x00800014, 28, 4, 0x0, 0x0, 0x0, 0x0, 0⟩
def UPD_RULE_LADDER_LEN : Fld := ⟨0x00800014, 24, 4, 0x0, 0x0, 0x0, 0x0, 0⟩
def UPD_RULE_SHAPE_RULE : Fld := ⟨0x00800014, 22, 2, 0x0, 0x0, 0x0, 0x0, 0⟩
def UPD_RULE_NESTEROV_DIR : Fld := ⟨0x00800014, 21, 1, 0x0, 0x0, 0x0, 0x0, 0⟩
def UPD_RULE_GATHER_FP32 : Fld := ⟨0x00800014, 20, 1, 0x0, 0x0, 0x0, 0x0, 0⟩
def UPD_RULE_NONFINITE_ACT : Fld := ⟨0x00800014, 19, 1, 0x0, 0x0, 0x0, 0x0, 0⟩
def UPD_RULE_MOM_MERGE : Fld := ⟨0x00800014, 18, 1, 0x0, 0x0, 0x0, 0x0, 0⟩
def UPD_RULE_REPLICAS : Fld := ⟨0x00800014, 0, 16, 0x0, 0x0, 0x0, 0x0, 0⟩
def UPD_OWNED_MATRICES : Fld := ⟨0x00800018, 0, 21, 0x0, 0x0, 0x0, 0x0, 0⟩
def UPD_OWNED_VEC_VECTORS : Fld := ⟨0x0080001C, 0, 21, 0x0, 0x0, 0x0, 0x0, 0⟩
def UPD_ETA_VALUE : Fld := ⟨0x00800020, 0, 32, 0x0, 0x0, 0x0, 0x0, 0⟩
def UPD_ETA_VEC_VALUE : Fld := ⟨0x00800024, 0, 32, 0x0, 0x0, 0x0, 0x0, 0⟩
def UPD_MU_VALUE : Fld := ⟨0x00800028, 0, 32, 0x0, 0x0, 0x0, 0x0, 0⟩
def UPD_WD_VALUE : Fld := ⟨0x0080002C, 0, 32, 0x0, 0x0, 0x0, 0x0, 0⟩
def UPD_EPS_VALUE : Fld := ⟨0x00800030, 0, 32, 0x0, 0x0, 0x0, 0x0, 0⟩
def UPD_SHAPE_K_VALUE : Fld := ⟨0x00800034, 0, 32, 0x0, 0x0, 0x0, 0x0, 0⟩
def UPD_LADDER_FMT_VALUE : Fld := ⟨0x00800040, 0, 32, 0x0, 0x10, 0x0, 0x0, 0⟩
def UPD_LADDER_A_VALUE : Fld := ⟨0x00800044, 0, 32, 0x0, 0x10, 0x0, 0x0, 0⟩
def UPD_LADDER_B_VALUE : Fld := ⟨0x00800048, 0, 32, 0x0, 0x10, 0x0, 0x0, 0⟩
def UPD_LADDER_C_VALUE : Fld := ⟨0x0080004C, 0, 32, 0x0, 0x10, 0x0, 0x0, 0⟩
def UPD_ORTH_POS_MATRIX : Fld := ⟨0x00800100, 11, 21, 0x1FFFFF, 0x0, 0x0, 0x0, 0⟩
def UPD_ORTH_POS_ITER : Fld := ⟨0x00800100, 7, 4, 0x0, 0x0, 0x0, 0x0, 0⟩
def UPD_ORTH_POS_PRODUCT : Fld := ⟨0x00800100, 5, 2, 0x0, 0x0, 0x0, 0x0, 0⟩
def UPD_ORTH_POS_STAGE : Fld := ⟨0x00800100, 3, 2, 0x0, 0x0, 0x0, 0x0, 0⟩
def UPD_ORTH_TIME_US : Fld := ⟨0x00800104, 0, 32, 0x0, 0x0, 0x0, 0x0, 0⟩
def UPD_ORTH_NORM_NORM : Fld := ⟨0x00800108, 0, 32, 0x0, 0x0, 0x0, 0x0, 0⟩
def UPD_EVT_SEQ : Fld := ⟨0x00800110, 24, 8, 0x0, 0x0, 0x0, 0x0, 0⟩
def UPD_EVT_MAT_FAIL : Fld := ⟨0x00800110, 3, 1, 0x0, 0x0, 0x0, 0x0, 0⟩
def UPD_EVT_NONFINITE : Fld := ⟨0x00800110, 2, 1, 0x0, 0x0, 0x0, 0x0, 0⟩
def UPD_EVT_PARTNER_WAIT : Fld := ⟨0x00800110, 1, 1, 0x0, 0x0, 0x0, 0x0, 0⟩
def UPD_EVT_SPN_FAIL : Fld := ⟨0x00800110, 0, 1, 0x0, 0x0, 0x0, 0x0, 0⟩
def UPD_FE_SOURCE : Fld := ⟨0x00800114, 8, 8, 0x0, 0x0, 0x0, 0x0, 0⟩
def UPD_FE_ITER : Fld := ⟨0x00800114, 4, 4, 0x0, 0x0, 0x0, 0x0, 0⟩
def UPD_FE_PRODUCT : Fld := ⟨0x00800114, 2, 2, 0x0, 0x0, 0x0, 0x0, 0⟩
def UPD_CNT_NONFINITE : Fld := ⟨0x00800118, 16, 16, 0x0, 0x0, 0x0, 0x0, 0⟩
def UPD_CNT_FAILED : Fld := ⟨0x00800118, 0, 16, 0x0, 0x0, 0x0, 0x0, 0⟩
def UPD_CNT_CLR_CLR : Fld := ⟨0x0080011C, 0, 1, 0x0, 0x0, 0x0, 0x0, 0⟩
def UPD_FE_MATRIX_MATRIX : Fld := ⟨0x00800120, 0, 21, 0x0, 0x0, 0x0, 0x0, 0⟩
def UPD_MERGE_W_W : Fld := ⟨0x00800140, 0, 32, 0x0, 0x4, 0x0, 0x0, 0⟩

/-! Block MEM (06_memory_tiers_and_hopper.md). -/

def MEM_STAT_SCRUB_BUSY : Fld := ⟨0x00900000, 31, 1, 0x0, 0x0, 0x0, 0x0, 0⟩
def MEM_STAT_HOT : Fld := ⟨0x00900000, 30, 1, 0x0, 0x0, 0x0, 0x0, 0⟩
def MEM_STAT_STACK_OK : Fld := ⟨0x00900000, 0, 12, 0x0, 0x0, 0x0, 0x0, 0⟩
def MEM_PEND_PEND : Fld := ⟨0x00900004, 0, 1, 0x0, 0x0, 0x0, 0x0, 0⟩
def MEM_SCRUB_CFG_HOURS : Fld := ⟨0x00900008, 0, 8, 0x18, 0x0, 0x0, 0x0, 0⟩
def MEM_EVT_SEQ : Fld := ⟨0x00900010, 24, 8, 0x0, 0x0, 0x0, 0x0, 0⟩
def MEM_EVT_ADDR_BAD : Fld := ⟨0x00900010, 2, 1, 0x0, 0x0, 0x0, 0x0, 0⟩
def MEM_EVT_SCRUB_UC : Fld := ⟨0x00900010, 1, 1, 0x0, 0x0, 0x0, 0x0, 0⟩
def MEM_EVT_POISONED : Fld := ⟨0x00900010, 0, 1, 0x0, 0x0, 0x0, 0x0, 0⟩
def MEM_FE_ADDR_LO_ADDR : Fld := ⟨0x00900018, 0, 32, 0x0, 0x0, 0x0, 0x0, 0⟩
def MEM_FE_ADDR_HI_ADDR : Fld := ⟨0x0090001C, 0, 32, 0x0, 0x0, 0x0, 0x0, 0⟩
def MEM_FE_INFO_SOURCE : Fld := ⟨0x00900020, 24, 8, 0x0, 0x0, 0x0, 0x0, 0⟩
def MEM_FE_INFO_UNIT : Fld := ⟨0x00900020, 16, 8, 0x0, 0x0, 0x0, 0x0, 0⟩
def MEM_STACK_CNT_UC : Fld := ⟨0x00900100, 16, 16, 0x0, 0x4, 0x0, 0x0, 0⟩
def MEM_STACK_CNT_CE : Fld := ⟨0x00900100, 0, 16, 0x0, 0x4, 0x0, 0x0, 0⟩
def MEM_BSRAM_CNT_UC : Fld := ⟨0x00900140, 16, 16, 0x0, 0x4, 0x0, 0x0, 0⟩
def MEM_BSRAM_CNT_CE : Fld := ⟨0x00900140, 0, 16, 0x0, 0x4, 0x0, 0x0, 0⟩
def MEM_HSRAM_CNT_UC : Fld := ⟨0x00900150, 16, 16, 0x0, 0x4, 0x0, 0x0, 0⟩
def MEM_HSRAM_CNT_CE : Fld := ⟨0x00900150, 0, 16, 0x0, 0x4, 0x0, 0x0, 0⟩
def MEM_CNT_CLR_CLR : Fld := ⟨0x00900160, 0, 1, 0x0, 0x0, 0x0, 0x0, 0⟩

/-! Block PND (06_memory_tiers_and_hopper.md). -/

def PND_STAT_LOST : Fld := ⟨0x00A00000, 16, 4, 0x0, 0x0, 0x0, 0x0, 0⟩
def PND_STAT_ACTIVE : Fld := ⟨0x00A00000, 8, 4, 0x0, 0x0, 0x0, 0x0, 0⟩
def PND_STAT_MASK : Fld := ⟨0x00A00000, 0, 4, 0x0, 0x0, 0x0, 0x0, 0⟩
def PND_PEND_PEND : Fld := ⟨0x00A00004, 0, 1, 0x0, 0x0, 0x0, 0x0, 0⟩
def PND_CFG_AUTO_RETRAIN : Fld := ⟨0x00A00008, 31, 1, 0x1, 0x0, 0x0, 0x0, 0⟩
def PND_CFG_CLR_STAGE : Fld := ⟨0x00A00008, 30, 1, 0x0, 0x0, 0x0, 0x0, 0⟩
def PND_CFG_REQ_TO_US : Fld := ⟨0x00A00008, 0, 16, 0xC8, 0x0, 0x0, 0x0, 0⟩
def PND_EVT_SEQ : Fld := ⟨0x00A00010, 24, 8, 0x0, 0x0, 0x0, 0x0, 0⟩
def PND_EVT_LOST : Fld := ⟨0x00A00010, 3, 1, 0x0, 0x0, 0x0, 0x0, 0⟩
def PND_EVT_DOWN : Fld := ⟨0x00A00010, 2, 1, 0x0, 0x0, 0x0, 0x0, 0⟩
def PND_EVT_IDENT_BAD : Fld := ⟨0x00A00010, 1, 1, 0x0, 0x0, 0x0, 0x0, 0⟩
def PND_EVT_TIMEOUT : Fld := ⟨0x00A00010, 0, 1, 0x0, 0x0, 0x0, 0x0, 0⟩
def PND_LINK_STAT_STATE : Fld := ⟨0x00A01000, 28, 4, 0x0, 0x100, 0x0, 0x0, 0⟩
def PND_LINK_STAT_REASON : Fld := ⟨0x00A01000, 24, 4, 0x0, 0x100, 0x0, 0x0, 0⟩
def PND_LINK_STAT_BOOT_CHANGED : Fld := ⟨0x00A01000, 23, 1, 0x0, 0x100, 0x0, 0x0, 0⟩
def PND_LINK_CTL_DOWN : Fld := ⟨0x00A01004, 1, 1, 0x0, 0x100, 0x0, 0x0, 0⟩
def PND_LINK_CTL_RETRAIN : Fld := ⟨0x00A01004, 0, 1, 0x0, 0x100, 0x0, 0x0, 0⟩
def PND_MOD_ID_PART : Fld := ⟨0x00A01008, 16, 16, 0x0, 0x100, 0x0, 0x0, 0⟩
def PND_MOD_ID_CAP_GIB : Fld := ⟨0x00A01008, 0, 16, 0x0, 0x100, 0x0, 0x0, 0⟩
def PND_MOD_BOOT_BOOT_ID : Fld := ⟨0x00A0100C, 0, 32, 0x0, 0x100, 0x0, 0x0, 0⟩
def PND_CRED_HDR : Fld := ⟨0x00A01010, 16, 16, 0x0, 0x100, 0x0, 0x0, 0⟩
def PND_CRED_DATA : Fld := ⟨0x00A01010, 0, 16, 0x0, 0x100, 0x0, 0x0, 0⟩
def PND_CNT_A_REPLAY : Fld := ⟨0x00A01014, 16, 16, 0x0, 0x100, 0x0, 0x0, 0⟩
def PND_CNT_A_TIMEOUT : Fld := ⟨0x00A01014, 0, 16, 0x0, 0x100, 0x0, 0x0, 0⟩
def PND_CNT_B_STATUS : Fld := ⟨0x00A01018, 16, 16, 0x0, 0x100, 0x0, 0x0, 0⟩
def PND_CNT_B_DOWN : Fld := ⟨0x00A01018, 0, 16, 0x0, 0x100, 0x0, 0x0, 0⟩
def PND_RD_LO_BYTES : Fld := ⟨0x00A01020, 0, 32, 0x0, 0x100, 0x0, 0x0, 0⟩
def PND_RD_HI_BYTES : Fld := ⟨0x00A01024, 0, 32, 0x0, 0x100, 0x0, 0x0, 0⟩
def PND_WR_LO_BYTES : Fld := ⟨0x00A01028, 0, 32, 0x0, 0x100, 0x0, 0x0, 0⟩
def PND_WR_HI_BYTES : Fld := ⟨0x00A0102C, 0, 32, 0x0, 0x100, 0x0, 0x0, 0⟩
def PND_CNT_CLR_CLR : Fld := ⟨0x00A01030, 0, 1, 0x0, 0x100, 0x0, 0x0, 0⟩

/-! Block HOP (06_memory_tiers_and_hopper.md). -/

def HOP_STAT_BROKEN_ANY : Fld := ⟨0x00B00000, 24, 1, 0x0, 0x0, 0x0, 0x0, 0⟩
def HOP_STAT_LEVELS : Fld := ⟨0x00B00000, 0, 24, 0x0, 0x0, 0x0, 0x0, 0⟩
def HOP_PEND_PEND : Fld := ⟨0x00B00004, 0, 1, 0x0, 0x0, 0x0, 0x0, 0⟩
def HOP_EVT_SEQ : Fld := ⟨0x00B00010, 24, 8, 0x0, 0x0, 0x0, 0x0, 0⟩
def HOP_EVT_BROKEN : Fld := ⟨0x00B00010, 2, 1, 0x0, 0x0, 0x0, 0x0, 0⟩
def HOP_EVT_BLACK : Fld := ⟨0x00B00010, 1, 1, 0x0, 0x0, 0x0, 0x0, 0⟩
def HOP_EVT_RED : Fld := ⟨0x00B00010, 0, 1, 0x0, 0x0, 0x0, 0x0, 0⟩
def HOP_POOL_CFG_LOC : Fld := ⟨0x00B01000, 31, 1, 0x0, 0x100, 0x0, 0x0, 0⟩
def HOP_POOL_CFG_AMBER : Fld := ⟨0x00B01000, 16, 8, 0x0, 0x100, 0x0, 0x0, 0⟩
def HOP_POOL_CFG_RED : Fld := ⟨0x00B01000, 8, 8, 0x0, 0x100, 0x0, 0x0, 0⟩
def HOP_POOL_CFG_BLACK : Fld := ⟨0x00B01000, 0, 8, 0x0, 0x100, 0x0, 0x0, 0⟩
def HOP_POOL_TOTAL_COUNT : Fld := ⟨0x00B01004, 0, 21, 0x0, 0x100, 0x0, 0x0, 0⟩
def HOP_POOL_SHARED_SHARED : Fld := ⟨0x00B01008, 0, 21, 0x0, 0x100, 0x0, 0x0, 0⟩
def HOP_POOL_ALLOC_ALLOC : Fld := ⟨0x00B0100C, 0, 32, 0x0, 0x100, 0x0, 0x0, 0⟩
def HOP_POOL_FREE_FREE_LEN : Fld := ⟨0x00B01010, 0, 32, 0x0, 0x100, 0x0, 0x0, 0⟩
def HOP_POOL_STAT_LEVEL : Fld := ⟨0x00B01014, 30, 2, 0x0, 0x100, 0x0, 0x0, 0⟩
def HOP_POOL_STAT_BROKEN : Fld := ⟨0x00B01014, 29, 1, 0x0, 0x100, 0x0, 0x0, 0⟩
def HOP_POOL_STAT_AUDIT_BUSY : Fld := ⟨0x00B01014, 28, 1, 0x0, 0x100, 0x0, 0x0, 0⟩
def HOP_POOL_STAT_WAITING : Fld := ⟨0x00B01014, 0, 9, 0x0, 0x100, 0x0, 0x0, 0⟩
def HOP_AUDIT_REBUILD : Fld := ⟨0x00B01018, 1, 1, 0x0, 0x100, 0x0, 0x0, 0⟩
def HOP_AUDIT_GO : Fld := ⟨0x00B01018, 0, 1, 0x0, 0x100, 0x0, 0x0, 0⟩
def HOP_AUDIT_WALK_COUNT : Fld := ⟨0x00B0101C, 0, 32, 0x0, 0x100, 0x0, 0x0, 0⟩
def HOP_AUDIT_OUT_COUNT : Fld := ⟨0x00B01020, 0, 32, 0x0, 0x100, 0x0, 0x0, 0⟩
def HOP_CNT_WAITED : Fld := ⟨0x00B01024, 16, 16, 0x0, 0x100, 0x0, 0x0, 0⟩
def HOP_CNT_REFUSED : Fld := ⟨0x00B01024, 0, 16, 0x0, 0x100, 0x0, 0x0, 0⟩
def HOP_CNT_CLR_CLR : Fld := ⟨0x00B01028, 0, 1, 0x0, 0x100, 0x0, 0x0, 0⟩
def HOP_HELD_HELD : Fld := ⟨0x00B01040, 0, 32, 0x0, 0x100, 0x4, 0x0, 0⟩
def HOP_MIN_MIN : Fld := ⟨0x00B01080, 0, 21, 0x0, 0x100, 0x4, 0x0, 0⟩

/-! Block FAB (07_fabric_routing_and_weir.md). -/

def FAB_STAT_FAILED : Fld := ⟨0x00C00000, 16, 16, 0x0, 0x0, 0x0, 0x0, 0⟩
def FAB_STAT_ACTIVE : Fld := ⟨0x00C00000, 0, 16, 0x0, 0x0, 0x0, 0x0, 0⟩
def FAB_PEND_PEND : Fld := ⟨0x00C00004, 0, 1, 0x0, 0x0, 0x0, 0x0, 0⟩
def FAB_CFG_DISC_LIMIT : Fld := ⟨0x00C00008, 16, 8, 0x10, 0x0, 0x0, 0x0, 0⟩
def FAB_CFG_RETRIES : Fld := ⟨0x00C00008, 8, 4, 0x3, 0x0, 0x0, 0x0, 0⟩
def FAB_CFG_AUTO_RETRAIN : Fld := ⟨0x00C00008, 0, 1, 0x1, 0x0, 0x0, 0x0, 0⟩
def FAB_TIMERS_OP_TO_MS : Fld := ⟨0x00C0000C, 16, 16, 0xA, 0x0, 0x0, 0x0, 0⟩
def FAB_TIMERS_HOP_LIFE_US : Fld := ⟨0x00C0000C, 0, 16, 0x64, 0x0, 0x0, 0x0, 0⟩
def FAB_ARB_RSP : Fld := ⟨0x00C00010, 24, 8, 0x4, 0x0, 0x0, 0x0, 0⟩
def FAB_ARB_COL : Fld := ⟨0x00C00010, 16, 8, 0x8, 0x0, 0x0, 0x0, 0⟩
def FAB_ARB_FWD : Fld := ⟨0x00C00010, 8, 8, 0x3, 0x0, 0x0, 0x0, 0⟩
def FAB_ARB_REQ : Fld := ⟨0x00C00010, 0, 8, 0x1, 0x0, 0x0, 0x0, 0⟩
def FAB_POS_DXM1 : Fld := ⟨0x00C00014, 25, 5, 0x0, 0x0, 0x0, 0x0, 0⟩
def FAB_POS_DYM1 : Fld := ⟨0x00C00014, 20, 5, 0x0, 0x0, 0x0, 0x0, 0⟩
def FAB_POS_DZM1 : Fld := ⟨0x00C00014, 15, 5, 0x0, 0x0, 0x0, 0x0, 0⟩
def FAB_POS_X : Fld := ⟨0x00C00014, 10, 5, 0x0, 0x0, 0x0, 0x0, 0⟩
def FAB_POS_Y : Fld := ⟨0x00C00014, 5, 5, 0x0, 0x0, 0x0, 0x0, 0⟩
def FAB_POS_Z : Fld := ⟨0x00C00014, 0, 5, 0x0, 0x0, 0x0, 0x0, 0⟩
def FAB_ENDPOINT_ID : Fld := ⟨0x00C00018, 0, 20, 0x0, 0x0, 0x0, 0x0, 0⟩
def FAB_EVT_SEQ : Fld := ⟨0x00C00020, 24, 8, 0x0, 0x0, 0x0, 0x0, 0⟩
def FAB_EVT_OP_FAIL : Fld := ⟨0x00C00020, 3, 1, 0x0, 0x0, 0x0, 0x0, 0⟩
def FAB_EVT_DISC_RATE : Fld := ⟨0x00C00020, 2, 1, 0x0, 0x0, 0x0, 0x0, 0⟩
def FAB_EVT_IDENT_BAD : Fld := ⟨0x00C00020, 1, 1, 0x0, 0x0, 0x0, 0x0, 0⟩
def FAB_EVT_PORT_DOWN : Fld := ⟨0x00C00020, 0, 1, 0x0, 0x0, 0x0, 0x0, 0⟩
def FAB_FE_INFO_SOURCE : Fld := ⟨0x00C00024, 24, 8, 0x0, 0x0, 0x0, 0x0, 0⟩
def FAB_FE_INFO_PORT : Fld := ⟨0x00C00024, 20, 4, 0x0, 0x0, 0x0, 0x0, 0⟩
def FAB_FE_INFO_PEER : Fld := ⟨0x00C00024, 0, 20, 0x0, 0x0, 0x0, 0x0, 0⟩
def FAB_FE_OPID_OP_ID : Fld := ⟨0x00C00028, 0, 32, 0x0, 0x0, 0x0, 0x0, 0⟩
def FAB_FE_HDR_HDR : Fld := ⟨0x00C00030, 0, 32, 0x0, 0x4, 0x0, 0x0, 0⟩
def FAB_EP_CNT_A_REISSUE : Fld := ⟨0x00C00050, 16, 16, 0x0, 0x0, 0x0, 0x0, 0⟩
def FAB_EP_CNT_A_OP_FAIL : Fld := ⟨0x00C00050, 0, 16, 0x0, 0x0, 0x0, 0x0, 0⟩
def FAB_EP_CNT_B_CTX_EXPIRED : Fld := ⟨0x00C00054, 16, 16, 0x0, 0x0, 0x0, 0x0, 0⟩
def FAB_EP_CNT_B_STALE : Fld := ⟨0x00C00054, 0, 16, 0x0, 0x0, 0x0, 0x0, 0⟩
def FAB_CTX_H1 : Fld := ⟨0x00C00058, 16, 13, 0x0, 0x0, 0x0, 0x0, 0⟩
def FAB_CTX_H0 : Fld := ⟨0x00C00058, 0, 13, 0x0, 0x0, 0x0, 0x0, 0⟩
def FAB_CNT_CLR_CLR : Fld := ⟨0x00C0005C, 0, 1, 0x0, 0x0, 0x0, 0x0, 0⟩
def FAB_PORT_STAT_STATE : Fld := ⟨0x00C01000, 28, 4, 0x0, 0x100, 0x0, 0x0, 0⟩
def FAB_PORT_STAT_REASON : Fld := ⟨0x00C01000, 24, 4, 0x0, 0x100, 0x0, 0x0, 0⟩
def FAB_PORT_STAT_ROLE : Fld := ⟨0x00C01000, 22, 2, 0x0, 0x100, 0x0, 0x0, 0⟩
def FAB_PORT_STAT_DIR : Fld := ⟨0x00C01000, 19, 3, 0x0, 0x100, 0x0, 0x0, 0⟩
def FAB_PORT_STAT_DATELINE : Fld := ⟨0x00C01000, 18, 1, 0x0, 0x100, 0x0, 0x0, 0⟩
def FAB_PORT_CTL_DOWN : Fld := ⟨0x00C01004, 1, 1, 0x0, 0x100, 0x0, 0x0, 0⟩
def FAB_PORT_CTL_RETRAIN : Fld := ⟨0x00C01004, 0, 1, 0x0, 0x100, 0x0, 0x0, 0⟩
def FAB_PORT_PEER_VALID : Fld := ⟨0x00C01008, 31, 1, 0x0, 0x100, 0x0, 0x0, 0⟩
def FAB_PORT_PEER_ID : Fld := ⟨0x00C01008, 0, 20, 0x0, 0x100, 0x0, 0x0, 0⟩
def FAB_CRED_TX : Fld := ⟨0x00C01010, 16, 16, 0x0, 0x100, 0x4, 0x0, 0⟩
def FAB_CRED_RX_CFG : Fld := ⟨0x00C01010, 0, 16, 0x0, 0x100, 0x4, 0x0, 0⟩
def FAB_CNT_A_PCRC : Fld := ⟨0x00C01040, 16, 16, 0x0, 0x100, 0x0, 0x0, 0⟩
def FAB_CNT_A_NO_ROUTE : Fld := ⟨0x00C01040, 0, 16, 0x0, 0x100, 0x0, 0x0, 0⟩
def FAB_CNT_B_FENCED : Fld := ⟨0x00C01044, 16, 16, 0x0, 0x100, 0x0, 0x0, 0⟩
def FAB_CNT_B_EXPIRED : Fld := ⟨0x00C01044, 0, 16, 0x0, 0x100, 0x0, 0x0, 0⟩
def FAB_CNT_C_MCAST_IN : Fld := ⟨0x00C01048, 16, 16, 0x0, 0x100, 0x0, 0x0, 0⟩
def FAB_CNT_C_DOWN : Fld := ⟨0x00C01048, 0, 16, 0x0, 0x100, 0x0, 0x0, 0⟩
def FAB_TX_LO_BYTES : Fld := ⟨0x00C01050, 0, 32, 0x0, 0x100, 0x0, 0x0, 0⟩
def FAB_TX_HI_BYTES : Fld := ⟨0x00C01054, 0, 32, 0x0, 0x100, 0x0, 0x0, 0⟩
def FAB_RX_LO_BYTES : Fld := ⟨0x00C01058, 0, 32, 0x0, 0x100, 0x0, 0x0, 0⟩
def FAB_RX_HI_BYTES : Fld := ⟨0x00C0105C, 0, 32, 0x0, 0x100, 0x0, 0x0, 0⟩
def FAB_PORT_CNT_CLR_CLR : Fld := ⟨0x00C01060, 0, 1, 0x0, 0x100, 0x0, 0x0, 0⟩

/-! Block RTE (07_fabric_routing_and_weir.md). -/

def RTE_SEL_SEL : Fld := ⟨0x00D00000, 0, 1, 0x0, 0x0, 0x0, 0x0, 0⟩
def RTE_PEND_PEND : Fld := ⟨0x00D00004, 0, 1, 0x0, 0x0, 0x0, 0x0, 0⟩
def RTE_VALID_VALID_B : Fld := ⟨0x00D00008, 1, 1, 0x0, 0x0, 0x0, 0x0, 0⟩
def RTE_VALID_VALID_A : Fld := ⟨0x00D00008, 0, 1, 0x0, 0x0, 0x0, 0x0, 0⟩
def RTE_IN_USE_B : Fld := ⟨0x00D0000C, 16, 16, 0x0, 0x0, 0x0, 0x0, 0⟩
def RTE_IN_USE_A : Fld := ⟨0x00D0000C, 0, 16, 0x0, 0x0, 0x0, 0x0, 0⟩
def RTE_WIN_CTL_VERSION : Fld := ⟨0x00D00010, 8, 1, 0x0, 0x0, 0x0, 0x0, 0⟩
def RTE_WIN_CTL_PAGE : Fld := ⟨0x00D00010, 0, 4, 0x0, 0x0, 0x0, 0x0, 0⟩
def RTE_EVT_SEQ : Fld := ⟨0x00D00014, 24, 8, 0x0, 0x0, 0x0, 0x0, 0⟩
def RTE_EVT_WIN_REFUSED : Fld := ⟨0x00D00014, 0, 1, 0x0, 0x0, 0x0, 0x0, 0⟩
def RTE_UC_ENTRY : Fld := ⟨0x00D40000, 0, 32, 0x0, 0x4, 0x0, 0x0, 0⟩
def RTE_MC_ENTRY : Fld := ⟨0x00D80000, 0, 32, 0x0, 0x4, 0x0, 0x0, 0⟩

/-! Block COL (08_collectives.md). -/

def COL_STAT_GRANT_HOLD : Fld := ⟨0x00E00000, 31, 1, 0x0, 0x0, 0x0, 0x0, 0⟩
def COL_STAT_FLIP_ARMED : Fld := ⟨0x00E00000, 30, 1, 0x0, 0x0, 0x0, 0x0, 0⟩
def COL_PEND_PEND : Fld := ⟨0x00E00004, 0, 1, 0x0, 0x0, 0x0, 0x0, 0⟩
def COL_CFG_LATE_EN : Fld := ⟨0x00E00008, 8, 1, 0x1, 0x0, 0x0, 0x0, 0⟩
def COL_CFG_MAX_SLOTS_DEF : Fld := ⟨0x00E00008, 0, 7, 0x8, 0x0, 0x0, 0x0, 0⟩
def COL_FLIP_CANCEL : Fld := ⟨0x00E0000C, 1, 1, 0x0, 0x0, 0x0, 0x0, 0⟩
def COL_FLIP_ARM : Fld := ⟨0x00E0000C, 0, 1, 0x0, 0x0, 0x0, 0x0, 0⟩
def COL_CANCEL_LO_VALUE : Fld := ⟨0x00E00010, 0, 32, 0x0, 0x0, 0x0, 0x0, 0⟩
def COL_CANCEL_HI_VALUE : Fld := ⟨0x00E00014, 0, 32, 0x0, 0x0, 0x0, 0x0, 0⟩
def COL_HUB_FREE : Fld := ⟨0x00E00020, 24, 8, 0x80, 0x4, 0x0, 0x0, 0⟩
def COL_HUB_POSTED : Fld := ⟨0x00E00020, 16, 8, 0x0, 0x4, 0x0, 0x0, 0⟩
def COL_HUB_RECLAIMING : Fld := ⟨0x00E00020, 8, 8, 0x0, 0x4, 0x0, 0x0, 0⟩
def COL_HUB_WAITING : Fld := ⟨0x00E00020, 0, 8, 0x0, 0x4, 0x0, 0x0, 0⟩
def COL_EVT_SEQ : Fld := ⟨0x00E00030, 24, 8, 0x0, 0x0, 0x0, 0x0, 0⟩
def COL_EVT_CANCELLED : Fld := ⟨0x00E00030, 3, 1, 0x0, 0x0, 0x0, 0x0, 0⟩
def COL_EVT_TALLY_SHORT : Fld := ⟨0x00E00030, 2, 1, 0x0, 0x0, 0x0, 0x0, 0⟩
def COL_EVT_RECLAIM : Fld := ⟨0x00E00030, 1, 1, 0x0, 0x0, 0x0, 0x0, 0⟩
def COL_EVT_CHUNK_FAIL : Fld := ⟨0x00E00030, 0, 1, 0x0, 0x0, 0x0, 0x0, 0⟩
def COL_FE_INFO_SOURCE : Fld := ⟨0x00E00034, 24, 8, 0x0, 0x0, 0x0, 0x0, 0⟩
def COL_FE_INFO_HUB : Fld := ⟨0x00E00034, 23, 1, 0x0, 0x0, 0x0, 0x0, 0⟩
def COL_FE_INFO_GROUP : Fld := ⟨0x00E00034, 0, 16, 0x0, 0x0, 0x0, 0x0, 0⟩
def COL_FE_SEQ_SEQ : Fld := ⟨0x00E00038, 0, 32, 0x0, 0x0, 0x0, 0x0, 0⟩
def COL_FE_CHUNK_ATTEMPT : Fld := ⟨0x00E0003C, 30, 2, 0x0, 0x0, 0x0, 0x0, 0⟩
def COL_FE_CHUNK_CHUNK : Fld := ⟨0x00E0003C, 0, 30, 0x0, 0x0, 0x0, 0x0, 0⟩
def COL_CNT_A_REISSUE : Fld := ⟨0x00E00040, 16, 16, 0x0, 0x0, 0x0, 0x0, 0⟩
def COL_CNT_A_FAIL : Fld := ⟨0x00E00040, 0, 16, 0x0, 0x0, 0x0, 0x0, 0⟩
def COL_CNT_B_STALE : Fld := ⟨0x00E00044, 16, 16, 0x0, 0x0, 0x0, 0x0, 0⟩
def COL_CNT_B_DUP : Fld := ⟨0x00E00044, 0, 16, 0x0, 0x0, 0x0, 0x0, 0⟩
def COL_CNT_C_NACK_SENT : Fld := ⟨0x00E00048, 16, 16, 0x0, 0x0, 0x0, 0x0, 0⟩
def COL_CNT_C_RESENT : Fld := ⟨0x00E00048, 0, 16, 0x0, 0x0, 0x0, 0x0, 0⟩
def COL_CNT_CLR_CLR : Fld := ⟨0x00E0004C, 0, 1, 0x0, 0x0, 0x0, 0x0, 0⟩
def COL_TALLY_LO_TOKENS : Fld := ⟨0x00E00050, 0, 32, 0x0, 0x0, 0x0, 0x0, 0⟩
def COL_TALLY_HI_TOKENS : Fld := ⟨0x00E00054, 0, 32, 0x0, 0x0, 0x0, 0x0, 0⟩
def COL_TALLY_N_REPORTS : Fld := ⟨0x00E00058, 0, 16, 0x0, 0x0, 0x0, 0x0, 0⟩
def COL_REDUCED_LO_BYTES : Fld := ⟨0x00E00060, 0, 32, 0x0, 0x0, 0x0, 0x0, 0⟩
def COL_REDUCED_HI_BYTES : Fld := ⟨0x00E00064, 0, 32, 0x0, 0x0, 0x0, 0x0, 0⟩
def COL_LATE_ID_VALID : Fld := ⟨0x00E00200, 31, 1, 0x0, 0x8, 0x0, 0x0, 0⟩
def COL_LATE_ID_ID : Fld := ⟨0x00E00200, 0, 20, 0x0, 0x8, 0x0, 0x0, 0⟩
def COL_LATE_US_US : Fld := ⟨0x00E00204, 0, 32, 0x0, 0x8, 0x0, 0x0, 0⟩

/-! Block LHL (09_odras_line_framing.md). -/

def LHL_STAT_ALIGNED : Fld := ⟨0x00F00000, 28, 4, 0x0, 0x0, 0x0, 0x0, 0⟩
def LHL_STAT_SF : Fld := ⟨0x00F00000, 24, 4, 0x0, 0x0, 0x0, 0x0, 0⟩
def LHL_STAT_SD : Fld := ⟨0x00F00000, 20, 4, 0x0, 0x0, 0x0, 0x0, 0⟩
def LHL_STAT_ENABLED : Fld := ⟨0x00F00000, 16, 4, 0x0, 0x0, 0x0, 0x0, 0⟩
def LHL_PEND_PEND : Fld := ⟨0x00F00004, 0, 1, 0x0, 0x0, 0x0, 0x0, 0⟩
def LHL_CFG_ALIGN_TOL : Fld := ⟨0x00F00008, 0, 4, 0x4, 0x0, 0x0, 0x0, 0⟩
def LHL_EVT_SEQ : Fld := ⟨0x00F00010, 24, 8, 0x0, 0x0, 0x0, 0x0, 0⟩
def LHL_EVT_PM_LATCH : Fld := ⟨0x00F00010, 4, 1, 0x0, 0x0, 0x0, 0x0, 0⟩
def LHL_EVT_PROT_DOWN : Fld := ⟨0x00F00010, 3, 1, 0x0, 0x0, 0x0, 0x0, 0⟩
def LHL_EVT_PROT_SWITCH : Fld := ⟨0x00F00010, 2, 1, 0x0, 0x0, 0x0, 0x0, 0⟩
def LHL_EVT_SD : Fld := ⟨0x00F00010, 1, 1, 0x0, 0x0, 0x0, 0x0, 0⟩
def LHL_EVT_SF : Fld := ⟨0x00F00010, 0, 1, 0x0, 0x0, 0x0, 0x0, 0⟩
def LHL_PM_SEC_SEC : Fld := ⟨0x00F00014, 0, 32, 0x0, 0x0, 0x0, 0x0, 0⟩
def LHL_PM_CTL_PM_VALID : Fld := ⟨0x00F00018, 31, 1, 0x0, 0x0, 0x0, 0x0, 0⟩
def LHL_PM_CTL_PM_SEQ : Fld := ⟨0x00F00018, 0, 8, 0x0, 0x0, 0x0, 0x0, 0⟩
def LHL_PORT_STAT_LOS : Fld := ⟨0x00F01000, 25, 1, 0x0, 0x100, 0x0, 0x0, 0⟩
def LHL_PORT_STAT_LOA : Fld := ⟨0x00F01000, 24, 1, 0x0, 0x100, 0x0, 0x0, 0⟩
def LHL_PORT_STAT_EXC : Fld := ⟨0x00F01000, 23, 1, 0x0, 0x100, 0x0, 0x0, 0⟩
def LHL_PORT_STAT_TIM : Fld := ⟨0x00F01000, 22, 1, 0x0, 0x100, 0x0, 0x0, 0⟩
def LHL_PORT_STAT_DEG : Fld := ⟨0x00F01000, 21, 1, 0x0, 0x100, 0x0, 0x0, 0⟩
def LHL_PORT_STAT_RDI_RX : Fld := ⟨0x00F01000, 20, 1, 0x0, 0x100, 0x0, 0x0, 0⟩
def LHL_PORT_STAT_RX_SITE : Fld := ⟨0x00F01000, 8, 8, 0x0, 0x100, 0x0, 0x0, 0⟩
def LHL_PORT_STAT_RX_GW : Fld := ⟨0x00F01000, 0, 8, 0x0, 0x100, 0x0, 0x0, 0⟩
def LHL_PORT_CTL_REHUNT : Fld := ⟨0x00F01004, 0, 1, 0x0, 0x100, 0x0, 0x0, 0⟩
def LHL_ALIGN_STAT_STATE : Fld := ⟨0x00F01008, 28, 4, 0x0, 0x100, 0x0, 0x0, 0⟩
def LHL_ALIGN_STAT_CANDS : Fld := ⟨0x00F01008, 24, 4, 0x0, 0x100, 0x0, 0x0, 0⟩
def LHL_ALIGN_STAT_MISSES : Fld := ⟨0x00F01008, 21, 3, 0x0, 0x100, 0x0, 0x0, 0⟩
def LHL_ALIGN_STAT_SKEW : Fld := ⟨0x00F01008, 20, 1, 0x0, 0x100, 0x0, 0x0, 0⟩
def LHL_ALIGN_STAT_SKEW_MAX : Fld := ⟨0x00F01008, 0, 8, 0x0, 0x100, 0x0, 0x0, 0⟩
def LHL_THR_SF_SF_BITS : Fld := ⟨0x00F0100C, 0, 24, 0x45A1D, 0x100, 0x0, 0x0, 0⟩
def LHL_THR_SD_DEG_M : Fld := ⟨0x00F01010, 24, 8, 0xA, 0x100, 0x0, 0x0, 0⟩
def LHL_THR_SD_SD_BITS : Fld := ⟨0x00F01010, 0, 24, 0x6F69, 0x100, 0x0, 0x0, 0⟩
def LHL_EXPECT_TIM_SF : Fld := ⟨0x00F01014, 31, 1, 0x0, 0x100, 0x0, 0x0, 0⟩
def LHL_EXPECT_SITE : Fld := ⟨0x00F01014, 8, 8, 0x0, 0x100, 0x0, 0x0, 0⟩
def LHL_EXPECT_GW : Fld := ⟨0x00F01014, 0, 8, 0x0, 0x100, 0x0, 0x0, 0⟩
def LHL_RX_FNUM_LO_FNUM : Fld := ⟨0x00F01020, 0, 32, 0x0, 0x100, 0x0, 0x0, 0⟩
def LHL_RX_FNUM_HI_FNUM : Fld := ⟨0x00F01024, 0, 32, 0x0, 0x100, 0x0, 0x0, 0⟩
def LHL_TX_FNUM_LO_FNUM : Fld := ⟨0x00F01028, 0, 32, 0x0, 0x100, 0x0, 0x0, 0⟩
def LHL_TX_FNUM_HI_FNUM : Fld := ⟨0x00F0102C, 0, 32, 0x0, 0x100, 0x0, 0x0, 0⟩
def LHL_PM_CORR_LO_BITS : Fld := ⟨0x00F01030, 0, 32, 0x0, 0x100, 0x0, 0x0, 0⟩
def LHL_PM_CORR_HI_BITS : Fld := ⟨0x00F01034, 0, 32, 0x0, 0x100, 0x0, 0x0, 0⟩
def LHL_PM_UNC_COUNT : Fld := ⟨0x00F01038, 0, 32, 0x0, 0x100, 0x0, 0x0, 0⟩
def LHL_PM_HCRC_COUNT : Fld := ⟨0x00F0103C, 0, 32, 0x0, 0x100, 0x0, 0x0, 0⟩
def LHL_PM_FEUNC_COUNT : Fld := ⟨0x00F01040, 0, 32, 0x0, 0x100, 0x0, 0x0, 0⟩
def LHL_PM_UNREADY_COUNT : Fld := ⟨0x00F01044, 0, 32, 0x0, 0x100, 0x0, 0x0, 0⟩
def LHL_PM_SECS_LAST_ES : Fld := ⟨0x00F01048, 31, 1, 0x0, 0x100, 0x0, 0x0, 0⟩
def LHL_PM_SECS_LAST_SES : Fld := ⟨0x00F01048, 30, 1, 0x0, 0x100, 0x0, 0x0, 0⟩
def LHL_PM_SECS_FE_ES : Fld := ⟨0x00F01048, 20, 10, 0x0, 0x100, 0x0, 0x0, 0⟩
def LHL_PM_SECS_SES : Fld := ⟨0x00F01048, 10, 10, 0x0, 0x100, 0x0, 0x0, 0⟩
def LHL_PM_SECS_ES : Fld := ⟨0x00F01048, 0, 10, 0x0, 0x100, 0x0, 0x0, 0⟩
def LHL_CNT_CAND_FULL : Fld := ⟨0x00F0104C, 24, 8, 0x0, 0x100, 0x0, 0x0, 0⟩
def LHL_CNT_FNUM_JUMP : Fld := ⟨0x00F0104C, 16, 8, 0x0, 0x100, 0x0, 0x0, 0⟩
def LHL_CNT_MSG_BAD : Fld := ⟨0x00F0104C, 8, 8, 0x0, 0x100, 0x0, 0x0, 0⟩
def LHL_CNT_LOA : Fld := ⟨0x00F0104C, 0, 8, 0x0, 0x100, 0x0, 0x0, 0⟩
def LHL_CNT_CLR_CLR : Fld := ⟨0x00F01050, 0, 1, 0x0, 0x100, 0x0, 0x0, 0⟩
def LHL_PG_CFG_MODE : Fld := ⟨0x00F02000, 30, 2, 0x0, 0x100, 0x0, 0x0, 0⟩
def LHL_PG_CFG_REVERT : Fld := ⟨0x00F02000, 29, 1, 0x0, 0x100, 0x0, 0x0, 0⟩
def LHL_PG_CFG_HOLDOFF : Fld := ⟨0x00F02000, 16, 8, 0x0, 0x100, 0x0, 0x0, 0⟩
def LHL_PG_CFG_WTR_S : Fld := ⟨0x00F02000, 0, 16, 0x0, 0x100, 0x0, 0x0, 0⟩
def LHL_PG_CMD_CMD : Fld := ⟨0x00F02004, 0, 2, 0x0, 0x100, 0x0, 0x0, 0⟩
def LHL_PG_STAT_REQ : Fld := ⟨0x00F02008, 28, 4, 0x0, 0x100, 0x0, 0x0, 0⟩
def LHL_PG_STAT_FAR_REQ : Fld := ⟨0x00F02008, 24, 4, 0x0, 0x100, 0x0, 0x0, 0⟩
def LHL_PG_STAT_SELECTED : Fld := ⟨0x00F02008, 23, 1, 0x0, 0x100, 0x0, 0x0, 0⟩
def LHL_PG_STAT_BRIDGED : Fld := ⟨0x00F02008, 22, 1, 0x0, 0x100, 0x0, 0x0, 0⟩
def LHL_PG_STAT_DOWN : Fld := ⟨0x00F02008, 21, 1, 0x0, 0x100, 0x0, 0x0, 0⟩
def LHL_PG_STAT_WTR_LEFT : Fld := ⟨0x00F02008, 0, 12, 0x0, 0x100, 0x0, 0x0, 0⟩
def LHL_PG_LAST_SWITCHES : Fld := ⟨0x00F0200C, 16, 16, 0x0, 0x100, 0x0, 0x0, 0⟩
def LHL_PG_LAST_US : Fld := ⟨0x00F0200C, 0, 16, 0x0, 0x100, 0x0, 0x0, 0⟩

/-! Block TSI (09_odras_line_framing.md). -/

def TSI_STAT_RX_READY : Fld := ⟨0x01000000, 12, 4, 0x0, 0x0, 0x0, 0x0, 0⟩
def TSI_STAT_ARMED : Fld := ⟨0x01000000, 8, 4, 0x0, 0x0, 0x0, 0x0, 0⟩
def TSI_STAT_RX_PAGE : Fld := ⟨0x01000000, 4, 4, 0x0, 0x0, 0x0, 0x0, 0⟩
def TSI_STAT_TX_PAGE : Fld := ⟨0x01000000, 0, 4, 0x0, 0x0, 0x0, 0x0, 0⟩
def TSI_PEND_PEND : Fld := ⟨0x01000004, 0, 1, 0x0, 0x0, 0x0, 0x0, 0⟩
def TSI_EVT_SEQ : Fld := ⟨0x01000010, 24, 8, 0x0, 0x0, 0x0, 0x0, 0⟩
def TSI_EVT_RX_UNREADY : Fld := ⟨0x01000010, 3, 1, 0x0, 0x0, 0x0, 0x0, 0⟩
def TSI_EVT_LATE : Fld := ⟨0x01000010, 2, 1, 0x0, 0x0, 0x0, 0x0, 0⟩
def TSI_EVT_WIN_REFUSED : Fld := ⟨0x01000010, 1, 1, 0x0, 0x0, 0x0, 0x0, 0⟩
def TSI_EVT_SWAPPED : Fld := ⟨0x01000010, 0, 1, 0x0, 0x0, 0x0, 0x0, 0⟩
def TSI_SWAP_AT_LO_FNUM : Fld := ⟨0x01000100, 0, 32, 0x0, 0x10, 0x0, 0x0, 0⟩
def TSI_SWAP_AT_HI_FNUM : Fld := ⟨0x01000104, 0, 32, 0x0, 0x10, 0x0, 0x0, 0⟩
def TSI_SWAP_CTL_RX_READY : Fld := ⟨0x01000108, 2, 1, 0x0, 0x10, 0x0, 0x0, 0⟩
def TSI_SWAP_CTL_CANCEL : Fld := ⟨0x01000108, 1, 1, 0x0, 0x10, 0x0, 0x0, 0⟩
def TSI_SWAP_CTL_ARM : Fld := ⟨0x01000108, 0, 1, 0x0, 0x10, 0x0, 0x0, 0⟩
def TSI_TXCM_VALID : Fld := ⟨0x01010000, 15, 1, 0x0, 0x100, 0x4, 0x0, 0⟩
def TSI_TXCM_FLOW : Fld := ⟨0x01010000, 0, 8, 0x0, 0x100, 0x4, 0x0, 0⟩
def TSI_RXCM_VALID : Fld := ⟨0x01020000, 15, 1, 0x0, 0x100, 0x4, 0x0, 0⟩
def TSI_RXCM_FLOW : Fld := ⟨0x01020000, 0, 8, 0x0, 0x100, 0x4, 0x0, 0⟩
def TSI_FLOW_TX_SLOTS : Fld := ⟨0x01030000, 16, 9, 0x0, 0x4, 0x0, 0x0, 0⟩
def TSI_FLOW_RX_SLOTS : Fld := ⟨0x01030000, 0, 9, 0x0, 0x4, 0x0, 0x0, 0⟩

/-! Block MLR (10_millrace_and_sites.md). -/

def MLR_STAT_THROTTLED : Fld := ⟨0x01100000, 31, 1, 0x0, 0x0, 0x0, 0x0, 0⟩
def MLR_STAT_RETAIN_FULL : Fld := ⟨0x01100000, 30, 1, 0x0, 0x0, 0x0, 0x0, 0⟩
def MLR_STAT_FLOWS_UP : Fld := ⟨0x01100000, 0, 9, 0x0, 0x0, 0x0, 0x0, 0⟩
def MLR_PEND_PEND : Fld := ⟨0x01100004, 0, 1, 0x0, 0x0, 0x0, 0x0, 0⟩
def MLR_CFG_PATH_US : Fld := ⟨0x01100008, 16, 16, 0x1F4, 0x0, 0x0, 0x0, 0⟩
def MLR_CFG_MARGIN_US : Fld := ⟨0x01100008, 0, 16, 0x7D0, 0x0, 0x0, 0x0, 0⟩
def MLR_EVT_SEQ : Fld := ⟨0x01100010, 24, 8, 0x0, 0x0, 0x0, 0x0, 0⟩
def MLR_EVT_RETAIN_LOST : Fld := ⟨0x01100010, 3, 1, 0x0, 0x0, 0x0, 0x0, 0⟩
def MLR_EVT_THROTTLE : Fld := ⟨0x01100010, 2, 1, 0x0, 0x0, 0x0, 0x0, 0⟩
def MLR_EVT_PATH_CHANGE : Fld := ⟨0x01100010, 1, 1, 0x0, 0x0, 0x0, 0x0, 0⟩
def MLR_EVT_FLOW_FAIL : Fld := ⟨0x01100010, 0, 1, 0x0, 0x0, 0x0, 0x0, 0⟩
def MLR_FE_SOURCE : Fld := ⟨0x01100014, 24, 8, 0x0, 0x0, 0x0, 0x0, 0⟩
def MLR_FE_FLOW : Fld := ⟨0x01100014, 16, 8, 0x0, 0x0, 0x0, 0x0, 0⟩
def MLR_RETAIN_LO_BYTES : Fld := ⟨0x01100020, 0, 32, 0x0, 0x0, 0x0, 0x0, 0⟩
def MLR_RETAIN_HI_BYTES : Fld := ⟨0x01100024, 0, 32, 0x0, 0x0, 0x0, 0x0, 0⟩
def MLR_RATE_CAP_MBS : Fld := ⟨0x01100028, 0, 32, 0x0, 0x0, 0x0, 0x0, 0⟩
def MLR_PORT_RTT_NS : Fld := ⟨0x01100100, 0, 32, 0x0, 0x10, 0x0, 0x0, 0⟩
def MLR_PORT_RTTVAR_NS : Fld := ⟨0x01100104, 0, 32, 0x0, 0x10, 0x0, 0x0, 0⟩
def MLR_PORT_ECHO_LOST : Fld := ⟨0x01100108, 16, 16, 0x0, 0x10, 0x0, 0x0, 0⟩
def MLR_PORT_ECHO_PATH : Fld := ⟨0x01100108, 0, 16, 0x0, 0x10, 0x0, 0x0, 0⟩
def MLR_FLOW_STAT_STATE : Fld := ⟨0x01110000, 28, 4, 0x0, 0x40, 0x0, 0x0, 0⟩
def MLR_FLOW_STAT_TX : Fld := ⟨0x01110000, 27, 1, 0x0, 0x40, 0x0, 0x0, 0⟩
def MLR_FLOW_STAT_RX : Fld := ⟨0x01110000, 26, 1, 0x0, 0x40, 0x0, 0x0, 0⟩
def MLR_FLOW_STAT_PEER_SITE : Fld := ⟨0x01110000, 16, 8, 0x0, 0x40, 0x0, 0x0, 0⟩
def MLR_FLOW_STAT_PEER_GW : Fld := ⟨0x01110000, 8, 8, 0x0, 0x40, 0x0, 0x0, 0⟩
def MLR_FLOW_STAT_DELIM_LOSS : Fld := ⟨0x01110000, 0, 8, 0x0, 0x40, 0x0, 0x0, 0⟩
def MLR_FLOW_TX_LO_SEQ : Fld := ⟨0x01110004, 0, 32, 0x0, 0x40, 0x0, 0x0, 0⟩
def MLR_FLOW_TX_HI_SEQ : Fld := ⟨0x01110008, 0, 32, 0x0, 0x40, 0x0, 0x0, 0⟩
def MLR_FLOW_ACK_LO_SEQ : Fld := ⟨0x0111000C, 0, 32, 0x0, 0x40, 0x0, 0x0, 0⟩
def MLR_FLOW_ACK_HI_SEQ : Fld := ⟨0x01110010, 0, 32, 0x0, 0x40, 0x0, 0x0, 0⟩
def MLR_FLOW_RX_LO_SEQ : Fld := ⟨0x01110014, 0, 32, 0x0, 0x40, 0x0, 0x0, 0⟩
def MLR_FLOW_RX_HI_SEQ : Fld := ⟨0x01110018, 0, 32, 0x0, 0x40, 0x0, 0x0, 0⟩
def MLR_FLOW_CNT_A_RESENT : Fld := ⟨0x0111001C, 16, 16, 0x0, 0x40, 0x0, 0x0, 0⟩
def MLR_FLOW_CNT_A_TAG_FAIL : Fld := ⟨0x0111001C, 0, 16, 0x0, 0x40, 0x0, 0x0, 0⟩
def MLR_FLOW_CNT_B_REPLACED : Fld := ⟨0x01110020, 16, 16, 0x0, 0x40, 0x0, 0x0, 0⟩
def MLR_FLOW_CNT_B_STALE : Fld := ⟨0x01110020, 0, 16, 0x0, 0x40, 0x0, 0x0, 0⟩
def MLR_FLOW_CNT_CLR_CLR : Fld := ⟨0x01110024, 0, 1, 0x0, 0x40, 0x0, 0x0, 0⟩

/-! Block CMP (11_bolter_and_cipher.md). -/

def CMP_STAT_STAGED : Fld := ⟨0x01200000, 16, 16, 0x0, 0x0, 0x0, 0x0, 0⟩
def CMP_STAT_VALID : Fld := ⟨0x01200000, 0, 16, 0x0, 0x0, 0x0, 0x0, 0⟩
def CMP_PEND_PEND : Fld := ⟨0x01200004, 0, 1, 0x0, 0x0, 0x0, 0x0, 0⟩
def CMP_CFG_MEM_EN : Fld := ⟨0x01200008, 1, 1, 0x1, 0x0, 0x0, 0x0, 0⟩
def CMP_CFG_LINE_EN : Fld := ⟨0x01200008, 0, 1, 0x1, 0x0, 0x0, 0x0, 0⟩
def CMP_EVT_SEQ : Fld := ⟨0x01200010, 24, 8, 0x0, 0x0, 0x0, 0x0, 0⟩
def CMP_EVT_PARTIAL : Fld := ⟨0x01200010, 2, 1, 0x0, 0x0, 0x0, 0x0, 0⟩
def CMP_EVT_SHAPE_LINE : Fld := ⟨0x01200010, 1, 1, 0x0, 0x0, 0x0, 0x0, 0⟩
def CMP_EVT_SHAPE_MEM : Fld := ⟨0x01200010, 0, 1, 0x0, 0x0, 0x0, 0x0, 0⟩
def CMP_FE_SOURCE : Fld := ⟨0x01200014, 24, 8, 0x0, 0x0, 0x0, 0x0, 0⟩
def CMP_FE_CAUSE : Fld := ⟨0x01200014, 20, 4, 0x0, 0x0, 0x0, 0x0, 0⟩
def CMP_FE_HUB : Fld := ⟨0x01200014, 19, 1, 0x0, 0x0, 0x0, 0x0, 0⟩
def CMP_FE_FLOW : Fld := ⟨0x01200014, 0, 8, 0x0, 0x0, 0x0, 0x0, 0⟩
def CMP_FE_ADDR_LO_VALUE : Fld := ⟨0x01200018, 0, 32, 0x0, 0x0, 0x0, 0x0, 0⟩
def CMP_FE_ADDR_HI_VALUE : Fld := ⟨0x0120001C, 0, 32, 0x0, 0x0, 0x0, 0x0, 0⟩
def CMP_CNT_CLR_CLR : Fld := ⟨0x01200020, 0, 1, 0x0, 0x0, 0x0, 0x0, 0⟩
def CMP_HUB_IN_LO_BYTES : Fld := ⟨0x01200100, 0, 32, 0x0, 0x40, 0x0, 0x0, 0⟩
def CMP_HUB_IN_HI_BYTES : Fld := ⟨0x01200104, 0, 32, 0x0, 0x40, 0x0, 0x0, 0⟩
def CMP_HUB_OUT_LO_BYTES : Fld := ⟨0x01200108, 0, 32, 0x0, 0x40, 0x0, 0x0, 0⟩
def CMP_HUB_OUT_HI_BYTES : Fld := ⟨0x0120010C, 0, 32, 0x0, 0x40, 0x0, 0x0, 0⟩
def CMP_HUB_CNT_RAW : Fld := ⟨0x01200110, 16, 16, 0x0, 0x40, 0x0, 0x0, 0⟩
def CMP_HUB_CNT_SHAPE : Fld := ⟨0x01200110, 0, 16, 0x0, 0x40, 0x0, 0x0, 0⟩
def CMP_SLOT_STAT_VALID : Fld := ⟨0x01201000, 31, 1, 0x0, 0x20, 0x0, 0x0, 0⟩
def CMP_SLOT_STAT_LINE : Fld := ⟨0x01201000, 30, 1, 0x0, 0x20, 0x0, 0x0, 0⟩
def CMP_SLOT_STAT_ELEM : Fld := ⟨0x01201000, 28, 2, 0x0, 0x20, 0x0, 0x0, 0⟩
def CMP_SLOT_STAT_WINDOWS : Fld := ⟨0x01201000, 25, 3, 0x0, 0x20, 0x0, 0x0, 0⟩
def CMP_SLOT_STAT_EPOCH : Fld := ⟨0x01201000, 0, 16, 0x0, 0x20, 0x0, 0x0, 0⟩
def CMP_SLOT_USE_RETAINED : Fld := ⟨0x01201004, 0, 32, 0x0, 0x20, 0x0, 0x0, 0⟩
def CMP_SLOT_BLK_LO_BLOCKS : Fld := ⟨0x01201008, 0, 32, 0x0, 0x20, 0x0, 0x0, 0⟩
def CMP_SLOT_BLK_HI_BLOCKS : Fld := ⟨0x0120100C, 0, 32, 0x0, 0x20, 0x0, 0x0, 0⟩

/-! Block CRY (11_bolter_and_cipher.md). -/

def CRY_STAT_ENTROPY_OK : Fld := ⟨0x01300000, 31, 1, 0x0, 0x0, 0x0, 0x0, 0⟩
def CRY_STAT_PAUSED : Fld := ⟨0x01300000, 30, 1, 0x0, 0x0, 0x0, 0x0, 0⟩
def CRY_STAT_LROOTS : Fld := ⟨0x01300000, 16, 8, 0x0, 0x0, 0x0, 0x0, 0⟩
def CRY_STAT_QUEUE_H1 : Fld := ⟨0x01300000, 8, 8, 0x0, 0x0, 0x0, 0x0, 0⟩
def CRY_STAT_QUEUE_H0 : Fld := ⟨0x01300000, 0, 8, 0x0, 0x0, 0x0, 0x0, 0⟩
def CRY_PEND_PEND : Fld := ⟨0x01300004, 0, 1, 0x0, 0x0, 0x0, 0x0, 0⟩
def CRY_LEASE_CFG_SEC : Fld := ⟨0x01300008, 0, 12, 0x3C, 0x0, 0x0, 0x0, 0⟩
def CRY_EVT_SEQ : Fld := ⟨0x01300010, 24, 8, 0x0, 0x0, 0x0, 0x0, 0⟩
def CRY_EVT_LEASE : Fld := ⟨0x01300010, 4, 1, 0x0, 0x0, 0x0, 0x0, 0⟩
def CRY_EVT_ENTROPY : Fld := ⟨0x01300010, 3, 1, 0x0, 0x0, 0x0, 0x0, 0⟩
def CRY_EVT_EXHAUSTED : Fld := ⟨0x01300010, 2, 1, 0x0, 0x0, 0x0, 0x0, 0⟩
def CRY_EVT_REJECT : Fld := ⟨0x01300010, 1, 1, 0x0, 0x0, 0x0, 0x0, 0⟩
def CRY_EVT_ABSENT : Fld := ⟨0x01300010, 0, 1, 0x0, 0x0, 0x0, 0x0, 0⟩
def CRY_FE_SOURCE : Fld := ⟨0x01300014, 24, 8, 0x0, 0x0, 0x0, 0x0, 0⟩
def CRY_FE_REQUESTER : Fld := ⟨0x01300014, 20, 4, 0x0, 0x0, 0x0, 0x0, 0⟩
def CRY_FE_SLOT : Fld := ⟨0x01300014, 14, 6, 0x0, 0x0, 0x0, 0x0, 0⟩
def CRY_FE_FLOW : Fld := ⟨0x01300014, 0, 8, 0x0, 0x0, 0x0, 0x0, 0⟩
def CRY_ENT_APT_FAIL : Fld := ⟨0x01300018, 16, 16, 0x0, 0x0, 0x0, 0x0, 0⟩
def CRY_ENT_RCT_FAIL : Fld := ⟨0x01300018, 0, 16, 0x0, 0x0, 0x0, 0x0, 0⟩
def CRY_CNT_REJECT : Fld := ⟨0x0130001C, 16, 16, 0x0, 0x0, 0x0, 0x0, 0⟩
def CRY_CNT_ABSENT : Fld := ⟨0x0130001C, 0, 16, 0x0, 0x0, 0x0, 0x0, 0⟩
def CRY_CNT_CLR_CLR : Fld := ⟨0x01300020, 0, 1, 0x0, 0x0, 0x0, 0x0, 0⟩
def CRY_LROOT_CTL_RESET : Fld := ⟨0x01300030, 9, 1, 0x0, 0x0, 0x0, 0x0, 0⟩
def CRY_LROOT_CTL_INSTALL : Fld := ⟨0x01300030, 8, 1, 0x0, 0x0, 0x0, 0x0, 0⟩
def CRY_LROOT_CTL_INDEX : Fld := ⟨0x01300030, 0, 3, 0x0, 0x0, 0x0, 0x0, 0⟩
def CRY_LROOT_KEY_KEY : Fld := ⟨0x01300040, 0, 32, 0x0, 0x4, 0x0, 0x0, 0⟩
def CRY_HCTL_GO : Fld := ⟨0x01300100, 24, 1, 0x0, 0x0, 0x0, 0x0, 0⟩
def CRY_HCTL_SLOT : Fld := ⟨0x01300100, 16, 6, 0x0, 0x0, 0x0, 0x0, 0⟩
def CRY_HCTL_BLOCKS : Fld := ⟨0x01300100, 0, 5, 0x0, 0x0, 0x0, 0x0, 0⟩
def CRY_HSTAT_BUSY : Fld := ⟨0x01300104, 31, 1, 0x0, 0x0, 0x0, 0x0, 0⟩
def CRY_HSTAT_ERR : Fld := ⟨0x01300104, 30, 1, 0x0, 0x0, 0x0, 0x0, 0⟩
def CRY_HIN_DATA : Fld := ⟨0x01300200, 0, 32, 0x0, 0x4, 0x0, 0x0, 0⟩
def CRY_HOUT_DATA : Fld := ⟨0x01300300, 0, 32, 0x0, 0x4, 0x0, 0x0, 0⟩
def CRY_HUB_BLK_LO_BLOCKS : Fld := ⟨0x01300400, 0, 32, 0x0, 0x8, 0x0, 0x0, 0⟩
def CRY_HUB_BLK_HI_BLOCKS : Fld := ⟨0x01300404, 0, 32, 0x0, 0x8, 0x0, 0x0, 0⟩
def CRY_KSLOT_CFG_USE : Fld := ⟨0x01301000, 29, 3, 0x0, 0x40, 0x0, 0x0, 0⟩
def CRY_KSLOT_CFG_ROOT : Fld := ⟨0x01301000, 20, 4, 0x0, 0x40, 0x0, 0x0, 0⟩
def CRY_KSLOT_EPOCH_KEPOCH_TX : Fld := ⟨0x01301004, 16, 16, 0x0, 0x40, 0x0, 0x0, 0⟩
def CRY_KSLOT_EPOCH_KEPOCH_MIN : Fld := ⟨0x01301004, 0, 16, 0x0, 0x40, 0x0, 0x0, 0⟩
def CRY_KSLOT_CTL_CLEAR : Fld := ⟨0x01301008, 2, 1, 0x0, 0x40, 0x0, 0x0, 0⟩
def CRY_KSLOT_CTL_ADVANCE : Fld := ⟨0x01301008, 1, 1, 0x0, 0x40, 0x0, 0x0, 0⟩
def CRY_KSLOT_CTL_OPEN : Fld := ⟨0x01301008, 0, 1, 0x0, 0x40, 0x0, 0x0, 0⟩
def CRY_KSLOT_LEASE_MS : Fld := ⟨0x0130100C, 0, 32, 0x0, 0x40, 0x0, 0x0, 0⟩
def CRY_KSLOT_LABEL_LABEL : Fld := ⟨0x01301010, 0, 32, 0x0, 0x40, 0x4, 0x0, 0⟩

/-! Block TIM (12_time_and_sluice.md). -/

def TIM_STAT_VALID : Fld := ⟨0x01400000, 31, 1, 0x0, 0x0, 0x0, 0x0, 0⟩
def TIM_STAT_REFCLK_OK : Fld := ⟨0x01400000, 30, 1, 0x0, 0x0, 0x0, 0x0, 0⟩
def TIM_STAT_HOLDOVER : Fld := ⟨0x01400000, 29, 1, 0x0, 0x0, 0x0, 0x0, 0⟩
def TIM_STAT_SLEWING : Fld := ⟨0x01400000, 28, 1, 0x0, 0x0, 0x0, 0x0, 0⟩
def TIM_STAT_PPS_IN_SEEN : Fld := ⟨0x01400000, 27, 1, 0x0, 0x0, 0x0, 0x0, 0⟩
def TIM_PEND_PEND : Fld := ⟨0x01400004, 0, 1, 0x0, 0x0, 0x0, 0x0, 0⟩
def TIM_CFG_HOLD_S : Fld := ⟨0x01400008, 0, 8, 0x4, 0x0, 0x0, 0x0, 0⟩
def TIM_SNAP_GO : Fld := ⟨0x01400010, 0, 1, 0x0, 0x0, 0x0, 0x0, 0⟩
def TIM_SNAP_SEC_LO_VALUE : Fld := ⟨0x01400014, 0, 32, 0x0, 0x0, 0x0, 0x0, 0⟩
def TIM_SNAP_SEC_HI_VALUE : Fld := ⟨0x01400018, 0, 32, 0x0, 0x0, 0x0, 0x0, 0⟩
def TIM_SNAP_NS_VALUE : Fld := ⟨0x0140001C, 0, 32, 0x0, 0x0, 0x0, 0x0, 0⟩
def TIM_SET_SEC_LO_VALUE : Fld := ⟨0x01400030, 0, 32, 0x0, 0x0, 0x0, 0x0, 0⟩
def TIM_SET_SEC_HI_VALUE : Fld := ⟨0x01400034, 0, 32, 0x0, 0x0, 0x0, 0x0, 0⟩
def TIM_SET_NS_VALUE : Fld := ⟨0x01400038, 0, 32, 0x0, 0x0, 0x0, 0x0, 0⟩
def TIM_SET_CTL_SET : Fld := ⟨0x0140003C, 0, 1, 0x0, 0x0, 0x0, 0x0, 0⟩
def TIM_INC_LO_INC : Fld := ⟨0x01400040, 0, 32, 0x66666666, 0x0, 0x0, 0x0, 0⟩
def TIM_INC_HI_INC : Fld := ⟨0x01400044, 0, 32, 0x6, 0x0, 0x0, 0x0, 0⟩
def TIM_ADJ_NS : Fld := ⟨0x01400048, 0, 32, 0x0, 0x0, 0x0, 0x0, 0⟩
def TIM_ADJ_CTL_SLEW : Fld := ⟨0x0140004C, 1, 1, 0x0, 0x0, 0x0, 0x0, 0⟩
def TIM_ADJ_CTL_STEP : Fld := ⟨0x0140004C, 0, 1, 0x0, 0x0, 0x0, 0x0, 0⟩
def TIM_EVT_SEQ : Fld := ⟨0x01400050, 24, 8, 0x0, 0x0, 0x0, 0x0, 0⟩
def TIM_EVT_PPS_IN_LOST : Fld := ⟨0x01400050, 4, 1, 0x0, 0x0, 0x0, 0x0, 0⟩
def TIM_EVT_REFUSED : Fld := ⟨0x01400050, 3, 1, 0x0, 0x0, 0x0, 0x0, 0⟩
def TIM_EVT_TU_SKEW : Fld := ⟨0x01400050, 2, 1, 0x0, 0x0, 0x0, 0x0, 0⟩
def TIM_EVT_TIME_STEP : Fld := ⟨0x01400050, 1, 1, 0x0, 0x0, 0x0, 0x0, 0⟩
def TIM_EVT_REFCLK_LOSS : Fld := ⟨0x01400050, 0, 1, 0x0, 0x0, 0x0, 0x0, 0⟩
def TIM_PPS_CFG_OUT_EN : Fld := ⟨0x01400060, 31, 1, 0x0, 0x0, 0x0, 0x0, 0⟩
def TIM_PPS_CFG_W_MS : Fld := ⟨0x01400060, 0, 10, 0x64, 0x0, 0x0, 0x0, 0⟩
def TIM_PPS_OFS_NS : Fld := ⟨0x01400064, 0, 32, 0x0, 0x0, 0x0, 0x0, 0⟩
def TIM_PPS_IN_LO_NS64 : Fld := ⟨0x01400068, 0, 32, 0x0, 0x0, 0x0, 0x0, 0⟩
def TIM_PPS_IN_HI_NS64 : Fld := ⟨0x0140006C, 0, 32, 0x0, 0x0, 0x0, 0x0, 0⟩
def TIM_PPS_IN_CNT_EDGES : Fld := ⟨0x01400070, 0, 16, 0x0, 0x0, 0x0, 0x0, 0⟩
def TIM_PORT_CORR_TX_PS : Fld := ⟨0x01400100, 16, 16, 0x0, 0x4, 0x0, 0x0, 0⟩
def TIM_PORT_CORR_RX_PS : Fld := ⟨0x01400100, 0, 16, 0x0, 0x4, 0x0, 0x0, 0⟩
def TIM_PTP_FWD_HOST : Fld := ⟨0x01400200, 4, 1, 0x1, 0x4, 0x0, 0x0, 0⟩
def TIM_PTP_FWD_PORTS : Fld := ⟨0x01400200, 0, 4, 0x0, 0x4, 0x0, 0x0, 0⟩
def TIM_PTP_TXCTL_GO : Fld := ⟨0x01400210, 31, 1, 0x0, 0x0, 0x0, 0x0, 0⟩
def TIM_PTP_TXCTL_ONE_STEP : Fld := ⟨0x01400210, 30, 1, 0x0, 0x0, 0x0, 0x0, 0⟩
def TIM_PTP_TXCTL_PORT : Fld := ⟨0x01400210, 8, 2, 0x0, 0x0, 0x0, 0x0, 0⟩
def TIM_PTP_TXCTL_LEN : Fld := ⟨0x01400210, 0, 8, 0x0, 0x0, 0x0, 0x0, 0⟩
def TIM_PTP_TXSTAT_FRAC : Fld := ⟨0x01400214, 16, 16, 0x0, 0x0, 0x0, 0x0, 0⟩
def TIM_PTP_TXSTAT_ERR : Fld := ⟨0x01400214, 1, 1, 0x0, 0x0, 0x0, 0x0, 0⟩
def TIM_PTP_TXSTAT_BUSY : Fld := ⟨0x01400214, 0, 1, 0x0, 0x0, 0x0, 0x0, 0⟩
def TIM_PTP_TXTS_LO_NS64 : Fld := ⟨0x01400218, 0, 32, 0x0, 0x0, 0x0, 0x0, 0⟩
def TIM_PTP_TXTS_HI_NS64 : Fld := ⟨0x0140021C, 0, 32, 0x0, 0x0, 0x0, 0x0, 0⟩
def TIM_PTP_RXINFO_FRAC : Fld := ⟨0x01400220, 16, 16, 0x0, 0x0, 0x0, 0x0, 0⟩
def TIM_PTP_RXINFO_VALID : Fld := ⟨0x01400220, 15, 1, 0x0, 0x0, 0x0, 0x0, 0⟩
def TIM_PTP_RXINFO_PORT : Fld := ⟨0x01400220, 13, 2, 0x0, 0x0, 0x0, 0x0, 0⟩
def TIM_PTP_RXINFO_DEPTH : Fld := ⟨0x01400220, 8, 5, 0x0, 0x0, 0x0, 0x0, 0⟩
def TIM_PTP_RXINFO_LEN : Fld := ⟨0x01400220, 0, 8, 0x0, 0x0, 0x0, 0x0, 0⟩
def TIM_PTP_RXTS_LO_NS64 : Fld := ⟨0x01400224, 0, 32, 0x0, 0x0, 0x0, 0x0, 0⟩
def TIM_PTP_RXTS_HI_NS64 : Fld := ⟨0x01400228, 0, 32, 0x0, 0x0, 0x0, 0x0, 0⟩
def TIM_PTP_RXPOP_POP : Fld := ⟨0x0140022C, 0, 1, 0x0, 0x0, 0x0, 0x0, 0⟩
def TIM_PTP_CNT_BAD : Fld := ⟨0x01400230, 16, 16, 0x0, 0x0, 0x0, 0x0, 0⟩
def TIM_PTP_CNT_HOST_DROP : Fld := ⟨0x01400230, 0, 16, 0x0, 0x0, 0x0, 0x0, 0⟩
def TIM_PTP_TXBUF_DATA : Fld := ⟨0x01400300, 0, 32, 0x0, 0x4, 0x0, 0x0, 0⟩
def TIM_PTP_RXBUF_DATA : Fld := ⟨0x01400400, 0, 32, 0x0, 0x4, 0x0, 0x0, 0⟩
def TIM_FCAP_CFG_OP_ID : Fld := ⟨0x01401000, 0, 32, 0x0, 0x20, 0x0, 0x0, 0⟩
def TIM_FCAP_TX_LO_NS64 : Fld := ⟨0x01401004, 0, 32, 0x0, 0x20, 0x0, 0x0, 0⟩
def TIM_FCAP_TX_HI_NS64 : Fld := ⟨0x01401008, 0, 32, 0x0, 0x20, 0x0, 0x0, 0⟩
def TIM_FCAP_RX_LO_NS64 : Fld := ⟨0x0140100C, 0, 32, 0x0, 0x20, 0x0, 0x0, 0⟩
def TIM_FCAP_RX_HI_NS64 : Fld := ⟨0x01401010, 0, 32, 0x0, 0x20, 0x0, 0x0, 0⟩
def TIM_FCAP_FRAC_TX : Fld := ⟨0x01401014, 16, 16, 0x0, 0x20, 0x0, 0x0, 0⟩
def TIM_FCAP_FRAC_RX : Fld := ⟨0x01401014, 0, 16, 0x0, 0x20, 0x0, 0x0, 0⟩

/-! Block SLU (12_time_and_sluice.md). -/

def SLU_STAT_ARMED : Fld := ⟨0x01500000, 4, 4, 0x0, 0x0, 0x0, 0x0, 0⟩
def SLU_STAT_GCL : Fld := ⟨0x01500000, 0, 4, 0x0, 0x0, 0x0, 0x0, 0⟩
def SLU_PEND_PEND : Fld := ⟨0x01500004, 0, 1, 0x0, 0x0, 0x0, 0x0, 0⟩
def SLU_CFG_HIST_EN : Fld := ⟨0x01500008, 8, 1, 0x1, 0x0, 0x0, 0x0, 0⟩
def SLU_CFG_AMBER_Q : Fld := ⟨0x01500008, 0, 5, 0x10, 0x0, 0x0, 0x0, 0⟩
def SLU_EVT_SEQ : Fld := ⟨0x01500010, 24, 8, 0x0, 0x0, 0x0, 0x0, 0⟩
def SLU_EVT_SWITCHED : Fld := ⟨0x01500010, 1, 1, 0x0, 0x0, 0x0, 0x0, 0⟩
def SLU_EVT_GATE_REFUSED : Fld := ⟨0x01500010, 0, 1, 0x0, 0x0, 0x0, 0x0, 0⟩
def SLU_HIST_CLR_CLR : Fld := ⟨0x01500014, 0, 1, 0x0, 0x0, 0x0, 0x0, 0⟩
def SLU_CNT_HOP_HOLD : Fld := ⟨0x01500018, 16, 16, 0x0, 0x0, 0x0, 0x0, 0⟩
def SLU_CNT_CAP_HOLD : Fld := ⟨0x01500018, 0, 16, 0x0, 0x0, 0x0, 0x0, 0⟩
def SLU_PORT_CFG_COMPAT800 : Fld := ⟨0x01501000, 1, 1, 0x0, 0x100, 0x0, 0x0, 0⟩
def SLU_PORT_CFG_COMPAT_FILL : Fld := ⟨0x01501000, 0, 1, 0x0, 0x100, 0x0, 0x0, 0⟩
def SLU_GATE_CTL_CANCEL : Fld := ⟨0x01501004, 1, 1, 0x0, 0x100, 0x0, 0x0, 0⟩
def SLU_GATE_CTL_ARM : Fld := ⟨0x01501004, 0, 1, 0x0, 0x100, 0x0, 0x0, 0⟩
def SLU_GATE_STAT_ENTRY : Fld := ⟨0x01501008, 0, 8, 0x0, 0x100, 0x0, 0x0, 0⟩
def SLU_GATE_NOW_OPEN : Fld := ⟨0x0150100C, 0, 32, 0xFFFFFFFF, 0x100, 0x0, 0x0, 0⟩
def SLU_GBASE_LO_BASE : Fld := ⟨0x01501010, 0, 32, 0x0, 0x100, 0x0, 0x0, 0⟩
def SLU_GBASE_HI_BASE : Fld := ⟨0x01501014, 0, 32, 0x0, 0x100, 0x0, 0x0, 0⟩
def SLU_GCYCLE_VALUE : Fld := ⟨0x01501018, 0, 32, 0x0, 0x100, 0x0, 0x0, 0⟩
def SLU_GENTRIES_VALUE : Fld := ⟨0x0150101C, 0, 32, 0x0, 0x100, 0x0, 0x0, 0⟩
def SLU_GCL_GATES_VALUE : Fld := ⟨0x01510000, 0, 32, 0x0, 0x800, 0x8, 0x0, 0⟩
def SLU_GCL_DUR_VALUE : Fld := ⟨0x01510004, 0, 32, 0x0, 0x800, 0x8, 0x0, 0⟩
def SLU_HDEPTH_SAMPLES : Fld := ⟨0x01520000, 0, 32, 0x0, 0x1000, 0x80, 0x4, 0⟩
def SLU_HDELAY_SAMPLES : Fld := ⟨0x01520040, 0, 32, 0x0, 0x1000, 0x80, 0x4, 0⟩
def SLU_Q_SHAPE_EN : Fld := ⟨0x01540000, 0, 1, 0x0, 0x800, 0x40, 0x0, 0⟩
def SLU_Q_IDLE_MBS : Fld := ⟨0x01540004, 0, 32, 0x0, 0x800, 0x40, 0x0, 0⟩
def SLU_Q_HI_BYTES : Fld := ⟨0x01540008, 0, 24, 0x8000, 0x800, 0x40, 0x0, 0⟩
def SLU_Q_LO_BYTES : Fld := ⟨0x0154000C, 0, 24, 0x8000, 0x800, 0x40, 0x0, 0⟩
def SLU_Q_CREDIT_C : Fld := ⟨0x01540010, 0, 32, 0x0, 0x800, 0x40, 0x0, 0⟩
def SLU_Q_DEPTH_BYTES : Fld := ⟨0x01540014, 0, 32, 0x0, 0x800, 0x40, 0x0, 0⟩
def SLU_FLOW_CFG_MODE : Fld := ⟨0x01550000, 30, 2, 0x0, 0x20, 0x0, 0x0, 0⟩
def SLU_FLOW_CFG_YQUEUE : Fld := ⟨0x01550000, 8, 5, 0x0, 0x20, 0x0, 0x0, 0⟩
def SLU_FLOW_CFG_PRECOL : Fld := ⟨0x01550000, 0, 8, 0x0, 0x20, 0x0, 0x0, 0⟩
def SLU_FLOW_CIR_VALUE : Fld := ⟨0x01550004, 0, 32, 0x0, 0x20, 0x0, 0x0, 0⟩
def SLU_FLOW_CBS_VALUE : Fld := ⟨0x01550008, 0, 32, 0x0, 0x20, 0x0, 0x0, 0⟩
def SLU_FLOW_PIR_VALUE : Fld := ⟨0x0155000C, 0, 32, 0x0, 0x20, 0x0, 0x0, 0⟩
def SLU_FLOW_PBS_VALUE : Fld := ⟨0x01550010, 0, 32, 0x0, 0x20, 0x0, 0x0, 0⟩
def SLU_FLOW_CNT_YELLOW : Fld := ⟨0x01550014, 16, 16, 0x0, 0x20, 0x0, 0x0, 0⟩
def SLU_FLOW_CNT_RED : Fld := ⟨0x01550014, 0, 16, 0x0, 0x20, 0x0, 0x0, 0⟩

/-! Block OPT (13_light.md). -/

def OPT_STAT_COMMISSIONED : Fld := ⟨0x01600000, 0, 24, 0x0, 0x0, 0x0, 0x0, 0⟩
def OPT_PEND_PEND : Fld := ⟨0x01600004, 0, 1, 0x0, 0x0, 0x0, 0x0, 0⟩
def OPT_CFG_TREND_MIN : Fld := ⟨0x01600008, 16, 16, 0x3E8, 0x0, 0x0, 0x0, 0⟩
def OPT_CFG_AUTO_CAL : Fld := ⟨0x01600008, 2, 1, 0x1, 0x0, 0x0, 0x0, 0⟩
def OPT_CFG_AUTO_RETIRE : Fld := ⟨0x01600008, 1, 1, 0x1, 0x0, 0x0, 0x0, 0⟩
def OPT_CFG_AUTO_MIRROR : Fld := ⟨0x01600008, 0, 1, 0x1, 0x0, 0x0, 0x0, 0⟩
def OPT_CAL_CFG_CAL_S : Fld := ⟨0x0160000C, 0, 16, 0xE10, 0x0, 0x0, 0x0, 0⟩
def OPT_EVT_SEQ : Fld := ⟨0x01600010, 24, 8, 0x0, 0x0, 0x0, 0x0, 0⟩
def OPT_EVT_LANE_LOSS : Fld := ⟨0x01600010, 5, 1, 0x0, 0x0, 0x0, 0x0, 0⟩
def OPT_EVT_RELOCK_FAIL : Fld := ⟨0x01600010, 4, 1, 0x0, 0x0, 0x0, 0x0, 0⟩
def OPT_EVT_RETIRED : Fld := ⟨0x01600010, 3, 1, 0x0, 0x0, 0x0, 0x0, 0⟩
def OPT_EVT_HANDOVER : Fld := ⟨0x01600010, 2, 1, 0x0, 0x0, 0x0, 0x0, 0⟩
def OPT_EVT_WRONG_LOCK : Fld := ⟨0x01600010, 1, 1, 0x0, 0x0, 0x0, 0x0, 0⟩
def OPT_EVT_FADE : Fld := ⟨0x01600010, 0, 1, 0x0, 0x0, 0x0, 0x0, 0⟩
def OPT_FE_SOURCE : Fld := ⟨0x01600014, 24, 8, 0x0, 0x0, 0x0, 0x0, 0⟩
def OPT_FE_PORT : Fld := ⟨0x01600014, 19, 5, 0x0, 0x0, 0x0, 0x0, 0⟩
def OPT_FE_LANE : Fld := ⟨0x01600014, 15, 4, 0x0, 0x0, 0x0, 0x0, 0⟩
def OPT_FE_LASER : Fld := ⟨0x01600014, 0, 8, 0x0, 0x0, 0x0, 0x0, 0⟩
def OPT_COMMISSION_GO : Fld := ⟨0x01600018, 8, 1, 0x0, 0x0, 0x0, 0x0, 0⟩
def OPT_COMMISSION_PORT : Fld := ⟨0x01600018, 0, 5, 0x0, 0x0, 0x0, 0x0, 0⟩
def OPT_LASER_RESTORE_GO : Fld := ⟨0x0160001C, 8, 1, 0x0, 0x0, 0x0, 0x0, 0⟩
def OPT_LASER_RESTORE_LASER : Fld := ⟨0x0160001C, 0, 8, 0x0, 0x0, 0x0, 0x0, 0⟩
def OPT_CNT_CLR_CLR : Fld := ⟨0x01600020, 0, 1, 0x0, 0x0, 0x0, 0x0, 0⟩
def OPT_LASER_EN_EN : Fld := ⟨0x01600040, 0, 32, 0x0, 0x4, 0x0, 0x0, 0⟩
def OPT_LASER_RETIRED_RETIRED : Fld := ⟨0x01600060, 0, 32, 0x0, 0x4, 0x0, 0x0, 0⟩
def OPT_PORT_STAT_COMMISSIONED : Fld := ⟨0x01601000, 31, 1, 0x0, 0x100, 0x0, 0x0, 0⟩
def OPT_PORT_STAT_ENABLED : Fld := ⟨0x01601000, 30, 1, 0x0, 0x100, 0x0, 0x0, 0⟩
def OPT_PORT_STAT_TX_SHADOW : Fld := ⟨0x01601000, 24, 4, 0xF, 0x100, 0x0, 0x0, 0⟩
def OPT_PORT_STAT_TX_USE : Fld := ⟨0x01601000, 20, 4, 0x0, 0x100, 0x0, 0x0, 0⟩
def OPT_PORT_STAT_RX_SHADOW : Fld := ⟨0x01601000, 16, 4, 0xF, 0x100, 0x0, 0x0, 0⟩
def OPT_PORT_STAT_RX_USE : Fld := ⟨0x01601000, 12, 4, 0x0, 0x100, 0x0, 0x0, 0⟩
def OPT_PORT_STAT_REPORTS_OK : Fld := ⟨0x01601000, 11, 1, 0x0, 0x100, 0x0, 0x0, 0⟩
def OPT_PORT_STAT_FIBRE_FADE : Fld := ⟨0x01601000, 10, 1, 0x0, 0x100, 0x0, 0x0, 0⟩
def OPT_PORT_CTL_CAL_NOW : Fld := ⟨0x01601004, 1, 1, 0x0, 0x100, 0x0, 0x0, 0⟩
def OPT_PORT_CTL_CAL_CANCEL : Fld := ⟨0x01601004, 0, 1, 0x0, 0x100, 0x0, 0x0, 0⟩
def OPT_PORT_CAL_LANE : Fld := ⟨0x01601008, 28, 4, 0xF, 0x100, 0x0, 0x0, 0⟩
def OPT_PORT_CAL_SINCE_S : Fld := ⟨0x01601008, 0, 16, 0xFFFF, 0x100, 0x0, 0x0, 0⟩
def OPT_LANE_STAT_TX_RING : Fld := ⟨0x01610000, 28, 4, 0x0, 0x200, 0x20, 0x0, 0⟩
def OPT_LANE_STAT_RX_RING : Fld := ⟨0x01610000, 24, 4, 0x0, 0x200, 0x20, 0x0, 0⟩
def OPT_LANE_STAT_TX_TONE : Fld := ⟨0x01610000, 20, 4, 0xF, 0x200, 0x20, 0x0, 0⟩
def OPT_LANE_STAT_RX_TONE : Fld := ⟨0x01610000, 16, 4, 0xF, 0x200, 0x20, 0x0, 0⟩
def OPT_LANE_STAT_LOC : Fld := ⟨0x01610000, 13, 3, 0x0, 0x200, 0x20, 0x0, 0⟩
def OPT_LANE_STAT_RETIRED : Fld := ⟨0x01610000, 12, 1, 0x0, 0x200, 0x20, 0x0, 0⟩
def OPT_LANE_STAT_RX_LOS : Fld := ⟨0x01610000, 11, 1, 0x0, 0x200, 0x20, 0x0, 0⟩
def OPT_LANE_PWR_A_HIGH : Fld := ⟨0x01610004, 16, 16, 0x8000, 0x200, 0x20, 0x0, 0⟩
def OPT_LANE_PWR_A_LOW : Fld := ⟨0x01610004, 0, 16, 0x8000, 0x200, 0x20, 0x0, 0⟩
def OPT_LANE_PWR_B_HIGH : Fld := ⟨0x01610008, 16, 16, 0x8000, 0x200, 0x20, 0x0, 0⟩
def OPT_LANE_PWR_B_LOW : Fld := ⟨0x01610008, 0, 16, 0x8000, 0x200, 0x20, 0x0, 0⟩
def OPT_LANE_FAR_FAR_PWR : Fld := ⟨0x0161000C, 16, 16, 0x8000, 0x200, 0x20, 0x0, 0⟩
def OPT_LANE_FAR_FAR_FADE : Fld := ⟨0x0161000C, 0, 16, 0x8000, 0x200, 0x20, 0x0, 0⟩
def OPT_LANE_FADE_TX : Fld := ⟨0x01610010, 16, 16, 0x0, 0x200, 0x20, 0x0, 0⟩
def OPT_LANE_FADE_RX : Fld := ⟨0x01610010, 0, 16, 0x0, 0x200, 0x20, 0x0, 0⟩
def OPT_LANE_COMM_A_HIGH : Fld := ⟨0x01610014, 16, 16, 0x8000, 0x200, 0x20, 0x0, 0⟩
def OPT_LANE_COMM_A_LOW : Fld := ⟨0x01610014, 0, 16, 0x8000, 0x200, 0x20, 0x0, 0⟩
def OPT_LANE_COMM_B_HIGH : Fld := ⟨0x01610018, 16, 16, 0x8000, 0x200, 0x20, 0x0, 0⟩
def OPT_LANE_COMM_B_LOW : Fld := ⟨0x01610018, 0, 16, 0x8000, 0x200, 0x20, 0x0, 0⟩
def OPT_LANE_CNT_WRONG_LOCK : Fld := ⟨0x0161001C, 24, 8, 0x0, 0x200, 0x20, 0x0, 0⟩
def OPT_LANE_CNT_HANDOVER : Fld := ⟨0x0161001C, 16, 8, 0x0, 0x200, 0x20, 0x0, 0⟩
def OPT_LANE_CNT_CORR : Fld := ⟨0x0161001C, 0, 16, 0x0, 0x200, 0x20, 0x0, 0⟩

/-! Block FLT (14_faults_power_and_reset.md). -/

def FLT_STAT_FATAL : Fld := ⟨0x01700000, 31, 1, 0x0, 0x0, 0x0, 0x0, 0⟩
def FLT_STAT_ERRN_LOW : Fld := ⟨0x01700000, 30, 1, 0x0, 0x0, 0x0, 0x0, 0⟩
def FLT_STAT_JRN_DROP : Fld := ⟨0x01700000, 0, 16, 0x0, 0x0, 0x0, 0x0, 0⟩
def FLT_PEND_PEND : Fld := ⟨0x01700004, 0, 1, 0x0, 0x0, 0x0, 0x0, 0⟩
def FLT_CFG_CE_EN : Fld := ⟨0x01700008, 31, 1, 0x0, 0x0, 0x0, 0x0, 0⟩
def FLT_CFG_CE_VEC : Fld := ⟨0x01700008, 16, 6, 0x2, 0x0, 0x0, 0x0, 0⟩
def FLT_CFG_UC_VEC : Fld := ⟨0x01700008, 8, 6, 0x1, 0x0, 0x0, 0x0, 0⟩
def FLT_CFG_FA_VEC : Fld := ⟨0x01700008, 0, 6, 0x0, 0x0, 0x0, 0x0, 0⟩
def FLT_ERRN_CTL_ERRN_HOLD : Fld := ⟨0x0170000C, 1, 1, 0x1, 0x0, 0x0, 0x0, 0⟩
def FLT_ERRN_CTL_RELEASE : Fld := ⟨0x0170000C, 0, 1, 0x0, 0x0, 0x0, 0x0, 0⟩
def FLT_EVT_SEQ : Fld := ⟨0x01700010, 24, 8, 0x0, 0x0, 0x0, 0x0, 0⟩
def FLT_EVT_FATAL : Fld := ⟨0x01700010, 2, 1, 0x0, 0x0, 0x0, 0x0, 0⟩
def FLT_EVT_UC : Fld := ⟨0x01700010, 1, 1, 0x0, 0x0, 0x0, 0x0, 0⟩
def FLT_EVT_CE : Fld := ⟨0x01700010, 0, 1, 0x0, 0x0, 0x0, 0x0, 0⟩
def FLT_LOG_HEAD_RSEQ : Fld := ⟨0x01700014, 16, 16, 0x0, 0x0, 0x0, 0x0, 0⟩
def FLT_LOG_HEAD_INDEX : Fld := ⟨0x01700014, 0, 8, 0x0, 0x0, 0x0, 0x0, 0⟩
def FLT_LVL_CNT_UC : Fld := ⟨0x01700020, 16, 16, 0x0, 0x4, 0x0, 0x0, 0⟩
def FLT_LVL_CNT_CE : Fld := ⟨0x01700020, 0, 16, 0x0, 0x4, 0x0, 0x0, 0⟩
def FLT_CNT_CLR_CLR : Fld := ⟨0x01700030, 0, 1, 0x0, 0x0, 0x0, 0x0, 0⟩
def FLT_FE_LOC_WORD : Fld := ⟨0x01700040, 0, 32, 0x0, 0x20, 0x0, 0x0, 0⟩
def FLT_FE_SRC_WORD : Fld := ⟨0x01700044, 0, 32, 0x0, 0x20, 0x0, 0x0, 0⟩
def FLT_FE_DESC_WORD : Fld := ⟨0x01700048, 0, 32, 0x0, 0x20, 0x0, 0x0, 0⟩
def FLT_FE_INFO_WORD : Fld := ⟨0x0170004C, 0, 32, 0x0, 0x20, 0x0, 0x0, 0⟩
def FLT_FE_TIME_LO_WORD : Fld := ⟨0x01700050, 0, 32, 0x0, 0x20, 0x0, 0x0, 0⟩
def FLT_FE_TIME_HI_WORD : Fld := ⟨0x01700054, 0, 32, 0x0, 0x20, 0x0, 0x0, 0⟩
def FLT_FE_INFO2_LO_WORD : Fld := ⟨0x01700058, 0, 32, 0x0, 0x20, 0x0, 0x0, 0⟩
def FLT_FE_INFO2_HI_WORD : Fld := ⟨0x0170005C, 0, 32, 0x0, 0x20, 0x0, 0x0, 0⟩
def FLT_BAR_CNT_COUNT : Fld := ⟨0x017000A0, 0, 16, 0x0, 0x0, 0x0, 0x0, 0⟩
def FLT_FORCE_FORCE : Fld := ⟨0x01700100, 0, 32, 0x0, 0x4, 0x0, 0x0, 0⟩
def FLT_FORCE_LOC_LOC : Fld := ⟨0x01700120, 0, 32, 0x0, 0x0, 0x0, 0x0, 0⟩
def FLT_FORCE_CLR_CLR : Fld := ⟨0x01700124, 0, 1, 0x0, 0x0, 0x0, 0x0, 0⟩
def FLT_FORCE_ARMED_ARMED : Fld := ⟨0x01700140, 0, 32, 0x0, 0x4, 0x0, 0x0, 0⟩
def FLT_ERRN_SEL_SEL : Fld := ⟨0x01700160, 0, 32, 0x0, 0x4, 0x0, 0x0, 0⟩
def FLT_ST_CTL_GO : Fld := ⟨0x01700200, 31, 1, 0x0, 0x0, 0x0, 0x0, 0⟩
def FLT_ST_CTL_DESTROY : Fld := ⟨0x01700200, 30, 1, 0x0, 0x0, 0x0, 0x0, 0⟩
def FLT_ST_CTL_KIND : Fld := ⟨0x01700200, 24, 2, 0x0, 0x0, 0x0, 0x0, 0⟩
def FLT_ST_CTL_TARGET : Fld := ⟨0x01700200, 0, 6, 0x0, 0x0, 0x0, 0x0, 0⟩
def FLT_ST_DL_US : Fld := ⟨0x01700204, 0, 32, 0x2710, 0x0, 0x0, 0x0, 0⟩
def FLT_ST_STAT_BUSY : Fld := ⟨0x01700208, 31, 1, 0x0, 0x0, 0x0, 0x0, 0⟩
def FLT_ST_STAT_REFUSED : Fld := ⟨0x01700208, 30, 1, 0x0, 0x0, 0x0, 0x0, 0⟩
def FLT_ST_STAT_FAILED : Fld := ⟨0x01700208, 29, 1, 0x0, 0x0, 0x0, 0x0, 0⟩
def FLT_ST_STAT_BLOCKS : Fld := ⟨0x01700208, 0, 16, 0x0, 0x0, 0x0, 0x0, 0⟩
def FLT_LVL_FE_LOC_WORD : Fld := ⟨0x01700400, 0, 32, 0x0, 0x80, 0x20, 0x0, 0⟩
def FLT_LVL_FE_SRC_WORD : Fld := ⟨0x01700404, 0, 32, 0x0, 0x80, 0x20, 0x0, 0⟩
def FLT_LVL_FE_DESC_WORD : Fld := ⟨0x01700408, 0, 32, 0x0, 0x80, 0x20, 0x0, 0⟩
def FLT_LVL_FE_INFO_WORD : Fld := ⟨0x0170040C, 0, 32, 0x0, 0x80, 0x20, 0x0, 0⟩
def FLT_LVL_FE_TIME_LO_WORD : Fld := ⟨0x01700410, 0, 32, 0x0, 0x80, 0x20, 0x0, 0⟩
def FLT_LVL_FE_TIME_HI_WORD : Fld := ⟨0x01700414, 0, 32, 0x0, 0x80, 0x20, 0x0, 0⟩
def FLT_LVL_FE_INFO2_LO_WORD : Fld := ⟨0x01700418, 0, 32, 0x0, 0x80, 0x20, 0x0, 0⟩
def FLT_LVL_FE_INFO2_HI_WORD : Fld := ⟨0x0170041C, 0, 32, 0x0, 0x80, 0x20, 0x0, 0⟩
def FLT_LOG_WORD : Fld := ⟨0x01710000, 0, 32, 0x0, 0x20, 0x4, 0x0, 0⟩

/-! Block PWR (14_faults_power_and_reset.md). -/

def PWR_STAT_STAGE : Fld := ⟨0x01800000, 28, 4, 0x0, 0x0, 0x0, 0x0, 0⟩
def PWR_STAT_DIP : Fld := ⟨0x01800000, 27, 1, 0x0, 0x0, 0x0, 0x0, 0⟩
def PWR_STAT_HOT : Fld := ⟨0x01800000, 26, 1, 0x0, 0x0, 0x0, 0x0, 0⟩
def PWR_STAT_RAIL_BAD : Fld := ⟨0x01800000, 16, 8, 0x0, 0x0, 0x0, 0x0, 0⟩
def PWR_STAT_RAIL_WARN : Fld := ⟨0x01800000, 8, 8, 0x0, 0x0, 0x0, 0x0, 0⟩
def PWR_PEND_PEND : Fld := ⟨0x01800004, 0, 1, 0x0, 0x0, 0x0, 0x0, 0⟩
def PWR_RESET_KEY : Fld := ⟨0x01800008, 16, 16, 0x0, 0x0, 0x0, 0x0, 0⟩
def PWR_RESET_GO : Fld := ⟨0x01800008, 0, 1, 0x0, 0x0, 0x0, 0x0, 0⟩
def PWR_RESET_CAUSE_CAUSE : Fld := ⟨0x0180000C, 30, 2, 0x0, 0x0, 0x0, 0x0, 0⟩
def PWR_RESET_CAUSE_PERST : Fld := ⟨0x0180000C, 0, 16, 0x0, 0x0, 0x0, 0x0, 0⟩
def PWR_EVT_SEQ : Fld := ⟨0x01800010, 24, 8, 0x0, 0x0, 0x0, 0x0, 0⟩
def PWR_EVT_RAIL_BAD : Fld := ⟨0x01800010, 3, 1, 0x0, 0x0, 0x0, 0x0, 0⟩
def PWR_EVT_THERM : Fld := ⟨0x01800010, 2, 1, 0x0, 0x0, 0x0, 0x0, 0⟩
def PWR_EVT_RAIL_WARN : Fld := ⟨0x01800010, 1, 1, 0x0, 0x0, 0x0, 0x0, 0⟩
def PWR_EVT_DIP : Fld := ⟨0x01800010, 0, 1, 0x0, 0x0, 0x0, 0x0, 0⟩
def PWR_VQ_MIN_MV : Fld := ⟨0x01800100, 16, 16, 0xFFFF, 0x4, 0x0, 0x0, 0⟩
def PWR_VQ_NOW_MV : Fld := ⟨0x01800100, 0, 16, 0x0, 0x4, 0x0, 0x0, 0⟩
def PWR_RAIL_MIN_MV : Fld := ⟨0x01800120, 16, 16, 0xFFFF, 0x4, 0x0, 0x0, 0⟩
def PWR_RAIL_NOW_MV : Fld := ⟨0x01800120, 0, 16, 0x0, 0x4, 0x0, 0x0, 0⟩
def PWR_TEMP_MAX : Fld := ⟨0x01800200, 16, 16, 0x8000, 0x4, 0x0, 0x0, 0⟩
def PWR_TEMP_NOW : Fld := ⟨0x01800200, 0, 16, 0x8000, 0x4, 0x0, 0x0, 0⟩
def PWR_DIP_CNT_HOT : Fld := ⟨0x01800300, 16, 16, 0x0, 0x0, 0x0, 0x0, 0⟩
def PWR_DIP_CNT_DIPS : Fld := ⟨0x01800300, 0, 16, 0x0, 0x0, 0x0, 0x0, 0⟩
def PWR_MIN_CLR_CLR : Fld := ⟨0x01800304, 0, 1, 0x0, 0x0, 0x0, 0x0, 0⟩

/-! Block MBR (10_millrace_and_sites.md). -/

def MBR_EPOCH_EPOCH : Fld := ⟨0x01900000, 0, 32, 0x0, 0x0, 0x0, 0x0, 0⟩
def MBR_PEND_PEND : Fld := ⟨0x01900004, 0, 1, 0x0, 0x0, 0x0, 0x0, 0⟩
def MBR_STAT_STATE : Fld := ⟨0x01900008, 28, 4, 0x0, 0x0, 0x0, 0x0, 0⟩
def MBR_STAT_OUTSIDE : Fld := ⟨0x01900008, 27, 1, 0x0, 0x0, 0x0, 0x0, 0⟩
def MBR_STAT_PIN_HELD : Fld := ⟨0x01900008, 26, 1, 0x0, 0x0, 0x0, 0x0, 0⟩
def MBR_STAT_UNATTENDED : Fld := ⟨0x01900008, 25, 1, 0x0, 0x0, 0x0, 0x0, 0⟩
def MBR_STAT_COMMIT : Fld := ⟨0x01900008, 16, 8, 0x0, 0x0, 0x0, 0x0, 0⟩
def MBR_STAT_REACH : Fld := ⟨0x01900008, 8, 8, 0x0, 0x0, 0x0, 0x0, 0⟩
def MBR_STAT_SITES : Fld := ⟨0x01900008, 0, 8, 0x0, 0x0, 0x0, 0x0, 0⟩
def MBR_CFG_PART_DL : Fld := ⟨0x0190000C, 16, 16, 0xC8, 0x0, 0x0, 0x0, 0⟩
def MBR_CFG_UNREACH_MS : Fld := ⟨0x0190000C, 8, 8, 0x14, 0x0, 0x0, 0x0, 0⟩
def MBR_CFG_REJOIN : Fld := ⟨0x0190000C, 2, 6, 0xA, 0x0, 0x0, 0x0, 0⟩
def MBR_CFG_MINORITY : Fld := ⟨0x0190000C, 1, 1, 0x0, 0x0, 0x0, 0x0, 0⟩
def MBR_CFG_RUN_ON : Fld := ⟨0x0190000C, 0, 1, 0x0, 0x0, 0x0, 0x0, 0⟩
def MBR_HB_CFG_HB_S : Fld := ⟨0x01900010, 0, 12, 0xA, 0x0, 0x0, 0x0, 0⟩
def MBR_HB_LEFT_MS : Fld := ⟨0x01900014, 0, 32, 0x0, 0x0, 0x0, 0x0, 0⟩
def MBR_EVT_SEQ : Fld := ⟨0x01900020, 24, 8, 0x0, 0x0, 0x0, 0x0, 0⟩
def MBR_EVT_HB_LAPSE : Fld := ⟨0x01900020, 4, 1, 0x0, 0x0, 0x0, 0x0, 0⟩
def MBR_EVT_MERGED : Fld := ⟨0x01900020, 3, 1, 0x0, 0x0, 0x0, 0x0, 0⟩
def MBR_EVT_PARTITION : Fld := ⟨0x01900020, 2, 1, 0x0, 0x0, 0x0, 0x0, 0⟩
def MBR_EVT_REFUSED : Fld := ⟨0x01900020, 1, 1, 0x0, 0x0, 0x0, 0x0, 0⟩
def MBR_EVT_FENCED : Fld := ⟨0x01900020, 0, 1, 0x0, 0x0, 0x0, 0x0, 0⟩
def MBR_PIN_LO_EPOCH : Fld := ⟨0x01900028, 0, 32, 0x0, 0x0, 0x0, 0x0, 0⟩
def MBR_PIN_HI_EPOCH : Fld := ⟨0x0190002C, 0, 32, 0x0, 0x0, 0x0, 0x0, 0⟩
def MBR_PIN_MASK_MASK : Fld := ⟨0x01900030, 0, 8, 0x0, 0x0, 0x0, 0x0, 0⟩
def MBR_TOK_LO_TOKENS : Fld := ⟨0x01900038, 0, 32, 0x0, 0x0, 0x0, 0x0, 0⟩
def MBR_TOK_HI_TOKENS : Fld := ⟨0x0190003C, 0, 32, 0x0, 0x0, 0x0, 0x0, 0⟩
def MBR_NEXT_SITES_SITES : Fld := ⟨0x01900040, 0, 8, 0x0, 0x0, 0x0, 0x0, 0⟩
def MBR_ADMIT_SITE : Fld := ⟨0x01900050, 8, 3, 0x0, 0x0, 0x0, 0x0, 0⟩
def MBR_ADMIT_FROM_REMOTE : Fld := ⟨0x01900050, 1, 1, 0x0, 0x0, 0x0, 0x0, 0⟩
def MBR_ADMIT_GO : Fld := ⟨0x01900050, 0, 1, 0x0, 0x0, 0x0, 0x0, 0⟩
def MBR_EOFF_OFFSET : Fld := ⟨0x01900100, 0, 32, 0x0, 0x4, 0x0, 0x0, 0⟩
def MBR_REACH_AGE_MS : Fld := ⟨0x01900140, 16, 16, 0xFFFF, 0x4, 0x0, 0x0, 0⟩
def MBR_REACH_MASK : Fld := ⟨0x01900140, 0, 8, 0x0, 0x4, 0x0, 0x0, 0⟩
def MBR_GW_MEM_MEMBERS : Fld := ⟨0x01900200, 0, 32, 0x0, 0x4, 0x0, 0x0, 0⟩
def MBR_FAB_MEM_MEMBERS : Fld := ⟨0x01910000, 0, 32, 0x0, 0x4, 0x0, 0x0, 0⟩

/-! Block ATT (15_control_persistence_security.md). -/

def ATT_STAT_ID_READY : Fld := ⟨0x01A00000, 31, 1, 0x0, 0x0, 0x0, 0x0, 0⟩
def ATT_STAT_Q_RUN : Fld := ⟨0x01A00000, 30, 1, 0x0, 0x0, 0x0, 0x0, 0⟩
def ATT_STAT_Q_ERR : Fld := ⟨0x01A00000, 29, 1, 0x0, 0x0, 0x0, 0x0, 0⟩
def ATT_PEND_PEND : Fld := ⟨0x01A00004, 0, 1, 0x0, 0x0, 0x0, 0x0, 0⟩
def ATT_Q_BASE_LO_ADDR : Fld := ⟨0x01A00010, 0, 32, 0x0, 0x0, 0x0, 0x0, 0⟩
def ATT_Q_BASE_HI_ADDR : Fld := ⟨0x01A00014, 0, 32, 0x0, 0x0, 0x0, 0x0, 0⟩
def ATT_Q_CFG_EN : Fld := ⟨0x01A00018, 31, 1, 0x0, 0x0, 0x0, 0x0, 0⟩
def ATT_Q_CFG_VEC : Fld := ⟨0x01A00018, 16, 6, 0x4, 0x0, 0x0, 0x0, 0⟩
def ATT_Q_CFG_SIZE : Fld := ⟨0x01A00018, 0, 12, 0x40, 0x0, 0x0, 0x0, 0⟩
def ATT_Q_TAIL_INDEX : Fld := ⟨0x01A0001C, 0, 12, 0x0, 0x0, 0x0, 0x0, 0⟩
def ATT_Q_HEAD_INDEX : Fld := ⟨0x01A00020, 0, 12, 0x0, 0x0, 0x0, 0x0, 0⟩
def ATT_CNT_LO_QUOTES : Fld := ⟨0x01A00028, 0, 32, 0x0, 0x0, 0x0, 0x0, 0⟩
def ATT_CNT_HI_QUOTES : Fld := ⟨0x01A0002C, 0, 32, 0x0, 0x0, 0x0, 0x0, 0⟩
def ATT_IDKEY_KEY : Fld := ⟨0x01A00040, 0, 32, 0x0, 0x4, 0x0, 0x0, 0⟩

/-! Block PST (15_control_persistence_security.md). -/

def PST_STAT_BUSY : Fld := ⟨0x01B00000, 31, 1, 0x0, 0x0, 0x0, 0x0, 0⟩
def PST_STAT_OP : Fld := ⟨0x01B00000, 28, 3, 0x0, 0x0, 0x0, 0x0, 0⟩
def PST_STAT_VALID_A : Fld := ⟨0x01B00000, 27, 1, 0x0, 0x0, 0x0, 0x0, 0⟩
def PST_STAT_VALID_B : Fld := ⟨0x01B00000, 26, 1, 0x0, 0x0, 0x0, 0x0, 0⟩
def PST_STAT_ACTIVE : Fld := ⟨0x01B00000, 25, 1, 0x0, 0x0, 0x0, 0x0, 0⟩
def PST_STAT_JRN_EMPTY : Fld := ⟨0x01B00000, 24, 1, 0x0, 0x0, 0x0, 0x0, 0⟩
def PST_STAT_JRN_QUEUED : Fld := ⟨0x01B00000, 23, 1, 0x0, 0x0, 0x0, 0x0, 0⟩
def PST_STAT_CERT_OK : Fld := ⟨0x01B00000, 22, 1, 0x0, 0x0, 0x0, 0x0, 0⟩
def PST_STAT_REASON : Fld := ⟨0x01B00000, 8, 8, 0x0, 0x0, 0x0, 0x0, 0⟩
def PST_STAT_FREE : Fld := ⟨0x01B00000, 0, 8, 0x0, 0x0, 0x0, 0x0, 0⟩
def PST_PEND_PEND : Fld := ⟨0x01B00004, 0, 1, 0x0, 0x0, 0x0, 0x0, 0⟩
def PST_BANK_CTL_GO : Fld := ⟨0x01B00008, 31, 1, 0x0, 0x0, 0x0, 0x0, 0⟩
def PST_BANK_CTL_FLUSH : Fld := ⟨0x01B00008, 30, 1, 0x0, 0x0, 0x0, 0x0, 0⟩
def PST_BANK_CTL_OP : Fld := ⟨0x01B00008, 4, 3, 0x0, 0x0, 0x0, 0x0, 0⟩
def PST_BANK_CTL_BANK : Fld := ⟨0x01B00008, 0, 1, 0x0, 0x0, 0x0, 0x0, 0⟩
def PST_CERT_CTL_GO : Fld := ⟨0x01B0000C, 31, 1, 0x0, 0x0, 0x0, 0x0, 0⟩
def PST_CERT_CTL_SLOT : Fld := ⟨0x01B0000C, 20, 2, 0x0, 0x0, 0x0, 0x0, 0⟩
def PST_CERT_CTL_LEN : Fld := ⟨0x01B0000C, 0, 19, 0x0, 0x0, 0x0, 0x0, 0⟩
def PST_JRN_SEQ_LO_SEQ : Fld := ⟨0x01B00010, 0, 32, 0x0, 0x0, 0x0, 0x0, 0⟩
def PST_JRN_SEQ_HI_SEQ : Fld := ⟨0x01B00014, 0, 32, 0x0, 0x0, 0x0, 0x0, 0⟩
def PST_EVT_SEQ : Fld := ⟨0x01B00020, 24, 8, 0x0, 0x0, 0x0, 0x0, 0⟩
def PST_EVT_FAIL : Fld := ⟨0x01B00020, 2, 1, 0x0, 0x0, 0x0, 0x0, 0⟩
def PST_EVT_REFUSED : Fld := ⟨0x01B00020, 1, 1, 0x0, 0x0, 0x0, 0x0, 0⟩
def PST_EVT_DONE : Fld := ⟨0x01B00020, 0, 1, 0x0, 0x0, 0x0, 0x0, 0⟩

end Sys2Proof.Machine.F
end

