-- ==== Sys2Proof/Machine/RegMap.lean ====
section
/-! DEFINITION. The register map as lists: the registers that hold a writable field (Table SC-4), in increasing address
order, with which of them the configuration digest covers (R406, Table CTL-3), and the event registers (R405). -/

namespace Sys2Proof.Machine

/-- How a register takes a write (R403): whole, as the LO half of a pair, or as the HI half that commits both. -/
inductive Half where
  | whole | lo | hi
deriving DecidableEq, Repr

/-- A register that holds writable fields: the address of its first instance, the counts and strides of its indices
(largest stride first), its writable fields, whether the digest covers it, and whether it is half of a pair. -/
structure RegDesc where
  base : Nat
  dims : List (Nat × Nat)
  fields : List Fld
  covered : Bool
  half : Half
deriving DecidableEq, Repr

/-- An event register (R405): the address of its first instance, its indices, and its bits. -/
structure EvtDesc where
  base : Nat
  dims : List (Nat × Nat)
  bits : List Fld
deriving DecidableEq, Repr

/-- Writable registers of block GEN. -/
def regsGen : List RegDesc :=
  [⟨0x00000010, [], [F.GEN_STATUS_MODE_MODE], false, .whole⟩,
   ⟨0x00000020, [], [F.GEN_DIGEST_REF_CRC], false, .whole⟩,
   ⟨0x00000100, [(28, 0x4)], [F.GEN_IRQ_MAP_EN, F.GEN_IRQ_MAP_VEC], false, .whole⟩]

/-- Writable registers of block OTP. -/
def regsOtp : List RegDesc :=
  [⟨0x00100010, [], [F.OTP_KEY_CTL_INDEX], false, .whole⟩,
   ⟨0x00100180, [(8, 0x4)], [F.OTP_KEY_DATA_DATA], false, .whole⟩]

/-- Writable registers of block IMG. -/
def regsImg : List RegDesc :=
  [⟨0x00200040, [], [F.IMG_LEASE_CFG_SEC], true, .whole⟩,
   ⟨0x00200050, [], [F.IMG_DMA_ADDR_LO_ADDR], false, .lo⟩,
   ⟨0x00200054, [], [F.IMG_DMA_ADDR_HI_ADDR], false, .hi⟩,
   ⟨0x00200058, [], [F.IMG_DMA_LEN_LEN], false, .whole⟩,
   ⟨0x0020005C, [], [F.IMG_DMA_CTL_SLOT], false, .whole⟩,
   ⟨0x00200070, [], [F.IMG_LOAD_SLOT, F.IMG_LOAD_APPLY_AT_EN], false, .whole⟩,
   ⟨0x00200078, [], [F.IMG_APPLY_AT_LO_EPOCH], false, .lo⟩,
   ⟨0x0020007C, [], [F.IMG_APPLY_AT_HI_EPOCH], false, .hi⟩]

/-- Writable registers of block SEQ. -/
def regsSeq : List RegDesc :=
  [⟨0x00300008, [], [F.SEQ_CFG_AUTO_RESTART, F.SEQ_CFG_DL_CANCEL], true, .whole⟩,
   ⟨0x0030000C, [], [F.SEQ_PHASE_DL_US], true, .whole⟩,
   ⟨0x00300010, [], [F.SEQ_PHASE_MASK_LO_MASK], false, .lo⟩,
   ⟨0x00300014, [], [F.SEQ_PHASE_MASK_HI_MASK], false, .hi⟩,
   ⟨0x00300018, [], [F.SEQ_PHASE_REQ_PHASE], false, .whole⟩,
   ⟨0x0030001C, [], [F.SEQ_RUN_ENTRY], false, .whole⟩,
   ⟨0x00300020, [], [F.SEQ_RESTART_REGION], false, .whole⟩]

/-- Writable registers of block QRN. -/
def regsQrn : List RegDesc :=
  [⟨0x00400010, [(4, 0x100000)], [F.QRN_TEMPO_CFG_LOW_MTS], true, .whole⟩,
   ⟨0x00400014, [(4, 0x100000)], [F.QRN_RETIRE_CFG_SPARE_CHECK, F.QRN_RETIRE_CFG_CE_LIMIT], true, .whole⟩]

/-- Writable registers of block UPD. -/
def regsUpd : List RegDesc :=
  [⟨0x00800020, [], [F.UPD_ETA_VALUE], true, .whole⟩,
   ⟨0x00800024, [], [F.UPD_ETA_VEC_VALUE], true, .whole⟩,
   ⟨0x00800028, [], [F.UPD_MU_VALUE], true, .whole⟩,
   ⟨0x0080002C, [], [F.UPD_WD_VALUE], true, .whole⟩]

/-- Writable registers of block MEM. -/
def regsMem : List RegDesc :=
  [⟨0x00900008, [], [F.MEM_SCRUB_CFG_HOURS], true, .whole⟩]

/-- Writable registers of block PND. -/
def regsPnd : List RegDesc :=
  [⟨0x00A00008, [], [F.PND_CFG_AUTO_RETRAIN, F.PND_CFG_REQ_TO_US], true, .whole⟩]

/-- Writable registers of block HOP. -/
def regsHop : List RegDesc :=
  [⟨0x00B01000, [(12, 0x100)], [F.HOP_POOL_CFG_AMBER, F.HOP_POOL_CFG_RED, F.HOP_POOL_CFG_BLACK], true, .whole⟩]

/-- Writable registers of block FAB. -/
def regsFab : List RegDesc :=
  [⟨0x00C00008, [], [F.FAB_CFG_DISC_LIMIT, F.FAB_CFG_RETRIES, F.FAB_CFG_AUTO_RETRAIN], true, .whole⟩,
   ⟨0x00C0000C, [], [F.FAB_TIMERS_OP_TO_MS, F.FAB_TIMERS_HOP_LIFE_US], true, .whole⟩,
   ⟨0x00C00010, [], [F.FAB_ARB_RSP, F.FAB_ARB_COL, F.FAB_ARB_FWD, F.FAB_ARB_REQ], true, .whole⟩]

/-- Writable registers of block RTE. -/
def regsRte : List RegDesc :=
  [⟨0x00D00000, [], [F.RTE_SEL_SEL], true, .whole⟩,
   ⟨0x00D00008, [], [F.RTE_VALID_VALID_B, F.RTE_VALID_VALID_A], true, .whole⟩,
   ⟨0x00D00010, [], [F.RTE_WIN_CTL_VERSION, F.RTE_WIN_CTL_PAGE], false, .whole⟩,
   ⟨0x00D40000, [(65536, 0x4)], [F.RTE_UC_ENTRY], false, .whole⟩,
   ⟨0x00D80000, [(4096, 0x4)], [F.RTE_MC_ENTRY], false, .whole⟩]

/-- Writable registers of block COL. -/
def regsCol : List RegDesc :=
  [⟨0x00E00008, [], [F.COL_CFG_LATE_EN, F.COL_CFG_MAX_SLOTS_DEF], true, .whole⟩,
   ⟨0x00E00010, [], [F.COL_CANCEL_LO_VALUE], false, .lo⟩,
   ⟨0x00E00014, [], [F.COL_CANCEL_HI_VALUE], false, .hi⟩]

/-- Writable registers of block LHL. -/
def regsLhl : List RegDesc :=
  [⟨0x00F00008, [], [F.LHL_CFG_ALIGN_TOL], true, .whole⟩,
   ⟨0x00F0100C, [(4, 0x100)], [F.LHL_THR_SF_SF_BITS], true, .whole⟩,
   ⟨0x00F01010, [(4, 0x100)], [F.LHL_THR_SD_DEG_M, F.LHL_THR_SD_SD_BITS], true, .whole⟩,
   ⟨0x00F01014, [(4, 0x100)], [F.LHL_EXPECT_TIM_SF, F.LHL_EXPECT_SITE, F.LHL_EXPECT_GW], true, .whole⟩,
   ⟨0x00F02000, [(2, 0x100)], [F.LHL_PG_CFG_REVERT, F.LHL_PG_CFG_HOLDOFF, F.LHL_PG_CFG_WTR_S], true, .whole⟩,
   ⟨0x00F02004, [(2, 0x100)], [F.LHL_PG_CMD_CMD], true, .whole⟩]

/-- Writable registers of block TSI. -/
def regsTsi : List RegDesc :=
  [⟨0x01000100, [(4, 0x10)], [F.TSI_SWAP_AT_LO_FNUM], false, .lo⟩,
   ⟨0x01000104, [(4, 0x10)], [F.TSI_SWAP_AT_HI_FNUM], false, .hi⟩,
   ⟨0x01010000, [(4, 0x100), (64, 0x4)], [F.TSI_TXCM_VALID, F.TSI_TXCM_FLOW], false, .whole⟩,
   ⟨0x01020000, [(4, 0x100), (64, 0x4)], [F.TSI_RXCM_VALID, F.TSI_RXCM_FLOW], false, .whole⟩]

/-- Writable registers of block MLR. -/
def regsMlr : List RegDesc :=
  [⟨0x01100008, [], [F.MLR_CFG_PATH_US, F.MLR_CFG_MARGIN_US], true, .whole⟩]

/-- Writable registers of block CMP. -/
def regsCmp : List RegDesc :=
  [⟨0x01200008, [], [F.CMP_CFG_MEM_EN, F.CMP_CFG_LINE_EN], true, .whole⟩]

/-- Writable registers of block CRY. -/
def regsCry : List RegDesc :=
  [⟨0x01300008, [], [F.CRY_LEASE_CFG_SEC], true, .whole⟩,
   ⟨0x01300030, [], [F.CRY_LROOT_CTL_RESET, F.CRY_LROOT_CTL_INDEX], false, .whole⟩,
   ⟨0x01300040, [(8, 0x4)], [F.CRY_LROOT_KEY_KEY], false, .whole⟩,
   ⟨0x01300100, [], [F.CRY_HCTL_SLOT, F.CRY_HCTL_BLOCKS], false, .whole⟩,
   ⟨0x01300200, [(64, 0x4)], [F.CRY_HIN_DATA], false, .whole⟩,
   ⟨0x01301000, [(64, 0x40)], [F.CRY_KSLOT_CFG_USE, F.CRY_KSLOT_CFG_ROOT], true, .whole⟩,
   ⟨0x01301004, [(64, 0x40)], [F.CRY_KSLOT_EPOCH_KEPOCH_MIN], true, .whole⟩,
   ⟨0x01301010, [(64, 0x40), (8, 0x4)], [F.CRY_KSLOT_LABEL_LABEL], true, .whole⟩]

/-- Writable registers of block TIM. -/
def regsTim : List RegDesc :=
  [⟨0x01400008, [], [F.TIM_CFG_HOLD_S], true, .whole⟩,
   ⟨0x01400030, [], [F.TIM_SET_SEC_LO_VALUE], false, .lo⟩,
   ⟨0x01400034, [], [F.TIM_SET_SEC_HI_VALUE], false, .hi⟩,
   ⟨0x01400038, [], [F.TIM_SET_NS_VALUE], false, .whole⟩,
   ⟨0x01400040, [], [F.TIM_INC_LO_INC], false, .lo⟩,
   ⟨0x01400044, [], [F.TIM_INC_HI_INC], false, .hi⟩,
   ⟨0x01400048, [], [F.TIM_ADJ_NS], false, .whole⟩,
   ⟨0x01400060, [], [F.TIM_PPS_CFG_OUT_EN, F.TIM_PPS_CFG_W_MS], true, .whole⟩,
   ⟨0x01400064, [], [F.TIM_PPS_OFS_NS], true, .whole⟩,
   ⟨0x01400100, [(20, 0x4)], [F.TIM_PORT_CORR_TX_PS, F.TIM_PORT_CORR_RX_PS], true, .whole⟩,
   ⟨0x01400200, [(4, 0x4)], [F.TIM_PTP_FWD_HOST, F.TIM_PTP_FWD_PORTS], true, .whole⟩,
   ⟨0x01400210, [], [F.TIM_PTP_TXCTL_ONE_STEP, F.TIM_PTP_TXCTL_PORT, F.TIM_PTP_TXCTL_LEN], false, .whole⟩,
   ⟨0x01400300, [(64, 0x4)], [F.TIM_PTP_TXBUF_DATA], false, .whole⟩,
   ⟨0x01401000, [(16, 0x20)], [F.TIM_FCAP_CFG_OP_ID], false, .whole⟩]

/-- Writable registers of block SLU. -/
def regsSlu : List RegDesc :=
  [⟨0x01500008, [], [F.SLU_CFG_HIST_EN, F.SLU_CFG_AMBER_Q], true, .whole⟩,
   ⟨0x01501000, [(4, 0x100)], [F.SLU_PORT_CFG_COMPAT800, F.SLU_PORT_CFG_COMPAT_FILL], true, .whole⟩,
   ⟨0x01501010, [(4, 0x100)], [F.SLU_GBASE_LO_BASE], false, .lo⟩,
   ⟨0x01501014, [(4, 0x100)], [F.SLU_GBASE_HI_BASE], false, .hi⟩,
   ⟨0x01501018, [(4, 0x100)], [F.SLU_GCYCLE_VALUE], false, .whole⟩,
   ⟨0x0150101C, [(4, 0x100)], [F.SLU_GENTRIES_VALUE], false, .whole⟩,
   ⟨0x01510000, [(4, 0x800), (256, 0x8)], [F.SLU_GCL_GATES_VALUE], false, .whole⟩,
   ⟨0x01510004, [(4, 0x800), (256, 0x8)], [F.SLU_GCL_DUR_VALUE], false, .whole⟩,
   ⟨0x01540000, [(4, 0x800), (32, 0x40)], [F.SLU_Q_SHAPE_EN], true, .whole⟩,
   ⟨0x01540004, [(4, 0x800), (32, 0x40)], [F.SLU_Q_IDLE_MBS], true, .whole⟩,
   ⟨0x01540008, [(4, 0x800), (32, 0x40)], [F.SLU_Q_HI_BYTES], true, .whole⟩,
   ⟨0x0154000C, [(4, 0x800), (32, 0x40)], [F.SLU_Q_LO_BYTES], true, .whole⟩,
   ⟨0x01550000, [(256, 0x20)], [F.SLU_FLOW_CFG_MODE, F.SLU_FLOW_CFG_YQUEUE, F.SLU_FLOW_CFG_PRECOL], true, .whole⟩,
   ⟨0x01550004, [(256, 0x20)], [F.SLU_FLOW_CIR_VALUE], true, .whole⟩,
   ⟨0x01550008, [(256, 0x20)], [F.SLU_FLOW_CBS_VALUE], true, .whole⟩,
   ⟨0x0155000C, [(256, 0x20)], [F.SLU_FLOW_PIR_VALUE], true, .whole⟩,
   ⟨0x01550010, [(256, 0x20)], [F.SLU_FLOW_PBS_VALUE], true, .whole⟩]

/-- Writable registers of block OPT. -/
def regsOpt : List RegDesc :=
  [⟨0x01600008, [], [F.OPT_CFG_TREND_MIN, F.OPT_CFG_AUTO_CAL, F.OPT_CFG_AUTO_RETIRE, F.OPT_CFG_AUTO_MIRROR], true, .whole⟩,
   ⟨0x0160000C, [], [F.OPT_CAL_CFG_CAL_S], true, .whole⟩,
   ⟨0x01600018, [], [F.OPT_COMMISSION_PORT], false, .whole⟩,
   ⟨0x0160001C, [], [F.OPT_LASER_RESTORE_LASER], false, .whole⟩,
   ⟨0x01600040, [(7, 0x4)], [F.OPT_LASER_EN_EN], true, .whole⟩]

/-- Writable registers of block FLT. -/
def regsFlt : List RegDesc :=
  [⟨0x01700008, [], [F.FLT_CFG_CE_EN, F.FLT_CFG_CE_VEC, F.FLT_CFG_UC_VEC, F.FLT_CFG_FA_VEC], true, .whole⟩,
   ⟨0x0170000C, [], [F.FLT_ERRN_CTL_ERRN_HOLD], true, .whole⟩,
   ⟨0x01700120, [], [F.FLT_FORCE_LOC_LOC], false, .whole⟩,
   ⟨0x01700160, [(8, 0x4)], [F.FLT_ERRN_SEL_SEL], true, .whole⟩,
   ⟨0x01700200, [], [F.FLT_ST_CTL_DESTROY, F.FLT_ST_CTL_KIND, F.FLT_ST_CTL_TARGET], false, .whole⟩,
   ⟨0x01700204, [], [F.FLT_ST_DL_US], false, .whole⟩]

/-- Writable registers of block MBR. -/
def regsMbr : List RegDesc :=
  [⟨0x01900000, [], [F.MBR_EPOCH_EPOCH], true, .whole⟩,
   ⟨0x0190000C, [], [F.MBR_CFG_PART_DL, F.MBR_CFG_UNREACH_MS, F.MBR_CFG_REJOIN, F.MBR_CFG_MINORITY, F.MBR_CFG_RUN_ON], true, .whole⟩,
   ⟨0x01900010, [], [F.MBR_HB_CFG_HB_S], true, .whole⟩,
   ⟨0x01900040, [], [F.MBR_NEXT_SITES_SITES], false, .whole⟩,
   ⟨0x01900050, [], [F.MBR_ADMIT_SITE, F.MBR_ADMIT_FROM_REMOTE], false, .whole⟩,
   ⟨0x01900200, [(32, 0x4)], [F.MBR_GW_MEM_MEMBERS], false, .whole⟩,
   ⟨0x01910000, [(32768, 0x4)], [F.MBR_FAB_MEM_MEMBERS], false, .whole⟩]

/-- Writable registers of block ATT. -/
def regsAtt : List RegDesc :=
  [⟨0x01A00010, [], [F.ATT_Q_BASE_LO_ADDR], true, .lo⟩,
   ⟨0x01A00014, [], [F.ATT_Q_BASE_HI_ADDR], true, .hi⟩,
   ⟨0x01A00018, [], [F.ATT_Q_CFG_EN, F.ATT_Q_CFG_VEC, F.ATT_Q_CFG_SIZE], true, .whole⟩,
   ⟨0x01A0001C, [], [F.ATT_Q_TAIL_INDEX], false, .whole⟩]

/-- Writable registers of block PST. -/
def regsPst : List RegDesc :=
  [⟨0x01B00008, [], [F.PST_BANK_CTL_OP, F.PST_BANK_CTL_BANK], false, .whole⟩,
   ⟨0x01B0000C, [], [F.PST_CERT_CTL_SLOT, F.PST_CERT_CTL_LEN], false, .whole⟩]

/-- The register map: every register with a writable field. -/
def regMap : List RegDesc :=
  regsGen ++ regsOtp ++ regsImg ++ regsSeq ++ regsQrn ++ regsUpd ++ regsMem ++ regsPnd ++ regsHop ++ regsFab ++ regsRte ++ regsCol ++ regsLhl ++ regsTsi ++ regsMlr ++ regsCmp ++ regsCry ++ regsTim ++ regsSlu ++ regsOpt ++ regsFlt ++ regsMbr ++ regsAtt ++ regsPst

/-- The event registers. -/
def evtMap : List EvtDesc :=
  [⟨0x00000030, [], [F.GEN_EVT_POST_DROP, F.GEN_EVT_TMR, F.GEN_EVT_DIGEST]⟩,
   ⟨0x00200080, [], [F.IMG_EVT_BOOT_FALLBACK, F.IMG_EVT_LEASE_EXPIRED, F.IMG_EVT_HELD, F.IMG_EVT_APPLIED, F.IMG_EVT_REJECTED]⟩,
   ⟨0x00300030, [], [F.SEQ_EVT_RESTARTED, F.SEQ_EVT_PHASE_REFUSED, F.SEQ_EVT_DESC_BAD, F.SEQ_EVT_DL_MISS]⟩,
   ⟨0x00410018, [(4, 0x100000), (16, 0x1000)], [F.QRN_EVT_NO_BLOCKS, F.QRN_EVT_STOPPED, F.QRN_EVT_SPARE_GONE, F.QRN_EVT_DEGRADED, F.QRN_EVT_RETIRED, F.QRN_EVT_LOW_RATE]⟩,
   ⟨0x00800110, [], [F.UPD_EVT_MAT_FAIL, F.UPD_EVT_NONFINITE, F.UPD_EVT_PARTNER_WAIT, F.UPD_EVT_SPN_FAIL]⟩,
   ⟨0x00900010, [], [F.MEM_EVT_ADDR_BAD, F.MEM_EVT_SCRUB_UC, F.MEM_EVT_POISONED]⟩,
   ⟨0x00A00010, [], [F.PND_EVT_LOST, F.PND_EVT_DOWN, F.PND_EVT_IDENT_BAD, F.PND_EVT_TIMEOUT]⟩,
   ⟨0x00B00010, [], [F.HOP_EVT_BROKEN, F.HOP_EVT_BLACK, F.HOP_EVT_RED]⟩,
   ⟨0x00C00020, [], [F.FAB_EVT_OP_FAIL, F.FAB_EVT_DISC_RATE, F.FAB_EVT_IDENT_BAD, F.FAB_EVT_PORT_DOWN]⟩,
   ⟨0x00D00014, [], [F.RTE_EVT_WIN_REFUSED]⟩,
   ⟨0x00E00030, [], [F.COL_EVT_CANCELLED, F.COL_EVT_TALLY_SHORT, F.COL_EVT_RECLAIM, F.COL_EVT_CHUNK_FAIL]⟩,
   ⟨0x00F00010, [], [F.LHL_EVT_PM_LATCH, F.LHL_EVT_PROT_DOWN, F.LHL_EVT_PROT_SWITCH, F.LHL_EVT_SD, F.LHL_EVT_SF]⟩,
   ⟨0x01000010, [], [F.TSI_EVT_RX_UNREADY, F.TSI_EVT_LATE, F.TSI_EVT_WIN_REFUSED, F.TSI_EVT_SWAPPED]⟩,
   ⟨0x01100010, [], [F.MLR_EVT_RETAIN_LOST, F.MLR_EVT_THROTTLE, F.MLR_EVT_PATH_CHANGE, F.MLR_EVT_FLOW_FAIL]⟩,
   ⟨0x01200010, [], [F.CMP_EVT_PARTIAL, F.CMP_EVT_SHAPE_LINE, F.CMP_EVT_SHAPE_MEM]⟩,
   ⟨0x01300010, [], [F.CRY_EVT_LEASE, F.CRY_EVT_ENTROPY, F.CRY_EVT_EXHAUSTED, F.CRY_EVT_REJECT, F.CRY_EVT_ABSENT]⟩,
   ⟨0x01400050, [], [F.TIM_EVT_PPS_IN_LOST, F.TIM_EVT_REFUSED, F.TIM_EVT_TU_SKEW, F.TIM_EVT_TIME_STEP, F.TIM_EVT_REFCLK_LOSS]⟩,
   ⟨0x01500010, [], [F.SLU_EVT_SWITCHED, F.SLU_EVT_GATE_REFUSED]⟩,
   ⟨0x01600010, [], [F.OPT_EVT_LANE_LOSS, F.OPT_EVT_RELOCK_FAIL, F.OPT_EVT_RETIRED, F.OPT_EVT_HANDOVER, F.OPT_EVT_WRONG_LOCK, F.OPT_EVT_FADE]⟩,
   ⟨0x01700010, [], [F.FLT_EVT_FATAL, F.FLT_EVT_UC, F.FLT_EVT_CE]⟩,
   ⟨0x01800010, [], [F.PWR_EVT_RAIL_BAD, F.PWR_EVT_THERM, F.PWR_EVT_RAIL_WARN, F.PWR_EVT_DIP]⟩,
   ⟨0x01900020, [], [F.MBR_EVT_HB_LAPSE, F.MBR_EVT_MERGED, F.MBR_EVT_PARTITION, F.MBR_EVT_REFUSED, F.MBR_EVT_FENCED]⟩,
   ⟨0x01B00020, [], [F.PST_EVT_FAIL, F.PST_EVT_REFUSED, F.PST_EVT_DONE]⟩]

/-- Whether an offset from a register's first instance is the offset of an instance (R8). -/
def onGrid : List (Nat × Nat) → Nat → Bool
  | [], o => o == 0
  | (n, st) :: t, o => decide (o / st < n) && onGrid t (o % st)

/-- The offsets of every instance, in increasing order. -/
def gridOffsets : List (Nat × Nat) → List Nat
  | [] => [0]
  | (n, st) :: t => (List.range n).flatMap fun i => (gridOffsets t).map fun o => i * st + o

/-- The register whose instance stands at an address. -/
def regAt (addr : Nat) : Option RegDesc :=
  regMap.find? fun r => decide (r.base ≤ addr) && onGrid r.dims (addr - r.base)

/-- The event register that stands at an address. -/
def evtAt (addr : Nat) : Option EvtDesc :=
  evtMap.find? fun r => decide (r.base ≤ addr) && onGrid r.dims (addr - r.base)

/-- A field moved to the instance at an address. -/
def Fld.atAddr (f : Fld) (addr : Nat) : Fld := { f with s1 := 0, s2 := 0, s3 := 0, off := addr - f.base }

end Sys2Proof.Machine
end

