-- ==== Sys2Proof/Config.lean ====
section
/-! DEFINITION. What the spec leaves to the part or open: opaque constants, of which no proof can know a value.
Each is named in the assumption log. -/

namespace Sys2Proof.Config

/-- Bytes drawn from the on-chip entropy source (R305): number of the draw and bytes asked for. -/
opaque entropy : Nat → Nat → List Byte

/-- What a host DMA read of the loader or the quote queue returns (R118, R422): number of the read, host address,
bytes. -/
opaque hostRead : Nat → Nat → Nat → List Byte

/-- A value the spec leaves open, numbered afresh each time one is taken. -/
opaque freeValue : Nat → Nat

end Sys2Proof.Config
end

