-- ==== Sys2Proof/Machine/State.lean ====
section
/-! DEFINITION. The state of the block as plain data: the register file at the grain of fields, the device memory, and
what each unit holds besides its registers. -/

namespace Sys2Proof.Machine

/-- Fault classes (R368). -/
inductive FClass where
  | ce | uc | fa
deriving DecidableEq, Repr

/-- One fault record (Table FLT-1). -/
structure FaultRec where
  loc : Nat
  source : Nat
  cls : FClass
  forced : Bool
  journalled : Bool
  rseq : Nat
  desc : Nat
  info : Nat
  time : Nat
  info2 : Nat
deriving DecidableEq, Repr

/-- The self-test that FLT_ST_CTL asked for (R395, R396): its kind (1 region, 2 stack), target, and whether it runs. -/
structure SelfTest where
  kind : Nat
  target : Nat
  running : Bool
deriving DecidableEq, Repr

/-- The fault collector and the Brake wheel (R369–R379): the next record number, the ring of the last 256 records
(newest first) and how many were ever made, the first records of each class (key: class) and of each level and class
(key: 3 × level + class), the armed sources (R372), the UC records journalled in this second (R371), the 20 µs
minimum of ERR_N and a release that waits for its end (R379), the self-test asked for, and the MSI-X vectors sent
(newest first, R400). -/
structure FltSt where
  rseq : Nat
  made : Nat
  ring : List FaultRec
  first : Tab FaultRec
  levelFirst : Tab FaultRec
  armed : Marks
  ucThisSecond : Nat
  errnMin : Bool
  errnRelease : Bool
  test : Option SelfTest
  sent : List Nat
deriving DecidableEq, Repr

/-- What takes optical ports down through the link-fault path (R442). -/
inductive LinkCause where
  | hubLink | laneRail | vp18 | laser | trip | refclk
deriving DecidableEq, Repr

/-- Supplies and temperatures (R381–R387): the VQ monitors below 0.56 V, the lowest reading of the dip, whether it crossed
the floor, the die of that reading, the 1 ms that follows recovery, the monitors with the over-voltage warning raised, the
rail monitors (16 × rail + monitor) below their warning and fault levels, the sensors at each temperature level, and the
causes that hold photonic dies down. -/
structure PowerSt where
  vqBelow : Marks
  dipLow : Nat
  dipFloor : Bool
  dipDie : Nat
  vqTimer : Bool
  vqOver : Marks
  railWarned : Marks
  railBad : Marks
  thermWarn : Marks
  thermHot : Marks
  thermTrip : Marks
  causes : List (LinkCause × Nat)
deriving DecidableEq, Repr

/-- The PCIe function (R388, R392, R399, R421): PERST_N low, controller ready, Bus Master Enable, the last DOE
answer and the last SMBus word. -/
structure PcieSt where
  perst : Bool
  ready : Bool
  busMaster : Bool
  doeAnswer : List Byte
  smbWord : Nat
deriving DecidableEq, Repr

/-- Die-to-die links (R32, R33): replays of the flit in progress, failed links and spare wires assigned, by unit code. -/
structure LinkSt where
  replays : Tab Nat
  failed : Marks
  spares : Tab Nat
deriving DecidableEq, Repr

/-- A posted write on its way (R404): its block, address and value. -/
structure Posted where
  block : Nat
  addr : Nat
  value : Nat
deriving DecidableEq, Repr

/-- One OTP record group (R410): its good generations (number and data), the generations used up, and, for group 6,
the entries programmed in the current one (R411). -/
structure OtpGroup where
  gen : Nat
  used : Nat
  data : List Byte
deriving DecidableEq, Repr

/-- An OTP write that is being programmed (R410): group, data, and what it was for. -/
structure OtpWrite where
  group : Nat
  data : List Byte
deriving DecidableEq, Repr

/-- The OTP array (Table CTL-5, R411): groups 0–7, the anti-rollback entries programmed (values in order, 16 to a
generation), whether group data has been loaded (R392), and the write in progress. -/
structure OtpSt where
  groups : Tab OtpGroup
  arb : List Nat
  arbUsed : Nat
  loaded : Bool
  write : Option OtpWrite
deriving DecidableEq, Repr

/-- A snapshot of the journal (Table CTL-9). -/
structure Snapshot where
  seq : Nat
  mbrEpoch : Nat
  activeBank : Nat
  pinHeld : Bool
  outerEpoch : Nat
  anchorMask : Nat
  commitMask : Nat
  pinEpoch : Nat
  pinMask : Nat
  tokens : Nat
  eoff : List Nat
  kepochTx : Tab Nat
  kepochMin : Tab Nat
  retiredBlocks : Marks
  retiredLasers : Marks
  commPowers : Tab Nat
  commPorts : Nat
  history : List FaultRec
  lifeUc : Nat
  lifeFa : Nat
  lifeDrop : Nat
deriving DecidableEq, Repr

/-- One written place of a journal bank (R418, R419): a write that did not read back, or the 8,192 bytes it holds. -/
inductive Place where
  | bad
  | data (bytes : List Byte)
deriving DecidableEq, Repr

/-- Boot store operations (Table CTL-8). -/
inductive BootOp where
  | writeRunning (bank : Nat)
  | activate (bank : Nat)
  | verify (bank : Nat)
  | writeCert (data : List Byte)
deriving DecidableEq, Repr

/-- The boot store and the journal (R415–R419): the two image banks, the certificate area, the two journal banks (128
places each), the current bank, the bank being erased, whether a snapshot waits for an erase, the retries spent, the
fault history and lifetime counts, the next snapshot number, and the operation in progress. -/
structure BootSt where
  bankA : List Byte
  bankB : List Byte
  cert : List Byte
  j0 : Tab Place
  j1 : Tab Place
  current : Nat
  erasing : Option Nat
  retries : Nat
  history : List FaultRec
  lifeUc : Nat
  lifeFa : Nat
  lifeDrop : Nat
  nextSeq : Nat
  flushDue : Bool
  op : Option BootOp
  opTries : Nat
deriving DecidableEq, Repr

/-- The configuration digest, the triple fields and attestation (R406–R408, R413–R422): whether the reference has been
written and not yet compared, the copies of a field that differ (by field, the three values), draws of the entropy source,
the seeds of the identity key, BOOT_NONCE, the next quote sequence number, and the quotes written to host memory (address
and bytes, newest first). -/
structure GenSt where
  refWritten : Bool
  copies : Tab (Nat × Nat × Nat)
  draws : Nat
  idSeed : List Byte
  bootNonce : List Byte
  quoteSeq : Nat
  quotes : List (Nat × List Byte)
deriving DecidableEq, Repr

/-- A descriptor in a queue (R126–R131): its serial number, its 64 bytes, its effective item and threshold, the time
of its dispatch, its deadline, and the region base registers as its repetition found them. -/
structure QEntry where
  sid : Nat
  raw : List Byte
  item : Nat
  thr : Nat
  disp : Nat
  deadline : Option Nat
  late : Bool
  bases : List Nat
deriving DecidableEq, Repr

/-- A descriptor in progress: its queue and entry, the array or engine it holds (for an Apply on Spindle, 1 more than its
tensor; for any other work of Spindle 0), and whether it has failed. -/
structure Flight where
  queue : QueueId
  entry : QEntry
  unit : Nat
  failed : Bool
  done : Bool
deriving DecidableEq, Repr

/-- The tile, or the 64 × 64 subtile of one (its row and column), that an array accumulates (R51–R53, R70, R75): its
descriptor, the tile's index, the attempt, the failed checks of the first attempt, whether it has read a poisoned word, the
failures that armed sources cause in it, the blocks they have failed (R372), and the preload that its accumulators took in. -/
structure ArrayRun where
  sid : Nat
  tile : Nat
  part : Option (Nat × Nat)
  attempt : Nat
  fails : List BlockFail
  poison : Bool
  forced : List BlockFail
  marked : Marks
  pre : List (List F32)
deriving DecidableEq, Repr

/-- A result that waits in its accumulators to drain (R52): its descriptor and tile, whether it is written as poisoned, and
the address and bytes of each row. -/
structure TileOut where
  sid : Nat
  tile : Nat
  poison : Bool
  rows : List (Nat × List Byte)
deriving DecidableEq, Repr

/-- How far the tiles of a descriptor have been given out: the tile at hand, the subtiles of it given out, and whether it is
divided (R75). -/
structure TileWork where
  tile : Nat
  sub : Nat
  split : Bool
deriving DecidableEq, Repr

/-- A block whose retirement waits for its array's tile to end (R71): the source, whether an armed source caused it, and for
TILE_FAIL the descriptor, the tile and INFO2 of its record. -/
structure DueBlock where
  block : Nat
  source : Nat
  force : Bool
  desc : Nat
  tile : Nat
  info2 : Nat
deriving DecidableEq, Repr

/-- What asks a region to drain (R125): a switch to phase n, asked by a PHASE descriptor (its serial number) or by the
station; a new image's phase n; or a self-test. -/
inductive DrainReq where
  | phase (n : Nat) (asker : Option Nat)
  | image (n : Nat)
  | test
deriving DecidableEq, Repr

/-- The Quern arrays (R47–R79): retired blocks, blocks that passed a self-test since, blocks whose retirement waits for
their tile to end (in order of detection), RETRY_OK records of this second by block, the physical block at each logical
position of a region, the tiles being accumulated and those that wait to drain, oldest first (32 × region + array, or + 16 +
position for a 64 × 64 array that R75 makes), how far the tiles of each TILE in progress have been given out (by serial
number), and the Tempo run counts (windows below, windows at or above the threshold)
with the regions whose low-rate event is not to be raised again (R43). -/
structure QuernSt where
  retired : Marks
  tested : Marks
  due : List DueBlock
  retryOk : Tab Nat
  pos : Tab (List (Option Nat))
  runs : Tab ArrayRun
  outs : Tab (List TileOut)
  work : Tab TileWork
  lowRun : Tab Nat
  highRun : Tab Nat
  lowRaised : Marks
deriving DecidableEq, Repr

/-- The schedulers (R124–R134): the queues (key: Table of `qKey`), the descriptors in progress, the next serial number,
region counters and their poison (256 × region + counter), region base registers (8 × region + base), start times of
work items, the step-open time, the drain requests of each region (first requester first), and a DISPATCH or PHASE that
is under way (entry and how far it has come), and the ENTRY list that a region still has to be given, either when it
next becomes IDLE (entryDue) or as its queues take it (feeds: the next descriptor's reference), and the PROGRAM entries that
wait for ADMIT_HOLD to end (R135). -/
structure SchedSt where
  queues : Tab (List QEntry)
  flights : List Flight
  nextSid : Nat
  rctr : Tab Nat
  rpoison : Marks
  bases : Tab Nat
  items : Tab Nat
  stepOpen : Option Nat
  drains : Tab (List DrainReq)
  dispatched : Tab Nat
  entryDue : Tab Nat
  feeds : Tab Nat
  programs : List Nat
deriving DecidableEq, Repr

/-- Reduction registers (R98): the piece partials of SSQ by register and region (64 × register + region, oldest
first), the largest magnitude of AMAX and the flag of FIN by register, and the region that set the flag. -/
structure RedSt where
  ssq : Tab (List F32)
  amax : Tab F32
  flags : Marks
  finAt : Tab Nat
deriving DecidableEq, Repr

/-- The outer step (R19–R28, R86, R102): how many owned tensors have completed each phase, whether the step is
abandoned, the matrices found non-finite and the matrices failed in this step, the tensors whose θ or M Apply has
rewritten, the step-latched tuning values (η, η_v, μ, λ), whether the partner holds the committed version, whether
the next replica stream carries the full state, whether the step's first Gather contribution has been accepted (R218), the
network time at which the matrix in Orthogonalise entered it (R104), and, after an abandoned step, the tensors that are
still to be restored with the ranges of the owned state that have been (R282). -/
structure StepSt where
  gathered : Nat
  exchanged : Nat
  orthDone : Nat
  abandoned : Bool
  nonfinite : List Nat
  failed : List Nat
  rewritten : List Nat
  latched : List F32
  partnerHeld : Bool
  fullStream : Bool
  opened : Bool
  orthSince : Nat
  restore : List Nat
  back : List (Nat × Nat)
deriving DecidableEq, Repr

/-- The loader (R117–R121): the image running, the image held in NEXT with its apply-at epoch, the image being checked
with its apply-at epoch and its slot, the slots whose lease ran out, host DMA reads made and the slot the DMA fills,
whether a first image has taken effect, the regions that have still to switch to the image being applied, how far each open
slot has been written, and how far the slot of the image being checked was (check 3 of R114). -/
structure LoaderSt where
  running : Option (List Byte)
  next : Option (List Byte)
  heldAt : Option Nat
  checking : Option (List Byte)
  applyAt : Option Nat
  slot : Option Nat
  leased : Marks
  dmaReads : Nat
  dmaSlot : Option Nat
  first : Bool
  switching : Marks
  extent : Tab Nat
  checkLen : Nat
deriving DecidableEq, Repr

/-- What the notices of a site have told (R273, Table MLR-5): its commit mask, flags, committed outer epoch, pinned
version, and the network time of its reach report. -/
structure SiteInfo where
  commit : Nat
  flags : Nat
  oepoch : Nat
  pinEpoch : Nat
  pinMask : Nat
  reachAt : Nat
deriving DecidableEq, Repr

/-- Membership and partitions (R270–R284): whether tables have been installed, the current and previous member tables
(sites, gateways and endpoints by word), the epoch before the current one, what notices have told by site, a pin being
copied (its version), the token counts and epochs of merge segments by site, a spare's admission in progress with the
version it has fetched, the sites whose STEP_CTL matched in this step (R260), whether
REJOIN_READY is set, the COL_TALLY sum of the step (R222), whether a held side runs its
close step (R279), the commit mask of a step whose Exchange was complete when a partition was declared (R276), the sides
of the merge under way by the lowest site of each (R279), and the ranges that a replica stream of this gateway's partner
has still to bring (R26). -/
structure MemberSt where
  installed : Bool
  gw : Tab Nat
  fab : Tab Nat
  prevEpoch : Option Nat
  prevSites : Nat
  prevGw : Tab Nat
  prevFab : Tab Nat
  info : Tab SiteInfo
  pinCopy : Option (Nat × Nat)
  mergeIn : Tab (Nat × Nat)
  admitting : Bool
  admitVersion : Option (Nat × Nat)
  stepCtl : List Nat
  rejoinReady : Bool
  tally : Nat
  closing : Bool
  stepMask : Option Nat
  sides : List Nat
  replicaLeft : List (Nat × Nat)
deriving DecidableEq, Repr

/-- A pond read that waits for its completion (R154): where its data goes (device address), and whether it has failed at its
timeout, so that its completion is discarded (R157). -/
structure PondRead where
  addr : Nat
  granules : Nat
  dst : Nat
  dead : Bool
deriving DecidableEq, Repr

/-- A pond write that waits for its acknowledgement (R154), and whether it has failed at its timeout (R157). -/
structure PondWrite where
  addr : Nat
  data : List Byte
  poison : Nat
  dead : Bool
deriving DecidableEq, Repr

/-- A message sent on a pond link (Table MEM-7), with its data. -/
structure PondMsg where
  opcode : Nat
  nak : Bool
  seq : Nat
  ackSeq : Nat
  tag : Nat
  addr : Nat
  granules : Nat
  sub : Nat
  poison : Nat
  data : List Byte
deriving DecidableEq, Repr

/-- A pond link (R154, R156, R158): the sequence numbers sent and received last, the messages not yet acknowledged
(oldest first), the replays of the oldest, the reads by TAG, the writes (oldest first), the credits held, the last
accepted BOOT_ID, and whether the link has reached ACTIVE (R159). -/
structure PondLink where
  txSeq : Nat
  rxSeq : Nat
  unacked : List PondMsg
  replays : Nat
  reads : Tab PondRead
  writes : List PondWrite
  hdr : Nat
  dat : Nat
  boot : Option Nat
  met : Bool
deriving DecidableEq, Repr

/-- A Hopper pool (R160–R166): indices that have never been granted start at `fresh`, the handles pushed since (last
first), and the owners that wait (oldest first). -/
structure HopPool where
  fresh : Nat
  pushed : List Nat
  waiting : List Nat
deriving DecidableEq, Repr

/-- A fabric port's credits (R177): the running totals last received and last sent by VC, control blocks that failed
their CRC in succession, and the sequence number of the next block. -/
structure PortSt where
  seen : List Nat
  given : List Nat
  bad : Nat
  blockSeq : Nat
deriving DecidableEq, Repr

/-- A packet that waits in a hub (R180–R186): its ingress (ports 0–15, 16 + j for local injection at hub j), the VC it
came on, the port chosen for it, the branches that a multicast packet still has to take, and whether its port is owed the credits
of its buffer. -/
structure HeldPkt where
  pkt : Packet
  ingress : Nat
  vc : Nat
  out : Option Nat
  branches : List Nat
  owes : Bool
deriving DecidableEq, Repr

/-- A packet delivered to this gateway at a hub that no command has taken yet; `owes` says that its buffer's credits are
returned when it is taken. -/
structure InPkt where
  hub : Nat
  ingress : Nat
  vc : Nat
  owes : Bool
  pkt : Packet
deriving DecidableEq, Repr

/-- Credits withheld until a Hopper pool's level rises (R196). -/
structure Withheld where
  port : Nat
  vc : Nat
  credits : Nat
  pool : Nat
deriving DecidableEq, Repr

/-- A target's context (R188): the hub that holds it, packets counted, the total once a LAST packet has told it, and the
status to reply. -/
structure FabCtx where
  hub : Nat
  count : Nat
  total : Option Nat
  status : Nat
deriving DecidableEq, Repr

/-- The kinds of operation. -/
inductive OpKind where
  | put | get | ctr
deriving DecidableEq, Repr

/-- An operation that this gateway has outstanding (R189, R192). -/
structure FabOp where
  kind : OpKind
  req : FabReq
  reissues : Nat
  got : Nat
  total : Option Nat
deriving DecidableEq, Repr

/-- The fabric (R172–R200): ports, packets that wait by ingress and VC (8 × ingress + VC, oldest first), packets
delivered here, withheld credits, target contexts (2^32 × SRC + OP_ID), outstanding operations by OP_ID,
the unicast and multicast entries (2^20 or 2^12 × version + index), the time of the last change of RTE_SEL, discards of
this second by port, ports that have reported DISC_RATE in it, whether FAB_FE_HDR holds a header, a ROUTES body that
waits to be staged, the ports that have reached ACTIVE (R197), and the packets that each VC of an output has sent in the
round of its arbiter (R194: by port, eight counts). -/
structure FabSt where
  ports : Tab PortSt
  queues : Tab (List HeldPkt)
  inbox : List InPkt
  withheld : List Withheld
  ctx : Tab FabCtx
  ops : Tab FabOp
  uc : Tab Nat
  mc : Tab Nat
  lastSel : Option Nat
  discards : Tab Nat
  discRaised : Marks
  feHdr : Bool
  staging : Option (List Byte)
  met : Marks
  round : Tab (List Nat)
deriving DecidableEq, Repr

/-- A chain element (Table COL-3). -/
structure ElemDef where
  kind : Nat
  loc : Bool
  keyed : Bool
  peerMc : Bool
  out2 : Bool
  fanin : Nat
  trig : Nat
  thr : Nat
  peer : Nat
  hub : Nat
  maxSlots : Nat
  c0 : Nat
  nch : Nat
  sig : Nat
  inc : Nat
deriving DecidableEq, Repr

/-- A broadcast chunk on its way in (R223): the packets written, the total once LAST has told it. -/
structure PartChunk where
  pkts : List Nat
  total : Option Nat
deriving DecidableEq, Repr

/-- An element of a posted chain (R205): whether it has fired, is done and has failed; the next chunk to send or to
reduce; the chunks, reports or DONEs finished; grants held (chunk, ATTEMPT); the ATTEMPT each chunk was last sent with;
chunks written; broadcast chunks on their way; the senders of reports and their sum. -/
structure Elem where
  d : ElemDef
  fired : Bool
  done : Bool
  failed : Bool
  next : Nat
  finished : Nat
  grants : List (Nat × Nat)
  sent : Tab Nat
  written : Marks
  parts : Tab PartChunk
  srcs : List Nat
  tokens : Nat
deriving DecidableEq, Repr

/-- A posted or lingering collective (R201–R203, R215): its identity, the descriptor that posted it, its chain's
properties, its buffers, its guaranteed slot, the outer epoch when it was posted, and whether an access of its has failed
(R141, R159). -/
structure Coll where
  group : Nat
  seq : Nat
  sid : Nat
  gather : Bool
  scatter : Bool
  home : Nat
  wire32 : Bool
  openCtr : Nat
  addr : Nat
  addr2 : Nat
  len : Nat
  thrBase : Nat
  ctrBase : Nat
  elems : List Elem
  linger : Bool
  gslot : Option Nat
  epoch : Nat
  bad : Bool
deriving DecidableEq, Repr

/-- One sender's staged copy of a keyed chunk (R219): packets as index and bytes, newest first. -/
structure Stage where
  src : Nat
  pkts : List (Nat × List Byte)
  total : Option Nat
  poison : Bool
deriving DecidableEq, Repr

/-- A busy or reclaiming slot (R208–R214): its chunk, ATTEMPT and reissues, its values, the packets counted and the
totals by sender, staged copies and their Hopper handles. -/
structure Slot where
  group : Nat
  seq : Nat
  elem : Nat
  chunk : Nat
  attempt : Nat
  reissues : Nat
  acc : List F32
  poison : Bool
  count : Nat
  totals : List (Nat × Nat)
  stages : List Stage
  handles : List Nat
  reclaiming : Bool
deriving DecidableEq, Repr

/-- An entry of an early-grant table (R208). -/
structure Early where
  hub : Nat
  group : Nat
  seq : Nat
  chunk : Nat
  attempt : Nat
  src : Nat
deriving DecidableEq, Repr

/-- A RELEASE element whose release repeats (R224): its group, eff_seq and element, the hub that sends it, and the packet. -/
structure Release where
  group : Nat
  seq : Nat
  elem : Nat
  hub : Nat
  packet : Packet
deriving DecidableEq, Repr

/-- The collective engines (R201–R224): collectives, slots (128 × hub + number), early grants (oldest first), the
releases that repeat, and the anchor versions that releases brought, by sender. -/
structure ColSt where
  colls : List Coll
  slots : Tab Slot
  early : List Early
  releases : List Release
  released : Tab (Nat × Nat)
deriving DecidableEq, Repr

/-- A candidate for alignment (R237): its position, the checks it has passed, and the FRAME_NUM of the last. -/
structure Cand where
  pos : Nat
  passes : Nat
  fnum : Nat
deriving DecidableEq, Repr

/-- A message that waits for the MGMT or ACK slot of a line port's frames (R232). Echoes, and the event messages of IEEE
1588, take the time of the frame that carries them (R323): an echo reply has T1 and T2; a message of IEEE 1588 has its
ingress stamp when it is forwarded, and whether the host sent it and asked for a one-step Sync. -/
inductive LineMsg where
  | ack (body : List Byte)
  | echoReq
  | echoReply (t1 t2 : Nat)
  | notice (body : List Byte)
  | ptp (body : List Byte) (ingress : Option Nat) (host oneStep : Bool)
deriving DecidableEq, Repr

/-- A message received in a frame's slot that no command has taken yet: its port, the frame's stamp in units of 2^−16 ns,
and its TYPE and body. -/
structure Heard where
  port : Nat
  stamp : Nat
  typ : Nat
  body : List Byte
deriving DecidableEq, Repr

/-- A line port (R235–R250): whether it sends, the next FRAME_NUM, candidates, the corrected bits and uncorrectable
codewords of the window, windows clear of EXC, windows above and not above SD_BITS, runs of frames for TIM and RDI_RX,
the frame number of an armed swap, the frames until the far end's announced swap, REI of the last frame, the running
counts and flags of this second (corrected bits, uncorrectable codewords, HCRC failures, REI_UNC, REI_CORR, frames through
an unready page; a defect, a signal fail, an RDI_RX seen), the sum of REI_CORR of the last latched second, segments
dispatched and not yet placed by flow, bytes received and not yet read by flow, flows whose delimitation is lost (R257),
messages that wait, the body of the last notice less its ages (R273), whether the active receive page was not ready when it
was taken, whether the last good header's epoch and sender were accepted, and the frames counted as FENCED (R271). -/
structure LineSt where
  txOn : Bool
  txNext : Nat
  cands : List Cand
  corr : Nat
  unc : Nat
  excClear : Nat
  degUp : Nat
  degDown : Nat
  timBad : Nat
  timGood : Nat
  rdiSet : Nat
  rdiClear : Nat
  armed : Option Nat
  swapIn : Option Nat
  rxLast : Nat
  reiUnc : Nat
  reiCorr : Nat
  secCorr : Nat
  secUnc : Nat
  secHcrc : Nat
  secRei : Nat
  secReiCorr : Nat
  secUnready : Nat
  secDefect : Bool
  secSf : Bool
  secRdi : Bool
  farCorr : Nat
  tx : Tab (List (List Byte))
  rx : Tab (List Byte)
  lost : Marks
  out : List LineMsg
  noticed : List Byte
  rxBad : Bool
  accepted : Bool
  fenced : Nat
deriving DecidableEq, Repr

/-- A protection group (R247–R249): requests raised after hold-off, WTR running, DNR standing, the time of the last
change of request, and the FRAME_NUM of the last frame of the group's traffic delivered from the working port and from
the protection port. -/
structure GroupSt where
  sfW : Bool
  sfP : Bool
  sdW : Bool
  sdP : Bool
  wtr : Bool
  dnr : Bool
  asked : Nat
  lastW : Option Nat
  lastP : Option Nat
deriving DecidableEq, Repr

/-- The line (R227–R255): ports, groups, the connection memory pages (256 × port + 128 × direction + 64 × page + slot;
direction 1 receives), and messages received. -/
structure LhlSt where
  ports : Tab LineSt
  groups : Tab GroupSt
  pages : Tab Nat
  heard : List Heard
deriving DecidableEq, Repr

/-- A segment (R266): its flow and SEQ, what it was made from, its wire form, its place in the ring of the RETAIN area, the
table epochs that its blocks name, the time it was last sent, and how many times. -/
structure Seg where
  flow : Nat
  seq : Nat
  req : SegReq
  wire : List Byte
  place : Nat
  tables : List Nat
  sentAt : Nat
  sends : Nat
deriving DecidableEq, Repr

/-- A range of SEQ values voided (R264): its first SEQ and count, and the data that is sent again once CUM has passed. -/
structure Voided where
  first : Nat
  count : Nat
  owed : List SegReq
deriving DecidableEq, Repr

/-- A flow that sends (R258, R260, R263): SEQ values above CUM that are acknowledged, ranges voided, the SEPOCH and
MASK of the last STEP_CTL sent, what acknowledged segments were made from, for a replacement (R265), and the data that has
still to be sent again under fresh SEQ values (R264). -/
structure TxFlow where
  acked : Marks
  voids : List Voided
  ctl : Option (Nat × Nat)
  sent : Tab SegReq
  owed : List SegReq
deriving DecidableEq, Repr

/-- A flow that receives (R258, R262, R264): SEQ values at and above CUM received, those to be named in a form 2 message,
and segments new since the last acknowledgement. -/
structure RxFlow where
  got : Marks
  raw : List Nat
  news : Nat
deriving DecidableEq, Repr

/-- An object on its way in (R259): its flow, SEPOCH, KIND, HALF, STAGE and OBJ, and the blocks written. -/
structure RxObj where
  flow : Nat
  sepoch : Nat
  kind : Nat
  half : Bool
  stage : Nat
  obj : Nat
  blocks : Marks
deriving DecidableEq, Repr

/-- A STEP_CTL record that has arrived (R260): its flow and digest. -/
structure CtlRec where
  flow : Nat
  digest : List Byte
deriving DecidableEq, Repr

/-- Millrace (R256–R268): retained segments in the order they were first sent, flows, objects on their way in, STEP_CTL
records not yet compared, echo requests without a reply by port (T1, oldest first), the side on which the last echo
of a port departed from srtt by more than PATH_US (1 above, 2 below), the next place in the ring of the RETAIN area (R266),
and the places that hold zero for an absent peer in this step (R282: flow and address). -/
structure MlrSt where
  retain : List Seg
  tx : Tab TxFlow
  rx : Tab RxFlow
  objs : List RxObj
  ctl : List CtlRec
  echoes : Tab (List Nat)
  away : Tab Nat
  ring : Nat
  zeroed : List (Nat × Nat)
deriving DecidableEq, Repr

/-- Bolter (R298, R299, R313): the BOLTER_TABLE bodies that the slots hold, those that wait to be installed, and the blocks
of each hub stored raw since RAW last rose. -/
structure CmpSt where
  slots : Tab (List Byte)
  staged : Tab (List Byte)
  raws : Tab Nat
deriving DecidableEq, Repr

/-- A queued host request of the cipher engine (R306, R315): its slot with the USE, ROOT and label it was accepted under,
whether the lease ran, and its input blocks. -/
structure CryReq where
  slot : Nat
  use : Nat
  root : Nat
  label : List Byte
  blocks : List (List Byte)
deriving DecidableEq, Repr

/-- The cipher engine (R304–R309, R315): link roots, host requests that wait, blocks since the last reseed by hub, HOST
slots whose lease runs, LINE slots restored at 0xFFFF, and the KEPOCH_TX of each slot that a durable snapshot covers (none
before the first: such a slot encrypts nothing yet, R309, R418). The line pipelines, the loader and the attestation engine are
served within the command that asks. -/
structure CrySt where
  roots : Tab (List Byte)
  queue : List CryReq
  sinceSeed : Tab Nat
  leased : Marks
  exhausted : Marks
  durable : Tab Nat
deriving DecidableEq, Repr

/-- A message in the host's receive queue (R326): ingress port, stamp in units of 2^−16 ns, and its bytes. -/
structure PtpRx where
  port : Nat
  stamp : Nat
  body : List Byte
deriving DecidableEq, Repr

/-- The time units (R316–R324): seconds, nanoseconds and the 32-bit fraction of H0's accumulator; whether the unit
counts; by how many nanoseconds H1's time differs; the increment in force (2^−32 ns); a set, step, slew or increment
that waits for the next tick; what is left of a slew (2^−32 ns); PPS_OUT high; the host's queue; and the capture sides
that are full (2 × port for transmit, 2 × port + 1 for receive). -/
structure TimeSt where
  sec : Nat
  ns : Nat
  frac : Nat
  running : Bool
  skew : Int
  inc : Nat
  nextSet : Option (Nat × Nat)
  nextStep : Option Int
  nextSlew : Option Int
  nextInc : Option Nat
  slewLeft : Int
  ppsOut : Bool
  ptp : List PtpRx
  fcap : Marks
deriving DecidableEq, Repr

/-- A gate list (R334): BASE, CYCLE, and the gate state and duration of each entry. -/
structure GateList where
  base : Nat
  cycle : Nat
  entries : List (Nat × Nat)
deriving DecidableEq, Repr

/-- A segment that waits in a queue of Sluice (R331): its flow, SEQ and kind, its wire form, whether it is a resend, and
since when it waits. -/
structure QSeg where
  seg : Seg
  resend : Bool
  since : Nat
deriving DecidableEq, Repr

/-- Sluice (R329–R341): the queues (32 × port + queue, oldest first), the segments held at a flow's admission (oldest
first), token buckets Tc and Tp by flow and shaper credits by queue (in 1/1,024 byte), queues whose shaper was written
since the last refill, the tokens of the rate cap, and the gate lists in force and armed by port. -/
structure SluSt where
  queues : Tab (List QSeg)
  held : Tab (List QSeg)
  tc : Tab Nat
  tp : Tab Nat
  credit : Tab Int
  written : Marks
  cap : Nat
  gates : Tab GateList
  armed : Tab GateList
deriving DecidableEq, Repr

/-- The optical side of a port (R350–R364): the code that the transmit shadow's markers carry, what the far end reports
(ON_SHADOW, ALIGNED, the lane it asks to be mirrored), the lane this receiver asks for and whether that is to calibrate its
ring, the run of aligned markers with its lane, the step of the calibration of OPT_PORT_CAL.LANE (0 none, 1 waits for
ALIGNED, 2 for ON_SHADOW, 3 relocks, 4 returns), whether a pass is due, the need (lane, use, code) that takes the shadow
once an aborted calibration has ended, whether the shadow laser cannot be used, whether commissioning runs, and the RSEQ of
the next report unit. -/
structure OptPort where
  code : Nat
  farOn : Option Nat
  farAligned : Bool
  farReq : Option Nat
  req : Option Nat
  reqCal : Bool
  run : Nat
  runLane : Nat
  calStep : Nat
  calDue : Bool
  next : Option (Nat × Nat × Nat)
  shadowBad : Bool
  commissioning : Bool
  rseq : Nat
deriving DecidableEq, Repr

/-- One ring (R353, R354): the resonance it stands on, the sweeps that failed in succession, the resonances excluded, and
the wrong tones seen in succession. -/
structure Ring where
  place : Nat
  fails : Nat
  excluded : List Nat
  wrong : Nat
deriving DecidableEq, Repr

/-- The optical side of a lane (R353–R362): its rings, the samples of this window (their sum and number), the corrected
errors of the last windows (newest first), whether FADE_WARN stands, whether a receive condition of Table OPT-10 holds,
and the far end's corrected errors. -/
structure OptLane where
  tx : Ring
  rx : Ring
  sum : LanePower
  samples : Nat
  errs : List Nat
  warned : Bool
  wants : Bool
  farErrs : Nat
deriving DecidableEq, Repr

/-- The optical lanes (R345–R364): ports 0–23 and lanes (16 × port + lane). -/
structure OptSt where
  ports : Tab OptPort
  lanes : Tab OptLane
deriving DecidableEq, Repr

/-- What the block sends or hands out. -/
inductive Out where
  | pond (link : Nat) (msg : List Byte)
  | grant (hub owner handle : Nat)
  | refused (hub owner : Nat)
  | replicaLost
  | replicaStream (epoch mask : Nat) (full : Bool) (ranges : List (Nat × Nat))
  | replicaConfirm (epoch mask : Nat)
  | frame (port : Nat) (lanes : List (List Nat))
  | bytes (addr : Nat) (data : List (Byte × Bool))
  | ppsOut (high : Bool)
  | fabIdent (port part id role dir x y z : Nat) (cred : List Nat)
  | block (port : Nat) (block : List Byte)
  | packet (port : Nat) (p : Packet)
  | completion (data : Nat)
  | report (port : Nat) (unit : List Byte)
deriving DecidableEq, Repr

/-- Why a command stops the machine. No meaning of this model raises one: every command of the table has an effect. -/
inductive Fault where
  /-- Raised by no meaning; kept so that the type is not empty. Safe. -/
  | none
deriving DecidableEq, Repr

/-- Why a command has no meaning. -/
inductive Refusal where
  /-- Raised by an arm of `exec` whose command has no meaning yet, by the command's name. Safe. -/
  | notModelled (mnemonic : String)
deriving DecidableEq, Repr

/-- The fields whose value after power-on reset depends on their index (R10): FLT_ERRN_SEL (R397), the page index in
QRN_DIE_ID, and USE of the device key slots 0 and 1, which reads 7 (R417, Table BC-6), where the register's table gives 0
for the slots that station software configures (DESIGN CHOICE, log 57). -/
def resetRegs : Tab Nat :=
  [((F.CRY_KSLOT_CFG_USE.ix 0).key, 7), ((F.FLT_ERRN_SEL_SEL.ix 5).key, 0x21000009), ((F.FLT_ERRN_SEL_SEL.ix 6).key, 0x00000800),
   ((F.FLT_ERRN_SEL_SEL.ix 7).key, 0x00200040), ((F.CRY_KSLOT_CFG_USE.ix 1).key, 7),
   ((F.QRN_DIE_ID_DIE.ix 1).key, 1), ((F.QRN_DIE_ID_DIE.ix 2).key, 2), ((F.QRN_DIE_ID_DIE.ix 3).key, 3)]

/-- The state of the block. -/
structure State where
  /-- The commands that wait, first in first out. -/
  pending : List Instr
  /-- The register fields that differ from their reset value, by field key. -/
  regs : Tab Nat
  /-- The causes that hold now behind the bits of the EVT registers (R405), by field key. -/
  causes : Marks
  /-- The LO halves written and not yet committed (R403), by register address. -/
  heldLo : Tab Nat
  /-- Posted writes that have not taken effect (R404). -/
  posted : List Posted
  /-- The device address space (Table MEM-1): the bytes that differ from what an unlisted address reads as. -/
  mem : List Host.Cell
  /-- Poison marks (R145), by the address of the unit. -/
  poison : Marks
  /-- Stacks of which every line is marked poisoned (R396), less the lines of `cleaned`. -/
  stackPoison : Marks
  /-- Lines of such a stack whose mark a whole write has cleared since (R145). -/
  cleaned : Marks
  /-- The model's own field: how many open values have been taken (see Config.freeValue). -/
  freeCount : Nat
  /-- Faults. -/
  flt : FltSt
  /-- Supplies and temperatures. -/
  pwr : PowerSt
  /-- The PCIe function. -/
  pcie : PcieSt
  /-- Die-to-die links. -/
  links : LinkSt
  /-- The OTP array. -/
  otp : OtpSt
  /-- Boot store and journal. -/
  boot : BootSt
  /-- Digest, triple fields, identity and quotes. -/
  gen : GenSt
  /-- Quern arrays. -/
  qrn : QuernSt
  /-- Schedulers. -/
  sched : SchedSt
  /-- Reduction registers. -/
  red : RedSt
  /-- The outer step. -/
  step : StepSt
  /-- The loader. -/
  img : LoaderSt
  /-- Membership and partitions. -/
  mbr : MemberSt
  /-- Pond links. -/
  pond : Tab PondLink
  /-- Hopper pools. -/
  hop : Tab HopPool
  /-- What the block has sent or granted, newest first (messages, packets, frames, handles). -/
  out : List Out
  /-- The Krava fabric. -/
  fab : FabSt
  /-- The lateness in ns of each sender of GATHER chunks in this step, by endpoint ID (R220). -/
  late : Tab Nat
  /-- The collective engines. -/
  col : ColSt
  /-- The line ports. -/
  lhl : LhlSt
  /-- Millrace. -/
  mlr : MlrSt
  /-- Bolter. -/
  cmp : CmpSt
  /-- The cipher engine. -/
  cry : CrySt
  /-- Network time. -/
  time : TimeSt
  /-- Sluice. -/
  slu : SluSt
  /-- The lasers that are lit (R345, R367), by laser number. -/
  lit : Marks
  /-- The optical lanes. -/
  opt : OptSt
deriving DecidableEq, Repr

/-- The machine right after power-on reset (R10, R388). -/
def State.reset : State where
  pending := []
  regs := resetRegs
  causes := []
  heldLo := []
  posted := []
  mem := []
  poison := []
  stackPoison := []
  cleaned := []
  freeCount := 0
  flt := ⟨0, 0, [], [], [], [], 0, false, false, none, []⟩
  pwr := ⟨[], 0xFFFF, false, 0, false, [], [], [], [], [], [], []⟩
  pcie := ⟨false, false, true, [], 0⟩
  links := ⟨[], [], []⟩
  otp := ⟨[], [], 0, false, none⟩
  boot := ⟨[], [], [], [], [], 0, none, 0, [], 0, 0, 0, 0, false, none, 0⟩
  gen := ⟨false, [], 0, [], [], 0, []⟩
  qrn := ⟨[], [], [], [], [], [], [], [], [], [], []⟩
  sched := ⟨[], [], 0, [], [], [], [], none, [], [], [], [], []⟩
  red := ⟨[], [], [], []⟩
  step := ⟨0, 0, 0, false, [], [], [], [0, 0, 0, 0], true, false, false, 0, [], []⟩
  img := ⟨none, none, none, none, none, none, [], 0, none, false, [], [], 0⟩
  mbr := ⟨false, [], [], none, 0, [], [], [], none, [], false, none, [], false, 0, false, none, [], []⟩
  pond := []
  hop := []
  out := []
  fab := ⟨[], [], [], [], [], [], [], [], none, [], [], false, none, [], []⟩
  late := []
  col := ⟨[], [], [], [], []⟩
  lhl := ⟨[], [], [], []⟩
  mlr := ⟨[], [], [], [], [], [], [], 0, []⟩
  cmp := ⟨[], [], []⟩
  cry := ⟨[], [], [], [], [], []⟩
  time := ⟨0, 0, 0, false, 0, 0x666666666, none, none, none, none, 0, false, [], []⟩
  slu := ⟨[], [], [], [], [], [], 262144 * 1024, [], []⟩
  lit := []
  opt := ⟨[], []⟩

end Sys2Proof.Machine
end

