-- ==== Sys2Proof/Machine/Flags.lean ====
section
/-! DEFINITION. Register fields, status bits and events: reading and writing a field of the register file, 64-bit
pairs (R403), counters that saturate, the bits and causes of the EVT registers (R405), and MSI-X vectors (R400). -/

namespace Sys2Proof.Machine

/-- The value of a field. -/
def State.get (s : State) (f : Fld) : Nat := (Tab.find s.regs f.key).getD f.rst

/-- The state in which a field holds a value, cut to the field's width. -/
def State.set (s : State) (f : Fld) (v : Nat) : State :=
  { s with regs :=
      if v % 2 ^ f.width = f.rst then Tab.erase s.regs f.key
      else Tab.insert s.regs f.key (v % 2 ^ f.width) }

/-- A one-bit field as a flag. -/
def State.flag (s : State) (f : Fld) : Bool := s.get f == 1

/-- The state in which a one-bit field holds a flag. -/
def State.put (s : State) (f : Fld) (b : Bool) : State := s.set f (b2n b)

/-- A field that counts and stops at its largest value (R81 and the like). -/
def State.bump (s : State) (f : Fld) (k : Nat := 1) : State := s.set f (satAdd f.width (s.get f) k)

/-- One bit of a field written. -/
def State.setBit (s : State) (f : Fld) (n : Nat) (b : Bool) : State :=
  let v := s.get f
  s.set f (v - b2n (bit v n) * 2 ^ n + b2n b * 2 ^ n)

/-- One bit of a field. -/
def State.getBit (s : State) (f : Fld) (n : Nat) : Bool := bit (s.get f) n

/-- A 64-bit value held as a LO and HI pair (R403). -/
def State.get64 (s : State) (lo hi : Fld) : Nat := s.get lo + s.get hi * 2 ^ 32

/-- A 64-bit value written into a LO and HI pair. -/
def State.set64 (s : State) (lo hi : Fld) (v : Nat) : State := (s.set lo v).set hi (v / 2 ^ 32)

/-- A 64-bit count raised, modulo 2^64. -/
def State.add64 (s : State) (lo hi : Fld) (k : Nat) : State := s.set64 lo hi ((s.get64 lo hi + k) % 2 ^ 64)

/-- Several fields written, in order. -/
def State.setAll (s : State) : List (Fld × Nat) → State
  | [] => s
  | (f, v) :: t => (s.set f v).setAll t

/-- Several fields returned to their reset values. -/
def State.clearAll (s : State) : List Fld → State
  | [] => s
  | f :: t => (s.set f f.rst).clearAll t

/-- The FATAL state (R376). -/
def State.fatal (s : State) : Bool := s.flag F.FLT_STAT_FATAL

/-- MAINTENANCE mode (R405). -/
def State.maintenance (s : State) : Bool := s.flag F.GEN_STATUS_MODE_MODE

/-- An MSI-X vector is sent (R400). -/
def State.send (s : State) (vec : Nat) : State := { s with flt := { s.flt with sent := vec :: s.flt.sent } }

/-- The SEQ field of the event register that holds a bit (R405). -/
def Fld.seqOf (f : Fld) : Fld := ⟨f.base, 24, 8, 0, 0, 0, 0, f.off⟩

/-- The block of BAR0 that a field stands in (Table CTL-2). -/
def Fld.block (f : Fld) : Nat := (f.base + f.off) / 0x100000

/-- A cause arises (R405): its bit is set, SEQ increases by 1 modulo 256, and the block's vector is sent when
GEN_IRQ_MAP enables it (R400). A cause that already holds changes nothing. -/
def State.evt (s : State) (f : Fld) : State :=
  if s.causes.has f.key then s
  else
    let s1 := ({ s with causes := s.causes.add f.key }.set f 1)
    let s2 := s1.set f.seqOf (s1.get f.seqOf + 1)
    if s2.flag (F.GEN_IRQ_MAP_EN.ix f.block) then s2.send (s2.get (F.GEN_IRQ_MAP_VEC.ix f.block)) else s2

/-- A cause ends (R405): in SERVICE mode its bit clears at once, in MAINTENANCE mode it stays. -/
def State.evtEnd (s : State) (f : Fld) : State :=
  let s1 := { s with causes := s.causes.del f.key }
  if s.maintenance then s1 else s1.set f 0

/-- The key of the cause of one instance (a link, a port, a pool) behind a bit that many share. -/
def Fld.inst (f : Fld) (n : Nat) : Nat := f.key + 2 ^ 60 * (n + 1)

/-- Whether some instance's cause holds behind a bit. -/
def State.anyInst (s : State) (f : Fld) : Bool := (List.range 256).any fun n => s.causes.has (f.inst n)

/-- A cause of one instance arises (R405). -/
def State.evtOf (s : State) (f : Fld) (n : Nat) : State :=
  if s.causes.has (f.inst n) then s
  else
    let s1 := ({ s with causes := s.causes.add (f.inst n) }.set f 1)
    let s2 := s1.set f.seqOf (s1.get f.seqOf + 1)
    if s2.flag (F.GEN_IRQ_MAP_EN.ix f.block) then s2.send (s2.get (F.GEN_IRQ_MAP_VEC.ix f.block)) else s2

/-- A cause of one instance ends (R405): in SERVICE mode the bit clears when no instance's cause holds. -/
def State.evtEndOf (s : State) (f : Fld) (n : Nat) : State :=
  let s1 := { s with causes := s.causes.del (f.inst n) }
  if s.maintenance || s1.anyInst f then s1 else s1.set f 0

/-- Causes of one instance end behind several bits. -/
def State.evtEndAllOf (s : State) (n : Nat) : List Fld → State
  | [] => s
  | f :: t => (s.evtEndOf f n).evtEndAllOf n t

/-- A cause that is a condition follows it. -/
def State.evtIs (s : State) (f : Fld) (b : Bool) : State := if b then s.evt f else s.evtEnd f

/-- Several causes end. -/
def State.evtEndAll (s : State) : List Fld → State
  | [] => s
  | f :: t => (s.evtEnd f).evtEndAll t

/-- A value the spec leaves open, and the state that has taken it. -/
def State.free (s : State) : Nat × State := (Config.freeValue s.freeCount, { s with freeCount := s.freeCount + 1 })

end Sys2Proof.Machine
end

