-- ==== Sys2Proof/Machine/Ops.lean ====
section
/-! DEFINITION. The operations that many commands share: location codes (R36), network time (R317), fault records and
the Brake wheel (R369–R379), FATAL (R376), the link-fault path (R442), the gate that every host write passes (R376,
R392, R404), and the device memory with its poison marks (R139–R145). -/

namespace Sys2Proof.Machine

/-! Location codes (Table DIE-4, Table DIE-5). -/

/-- The location code of a chip unit. -/
def locChip (unit : Nat) : Nat := 0xC0000000 + unit

/-- The location code of a region 0–63. -/
def locRegion (r : Nat) : Nat := 0x80000000 + r / 16 * 2 ^ 28 + r % 16 * 2 ^ 24

/-- The location code of a block 0–1,023. -/
def locBlock (b : Nat) : Nat := 0x40000000 + b / 256 * 2 ^ 28 + b / 16 % 16 * 2 ^ 24 + b % 16 * 2 ^ 20

/-- The location code of a cell. -/
def locCell (b row col : Nat) : Nat := locBlock b - 0x40000000 + row * 2 ^ 14 + col * 2 ^ 8

/-- The level of a location code: 0 cell, 1 block, 2 region, 3 chip. -/
def locLevel (loc : Nat) : Nat := loc / 2 ^ 30 % 4

/-- Whether FLT_FORCE_LOC names a location (R372): the same code, a coarser one that holds it, or a finer one whose
finer fields are ignored. A chip code matches only itself. -/
def locMatches (force loc : Nat) : Bool :=
  let lf := locLevel force
  let ll := locLevel loc
  if lf = 3 ∨ ll = 3 then force == loc
  else
    let k := min (if lf = 0 then 8 else if lf = 1 then 20 else 24) 24
    let j := if ll = 0 then 8 else if ll = 1 then 20 else 24
    force % 2 ^ 30 / 2 ^ max k j == loc % 2 ^ 30 / 2 ^ max k j

/-! Network time (R316, R317). -/

/-- The 64-bit nanosecond count of R317. -/
def State.ns64 (s : State) : Nat := (s.time.sec * 1000000000 + s.time.ns) % 2 ^ 64

/-- Signed difference of two network times (R317): whether `a` is at or after `b`. -/
def notBefore (a b : Nat) : Bool := decide ((a + 2 ^ 64 - b % 2 ^ 64) % 2 ^ 64 < 2 ^ 63)

/-! Faults. -/

/-- The number of a class (Table FLT-1). -/
def FClass.code : FClass → Nat
  | .ce => 0
  | .uc => 1
  | .fa => 2

/-- The 32 bytes of a fault record (Table FLT-1). -/
def FaultRec.bytes (r : FaultRec) : List Byte :=
  beBytes 4 r.loc ++ beBytes 1 r.source ++ beBytes 1 (r.cls.code * 64 + b2n r.forced * 32 + b2n r.journalled * 16) ++
    beBytes 2 r.rseq ++ beBytes 4 r.desc ++ beBytes 4 r.info ++ beBytes 8 r.time ++ beBytes 8 r.info2

/-- Word w of a record as FLT_LOG shows it: record bytes 4w to 4w + 3 (R7). -/
def FaultRec.logWord (r : FaultRec) (w : Nat) : Nat := beAt r.bytes (4 * w) 4

/-- Word w of a record as the first-error registers show it: bytes 0 to 15 as FLT_LOG does, then TIME and INFO2 as LO and
HI pairs (R403). -/
def FaultRec.feWord (r : FaultRec) (w : Nat) : Nat :=
  r.logWord (if w = 4 then 5 else if w = 5 then 4 else if w = 6 then 7 else if w = 7 then 6 else w)

/-- The word that a register of the fault record windows reads as (R370): FLT_FE, FLT_LVL_FE and FLT_LOG, 0 where no record
stands. None at any other address. -/
def State.fltWord (s : State) (addr : Nat) : Option Nat :=
  let fe := fun (x : Option FaultRec) => some ((x.map fun r => r.feWord (addr % 32 / 4)).getD 0)
  if 0x01700040 ≤ addr ∧ addr < 0x017000A0 then fe (Tab.find s.flt.first ((addr - 0x01700040) / 32))
  else if 0x01700400 ≤ addr ∧ addr < 0x01700600 ∧ addr % 128 < 96 then
    fe (Tab.find s.flt.levelFirst (3 * ((addr - 0x01700400) / 128) + addr % 128 / 32))
  else if 0x01710000 ≤ addr ∧ addr < 0x01712000 then
    let i := (addr - 0x01710000) / 32
    some ((s.flt.ring[(s.flt.made + 255 - i) % 256]?.map fun r => r.logWord (addr % 32 / 4)).getD 0)
  else none

/-- ERR_N is driven low for at least 20 µs (R379). -/
def State.assertErrn (s : State) : State :=
  let s1 := s.set F.FLT_STAT_ERRN_LOW 1
  { s1 with flt := { s1.flt with errnMin := true } }

/-- A change is queued to the journal (R418); a journal that has given up its retries tries again. -/
def State.journal (s : State) : State :=
  { (s.set F.PST_STAT_JRN_QUEUED 1) with boot := { s.boot with retries := if s.boot.retries = 4 then 0 else s.boot.retries } }

/-- Something is sent or handed out. -/
def State.emit (s : State) (o : Out) : State := { s with out := o :: s.out }

/-! The state of the outer step (R19, R218, R220). -/

/-- Whether a new image is being applied (R121). -/
def State.applying (s : State) : Bool := s.get F.IMG_STAT_STATE == 4

/-- Whether this device is fenced (R271). -/
def State.fenced (s : State) : Bool := s.get F.MBR_STAT_STATE == 1

/-- GRANT_HOLD follows its causes (R218, R271, R282, R284): a step state other than INNER and GATHER, an image being
applied, a fence, tensors of an abandoned step that are still to be restored, or unattended mode with RUN_ON 0 and no step
in progress. -/
def State.holdGrants (s : State) : State :=
  let st := s.get F.UPD_STEP_STAT_STATE
  s.put F.COL_STAT_GRANT_HOLD (decide (2 ≤ st) || s.applying || s.fenced || !s.step.restore.isEmpty ||
    (s.flag F.MBR_STAT_UNATTENDED && !s.flag F.MBR_CFG_RUN_ON && st == 0))

/-- A sender put into a list in descending order of lateness, ties to the lower endpoint ID (R220). -/
def lateInsert (x : Nat × Nat) : List (Nat × Nat) → List (Nat × Nat)
  | [] => [x]
  | y :: t => if y.2 < x.2 ∨ (y.2 = x.2 ∧ x.1 < y.1) then x :: y :: t else y :: lateInsert x t

/-- COL_LATE takes the 16 latest senders of GATHER chunks when the step leaves GATHER (R220). Lateness runs from the step's
STEP OPEN to the completion of the sender's last chunk; a chunk complete before that, or in a step with no OPEN, is not late
(DESIGN CHOICE). -/
def State.leaveGather (s : State) : State :=
  if s.flag F.COL_CFG_LATE_EN then
    let l := s.late.foldl (fun acc x => lateInsert (x.1, x.2 - s.sched.stepOpen.getD x.2) acc) []
    let s1 := s.setAll ((List.range 16).flatMap fun i => match l[i]? with
      | some x => [(F.COL_LATE_ID_VALID.ix i, 1), (F.COL_LATE_ID_ID.ix i, x.1), (F.COL_LATE_US_US.ix i, x.2 / 1000)]
      | none => [(F.COL_LATE_ID_VALID.ix i, 0), (F.COL_LATE_ID_ID.ix i, 0), (F.COL_LATE_US_US.ix i, 0)])
    { s1 with late := [] }
  else { s with late := [] }

/-- The step state written, with what follows it. -/
def State.setStep (s : State) (st : Nat) : State :=
  let s1 := if s.get F.UPD_STEP_STAT_STATE == 1 && st != 1 then s.leaveGather else s
  (s1.set F.UPD_STEP_STAT_STATE st).holdGrants

/-- No matrix is in Orthogonalise (UPD_ORTH_POS). -/
def noMatrix : Nat := 0x1FFFFF

/-- The state between steps: INNER, or HELD while a minority side holds (R276, Table MLR-7). -/
def State.restState (s : State) : Nat :=
  if s.mbr.closing || (s.get F.MBR_STAT_STATE == 2 && s.flag F.MBR_STAT_OUTSIDE && !s.flag F.MBR_CFG_MINORITY) then 6
  else 0

/-- The step in progress is abandoned as a whole (R23): nothing commits, the step state is that between steps, and the
tensors that Apply has rewritten are to be restored (R282). -/
def State.abandonStep (s : State) : State :=
  if s.get F.UPD_STEP_STAT_STATE == 0 then s
  else
    let x := s.step
    let s0 := { s with step := { x with abandoned := true, rewritten := [], restore := (x.rewritten ++ x.restore).eraseDups } }
    let s1 := (s0.setStep s0.restState).setAll [(F.UPD_STEP_STAT_PARTNER_WAIT, 0), (F.UPD_STEP_STAT_APPLIED, 0),
      (F.UPD_ORTH_POS_MATRIX, noMatrix), (F.UPD_ORTH_POS_ITER, 0), (F.UPD_ORTH_POS_PRODUCT, 0),
      (F.UPD_ORTH_POS_STAGE, 0)]
    { s1 with
      mbr := { s1.mbr with stepMask := none, closing := false }
      mlr := { s1.mlr with zeroed := [] } }

/-- The FATAL state is entered (R376): every queue stops and the descriptors in progress are abandoned, a step in
progress is abandoned, and every laser is turned off. What later work would do is withheld by `State.fatal`. -/
def State.enterFatal (s : State) : State :=
  if s.fatal then s
  else
    let s1 := ((s.set F.FLT_STAT_FATAL 1).set F.ATT_STAT_Q_RUN 0).abandonStep
    { s1 with
      lit := []
      sched := { s1.sched with flights := [] }
      qrn := { s1.qrn with runs := [] } }

/-- Whether a source is armed and FLT_FORCE_LOC names the location (R372). -/
def State.forcedAt (s : State) (source loc : Nat) : Bool :=
  s.flt.armed.has source && locMatches (s.get F.FLT_FORCE_LOC_LOC) loc

/-- Every armed source bit of FLT_FORCE_ARMED follows the set of armed sources. -/
def State.disarm (s : State) (source : Nat) : State :=
  let s1 := { s with flt := { s.flt with armed := s.flt.armed.del source } }
  s1.setBit (F.FLT_FORCE_ARMED_ARMED.ix (source / 32)) (source % 32) false

/-- The first records of a class, at any level and at the record's level (R370). -/
def FltSt.keepFirst (x : FltSt) (r : FaultRec) : FltSt :=
  let c := r.cls.code
  let k := 3 * locLevel r.loc + c
  { x with
    first := if (Tab.find x.first c).isSome then x.first else Tab.insert x.first c r
    levelFirst := if (Tab.find x.levelFirst k).isSome then x.levelFirst else Tab.insert x.levelFirst k r }

/-- The level's count of a class (R370). -/
def State.countLevel (s : State) (lvl : Nat) : FClass → State
  | .ce => s.bump (F.FLT_LVL_CNT_CE.ix lvl)
  | .uc => s.bump (F.FLT_LVL_CNT_UC.ix lvl)
  | .fa => s

/-- Whether a record goes to the journal (R371): FA and retirements always, other UC up to 16 in a second. -/
def State.journals (s : State) (cls : FClass) (retirement : Bool) : Bool :=
  retirement || (match cls with
    | .fa => true
    | .uc => decide (s.flt.ucThisSecond < 16)
    | .ce => false)

/-- The journal's side of a record (R371, Table CTL-9). -/
def State.journalRecord (s : State) (r : FaultRec) (retirement : Bool) : State :=
  if r.journalled then
    let s1 := s.journal
    { s1 with
      boot := { s1.boot with
        history := (r :: s1.boot.history).take 128
        lifeUc := s1.boot.lifeUc + b2n (r.cls == .uc)
        lifeFa := s1.boot.lifeFa + b2n (r.cls == .fa) }
      flt := { s1.flt with
        ucThisSecond := s1.flt.ucThisSecond + b2n (r.cls == .uc && !retirement) } }
  else if r.cls == .uc then
    let s1 := s.bump F.FLT_STAT_JRN_DROP
    { s1 with boot := { s1.boot with lifeDrop := s1.boot.lifeDrop + 1 } }
  else s

/-- What the Brake wheel sets and sends for a record (Table FLT-2). -/
def State.react (s : State) (r : FaultRec) : State :=
  match r.cls with
  | .ce =>
    let s1 := s.evt F.FLT_EVT_CE
    if s1.flag F.FLT_CFG_CE_EN then s1.send (s1.get F.FLT_CFG_CE_VEC) else s1
  | .uc =>
    let s1 := s.evt F.FLT_EVT_UC
    let s2 := s1.send (s1.get F.FLT_CFG_UC_VEC)
    if s2.getBit (F.FLT_ERRN_SEL_SEL.ix (r.source / 32)) (r.source % 32) then s2.assertErrn else s2
  | .fa =>
    let s1 := s.evt F.FLT_EVT_FATAL
    (s1.send (s1.get F.FLT_CFG_FA_VEC)).assertErrn

/-- A fault is reported (R369–R375): one record is formed, counted, kept as a first record, put into the ring and,
where R371 says so, queued to the journal; then the Brake wheel reacts. A source that is armed at the location makes
the record FORCED and is disarmed (R372); `force` says that an armed detection below the record's level did. A fault
that can be of class FA goes through `State.raiseFa`, which enters the FATAL state as well. -/
def State.raise (s : State) (source : Nat) (cls : FClass) (loc : Nat) (desc : Nat := 0) (info : Nat := 0)
    (info2 : Nat := 0) (retirement : Bool := false) (force : Bool := false) : State :=
  let hit := s.forcedAt source loc
  let forced := hit || force
  let s0 := if hit then s.disarm source else s
  let r : FaultRec := ⟨loc, source, cls, forced, s0.journals cls retirement, s0.flt.rseq, desc, info, s0.ns64, info2⟩
  let s1 := { s0 with flt := { s0.flt.keepFirst r with
    rseq := (s0.flt.rseq + 1) % 65536
    made := s0.flt.made + 1
    ring := (r :: s0.flt.ring).take 256 } }
  let s2 := (s1.set F.FLT_LOG_HEAD_RSEQ r.rseq).set F.FLT_LOG_HEAD_INDEX (s0.flt.made % 256)
  ((s2.countLevel (locLevel loc) cls).journalRecord r retirement).react r

/-- A fault is reported whose class may be FA: class FA enters the FATAL state (R376, Table FLT-2). -/
def State.raiseFa (s : State) (source : Nat) (cls : FClass) (loc : Nat) (desc : Nat := 0) (info : Nat := 0)
    (info2 : Nat := 0) : State :=
  let s1 := s.raise source cls loc desc info info2
  if cls = .fa then s1.enterFatal else s1

/-- A cell-level detection counts at the cell level once its tile has passed or failed (R369). -/
def State.countCell (s : State) (passed : Bool) : State := s.countLevel 0 (if passed then .ce else .uc)

/-! Lasers (R345, R442). -/

/-- The photonic die of an optical port 0–23. -/
def dieOfPort (k : Nat) : Nat := if k < 16 then k / 4 else if k < 20 then k - 16 else k - 20

/-- The local index of an optical port on its photonic die (Table OPT-1). -/
def localOfPort (k : Nat) : Nat := if k < 16 then k % 4 else if k < 20 then 4 else 5

/-- The laser of a port's channel (R345). -/
def laserOf (k c : Nat) : Nat := 54 * dieOfPort k + 9 * localOfPort k + c

/-- Whether a laser is enabled and not retired (R361, R367). -/
def State.laserUsable (s : State) (n : Nat) : Bool :=
  s.getBit (F.OPT_LASER_EN_EN.ix (n / 32)) (n % 32) && !s.getBit (F.OPT_LASER_RETIRED_RETIRED.ix (n / 32)) (n % 32)

/-- Whether a laser die is measured below 10 °C, where its lasers stay dark (R432). A die with no reading yet is not (DESIGN
CHOICE). -/
def State.laserCold (s : State) (d : Nat) : Bool :=
  let v := s.get (F.PWR_TEMP_NOW.ix (22 + d))
  v != 0x8000 && decide (signed 16 v < 100)

/-- Whether the laser die that feeds a port is cold. -/
def State.portCold (s : State) (k : Nat) : Bool := s.laserCold (laserOf k 0 / 108)

/-- A port's lasers are lit as it trains (R442), on a laser die that is not cold (R432). -/
def State.lightPort (s : State) (k : Nat) : State :=
  if s.fatal || s.portCold k then s
  else { s with lit := ((List.range 9).filter fun c => s.laserUsable (laserOf k c)).foldl (fun m c => m.add (laserOf k c)) s.lit }

/-- The location code of a laser's die (R366). -/
def locLaser (n : Nat) : Nat := locChip (0x28 + n / 108)

/-! Host writes. -/

/-- The PEND field of a block (R9); GEN has none, and block 27 is PST. -/
def pendFld (block : Nat) : Fld :=
  match block with
  | 1 => F.OTP_PEND_PEND
  | 2 => F.IMG_PEND_PEND
  | 3 => F.SEQ_PEND_PEND
  | 4 => F.QRN_PEND_PEND.ix 0
  | 5 => F.QRN_PEND_PEND.ix 1
  | 6 => F.QRN_PEND_PEND.ix 2
  | 7 => F.QRN_PEND_PEND.ix 3
  | 8 => F.UPD_PEND_PEND
  | 9 => F.MEM_PEND_PEND
  | 10 => F.PND_PEND_PEND
  | 11 => F.HOP_PEND_PEND
  | 12 => F.FAB_PEND_PEND
  | 13 => F.RTE_PEND_PEND
  | 14 => F.COL_PEND_PEND
  | 15 => F.LHL_PEND_PEND
  | 16 => F.TSI_PEND_PEND
  | 17 => F.MLR_PEND_PEND
  | 18 => F.CMP_PEND_PEND
  | 19 => F.CRY_PEND_PEND
  | 20 => F.TIM_PEND_PEND
  | 21 => F.SLU_PEND_PEND
  | 22 => F.OPT_PEND_PEND
  | 23 => F.FLT_PEND_PEND
  | 24 => F.PWR_PEND_PEND
  | 25 => F.MBR_PEND_PEND
  | 26 => F.ATT_PEND_PEND
  | _ => F.PST_PEND_PEND

/-- Whether a block answers at the start-up stage reached (R392): GEN, OTP, PST, ATT, FLT and PWR always, IMG from
stage 5, every other block at READY. -/
def State.answers (s : State) (block : Nat) : Bool :=
  let stage := s.get F.PWR_STAT_STAGE
  block == 0 || block == 1 || block == 23 || block == 24 || block == 26 || block == 27 ||
    (block == 2 && decide (5 ≤ stage)) || decide (6 ≤ stage)

/-- A posted write is discarded because its block's PEND reads 1 (R404). -/
def State.dropWrite (s : State) : State :=
  ((s.bump F.GEN_CNT_POST_DROP).evt F.GEN_EVT_POST_DROP).raise 0xFF .ce (locChip 0x18)

/-- What a host write to a block meets before it can act: FATAL ignores it unless it is one of the writes of R376
(`always`), a block that does not answer yet ignores it (R392), and a block whose PEND reads 1 discards it, as an
armed HOST does (R372, R404; GEN, and ATT_Q_TAIL by `unposted`, excepted). -/
def State.hostWrite (s : State) (block : Nat) (f : State → State) (always : Bool := false)
    (unposted : Bool := false) : State :=
  if s.fatal && !always then s
  else if !s.answers block then s
  else if block != 0 && !unposted && (s.flag (pendFld block) || s.forcedAt 0xFF (locChip 0x18)) then s.dropWrite
  else f s

/-- Station software writes a covered field (Table CTL-4): MATCH and MISMATCH become STALE, and so do INVALID and
STALE once a reference has been written. -/
def State.coveredWrite (s : State) : State :=
  let st := s.get F.GEN_DIGEST_STAT_STATE
  if st == 1 || st == 3 then
    let s1 := s.set F.GEN_DIGEST_STAT_STATE 2
    { s1 with gen := { s1.gen with refWritten := false } }
  else if (st == 0 || st == 2 || st == 4) && s.gen.refWritten then
    let s1 := s.set F.GEN_DIGEST_STAT_STATE 2
    { s1 with gen := { s1.gen with refWritten := false } }
  else s

end Sys2Proof.Machine
end

