-- ==== Sys2Proof/Machine/Store.lean ====
section
/-! DEFINITION. The device address space (R139–R145): its windows, what an access to each meets, the bytes and their
poison marks, and the structure image's fields that say how much of it is there. -/

namespace Sys2Proof.Machine

/-- What a byte of memory that nothing has written reads as: the spec gives no value after power-on (DESIGN CHOICE). -/
def blankByte : Byte := 0#8

/-- The stores of Table MEM-1. -/
inductive Store where
  | region (r : Nat)
  | base (k : Nat)
  | hub (j : Nat)
  | near (k : Nat)
  | far
  | none
deriving DecidableEq, Repr

/-- How many bits of a number are set. -/
def popcount (w v : Nat) : Nat := ((List.range w).filter fun n => bit v n).length

/-- The store an address reaches, `none` where the address is reserved or unimplemented (R139, R141). -/
def storeOf (pondMask a : Nat) : Store :=
  if a < 0x40000000 then .region (a / 0x1000000)
  else if 0x100000000 ≤ a ∧ a < 0x200000000 then
    if (a - 0x100000000) % 0x40000000 < 0x30000000 then .base ((a - 0x100000000) / 0x40000000) else .none
  else if 0x200000000 ≤ a ∧ a < 0x220000000 then
    if (a - 0x200000000) % 0x10000000 < 0x8000000 then .hub ((a - 0x200000000) / 0x10000000) else .none
  else if 0x10000000000 ≤ a ∧ a < 0x1F000000000 then .near ((a - 0x10000000000) / 0x3C00000000)
  else if 0x20000000000 ≤ a ∧ a < 0x20000000000 + popcount 4 pondMask * 0x6000000000 then .far
  else .none

/-- The base of the loader area (R119): four slots, then RUNNING and NEXT, 64 MiB each. -/
def loaderBase : Nat := 0x1EFE8000000

/-- Whether an address lies in the loader area (R119, R139). -/
def inLoader (a : Nat) : Bool := decide (loaderBase ≤ a) && decide (a < 0x1F000000000)

/-- The stack that holds a near-tier address (R142). -/
def stackOf (a : Nat) : Nat :=
  let x := a - 0x10000000000
  3 * (x / 0x3C00000000) + x % 0x3C00000000 / 1024 % 3

/-- The bytes of the unit that a store marks (Table MEM-2). -/
def Store.unit : Store → Nat
  | .near _ => 64
  | .far => 256
  | _ => 8

/-- The location code of a store's fault records (R168). -/
def storeLoc (a : Nat) : Store → Nat
  | .region r => locRegion r
  | .base k => locChip (0x10 + k)
  | .hub j => locChip (0x18 + j)
  | .near _ => locChip (stackOf a)
  | .far => locChip 0x20
  | .none => locChip 0x18

/-- POND_MASK of the running image (Table MEM-4). -/
def State.pondMask (s : State) : Nat := s.get F.PND_STAT_MASK

/-- The store an address reaches in a state. -/
def State.storeAt (s : State) (a : Nat) : Store := storeOf s.pondMask a

/-- The start of the unit that holds an address. -/
def State.unitAt (s : State) (a : Nat) : Nat := a / (s.storeAt a).unit * (s.storeAt a).unit

/-- One byte of the device address space. -/
def State.readByte (s : State) (a : Nat) : Byte := Tab.get blankByte s.mem a

/-- One byte written. -/
def State.writeByte (s : State) (a : Nat) (b : Byte) : State := { s with mem := Tab.put blankByte s.mem a b }

/-- Bytes read from consecutive addresses. -/
def State.readBytes (s : State) (a : Nat) : Nat → List Byte
  | 0 => []
  | n + 1 => s.readByte a :: s.readBytes (a + 1) n

/-- Bytes written to consecutive addresses. -/
def State.writeBytes (s : State) (a : Nat) : List Byte → State
  | [] => s
  | b :: bs => (s.writeByte a b).writeBytes (a + 1) bs

/-- Memory with nothing listed in a range. -/
def clearRange (lo n : Nat) : List Host.Cell → List Host.Cell
  | [] => []
  | (k, v) :: t => if lo ≤ k ∧ k < lo + n then clearRange lo n t else (k, v) :: clearRange lo n t

/-- A range of addresses made blank. -/
def State.blank (s : State) (lo n : Nat) : State := { s with mem := clearRange lo n s.mem }

/-- Whether the unit that holds an address is marked poisoned (R145). -/
def State.poisoned (s : State) (a : Nat) : Bool :=
  let u := s.unitAt a
  s.poison.has u ||
    (match s.storeAt a with
     | .near _ => s.stackPoison.has (stackOf a) && !s.cleaned.has u
     | _ => false)

/-- The mark of one unit set or cleared. -/
def State.markUnit (s : State) (a : Nat) (b : Bool) : State :=
  let u := s.unitAt a
  let near := match s.storeAt a with
    | .near _ => s.stackPoison.has (stackOf a)
    | _ => false
  { s with poison := s.poison.to u b, cleaned := if near then s.cleaned.to u (!b) else s.cleaned }

/-- The starts of the units that a range of `n` bytes touches. -/
def State.unitsOf (s : State) (a n : Nat) : List Nat :=
  let g := (s.storeAt a).unit
  if n = 0 then [] else (List.range ((a + n - 1) / g - a / g + 1)).map fun i => (a / g + i) * g

/-- The starts of the units that a range covers whole. -/
def State.wholeUnits (s : State) (a n : Nat) : List Nat :=
  let g := (s.storeAt a).unit
  (s.unitsOf a n).filter fun u => decide (a ≤ u) && decide (u + g ≤ a + n)

/-- Marks of several units. -/
def State.markUnits (s : State) (b : Bool) : List Nat → State
  | [] => s
  | u :: t => (s.markUnit u b).markUnits b t

/-- Whether any unit of a range is marked. -/
def State.anyPoison (s : State) (a n : Nat) : Bool := (s.unitsOf a n).any s.poisoned

/-- Clean bytes stored: each unit covered whole loses its mark, a unit written in part keeps it (R145). -/
def State.store (s : State) (a : Nat) (bs : List Byte) : State :=
  (s.writeBytes a bs).markUnits false (s.wholeUnits a bs.length)

/-- Poisoned output written (R64, R145): every unit reached is marked. -/
def State.storePoison (s : State) (a n : Nat) : State := s.markUnits true (s.unitsOf a n)

/-- Zeros stored in a range (R128, R118). -/
def State.storeZero (s : State) (a n : Nat) : State := (s.blank a n).markUnits false (s.wholeUnits a n)

/-- A range of the loader area zeroed in whole lines: no mark is left in it (R118, R145). -/
def State.zeroLines (s : State) (lo n : Nat) : State :=
  let inside := fun (k : Nat) => decide (lo ≤ k ∧ k < lo + n)
  let lines := if s.stackPoison.isEmpty then []
    else ((List.range (n / 64)).map fun i => lo + 64 * i).filter fun a => s.stackPoison.has (stackOf a)
  { s with
    mem := clearRange lo n s.mem
    poison := s.poison.filter fun x => !inside x.1
    cleaned := lines.foldl (fun m a => Marks.add m a) s.cleaned }

/-- Whether every byte of a range stands in an implemented part, and, unless the loader asks, outside the loader area
(R141). -/
def State.rangeOk (s : State) (a n : Nat) : Bool :=
  n == 0 ||
    (s.storeAt a != .none && s.storeAt (a + n - 1) == s.storeAt a &&
      !(inLoader a || inLoader (a + n - 1)))

/-- The first UC memory fault since MEM_CNT_CLR is kept (R169). -/
def State.firstMem (s : State) (source loc addr : Nat) : State :=
  if s.get F.MEM_FE_INFO_SOURCE != 0 then s
  else ((s.set64 F.MEM_FE_ADDR_LO_ADDR F.MEM_FE_ADDR_HI_ADDR addr).set F.MEM_FE_INFO_SOURCE source).set
    F.MEM_FE_INFO_UNIT (loc % 256)

/-- The first Quern fault of a region since QRN_CNT_CLR is kept (R80, R81). -/
def State.firstQrn (s : State) (r source loc : Nat) (tile : Nat := 0) : State :=
  let d := r / 16
  let l := r % 16
  if s.get (F.QRN_FE_SRC_SOURCE.ix d l) != 0 then s
  else ((s.set (F.QRN_FE_LOC_LOC.ix d l) loc).set (F.QRN_FE_SRC_SOURCE.ix d l) source).set
    (F.QRN_FE_SRC_TILE.ix d l) tile

/-- A Quern fault (R80): kept as the region's first and reported. -/
def State.raiseQrn (s : State) (r source : Nat) (cls : FClass) (loc : Nat) (desc : Nat := 0) (info : Nat := 0)
    (info2 : Nat := 0) (retirement : Bool := false) (force : Bool := false) : State :=
  (s.firstQrn r source loc (info % 65536)).raise source cls loc desc info info2 retirement force

/-- A UC memory fault (R168, R169): the event bit, the first-error registers and the record. -/
def State.raiseMem (s : State) (source : Nat) (bit : Fld) (loc desc addr : Nat) : State :=
  ((s.evt bit).firstMem source loc addr).raise source .uc loc desc 0 addr

/-- The faults of errors that a read meets (R34, R62, R144): a corrected error counts and is CE; an uncorrectable one
marks its unit poisoned and is UC. `desc` is the descriptor concerned. -/
def State.readError (s : State) (desc : Nat) (e : ReadError) : State :=
  let loc := storeLoc e.addr (s.storeAt e.addr)
  let s1 := if e.correctable then s else s.markUnit e.addr true
  match s.storeAt e.addr with
  | .region r =>
    let d := r / 16
    let l := r % 16
    if e.correctable then (s1.bump (F.QRN_CNT_A_SRAM_CE.ix d l)).raiseQrn r 0x20 .ce loc desc 0 e.addr
    else (s1.bump (F.QRN_CNT_B_SRAM_UC.ix d l)).raiseQrn r 0x21 .uc loc desc 0 e.addr
  | .base k =>
    if e.correctable then (s1.bump (F.MEM_BSRAM_CNT_CE.ix k)).raise 0x64 .ce loc desc 0 e.addr
    else (s1.bump (F.MEM_BSRAM_CNT_UC.ix k)).raiseMem 0x65 F.MEM_EVT_POISONED loc desc e.addr
  | .hub j =>
    if e.correctable then (s1.bump (F.MEM_HSRAM_CNT_CE.ix j)).raise 0x66 .ce loc desc 0 e.addr
    else (s1.bump (F.MEM_HSRAM_CNT_UC.ix j)).raiseMem 0x67 F.MEM_EVT_POISONED loc desc e.addr
  | .near _ =>
    if e.correctable then (s1.bump (F.MEM_STACK_CNT_CE.ix (stackOf e.addr))).raise 0x60 .ce loc desc 0 e.addr
    else (s1.bump (F.MEM_STACK_CNT_UC.ix (stackOf e.addr))).raiseMem 0x61 F.MEM_EVT_POISONED loc desc e.addr
  | _ => s1

/-- The faults of every error that an access meets. -/
def State.readErrors (s : State) (desc : Nat) : List ReadError → State
  | [] => s
  | e :: t => (s.readError desc e).readErrors desc t

/-- The corrected and the uncorrectable read error source of a store (Table QRN-12, Table MEM-12). -/
def Store.readSources : Store → Option (Nat × Nat)
  | .region _ => some (0x20, 0x21)
  | .base _ => some (0x64, 0x65)
  | .hub _ => some (0x66, 0x67)
  | .near _ => some (0x60, 0x61)
  | _ => Option.none

/-- The errors that armed sources make a read at an address meet (R372). -/
def State.armedErrors (s : State) (a : Nat) : List ReadError :=
  match (s.storeAt a).readSources with
  | none => []
  | some (ce, uc) =>
    let loc := storeLoc a (s.storeAt a)
    (if s.forcedAt ce loc then [⟨a, true⟩] else []) ++ (if s.forcedAt uc loc then [⟨a, false⟩] else [])

/-- ADDR_BAD (R141): the access reaches no store. The record carries the address, and names the stack of a loader
address and otherwise H0. -/
def State.addrBad (s : State) (desc addr : Nat) : State :=
  s.raiseMem 0x63 F.MEM_EVT_ADDR_BAD (if inLoader addr then locChip (stackOf addr) else locChip 0x18) desc addr

end Sys2Proof.Machine
end

