-- ==== Sys2Proof/Machine/Window.lean ====
section
/-! DEFINITION. Compressed windows of the far tier (R297, R301, R302): which link, hub and block map serve an address, what
a read of a block gives, and a whole block written. -/

namespace Sys2Proof.Machine

/-- The n-th set bit of a mask of four links. -/
def nthLink (mask n : Nat) : Nat := (((List.range 4).filter fun p => bit mask p)[n]?).getD 0

/-- The pond link of a far-tier address (R151). -/
def linkOf (mask a : Nat) : Nat := nthLink mask ((a - 0x20000000000) / 4096 % max 1 (popcount 4 mask))

/-- Whether a far-tier address maps to an ACTIVE link; true of every other address (R159). -/
def State.linkOk (s : State) (a : Nat) : Bool :=
  match s.storeAt a with
  | .far => s.getBit F.PND_STAT_ACTIVE (linkOf s.pondMask a)
  | _ => true

/-- Whether an access that does not come from the loader reaches a store at an address (R141). -/
def State.mapped (s : State) (a : Nat) : Bool := s.storeAt a != .none && !inLoader a

/-- Whether an access at an address reaches its store: mapped, and its link up. -/
def State.reaches (s : State) (a : Nat) : Bool := s.mapped a && s.linkOk a

/-! Windows. -/

/-- The tables of the valid slots, with their slot numbers. -/
def State.btables (s : State) : List (Nat × BTable) := s.cmp.slots.map fun x => (x.1, parseTable x.2)

/-- The window that an address lies in: slot, table and window. -/
def State.windowOf (s : State) (a : Nat) : Option (Nat × BTable × BWindow) :=
  s.btables.findSome? fun x =>
    (x.2.windows.find? fun w => decide (w.base ≤ a) && decide (a < w.base + w.len)).map fun w => (x.1, x.2, w)

/-- Whether an address lies in a window. -/
def State.inWindow (s : State) (a : Nat) : Bool := (s.windowOf a).isSome

/-- The hub whose Bolter serves a far-tier address (R302). -/
def State.bolterHub (s : State) (a : Nat) : Nat := linkOf s.pondMask a / 2

/-- What a read of a window's block gives: its bytes, poison, or the cause of a shape fault. -/
inductive WinRead where
  | data (bs : List Byte)
  | poison
  | fault (cause : Nat)
deriving DecidableEq, Repr

/-- A block of a window read (R301): by its map entry, from its place. -/
def State.readBlock (s : State) (w : BWindow) (a : Nat) : WinRead :=
  let blk := a / 4096 * 4096
  let m := w.map + 2 * ((blk - w.base) / 4096)
  let e := beNat (s.readBytes m 2)
  let kind := e / 2 ^ 14
  let len := e % 512
  if s.poisoned m ∨ bits e 13 9 ≠ 0 then .fault 5
  else if kind = 0 ∧ len = 0 then .data (List.replicate 4096 0#8)
  else if kind = 3 ∧ len = 0 then .poison
  else if kind = 2 ∧ len = 256 then (if s.anyPoison blk 4096 then .poison else .data (s.readBytes blk 4096))
  else if kind = 1 ∧ 4 ≤ len ∧ len ≤ 252 then
    if s.anyPoison blk (16 * len) then .poison
    else match decodeBlock (s.btables.map Prod.snd) (s.readBytes blk (16 * len)) with
      | .good bs => .data bs
      | .fault c => .fault c
  else .fault 5

/-- A byte of a window, with its poison. -/
def State.windowByte (s : State) (w : BWindow) (a : Nat) : Byte × Bool :=
  match s.readBlock w a with
  | .data bs => ((bs[a % 4096]?).getD 0#8, !s.linkOk a)
  | _ => (s.readByte a, true)

/-- The first Bolter fault since CMP_CNT_CLR is kept (R313). -/
def State.firstCmp (s : State) (source cause hub flow value : Nat) : State :=
  if s.get F.CMP_FE_SOURCE != 0 then s
  else (s.setAll [(F.CMP_FE_SOURCE, source), (F.CMP_FE_CAUSE, cause), (F.CMP_FE_HUB, hub), (F.CMP_FE_FLOW, flow)]).set64
    F.CMP_FE_ADDR_LO_VALUE F.CMP_FE_ADDR_HI_VALUE value

/-- SHAPE_MEM (R297). -/
def State.shapeMem (s : State) (desc a cause : Nat) : State :=
  let hub := s.bolterHub a
  let blk := a / 4096 * 4096
  (((s.evt F.CMP_EVT_SHAPE_MEM).firstCmp 0xC0 cause hub 0 blk).bump (F.CMP_HUB_CNT_SHAPE.ix hub)).raise 0xC0 .uc
    (locChip (0x18 + hub)) desc 0 blk

/-- CMP_PARTIAL (R302). -/
def State.cmpPartial (s : State) (desc a : Nat) : State :=
  let hub := s.bolterHub a
  let blk := a / 4096 * 4096
  ((s.evt F.CMP_EVT_PARTIAL).firstCmp 0xC2 0 hub 0 blk).raise 0xC2 .uc (locChip (0x18 + hub)) desc 0 blk

/-- A block stored raw is counted in units of 1,024 (R293, R313). -/
def State.countRaw (s : State) (hub : Nat) : State :=
  let n := Tab.get 0 s.cmp.raws hub + 1
  let s1 := { s with cmp := { s.cmp with raws := Tab.put 0 s.cmp.raws hub (n % 1024) } }
  if n = 1024 then s1.bump (F.CMP_HUB_CNT_RAW.ix hub) else s1

/-- A block that Bolter has coded, or passed raw, is counted (R313). -/
def State.countBlock (s : State) (hub out : Nat) (slot : Option Nat) : State :=
  let s1 := (s.add64 (F.CMP_HUB_IN_LO_BYTES.ix hub) (F.CMP_HUB_IN_HI_BYTES.ix hub) 4096).add64
    (F.CMP_HUB_OUT_LO_BYTES.ix hub) (F.CMP_HUB_OUT_HI_BYTES.ix hub) out
  match slot with
  | some n => s1.add64 (F.CMP_SLOT_BLK_LO_BLOCKS.ix n) (F.CMP_SLOT_BLK_HI_BLOCKS.ix n) 1
  | none => s1.countRaw hub

/-- A block map entry written. -/
def State.setMap (s : State) (w : BWindow) (blk kind len : Nat) : State :=
  s.writeBytes (w.map + 2 * ((blk - w.base) / 4096)) (beBytes 2 (kind * 2 ^ 14 + len))

/-- A whole block of a window written (R301, R302): poison, zeros, coded or raw. Nothing is written on a link that is
not ACTIVE. -/
def State.writeBlock (s : State) (slot : Nat) (t : BTable) (w : BWindow) (blk : Nat) (xs : List (Byte × Bool)) : State :=
  let data := xs.map Prod.fst
  let hub := s.bolterHub blk
  if !s.linkOk blk then s
  else if xs.any Prod.snd then s.setMap w blk 3 0
  else if data.all (· == 0#8) then s.setMap w blk 0 0
  else
    match (if s.flag F.CMP_CFG_MEM_EN then codeBlock t data else none) with
    | some b => (((s.store blk b).markUnits false (s.unitsOf blk b.length)).setMap w blk 1 ((b.length + 15) / 16)).countBlock
        hub b.length (some slot)
    | none => ((s.store blk data).setMap w blk 2 256).countBlock hub 4096 none

/-- The starts of the windows' blocks that a range touches. -/
def State.windowBlocks (s : State) (a n : Nat) : List Nat :=
  if n = 0 then []
  else ((List.range ((a + n - 1) / 4096 - a / 4096 + 1)).map fun i => (a / 4096 + i) * 4096).filter s.inWindow

/-- Whether a write of a range covers only whole blocks of windows (R302). -/
def State.windowWhole (s : State) (a n : Nat) : Bool :=
  (s.windowBlocks a n).all fun b => decide (a ≤ b) && decide (b + 4096 ≤ a + n)

/-- The first shape fault that a read of a range meets: the block and the cause. -/
def State.windowFault (s : State) (a n : Nat) : Option (Nat × Nat) :=
  (s.windowBlocks a n).findSome? fun b =>
    match s.windowOf b with
    | none => none
    | some x =>
      if !s.linkOk b then none
      else match s.readBlock x.2.2 b with
        | .fault c => some (b, c)
        | _ => if s.forcedAt 0xC0 (locChip (0x18 + s.bolterHub b)) then some (b, 3) else none

/-- The whole blocks of windows in a write are coded and mapped. -/
def State.writeWindows (s : State) (a : Nat) (xs : List (Byte × Bool)) : List Nat → State
  | [] => s
  | b :: t =>
    let s1 := match s.windowOf b with
      | some x => s.writeBlock x.1 x.2.1 x.2.2 b ((xs.drop (b - a)).take 4096)
      | none => s
    s1.writeWindows a xs t

end Sys2Proof.Machine
end

