-- ==== Sys2Proof/Machine/Access.lean ====
section
/-! DEFINITION. Reads and writes of ranges of the device address space with what they meet on the way (R139–R145, R151,
R159, R297, R302): bytes that reach no store, far-tier links that are not ACTIVE, compressed windows, and poison that a
copy carries. -/

namespace Sys2Proof.Machine

/-- A byte as a reader gets it: with a flag that says it is poisoned (R141, R145, R159). -/
def State.byteAt (s : State) (a : Nat) : Byte × Bool :=
  match s.windowOf a with
  | some x => s.windowByte x.2.2 a
  | none => (s.readByte a, !s.reaches a || s.poisoned a)

/-- Bytes as a reader gets them. -/
def State.fetch (s : State) (a : Nat) : Nat → List (Byte × Bool)
  | 0 => []
  | n + 1 => s.byteAt a :: s.fetch (a + 1) n

/-- Whether a byte written at an address goes straight to its store. -/
def State.plain (s : State) (a : Nat) : Bool := s.reaches a && !s.inWindow a

/-- Bytes written where they reach a store; the others are lost. -/
def State.writeReached (s : State) (a : Nat) : List (Byte × Bool) → State
  | [] => s
  | b :: t => (if s.plain a then s.writeByte a b.1 else s).writeReached (a + 1) t

/-- The poison marks of the units that a write reaches (R145): a unit that a poisoned byte reaches is marked, a unit
covered whole by clean bytes is cleared, and any other unit keeps its mark. -/
def State.markReached (s : State) (a : Nat) (xs : List (Byte × Bool)) : State :=
  let n := xs.length
  let units := ((List.range n).map fun i => s.unitAt (a + i)).eraseDups.filter s.plain
  units.foldl (fun t u =>
    let g := (s.storeAt u).unit
    if (xs.zipIdx).any fun x => x.1.2 && s.unitAt (a + x.2) == u then t.markUnit u true
    else if a ≤ u ∧ u + g ≤ a + n then t.markUnit u false
    else t) s

/-- Bytes with poison flags written from an address on (R145). A write that covers a block of a window in part writes
nothing (R302). -/
def State.deposit (s : State) (a : Nat) (xs : List (Byte × Bool)) : State :=
  let blocks := s.windowBlocks a xs.length
  if blocks.isEmpty then (s.writeReached a xs).markReached a xs
  else if !s.windowWhole a xs.length then s
  else ((s.writeReached a xs).markReached a xs).writeWindows a xs blocks

/-- The first address of a range that satisfies a test. -/
def firstIn (p : Nat → Bool) (a n : Nat) : Option Nat := ((List.range n).map (a + ·)).find? p

/-- The location code of the photonic die of a pond link. -/
def locPond (p : Nat) : Nat := locChip (0x20 + p)

/-- How many bytes of a range go over a pond link (R151). -/
def State.farBytes (s : State) (l : Nat) (x : Nat × Nat) : Nat :=
  if s.storeAt x.1 != .far then 0
  else ((List.range ((x.1 % 4096 + x.2 + 4095) / 4096)).map fun i =>
    let lo := max x.1 ((x.1 / 4096 + i) * 4096)
    if linkOf s.pondMask lo == l then min (x.1 + x.2) ((x.1 / 4096 + i + 1) * 4096) - lo else 0).sum

/-- The far-tier bytes of ranges counted in a pair of counters of their links (R170). -/
def State.countFar (s : State) (lo hi : Fld) (ranges : List (Nat × Nat)) : State :=
  (List.range 4).foldl (fun t l =>
    let n := (ranges.map (s.farBytes l)).sum
    if n = 0 then t else t.add64 (lo.ix l) (hi.ix l) n) s

/-- PL_DOWN of a far-tier access whose link is not ACTIVE (R159). -/
def State.farDown (s : State) (desc addr : Nat) : State :=
  let l := linkOf s.pondMask addr
  (s.evtOf F.PND_EVT_DOWN l).raise 0x71 .uc (locPond l) desc 0 addr

/-- The faults of an operation's ranges, those it reads and those it writes: ADDR_BAD for the first address of no store
(R141), PL_DOWN once for the first far-tier access on a link that is down (R159), SHAPE_MEM for the first block of a
window that does not decode (R297), CMP_PARTIAL for the first write of part of one (R302). Whether the operation fails,
and the state, with the far-tier bytes of an operation that meets none counted (R170). An armed ADDR_BAD acts on the first
address (R372). -/
def State.rangeFaults (s : State) (desc : Nat) (reads writes : List (Nat × Nat)) : Bool × State :=
  let ranges := reads ++ writes
  let bad := (ranges.findSome? fun x => firstIn (fun a => !s.mapped a) x.1 x.2).or
    (if s.forcedAt 0x63 (locChip 0x18) then (ranges.find? fun x => decide (0 < x.2)).map Prod.fst else none)
  let down := ranges.findSome? fun x => firstIn (fun a => s.mapped a && !s.linkOk a) x.1 x.2
  let shape := reads.findSome? fun x => s.windowFault x.1 x.2
  let part := writes.find? fun x => !s.windowWhole x.1 x.2 ||
    (s.inWindow x.1 && s.forcedAt 0xC2 (locChip (0x18 + s.bolterHub x.1)))
  let s1 := match bad with
    | some a => s.addrBad desc a
    | none => s
  let s2 := match down with
    | some a => s1.farDown desc a
    | none => s1
  let s3 := match shape with
    | some f => s2.shapeMem desc f.1 f.2
    | none => s2
  let s4 := match part with
    | some x => s3.cmpPartial desc ((s.windowBlocks x.1 x.2).head?.getD x.1)
    | none => s3
  let failed := bad.isSome || down.isSome || shape.isSome || part.isSome
  (failed, if failed then s4 else (s4.countFar F.PND_RD_LO_BYTES F.PND_RD_HI_BYTES reads).countFar F.PND_WR_LO_BYTES
    F.PND_WR_HI_BYTES writes)

end Sys2Proof.Machine
end

