-- ==== Sys2Proof/Machine/BolterCmd.lean ====
section
/-! DEFINITION. Meanings of the Bolter commands (R297–R302, R313): a staged table installed, reads and writes of compressed
windows, and the counters. -/

namespace Sys2Proof.Machine

/-- The mask of the slots listed in a table. -/
def slotMask {α : Type} (t : Tab α) : Nat := (t.map fun x => 2 ^ x.1).sum

/-- A slot takes a table's body (R298, R313). -/
def State.putTable (s : State) (n : Nat) (body : List Byte) : State :=
  let t := parseTable body
  let s1 := { s with cmp := { s.cmp with
    slots := Tab.insert s.cmp.slots n body, staged := Tab.erase s.cmp.staged n } }
  s1.setAll [(F.CMP_SLOT_BLK_LO_BLOCKS.ix n, 0), (F.CMP_SLOT_BLK_HI_BLOCKS.ix n, 0), (F.CMP_STAT_VALID, slotMask s1.cmp.slots), (F.CMP_STAT_STAGED, slotMask s1.cmp.staged),
    (F.CMP_SLOT_STAT_VALID.ix n, 1), (F.CMP_SLOT_STAT_LINE.ix n, b2n t.line), (F.CMP_SLOT_STAT_ELEM.ix n, b2n t.fp32),
    (F.CMP_SLOT_STAT_WINDOWS.ix n, t.windows.length), (F.CMP_SLOT_STAT_EPOCH.ix n, t.epoch),
    (F.CMP_SLOT_USE_RETAINED.ix n, (s.mlr.retain.filter fun x => x.tables.contains t.epoch).length)]

/-- A table waits to be installed (R299). -/
def State.stageTable (s : State) (n : Nat) (body : List Byte) : State :=
  let s1 := { s with cmp := { s.cmp with staged := Tab.insert s.cmp.staged n body } }
  s1.set F.CMP_STAT_STAGED (slotMask s1.cmp.staged)

/-- BOLTER_TABLE_INSTALL (R299): the staged table is installed once no retained segment names the old epoch. Accesses and
the coding of a segment are whole commands, so no window is in use between commands. -/
def execBolterTableInstall (slot : Nat) (s : State) : Host.Outcome State Fault Refusal :=
  .next (match Tab.find s.cmp.staged slot with
    | none => s
    | some body => if s.get (F.CMP_SLOT_USE_RETAINED.ix slot) = 0 then s.putTable slot body else s)

/-- WINDOW_READ (R297, R302): the bytes asked for are returned, poisoned where their block does not decode. -/
def execWindowRead (addr len : Nat) (s : State) : Host.Outcome State Fault Refusal :=
  .next ((s.rangeFaults 0 [(addr, len)] []).2.emit (.bytes addr (s.fetch addr len)))

/-- WINDOW_WRITE (R302): whole blocks are coded and mapped; a write of a part fails. -/
def execWindowWrite (addr : Nat) (data : List Byte) (poison : Bool) (s : State) : Host.Outcome State Fault Refusal :=
  .next (
    let x := s.rangeFaults 0 [] [(addr, data.length)]
    if x.1 then x.2 else x.2.deposit addr (data.map fun b => (b, poison)))

/-- CMP_CNT_CLR (R313): the hub counters clear, CMP_FE is re-armed and the causes of CMP_EVT end. -/
def execCmpCntClr (s : State) : Host.Outcome State Fault Refusal :=
  .next (s.hostWrite 18 fun t =>
    ({ t with cmp := { t.cmp with raws := [] } }).clearAll ([F.CMP_FE_SOURCE, F.CMP_FE_CAUSE, F.CMP_FE_HUB, F.CMP_FE_FLOW,
      F.CMP_FE_ADDR_LO_VALUE, F.CMP_FE_ADDR_HI_VALUE] ++ (List.range 2).flatMap fun j =>
        [F.CMP_HUB_CNT_RAW.ix j, F.CMP_HUB_CNT_SHAPE.ix j]) |>.evtEndAll
      [F.CMP_EVT_PARTIAL, F.CMP_EVT_SHAPE_LINE, F.CMP_EVT_SHAPE_MEM])

end Sys2Proof.Machine
end

