-- ==== Sys2Proof/Machine/Digest.lean ====
section
/-! DEFINITION. The configuration digest (R406, R407): the words it covers, its comparison, and a covered field that the
device changes by itself. -/

namespace Sys2Proof.Machine

/-- The word of a register's covered fields, every other bit zero (R406). -/
def State.coveredWord (s : State) (r : RegDesc) (addr : Nat) : Nat :=
  (r.fields.map fun f => s.get (f.atAddr addr) * 2 ^ f.lo).sum

/-- The covered words by address (R406). -/
def State.coveredWords (s : State) : Tab Nat :=
  (regMap.filter fun r => r.covered).foldl (fun t r =>
    (gridOffsets r.dims).foldl (fun u o => Tab.insert u (r.base + o) (s.coveredWord r (r.base + o))) t) []

/-- A word as its bytes in increasing address order (R406, R7). -/
def leBytes : Nat → Nat → List Byte
  | 0, _ => []
  | n + 1, v => BitVec.ofNat 8 v :: leBytes n (v / 256)

/-- The digest of the register file (R406). -/
def State.digest (s : State) : Nat := crc32c (s.coveredWords.flatMap fun w => leBytes 4 w.2)

/-- The state of the digest (Table CTL-4). -/
def State.digestState (s : State) : Nat := s.get F.GEN_DIGEST_STAT_STATE

/-- Whether a computation compares (R407): in MATCH and MISMATCH, and after a write of GEN_DIGEST_REF. -/
def State.digestCompares (s : State) : Bool :=
  s.digestState == 1 || s.digestState == 3 || (s.gen.refWritten && s.digestState != 5)

/-- DIGEST (R407, R423). -/
def State.digestFault (s : State) : State := (s.evt F.GEN_EVT_DIGEST).raise 0xFD .uc (locChip 0x18)

/-- The digest is computed and, where R407 says so, compared. `again` says that GEN_DIGEST_REF has been written since
MISMATCH was entered, so that a comparison that differs enters it anew. -/
def State.computeDigest (s : State) : State :=
  let d := s.digest
  let s1 := s.set F.GEN_DIGEST_NOW_CRC d
  if !s.digestCompares then s1
  else
    let again := s.digestState != 3 || s.gen.refWritten
    let s2 := { s1 with gen := { s1.gen with refWritten := false } }
    if d = s.get F.GEN_DIGEST_REF_CRC ∧ ¬ s.forcedAt 0xFD (locChip 0x18) then s2.set F.GEN_DIGEST_STAT_STATE 1
    else
      let s3 := (s2.bump F.GEN_DIGEST_STAT_MISMATCHES).set F.GEN_DIGEST_STAT_STATE 3
      if again then s3.digestFault else s3

/-- A covered field changes without a write to it (R407, Table CTL-13): compared first; a MATCH is carried over. -/
def State.deviceChange (s : State) (f : State → State) : State :=
  if s.digestState = 1 then
    let s1 := s.computeDigest
    if s1.digestState = 1 then
      let s2 := f s1
      (s2.set F.GEN_DIGEST_REF_CRC s2.digest).set F.GEN_DIGEST_NOW_CRC s2.digest
    else f s1
  else f s

end Sys2Proof.Machine
end

