-- ==== Sys2Proof/Machine/Image.lean ====
section
/-! DEFINITION. The structure image as bytes (R105–R113): its header, section table and bodies, and the records that
the schedulers read from it while it runs. -/

namespace Sys2Proof.Machine

/-- One entry of the section table (Table IMG-2). -/
structure Sec where
  typ : Nat
  inst : Nat
  off : Nat
  len : Nat
  crc : Nat
deriving DecidableEq, Repr

/-- SECTIONS of an image (Table IMG-1). -/
def imgSections (img : List Byte) : Nat := beAt img 36 2

/-- IMAGE_ID of an image. -/
def imgId (img : List Byte) : Nat := beAt img 8 8

/-- ARB_VERSION of an image. -/
def imgArb (img : List Byte) : Nat := beAt img 16 4

/-- Entry i of the section table. -/
def imgSec (img : List Byte) (i : Nat) : Sec :=
  let o := 256 + 32 * i
  ⟨beAt img o 2, beAt img (o + 2) 1, beAt img (o + 4) 4, beAt img (o + 8) 4, beAt img (o + 12) 4⟩

/-- The section table. -/
def imgTable (img : List Byte) : List Sec := (List.range (imgSections img)).map (imgSec img)

/-- The bytes of a section's body. -/
def secBody (img : List Byte) (x : Sec) : List Byte := slice img x.off x.len

/-- The body of the section with a type and instance, if the image has it. -/
def imgFind (img : List Byte) (typ inst : Nat) : Option (List Byte) :=
  ((imgTable img).find? fun x => x.typ == typ && x.inst == inst).map (secBody img)

/-- The body of a section, empty when the image has none. -/
def imgBody (img : List Byte) (typ inst : Nat) : List Byte := (imgFind img typ inst).getD []

/-! REGION (R111). -/

/-- RESERVE of a region. -/
def imgReserve (img : List Byte) (r : Nat) : Bool := bit (beAt (imgBody img 0x800E 0) r 1) 7
/-- INIT_PHASE of a region. -/
def imgInitPhase (img : List Byte) (r : Nat) : Nat := bits (beAt (imgBody img 0x800E 0) r 1) 6 4
/-- SPARE_PHYS of a region. -/
def imgSpare (img : List Byte) (r : Nat) : Nat := beAt (imgBody img 0x800E 0) r 1 % 16
/-- EXCLUDE: whether a region receives no dispatch. -/
def imgExclude (img : List Byte) (r : Nat) : Bool := bit (beAt (imgBody img 0x800E 0) 64 8) r

/-! PHASE (R112). -/

/-- Whether the image holds a phase. -/
def imgHasPhase (img : List Byte) (n : Nat) : Bool := (imgFind img 0x800F n).isSome
/-- STEP of a phase. -/
def imgStepPhase (img : List Byte) (n : Nat) : Bool := bit (beAt (imgBody img 0x800F n) 1 1) 0
/-- JOIN of a region in a phase. -/
def imgJoin (img : List Byte) (n r : Nat) : Nat := bits (beAt (imgBody img 0x800F n) (16 + 16 * r) 1) 7 5
/-- POS_MAP: the physical block for each logical position, position 0 first. -/
def imgPosMap (img : List Byte) (n r : Nat) : List Nat :=
  let v := beAt (imgBody img 0x800F n) (18 + 16 * r) 8
  (List.range 16).map fun p => v / 16 ^ (15 - p) % 16
/-- ENTRY of a region in a phase. -/
def imgEntry (img : List Byte) (n r : Nat) : Nat := beAt (imgBody img 0x800F n) (28 + 16 * r) 4

/-! DESC and PROGRAM (R113). -/

/-- The descriptor that a list reference names, if its DESC body reaches so far. -/
def imgDesc (img : List Byte) (ref : Nat) : Option (List Byte) :=
  let b := imgBody img 0x8010 (ref / 2 ^ 24)
  let i := ref % 2 ^ 24
  if 64 * (i + 1) ≤ b.length then some (slice b (64 * i) 64) else none

/-- How many descriptors follow from a reference to the end of its body. -/
def imgTail (img : List Byte) (ref : Nat) : Nat :=
  (imgBody img 0x8010 (ref / 2 ^ 24)).length / 64 - ref % 2 ^ 24

/-- How many entries the PROGRAM holds. -/
def imgEntries (img : List Byte) : Nat := (imgBody img 0x8011 0).length / 16
/-- LIST of a PROGRAM entry. -/
def imgProgList (img : List Byte) (i : Nat) : Nat := beAt (imgBody img 0x8011 0) (16 * i) 4
/-- COUNT of a PROGRAM entry. -/
def imgProgCount (img : List Byte) (i : Nat) : Nat := beAt (imgBody img 0x8011 0) (16 * i + 4) 4
/-- STEP_REARM of a PROGRAM entry. -/
def imgProgRearm (img : List Byte) (i : Nat) : Bool := bit (beAt (imgBody img 0x8011 0) (16 * i + 8) 1) 0

/-! IDENT (R109). -/

/-- SITE. -/
def imgSite (img : List Byte) : Nat := beAt (imgBody img 0x8001 0) 0 1
/-- SITES. -/
def imgSites (img : List Byte) : Nat := beAt (imgBody img 0x8001 0) 1 1
/-- GW_INDEX. -/
def imgGw (img : List Byte) : Nat := beAt (imgBody img 0x8001 0) 2 1
/-- GW_PER_SITE. -/
def imgGwPerSite (img : List Byte) : Nat := beAt (imgBody img 0x8001 0) 3 1
/-- PARTNER. -/
def imgPartner (img : List Byte) : Nat := beAt (imgBody img 0x8001 0) 4 1
/-- ENDPOINT. -/
def imgEndpoint (img : List Byte) : Nat := beAt (imgBody img 0x8001 0) 5 3 % 2 ^ 20

/-- JOB_ID, 8 bytes. -/
def imgJob (img : List Byte) : List Byte := slice (imgBody img 0x8001 0) 8 8

/-! LINE (R252, R258, Table LHL-8, Table MLR-2). -/

/-- A flow record. -/
structure FlowRec where
  flow : Nat
  dir : Nat
  site : Nat
  gw : Nat
  queue : Nat
  win : Nat
  retx : Nat
  kslot : Nat
  hub : Nat
deriving DecidableEq, Repr

/-- The flow records of an image. -/
def imgFlows (img : List Byte) : List FlowRec :=
  let b := imgBody img 0x8009 0
  (List.range (beAt b 0 2)).map fun i =>
    let o := 128 + 16 * i
    let p := beAt b (o + 8) 8
    ⟨beAt b o 1, beAt b (o + 1) 1 / 64, beAt b (o + 2) 1, beAt b (o + 3) 1, beAt b (o + 4) 1 % 32, p / 2 ^ 40,
      bits p 39 32, bits p 31 26, bits p 25 25⟩

/-- The record of a flow. -/
def imgFlow (img : List Byte) (f : Nat) : Option FlowRec := (imgFlows img).find? fun r => r.flow == f

/-- A flow that sends. -/
def FlowRec.sends (r : FlowRec) : Bool := bit r.dir 0

/-- A flow that receives. -/
def FlowRec.receives (r : FlowRec) : Bool := bit r.dir 1

/-! SHARD_MAP (R110). -/

/-- ENTRIES. -/
def imgTensors (img : List Byte) : Nat := beAt (imgBody img 0x8002 0) 4 4

/-- One owned tensor of the shard map. -/
structure Tensor where
  owner : Nat
  matrix : Bool
  rows : Nat
  cols : Nat
deriving DecidableEq, Repr

/-- Entry i of the shard map. -/
def imgTensor (img : List Byte) (i : Nat) : Tensor :=
  let b := imgBody img 0x8002 0
  let o := 16 + 8 * i
  ⟨beAt b o 1, beAt b (o + 1) 1 == 0, beAt b (o + 2) 2, beAt b (o + 4) 2⟩

/-- The tensors that a gateway owns, in shard-map order (R110). -/
def imgOwned (img : List Byte) (gw : Nat) : List Tensor :=
  ((List.range (imgTensors img)).map (imgTensor img)).filter fun t => t.owner == gw

end Sys2Proof.Machine
end

