-- ==== Sys2Proof/Machine/Operands.lean ====
section
/-! DEFINITION. The number formats of the operands (Table QRN-3, R54, R96, R97) and their arithmetic: values are held
exactly as a sign, a magnitude and a power of two, and rounded once where a rule rounds. -/

namespace Sys2Proof.Machine

/-- An exact value of the operand formats: a NaN, an infinity, or (−1)^neg × mag × 2^ex. Zero keeps its sign. -/
inductive Num where
  | nan
  | inf (neg : Bool)
  | fin (neg : Bool) (mag : Nat) (ex : Int)
deriving DecidableEq, Repr

/-- The value +0. -/
def Num.zero : Num := .fin false 0 0

/-- Number of bits of a magnitude. -/
def bitLen (n : Nat) : Nat := if n = 0 then 0 else n.log2 + 1

/-- A format in the shape of IEEE 754: exponent bits, fraction bits, bias. -/
structure Fmt where
  ebits : Nat
  fbits : Nat
  bias : Nat
deriving DecidableEq, Repr

/-- binary32 (R12). -/
def Fmt.f32 : Fmt := ⟨8, 23, 127⟩
/-- BF16, the upper 16 bits of binary32 (R12). -/
def Fmt.bf16 : Fmt := ⟨8, 7, 127⟩
/-- binary64, in which R94 computes the merge weights. -/
def Fmt.f64 : Fmt := ⟨11, 52, 1023⟩
/-- E2M1 (Table QRN-3). -/
def Fmt.e2m1 : Fmt := ⟨2, 1, 1⟩
/-- E4M3 (Table QRN-3). -/
def Fmt.e4m3 : Fmt := ⟨4, 3, 7⟩
/-- E5M2 (Table QRN-3). -/
def Fmt.e5m2 : Fmt := ⟨5, 2, 15⟩

/-- The value of a finite code of a format, subnormals included (R54). -/
def Fmt.finOf (f : Fmt) (v : Nat) : Num :=
  let e := bits v (f.fbits + f.ebits - 1) f.fbits
  let m := v % 2 ^ f.fbits
  let s := bit v (f.fbits + f.ebits)
  if e = 0 then .fin s m (1 - (f.bias : Int) - f.fbits)
  else .fin s (m + 2 ^ f.fbits) ((e : Int) - f.bias - f.fbits)

/-- The value of a code of an IEEE format (binary32, BF16): the top exponent is infinity or NaN. -/
def Fmt.ieee (f : Fmt) (v : Nat) : Num :=
  if bits v (f.fbits + f.ebits - 1) f.fbits = 2 ^ f.ebits - 1 then
    if v % 2 ^ f.fbits = 0 then .inf (bit v (f.fbits + f.ebits)) else .nan
  else f.finOf v

/-- The value of an E4M3 code: no infinity, one NaN per sign (Table QRN-3). -/
def e4m3Val (v : Nat) : Num := if v % 128 = 127 then .nan else Fmt.e4m3.finOf v

/-- The value of an E5M2 code (Table QRN-3). -/
def e5m2Val (v : Nat) : Num := Fmt.e5m2.ieee v

/-- The value of an E2M1 code (Table QRN-3). -/
def e2m1Val (v : Nat) : Num := Fmt.e2m1.finOf v

/-- The value of binary32 bits. -/
def f32Val (v : F32) : Num := Fmt.f32.ieee v.toNat

/-- A magnitude cut by k bits, to nearest with ties to even. -/
def rneShift (m k : Nat) : Nat :=
  let q := m / 2 ^ k
  let r := m % 2 ^ k
  if k = 0 then m
  else if r < 2 ^ (k - 1) then q
  else if 2 ^ (k - 1) < r then q + 1
  else q + q % 2

/-- Round a magnitude × 2^ex to a format: exponent field and fraction together, before any overflow (ties to even,
subnormals kept). -/
def Fmt.roundMag (f : Fmt) (m : Nat) (ex : Int) : Nat :=
  if m = 0 then 0
  else
    let emin : Int := 1 - (f.bias : Int) - f.fbits
    let top : Int := ex + bitLen m - 1 - f.fbits
    let t := max emin top
    let q := if ex < t then rneShift m (t - ex).toNat else m * 2 ^ (ex - t).toNat
    ((t - emin).toNat) * 2 ^ f.fbits + q

/-- Round a value to an IEEE format (R57, R60, R96): overflow to infinity, NaN to the canonical quiet NaN. -/
def Fmt.rne (f : Fmt) : Num → Nat
  | .nan => (2 ^ f.ebits - 1) * 2 ^ f.fbits + 2 ^ (f.fbits - 1)
  | .inf s => b2n s * 2 ^ (f.fbits + f.ebits) + (2 ^ f.ebits - 1) * 2 ^ f.fbits
  | .fin s m e =>
    b2n s * 2 ^ (f.fbits + f.ebits) + min (f.roundMag m e) ((2 ^ f.ebits - 1) * 2 ^ f.fbits)

/-- rne32 of R57 and R82. -/
def rne32 (x : Num) : F32 := BitVec.ofNat 32 (Fmt.f32.rne x)

/-- Rounding to BF16 (R60). -/
def rneBf16 (x : Num) : Nat := Fmt.bf16.rne x

/-- The exact product, with infinity × 0 a NaN (Table QRN-4). -/
def Num.mul : Num → Num → Num
  | .nan, _ => .nan
  | _, .nan => .nan
  | .inf s, .inf t => .inf (s != t)
  | .inf s, .fin t m _ => if m = 0 then .nan else .inf (s != t)
  | .fin s m _, .inf t => if m = 0 then .nan else .inf (s != t)
  | .fin s m e, .fin t n d => .fin (s != t) (m * n) (e + d)

/-- A signed magnitude as an integer at exponent `e`. -/
def scaled (s : Bool) (m : Nat) (d e : Int) : Int :=
  let v : Int := (m * 2 ^ (d - e).toNat : Nat)
  if s then -v else v

/-- The exact sum under IEEE 754: opposite infinities give a NaN, and a zero sum is −0 only when both are negative
(Table QRN-4). -/
def Num.add : Num → Num → Num
  | .nan, _ => .nan
  | _, .nan => .nan
  | .inf s, .inf t => if s = t then .inf s else .nan
  | .inf s, .fin _ _ _ => .inf s
  | .fin _ _ _, .inf t => .inf t
  | .fin s m e, .fin t n d =>
    let x := min e d
    let v := scaled s m e x + scaled t n d x
    if v = 0 then .fin (s && t) 0 x else .fin (decide (v < 0)) v.natAbs x

/-- A value times a power of two. -/
def Num.scale (k : Int) : Num → Num
  | .fin s m e => .fin s m (e + k)
  | x => x

/-- A value with its sign turned. -/
def Num.neg : Num → Num
  | .fin s m e => .fin (!s) m e
  | .inf s => .inf (!s)
  | .nan => .nan

/-- The magnitude of a value. -/
def Num.abs : Num → Num
  | .fin _ m e => .fin false m e
  | .inf _ => .inf false
  | .nan => .nan

/-- Whether a value is a NaN or an infinity. -/
def Num.bad : Num → Bool
  | .fin _ _ _ => false
  | _ => true

/-- Whether a value is +0 or −0. -/
def Num.isZero : Num → Bool
  | .fin _ m _ => m == 0
  | _ => false

/-- x < y of two values, false when one is a NaN. -/
def Num.lt : Num → Num → Bool
  | .nan, _ => false
  | _, .nan => false
  | .inf s, .inf t => s && !t
  | .inf s, .fin _ _ _ => s
  | .fin _ _ _, .inf t => !t
  | .fin s m e, .fin t n d => decide (scaled s m e (min e d) < scaled t n d (min e d))

/-- fma(a, b, c): one rounding (R82, R96). -/
def fma32 (a b c : F32) : F32 := rne32 (((f32Val a).mul (f32Val b)).add (f32Val c))

/-- The rounded sum of two FP32 values. -/
def add32 (a b : F32) : F32 := rne32 ((f32Val a).add (f32Val b))

/-- The rounded product of two FP32 values. -/
def mul32 (a b : F32) : F32 := rne32 ((f32Val a).mul (f32Val b))

/-- An FP32 value with its sign turned; a NaN becomes the canonical quiet NaN (R96). -/
def neg32 (a : F32) : F32 := rne32 (f32Val a).neg

/-- A quotient of magnitudes with guard bits: the last bit says that something was left over. -/
def quot (a b : Nat) : Nat × Int :=
  let k := 80 + bitLen b
  let q := a * 2 ^ k / b
  (2 * q + b2n (a * 2 ^ k % b != 0), -((k + 1 : Nat) : Int))

/-- The quotient of two values, exact enough for one correct rounding (R96); 0/0 and ∞/∞ are NaN. -/
def Num.div : Num → Num → Num
  | .nan, _ => .nan
  | _, .nan => .nan
  | .inf _, .inf _ => .nan
  | .inf s, .fin t _ _ => .inf (s != t)
  | .fin s _ _, .inf t => .fin (s != t) 0 0
  | .fin s m e, .fin t n d =>
    if n = 0 then if m = 0 then .nan else .inf (s != t)
    else .fin (s != t) (quot m n).1 ((quot m n).2 + e - d)

/-- The integer square root found bit by bit from bit `k` down. -/
def isqrtFrom (n : Nat) : Nat → Nat → Nat
  | 0, r => if (r + 1) * (r + 1) ≤ n then r + 1 else r
  | k + 1, r => isqrtFrom n k (if (r + 2 ^ (k + 1)) * (r + 2 ^ (k + 1)) ≤ n then r + 2 ^ (k + 1) else r)

/-- The integer square root. -/
def isqrt (n : Nat) : Nat := isqrtFrom n (bitLen n / 2 + 1) 0

/-- The square root of a value, exact enough for one correct rounding (R96). -/
def Num.sqrt : Num → Num
  | .nan => .nan
  | .inf s => if s then .nan else .inf false
  | .fin s m e =>
    if m = 0 then .fin s 0 e
    else if s then .nan
    else
      let odd := e % 2 != 0
      let n := (if odd then 2 * m else m) * 2 ^ 160
      let r := isqrt n
      .fin false (2 * r + b2n (r * r != n)) ((if odd then e - 1 else e) / 2 - 81)

/-- FP32 square root (R96). -/
def sqrt32 (a : F32) : F32 := rne32 (f32Val a).sqrt

/-- FP32 quotient (R96). -/
def div32 (a b : F32) : F32 := rne32 ((f32Val a).div (f32Val b))

/-- The FP32 value of a natural number, rounded once. -/
def nat32 (n : Nat) : F32 := rne32 (.fin false n 0)

/-- FP32 1.0. -/
def one32 : F32 := 0x3F800000#32

/-- An element quantised to a format that saturates and makes no NaN or infinity (R97). -/
def Fmt.saturate (f : Fmt) (top : Nat) : Num → Nat
  | .fin s m e => b2n s * 2 ^ (f.fbits + f.ebits) + min (f.roundMag m e) top
  | .inf s => b2n s * 2 ^ (f.fbits + f.ebits) + top
  | .nan => 0

/-- The element formats of an MX operand. -/
inductive ElemFmt where
  | e2m1 | e4m3 | e5m2
deriving DecidableEq, Repr

/-- emax of R97. -/
def ElemFmt.emax : ElemFmt → Int
  | .e2m1 => 2
  | .e4m3 => 8
  | .e5m2 => 15

/-- One element code (R97): ±6.0, ±448 and ±57,344 are the codes 0x7, 0x7E and 0x7B. -/
def ElemFmt.code : ElemFmt → Num → Nat
  | .e2m1, x => Fmt.e2m1.saturate 0x7 x
  | .e4m3, x => Fmt.e4m3.saturate 0x7E x
  | .e5m2, x => Fmt.e5m2.saturate 0x7B x

/-- The value of an element code. -/
def ElemFmt.val : ElemFmt → Nat → Num
  | .e2m1, v => e2m1Val v
  | .e4m3, v => e4m3Val v
  | .e5m2, v => e5m2Val v

/-- The larger magnitude, with NaN dominant (R98, Table UPD-8). -/
def Num.maxAbs (a b : Num) : Num :=
  match a, b.abs with
  | .nan, _ => .nan
  | _, .nan => .nan
  | x, y => if Num.lt x y then y else x

/-- The quantisation of one group of up to 32 elements: the E8M0 scale code and the element codes (R97). -/
def quantGroup (f : ElemFmt) (vs : List Num) : Nat × List Nat :=
  match vs.foldl Num.maxAbs .zero with
  | .nan => (0xFF, vs.map fun _ => 0)
  | .inf _ => (0xFF, vs.map fun _ => 0)
  | .fin _ m ex =>
    if m = 0 then (0, vs.map fun _ => 0)
    else
      let e := max (-127) (min 127 (ex + (bitLen m : Int) - 1 - f.emax))
      ((e + 127).toNat, vs.map fun v => f.code (v.scale (-e)))

/-- Consecutive groups of a list. -/
def groups {α : Type} (n : Nat) : Nat → List α → List (List α)
  | 0, _ => []
  | k + 1, l => if l.isEmpty then [] else l.take n :: groups n k (l.drop n)

/-- Quantisation of a row of elements in groups of 32: the scale codes and the element codes (R97). -/
def quantRow (f : ElemFmt) (vs : List F32) : List Nat × List Nat :=
  let gs := (groups 32 vs.length (vs.map f32Val)).map (quantGroup f)
  (gs.map Prod.fst, (gs.map Prod.snd).flatten)

/-- Two element codes of MXFP4 to a byte, the even one in bits [3:0] (R56). -/
def packNibbles : List Nat → List Byte
  | a :: b :: t => BitVec.ofNat 8 (b * 16 + a) :: packNibbles t
  | [a] => [BitVec.ofNat 8 a]
  | [] => []

end Sys2Proof.Machine
end

