-- ==== Sys2Proof/Machine/Queue.lean ====
section
/-! DEFINITION. Descriptors and their queues (R126–R136): the fields of the header, counters and their poison, the
issue rule, skipping, failing and completing, and the faults of the schedulers. -/

namespace Sys2Proof.Machine

/-- The key of a queue in the table of queues. -/
def qKey : QueueId → Nat
  | .tile r => 4 * r
  | .move r => 4 * r + 1
  | .spin r => 4 * r + 2
  | .ctrl r => 4 * r + 3
  | .chip => 256

/-- The region of a queue, none for the chip queue. -/
def qRegion : QueueId → Option Nat
  | .tile r => some r
  | .move r => some r
  | .spin r => some r
  | .ctrl r => some r
  | .chip => none

/-- The location code of a queue's faults (R136). -/
def qLoc (q : QueueId) : Nat :=
  match qRegion q with
  | some r => locRegion r
  | none => locChip 0x18

/-- The field of SEQ_REG_QUEUE that counts a queue. -/
def qCount : QueueId → Option Fld
  | .tile r => some (F.SEQ_REG_QUEUE_TILE.ix r)
  | .move r => some (F.SEQ_REG_QUEUE_MOVE.ix r)
  | .spin r => some (F.SEQ_REG_QUEUE_SPIN.ix r)
  | .ctrl r => some (F.SEQ_REG_QUEUE_CTRL.ix r)
  | .chip => none

/-! Header fields (Table IMG-5). -/

/-- `n` bytes of a descriptor as a number. -/
def QEntry.at (e : QEntry) (o n : Nat) : Nat := beAt e.raw o n
/-- TYPE. -/
def QEntry.typ (e : QEntry) : Nat := e.at 0 1
/-- CANCEL_DL. -/
def QEntry.cancelDl (e : QEntry) : Bool := bit (e.at 1 1) 7
/-- FENCE. -/
def QEntry.fence (e : QEntry) : Bool := bit (e.at 1 1) 5
/-- DL_BASE. -/
def QEntry.dlBase (e : QEntry) : Nat := bits (e.at 1 1) 3 2
/-- DESC_ID. -/
def QEntry.id (e : QEntry) : Nat := e.at 4 4
/-- WAIT_EN. -/
def QEntry.waitEn (e : QEntry) : Bool := bit (e.at 12 2) 15
/-- WAIT_CTR. -/
def QEntry.waitCtr (e : QEntry) : Nat := e.at 12 2 % 8192
/-- SIG_EN. -/
def QEntry.sigEn (e : QEntry) : Bool := bit (e.at 14 2) 15
/-- SIG_CTR. -/
def QEntry.sigCtr (e : QEntry) : Nat := e.at 14 2 % 8192
/-- SIG_INC. -/
def QEntry.sigInc (e : QEntry) : Nat := e.at 20 2
/-- The OP byte of SYNC, SCALAR and STEP bodies (Table IMG-6). -/
def QEntry.op (e : QEntry) : Nat := e.at 24 1

/-! Counters (Table IMG-5, R131, R133). -/

/-- Whether a counter number is defined for a queue: no region counter in the chip queue, and bits [11:8] of a region
counter zero. -/
def ctrOk (q : QueueId) (c : Nat) : Bool :=
  if bit c 12 then true else (qRegion q).isSome && c / 256 % 16 == 0

/-- The value of the counter that a number names in a queue. -/
def State.ctr (s : State) (q : QueueId) (c : Nat) : Nat :=
  if bit c 12 then s.get (F.SEQ_GCTR_VALUE.ix (c % 4096))
  else Tab.get 0 s.sched.rctr ((qRegion q).getD 0 * 256 + c % 256)

/-- A counter written. -/
def State.setCtr (s : State) (q : QueueId) (c v : Nat) : State :=
  if bit c 12 then s.set (F.SEQ_GCTR_VALUE.ix (c % 4096)) v
  else { s with sched := { s.sched with
    rctr := Tab.put 0 s.sched.rctr ((qRegion q).getD 0 * 256 + c % 256) (v % 2 ^ 32) } }

/-- Whether a counter is poisoned. -/
def State.ctrPoison (s : State) (q : QueueId) (c : Nat) : Bool :=
  if bit c 12 then s.getBit (F.SEQ_GPOISON_POISON.ix (c % 4096 / 32)) (c % 32)
  else s.sched.rpoison.has ((qRegion q).getD 0 * 256 + c % 256)

/-- A counter's poison bit written. -/
def State.setCtrPoison (s : State) (q : QueueId) (c : Nat) (b : Bool) : State :=
  if bit c 12 then s.setBit (F.SEQ_GPOISON_POISON.ix (c % 4096 / 32)) (c % 32) b
  else { s with sched := { s.sched with
    rpoison := s.sched.rpoison.to ((qRegion q).getD 0 * 256 + c % 256) b } }

/-- An amount added to a counter, modulo 2^32. -/
def State.addCtr (s : State) (q : QueueId) (c k : Nat) : State := s.setCtr q c ((s.ctr q c + k) % 2 ^ 32)

/-- An engine outside the regions reports completion (R131): an amount added to a global counter, with its poison set
when the work failed (R133). -/
def State.addGlobal (s : State) (n k : Nat) (failed : Bool) : State :=
  let s1 := s.addCtr .chip (4096 + n % 4096) k
  if failed then s1.setCtrPoison .chip (4096 + n % 4096) true else s1

/-! Queues. -/

/-- The descriptors of a queue, oldest first. -/
def State.queue (s : State) (q : QueueId) : List QEntry := Tab.get [] s.sched.queues (qKey q)

/-- A queue written, with its count in SEQ_REG_QUEUE. -/
def State.setQueue (s : State) (q : QueueId) (l : List QEntry) : State :=
  let s1 := { s with sched := { s.sched with queues := Tab.put [] s.sched.queues (qKey q) l } }
  match qCount q with
  | some f => s1.set f l.length
  | none => s1

/-- The queues of a region. -/
def regionQueues (r : Nat) : List QueueId := [.tile r, .move r, .spin r, .ctrl r]

/-- Every queue. -/
def allQueues : List QueueId := .chip :: (List.range 64).flatMap regionQueues

/-- The queues that share a fence with a queue (Table IMG-5). -/
def fenceQueues (q : QueueId) : List QueueId :=
  match qRegion q with
  | some r => regionQueues r
  | none => [.chip]

/-- Whether every descriptor dispatched earlier to the same region or queue has completed (R131). -/
def State.fenceMet (s : State) (q : QueueId) (sid : Nat) : Bool :=
  (fenceQueues q).all (fun p => (s.queue p).all fun e => decide (sid ≤ e.sid)) &&
    s.sched.flights.all fun f => !((fenceQueues q).contains f.queue) || decide (sid ≤ f.entry.sid)

/-- Whether the wait of a descriptor is met (R131). A counter that the queue cannot name is waited on by none: its descriptor is
turned away when it would issue. -/
def State.waitMet (s : State) (q : QueueId) (e : QEntry) : Bool :=
  !e.waitEn || !ctrOk q e.waitCtr || decide ((s.ctr q e.waitCtr + 2 ^ 32 - e.thr % 2 ^ 32) % 2 ^ 32 < 2 ^ 31)

/-- The state of a region (Table QRN-11). -/
def State.regionState (s : State) (r : Nat) : Nat := s.get (F.QRN_REG_STAT_STATE.ix (r / 16) (r % 16))

/-- A region's state written. -/
def State.setRegionState (s : State) (r v : Nat) : State := s.set (F.QRN_REG_STAT_STATE.ix (r / 16) (r % 16)) v

/-- Whether a queue issues at all: not in FATAL (R376), not while ADMIT_HOLD is 1 (R135), and for a region's queue only
in IDLE or RUNNING (Table QRN-11). -/
def State.issues (s : State) (q : QueueId) : Bool :=
  !s.fatal && !s.flag F.SEQ_STAT_ADMIT_HOLD &&
    (match qRegion q with
     | some r => decide (s.regionState r ≤ 1)
     | none => true)

/-- Work items started and not complete (SEQ_STAT.ITEMS_ACTIVE): those with a descriptor that is queued or in progress (DESIGN
CHOICE: the spec does not say when an item is complete). -/
def State.countItems (s : State) : State :=
  let live := fun (i : Nat) =>
    (s.sched.flights.any fun f => f.entry.item == i) || (allQueues.any fun q => (s.queue q).any fun e => e.item == i)
  s.set F.SEQ_STAT_ITEMS_ACTIVE (s.sched.items.filter fun x => live x.1).length

/-- The first fault of the schedulers and the loader since SEQ_CNT_CLR is kept (R138): at a region, or at the chip. -/
def State.keepSeq (s : State) (source : Nat) (region : Option Nat) (desc item : Nat) : State :=
  if s.get F.SEQ_FE_INFO_SOURCE != 0 then s
  else s.setAll [(F.SEQ_FE_DESC_DESC_ID, desc), (F.SEQ_FE_INFO_SOURCE, source), (F.SEQ_FE_INFO_ITEM, item),
    (F.SEQ_FE_INFO_CHIP, b2n region.isNone), (F.SEQ_FE_INFO_REGION, region.getD 0)]

/-- The first fault when it is a descriptor's. -/
def State.firstSeq (s : State) (source : Nat) (q : QueueId) (e : QEntry) : State :=
  s.keepSeq source (qRegion q) e.id e.item

/-- DL_MISS (R132): the fault, once for each descriptor. -/
def State.missDeadline (s : State) (q : QueueId) (e : QEntry) : State :=
  ((s.bump F.SEQ_CNT_DL_MISS).evt F.SEQ_EVT_DL_MISS).firstSeq 0x50 q e |>.raise 0x50 .uc (qLoc q) e.id

/-- Whether a descriptor's deadline has passed: the time is later (R317), so that completion at the deadline meets it (R327). -/
def State.pastDeadline (s : State) (e : QEntry) : Bool :=
  match e.deadline with
  | some d => !notBefore d s.ns64
  | none => false

/-- A descriptor that completes after its deadline and before the check has found it is reported all the same (R327), while
deadlines can be measured (R322). -/
def State.lateEnd (s : State) (q : QueueId) (e : QEntry) : State :=
  if !e.late && s.time.running && s.pastDeadline e then s.missDeadline q e else s

/-- A descriptor completes or fails (R133): SIG_INC is added, a failure poisons SIG_CTR, and the count of completed
descriptors rises. A counter that the queue cannot name is none. -/
def State.finish (s : State) (q : QueueId) (e : QEntry) (failed : Bool) : State :=
  let s0 := s.lateEnd q e
  let s1 := if e.sigEn && ctrOk q e.sigCtr then
      let s2 := s0.addCtr q e.sigCtr e.sigInc
      if failed then s2.setCtrPoison q e.sigCtr true else s2
    else s0
  (s1.add64 F.SEQ_DONE_LO_COUNT F.SEQ_DONE_HI_COUNT 1).countItems

/-- Several queued descriptors complete as failed (R133). -/
def State.finishAll (s : State) (q : QueueId) : List QEntry → State
  | [] => s
  | e :: t => (s.finish q e true).finishAll q t

/-- The queued descriptors of a region are taken out and complete as failed (R124, R134). -/
def State.failQueues (s : State) : List QueueId → State
  | [] => s
  | q :: t => (((s.setQueue q []).finishAll q (s.queue q))).failQueues t

/-- DESC_BAD (R136): the descriptor fails in place of issuing, and the fault. -/
def State.descBad (s : State) (q : QueueId) (e : QEntry) : State :=
  (((s.finish q e true).evt F.SEQ_EVT_DESC_BAD).firstSeq 0x51 q e).raise 0x51 .uc (qLoc q) e.id

/-- Whether a queue takes a TYPE (Table IMG-6). -/
def typeFits (q : QueueId) (t : Nat) : Bool :=
  match q with
  | .tile _ => t == 1
  | .move _ => t == 2
  | .spin _ => t == 3
  | .ctrl _ => t == 0 || t == 4
  | .chip => t == 0 || (decide (4 ≤ t) && decide (t ≤ 9))

/-- Whether a counter field holds a defined value, used or not (Table IMG-5). -/
def ctrDefined (c : Nat) : Bool := bit c 12 || c / 256 % 16 == 0

/-- Whether a header is well formed for its queue (Table IMG-5, R131): a TYPE that the queue takes, a defined DL_BASE,
counter fields with defined values, and counters in use that the queue can name. -/
def headerOk (q : QueueId) (e : QEntry) : Bool :=
  typeFits q e.typ && decide (e.dlBase ≤ 2) && ctrDefined e.waitCtr && ctrDefined e.sigCtr &&
    (!e.waitEn || ctrOk q e.waitCtr) && (!e.sigEn || ctrOk q e.sigCtr)

/-- Whether the buffer fields of a COLL lie in the ranges of Table COL-1: ADDR a multiple of 4,096, LEN a multiple of 64
from 64 on. -/
def collFieldsOk (e : QEntry) : Bool := e.at 32 6 % 4096 == 0 && decide (64 ≤ e.at 40 4) && e.at 40 4 % 64 == 0

/-- What the head of a queue meets when a command would issue it: nothing to issue; a skip on a poisoned counter
(R133); or the descriptor itself. -/
inductive Head where
  | none
  | skip (e : QEntry) (rest : List QEntry)
  | ready (e : QEntry) (rest : List QEntry)
deriving DecidableEq, Repr

/-- Whether the head of a queue is a DISPATCH that has begun, whose wait is over (R130). -/
def State.begun (s : State) (q : QueueId) : Bool := q == .chip && !s.sched.dispatched.isEmpty

/-- The head of a queue under the issue rule (R131, R133). -/
def State.head (s : State) (q : QueueId) : Head :=
  if s.issues q then
    match s.queue q with
    | [] => .none
    | e :: t =>
      if s.begun q then .ready e t
      else if s.waitMet q e && (!e.fence || s.fenceMet q e.sid) then
        if e.waitEn && headerOk q e && s.ctrPoison q e.waitCtr then .skip e t else .ready e t
      else .none
  else .none

/-- A command that issues the head of a queue: a poisoned wait skips it, a malformed one fails with DESC_BAD, one that
the command is for (`mine`) is taken out and run, and any other stays. An armed DESC_BAD acts at the next issue (R136,
R372). -/
def State.issue (s : State) (q : QueueId) (mine ok : QEntry → Bool) (run : QEntry → State → State) : State :=
  match s.head q with
  | .none => s
  | .skip e t => ((s.setQueue q t).finish q e true).bump F.SEQ_CNT_SKIPPED
  | .ready e t =>
    if !headerOk q e || (s.forcedAt 0x51 (qLoc q) && !s.begun q) then (s.setQueue q t).descBad q e
    else if !mine e then s
    else if !ok e then (s.setQueue q t).descBad q e
    else run e (s.setQueue q t)

/-- A descriptor is in progress; a region whose first tile is issued is RUNNING (Table QRN-11). -/
def State.fly (s : State) (q : QueueId) (e : QEntry) (unit : Nat) (done failed : Bool) : State :=
  let s1 := { s with sched := { s.sched with flights := s.sched.flights ++ [⟨q, e, unit, failed, done⟩] } }
  match q with
  | .tile r => if s1.regionState r == 0 then s1.setRegionState r 1 else s1
  | _ => s1

/-- Changes to one descriptor in progress. -/
def State.onFlight (s : State) (sid : Nat) (f : Flight → Flight) : State :=
  { s with sched := { s.sched with
    flights := s.sched.flights.map fun x => if x.entry.sid == sid then f x else x } }

/-- The descriptor in progress with a serial number. -/
def State.flight (s : State) (sid : Nat) : Option Flight := s.sched.flights.find? fun f => f.entry.sid == sid

/-- A descriptor in progress has failed. -/
def State.failFlight (s : State) (sid : Nat) : State := s.onFlight sid fun f => { f with failed := true }

/-- The effective item of a descriptor in progress, 0 when there is none. -/
def State.flightItem (s : State) (sid : Nat) : Nat :=
  match s.flight sid with
  | some f => f.entry.item
  | none => 0

/-- The DESC_ID of a descriptor in progress, 0 when there is none. -/
def State.flightId (s : State) (sid : Nat) : Nat :=
  match s.flight sid with
  | some f => f.entry.id
  | none => 0

end Sys2Proof.Machine
end

