-- ==== Sys2Proof/Machine/Tile.lean ====
section
/-! DEFINITION. What a tile computes (R48–R60, R72, R75, R127): the arrays of a region under its join, the layout of
operands, preloads and outputs in region SRAM (R56), subtiles (R75), and the value of every output element (R57, R59). -/

namespace Sys2Proof.Machine

/-! TILE body (Table IMG-7). -/

/-- FMT. -/
def QEntry.fmt (e : QEntry) : Nat := bits (e.at 24 1) 7 5
/-- OUT_BF16. -/
def QEntry.outBf16 (e : QEntry) : Bool := bit (e.at 24 1) 2
/-- PRELOAD. -/
def QEntry.preload (e : QEntry) : Bool := bit (e.at 24 1) 1
/-- ANY. -/
def QEntry.anyArray (e : QEntry) : Bool := bit (e.at 25 1) 7
/-- ARRAY. -/
def QEntry.array (e : QEntry) : Nat := e.at 25 1 % 16
/-- NTILES. -/
def QEntry.ntiles (e : QEntry) : Nat := e.at 26 2
/-- Output rows. -/
def QEntry.rows (e : QEntry) : Nat := 32 * bits (e.at 28 1) 7 4
/-- Output columns. -/
def QEntry.cols (e : QEntry) : Nat := 32 * (e.at 28 1 % 16)
/-- The depth K. -/
def QEntry.depth (e : QEntry) : Nat := 32 * (e.at 29 2 % 1024 + 1)
/-- GW. -/
def QEntry.gw (e : QEntry) : Nat := e.at 50 2
/-- ALPHA. -/
def QEntry.alpha (e : QEntry) : F32 := BitVec.ofNat 32 (e.at 56 4)

/-- The logical positions of array `a` under a join code (Table QRN-1). -/
def joinPositions (join a : Nat) : List Nat :=
  match join with
  | 0 => [a]
  | 1 => let p := 8 * (a / 2) + 2 * (a % 2); [p, p + 1, p + 4, p + 5]
  | 2 => [a, a + 4, a + 8, a + 12]
  | 3 => [4 * a, 4 * a + 1, 4 * a + 2, 4 * a + 3]
  | _ => List.range 16

/-- The shape of an array under a join code (Table QRN-1). -/
def joinShape : Nat → Nat × Nat
  | 0 => (64, 64)
  | 1 => (128, 128)
  | 2 => (256, 64)
  | 3 => (64, 256)
  | _ => (256, 256)

/-- The arrays of a region: positions and shape, in the order in which a descriptor numbers them. With a spare
reserved the fourth joined array gives way to 64 × 64 arrays on its positions other than 15 (Table QRN-10), which take the
array indices 3, 4 and 5 in rising position order (DESIGN CHOICE: the table gives them no index). -/
def arraysOf (join : Nat) (spare : Bool) : List (List Nat × (Nat × Nat)) :=
  let n := match join with
    | 0 => 16
    | 4 => 1
    | _ => 4
  let whole := (List.range n).map fun a => (joinPositions join a, joinShape join)
  if spare then
    (whole.filter fun x => !x.1.contains 15) ++
      (if join == 0 then [] else
        (whole.filter fun x => x.1.contains 15).flatMap fun x => (x.1.filter (· != 15)).map fun p => ([p], (64, 64)))
  else whole

/-- The join code a region runs. -/
def State.join (s : State) (r : Nat) : Nat := s.get (F.QRN_REG_STAT_JOIN.ix (r / 16) (r % 16))

/-- Whether the running image reserves a spare in a region. -/
def State.spareRes (s : State) (r : Nat) : Bool := s.flag (F.QRN_REG_STAT_SPARE_RES.ix (r / 16) (r % 16))

/-- The arrays a region runs. -/
def State.arrays (s : State) (r : Nat) : List (List Nat × (Nat × Nat)) := arraysOf (s.join r) (s.spareRes r)

/-- The physical block at each logical position after power-on reset (R47). -/
def identityMap : List (Option Nat) := (List.range 16).map some

/-- The physical block at each logical position of a region. -/
def State.posMap (s : State) (r : Nat) : List (Option Nat) := Tab.get identityMap s.qrn.pos r

/-- The physical blocks at work in an array; a vacant position gives none (R75). -/
def State.arrayBlocks (s : State) (r a : Nat) : List Nat :=
  match (s.arrays r)[a]? with
  | some x => x.1.filterMap fun p => ((s.posMap r)[p]?).getD none
  | none => []

/-- Whether a joined array has a vacant position, and so runs its blocks as 64 × 64 arrays (R75). -/
def State.divided (s : State) (r a : Nat) : Bool :=
  match (s.arrays r)[a]? with
  | some x => decide (1 < x.1.length) && x.1.any fun p => ((s.posMap r)[p]?).getD none == none
  | none => false

/-- The arrays that run the tiles of array `a`: itself, or when it is divided the 64 × 64 arrays on its positions that hold a
block, named 16 + position. -/
def State.units (s : State) (r a : Nat) (split : Bool) : List Nat :=
  if split then
    match (s.arrays r)[a]? with
    | some x => (x.1.filter fun p => ((s.posMap r)[p]?).getD none != none).map (16 + ·)
    | none => []
  else [a]

/-- The physical blocks at work in an array, a 64 × 64 array of R75 included. -/
def State.unitBlocks (s : State) (r x : Nat) : List Nat :=
  if x < 16 then s.arrayBlocks r x else (((s.posMap r)[x - 16]?).getD none).toList

/-- The key of an array in the tables of arrays at work. -/
def runKey (r x : Nat) : Nat := 32 * r + x

/-- The array a TILE takes: the one it names, or the lowest free one of the join (Table IMG-7). -/
def State.pickArray (s : State) (r : Nat) (e : QEntry) : Option Nat :=
  let free := fun a => !(s.sched.flights.any fun f => f.queue == .tile r && f.unit == a)
  if e.anyArray then
    (List.range (s.arrays r).length).find? fun a =>
      free a && (match (s.arrays r)[a]? with
        | some x => decide (e.rows ≤ x.2.1) && decide (e.cols ≤ x.2.2) && !(s.arrayBlocks r a).isEmpty
        | none => false)
  else if free e.array then some e.array else none

/-- Bytes of a row of elements, padded to 64 (R56): bits per element, elements. -/
def pitch (ebits n : Nat) : Nat := (n * ebits / 8 + 63) / 64 * 64

/-- Bits of an operand element by FMT (Table IMG-7). -/
def elemBits : Nat → Nat
  | 1 => 4
  | 4 => 16
  | _ => 8

/-- Whether a format carries E8M0 scales. -/
def hasScale (fmt : Nat) : Bool := fmt == 1 || fmt == 2

/-- A ring: strip number n of a ring of length k, where 0 does not wrap (R127). -/
def ring (k n : Nat) : Nat := if k = 0 then n else n % k

/-- A line of a region's SRAM as a device address. -/
def lineAddr (r line : Nat) : Nat := r * 0x1000000 + line * 64

/-- Where a tile's operands, scales, preload and output lie (R127): addresses, pitches, and the rows and columns of its
output. -/
structure TilePlace where
  a : Nat
  b : Nat
  sa : Nat
  sb : Nat
  pre : Nat
  out : Nat
  opPitch : Nat
  scPitch : Nat
  prePitch : Nat
  outPitch : Nat
  rows : Nat
  cols : Nat
deriving DecidableEq, Repr

/-- The place of tile t of a descriptor (R127). -/
def tilePlace (r : Nat) (e : QEntry) (t : Nat) : TilePlace :=
  let op := pitch (elemBits e.fmt) e.depth
  let sc := pitch 8 (e.depth / 32)
  let pp := pitch 32 e.cols
  let po := pitch (if e.outBf16 then 16 else 32) e.cols
  let tr := ring (e.at 52 1) (t / max 1 e.gw)
  let tc := ring (e.at 53 1) (t % max 1 e.gw)
  let o := ring (e.at 54 1) t
  { a := lineAddr r (e.at 32 3) + tr * e.rows * op
    b := lineAddr r (e.at 35 3) + tc * e.cols * op
    sa := lineAddr r (e.at 44 3) + tr * e.rows * sc
    sb := lineAddr r (e.at 47 3) + tc * e.cols * sc
    pre := lineAddr r (e.at 38 3) + o * e.rows * pp
    out := lineAddr r (e.at 41 3) + o * e.rows * po
    opPitch := op, scPitch := sc, prePitch := pp, outPitch := po, rows := e.rows, cols := e.cols }

/-- Bytes of an output element. -/
def QEntry.outBytes (e : QEntry) : Nat := if e.outBf16 then 2 else 4

/-- Columns of 64 × 64 subtiles of a tile (R75). -/
def QEntry.subCols (e : QEntry) : Nat := (e.cols + 63) / 64

/-- Subtiles of a tile. -/
def QEntry.subs (e : QEntry) : Nat := (e.rows + 63) / 64 * e.subCols

/-- The place of subtile (i, j) of a tile (R75). -/
def TilePlace.sub (p : TilePlace) (outBytes i j : Nat) : TilePlace :=
  { p with
    a := p.a + 64 * i * p.opPitch
    b := p.b + 64 * j * p.opPitch
    sa := p.sa + 64 * i * p.scPitch
    sb := p.sb + 64 * j * p.scPitch
    pre := p.pre + 64 * i * p.prePitch + 256 * j
    out := p.out + 64 * i * p.outPitch + 64 * outBytes * j
    rows := min 64 (p.rows - 64 * i)
    cols := min 64 (p.cols - 64 * j) }

/-- The place of a tile or of one of its subtiles. -/
def partPlace (r : Nat) (e : QEntry) (t : Nat) : Option (Nat × Nat) → TilePlace
  | none => tilePlace r e t
  | some x => (tilePlace r e t).sub e.outBytes x.1 x.2

/-- The last address after every strip a descriptor reaches stays within the region's 16 MiB. -/
def tileFits (r : Nat) (e : QEntry) : Bool :=
  let top := (r + 1) * 0x1000000
  (List.range (min e.ntiles 65535)).all fun t =>
    let p := tilePlace r e t
    decide (p.a + e.rows * p.opPitch ≤ top) && decide (p.b + e.cols * p.opPitch ≤ top) &&
      decide (p.out + e.rows * p.outPitch ≤ top) && (!e.preload || decide (p.pre + e.rows * p.prePitch ≤ top)) &&
      (!hasScale e.fmt || (decide (p.sa + e.rows * p.scPitch ≤ top) && decide (p.sb + e.cols * p.scPitch ≤ top)))

/-- Whether the fields of a TILE body are defined (Table IMG-7), whatever region runs it. -/
def tileFieldsOk (e : QEntry) : Bool :=
  let b := e.at 24 1
  decide (1 ≤ e.fmt ∧ e.fmt ≤ 4) && (e.fmt == 2 || e.fmt == 3 || bits b 4 3 == 0) &&
    decide (1 ≤ e.ntiles) && decide (1 ≤ e.rows ∧ e.rows ≤ 256) && decide (1 ≤ e.cols ∧ e.cols ≤ 256) &&
    decide (1 ≤ e.gw) && ([32, 35, 38, 41, 44, 47].all fun o => decide (e.at o 3 < 262144)) &&
    (hasScale e.fmt || (e.at 44 3 == 0 && e.at 47 3 == 0))

/-- Whether a TILE can issue on its region (R127, R136): fields defined, an array that exists and holds the output, and
strips within the SRAM. -/
def State.tileOk (s : State) (r : Nat) (e : QEntry) : Bool :=
  let fits := fun (x : List Nat × (Nat × Nat)) => decide (e.rows ≤ x.2.1) && decide (e.cols ≤ x.2.2)
  tileFieldsOk e && tileFits r e &&
    (if e.anyArray then (s.arrays r).any fits
     else match (s.arrays r)[e.array]? with
      | some x => fits x && !(s.arrayBlocks r e.array).isEmpty
      | none => false)

/-- The value of operand element k of a row that starts at an address (R56). `e5` selects E5M2. -/
def State.element (s : State) (fmt : Nat) (e5 : Bool) (addr k : Nat) : Num :=
  match fmt with
  | 1 =>
    let b := (s.readByte (addr + k / 2)).toNat
    e2m1Val (if k % 2 = 0 then b % 16 else b / 16)
  | 4 => Fmt.bf16.ieee (beNat (s.readBytes (addr + 2 * k) 2))
  | _ =>
    let b := (s.readByte (addr + k)).toNat
    if e5 then e5m2Val b else e4m3Val b

/-- The exact sum of the products of one chunk, before its scales (R57, R59). -/
def chunkSum (f g : Nat → Num) (k0 : Nat) : Nat → Num
  | 0 => .fin true 0 0
  | n + 1 => (chunkSum f g k0 n).add ((f (k0 + n)).mul (g (k0 + n)))

/-- The scaled sum of one chunk of 32 (R57): a scale code of 0xFF makes it a NaN (R59). -/
def scaledChunk (x : Num) (sa sb : Nat) : Num :=
  if sa = 255 ∨ sb = 255 then .nan else x.scale ((sa : Int) + sb - 254)

/-- The preload that the accumulators of a tile take in (R52), row by row; nothing without one. -/
def State.preRows (s : State) (e : QEntry) (p : TilePlace) : List (List F32) :=
  if e.preload then
    (List.range p.rows).map fun i => (List.range p.cols).map fun j =>
      BitVec.ofNat 32 (beNat (s.readBytes (p.pre + i * p.prePitch + 4 * j) 4))
  else []

/-- The accumulator of output element (i, j) of a tile (R57), from the preload it took in. -/
def State.tileAcc (s : State) (e : QEntry) (p : TilePlace) (pre : List (List F32)) (i j : Nat) : F32 :=
  let fa := s.element e.fmt (bit (e.at 24 1) 4) (p.a + i * p.opPitch)
  let fb := s.element e.fmt (bit (e.at 24 1) 3) (p.b + j * p.opPitch)
  let acc0 : F32 := (((pre[i]?).getD [])[j]?).getD 0#32
  if e.fmt = 4 then
    (List.range e.depth).foldl (fun acc k => rne32 ((f32Val acc).add ((fa k).mul (fb k)))) acc0
  else
    (List.range (e.depth / 32)).foldl (fun acc c =>
      let x := chunkSum fa fb (32 * c) 32
      let y := if hasScale e.fmt then
          scaledChunk x (s.readByte (p.sa + i * p.scPitch + c)).toNat (s.readByte (p.sb + j * p.scPitch + c)).toNat
        else x
      rne32 ((f32Val acc).add y)) acc0

/-- The drained value of an output element (R53, R60), as bytes. -/
def State.drained (s : State) (e : QEntry) (p : TilePlace) (pre : List (List F32)) (i j : Nat) : List Byte :=
  let v := (f32Val e.alpha).mul (f32Val (s.tileAcc e p pre i j))
  if e.outBf16 then beBytes 2 (rneBf16 v) else beBytes 4 (rne32 v).toNat

/-- Whether a drained element is a NaN (`nan`) or an infinity. -/
def drainedIs (nan : Bool) (bs : List Byte) : Bool :=
  let v := if bs.length = 2 then Fmt.bf16.ieee (beNat bs) else Fmt.f32.ieee (beNat bs)
  match v with
  | .nan => nan
  | .inf _ => !nan
  | _ => false

/-- The rows of a tile's output: the address and bytes of each (R56). -/
def State.tileRows (s : State) (e : QEntry) (p : TilePlace) (pre : List (List F32)) : List (Nat × List Byte) :=
  (List.range p.rows).map fun i =>
    (p.out + i * p.outPitch, ((List.range p.cols).map fun j => s.drained e p pre i j).flatten)

/-- The rows of an output that is written as poisoned: no value of it is read. -/
def poisonRows (e : QEntry) (p : TilePlace) : List (Nat × List Byte) :=
  (List.range p.rows).map fun i => (p.out + i * p.outPitch, List.replicate (p.cols * e.outBytes) 0#8)

/-- Rows stored, each clean. -/
def State.storeRows (s : State) : List (Nat × List Byte) → State
  | [] => s
  | (a, bs) :: t => (s.store a bs).storeRows t

/-- Rows written as poisoned (R64). -/
def State.poisonRowsAt (s : State) : List (Nat × List Byte) → State
  | [] => s
  | (a, bs) :: t => (s.storePoison a bs.length).poisonRowsAt t

/-- The ranges of `rows` rows of `n` bytes at a pitch. -/
def strip (a pitch n rows : Nat) : List (Nat × Nat) := (List.range rows).map fun i => (a + i * pitch, n)

/-- The operand and scale words that a tile reads, without the padding of its rows (R56, R64). -/
def tileReads (e : QEntry) (p : TilePlace) : List (Nat × Nat) :=
  let n := e.depth * elemBits e.fmt / 8
  strip p.a p.opPitch n p.rows ++ strip p.b p.opPitch n p.cols ++
    (if hasScale e.fmt then
      strip p.sa p.scPitch (e.depth / 32) p.rows ++ strip p.sb p.scPitch (e.depth / 32) p.cols
    else [])

/-- The preload words that a tile reads. -/
def preReads (e : QEntry) (p : TilePlace) : List (Nat × Nat) :=
  if e.preload then strip p.pre p.prePitch (4 * p.cols) p.rows else []

/-- Whether a range of a list holds a poisoned word (R64). -/
def State.poisonedAny (s : State) (l : List (Nat × Nat)) : Bool := l.any fun x => s.anyPoison x.1 x.2

end Sys2Proof.Machine
end

