-- ==== Sys2Proof/Machine/Regions.lean ====
section
/-! DEFINITION. Regions as the chip scheduler sees them (R47, R72–R79, R111, R112, R121, R124, R125, R130, R134): the
image a region runs, placing descriptors into its queues, its spare and vacant positions, phases and drains. -/

namespace Sys2Proof.Machine

/-- The image in force, no bytes before the first takes effect: the class B sections of an image being applied are
installed at once (R121). -/
def State.image (s : State) : List Byte :=
  if s.applying then s.img.next.getD (s.img.running.getD []) else s.img.running.getD []

/-- The image whose structure a region runs (R121): while an image is applied, a region that has still to switch runs the
old one. -/
def State.regionImage (s : State) (r : Nat) : List Byte :=
  if s.applying && s.img.switching.has r then s.img.running.getD [] else s.image

/-- Local index of a region within its die, with the die: a field of a region's QRN window. -/
def Fld.reg (f : Fld) (r : Nat) : Fld := f.ix (r / 16) (r % 16)

/-- Whether a block is retired. -/
def State.retiredBlock (s : State) (b : Nat) : Bool := s.qrn.retired.has b

/-- The blocks of a region that are not retired. -/
def State.working (s : State) (r : Nat) : List Nat := (List.range 16).filter fun b => !s.retiredBlock (16 * r + b)

/-- Whether a region has a vacant position, position 15 of a region with a spare reserved not counted (R72). -/
def State.degraded (s : State) (r : Nat) : Bool :=
  (List.range 16).any fun p => ((s.posMap r)[p]?).getD none == none && !(p == 15 && s.spareRes r)

/-- The events of a region follow its conditions (QRN_EVT). -/
def State.regionEvents (s : State) (r : Nat) : State :=
  let spareGone := s.spareRes r && !s.flag (F.QRN_BLK_MAP_SPARE_VALID.reg r)
  ((((s.evtIs (F.QRN_EVT_RETIRED.reg r) (s.get (F.QRN_BLK_RETIRED_RETIRED.reg r) != 0)).evtIs
    (F.QRN_EVT_DEGRADED.reg r) (s.degraded r)).evtIs (F.QRN_EVT_SPARE_GONE.reg r) spareGone).evtIs
    (F.QRN_EVT_STOPPED.reg r) (s.regionState r == 4)).evtIs (F.QRN_EVT_NO_BLOCKS.reg r) (s.regionState r == 5)

/-- Whether the image a region runs excludes it (R111). -/
def State.excluded (s : State) (r : Nat) : Bool := s.flag (F.SEQ_REG_PHASE_EXCLUDED.ix r)

/-! Placing descriptors (R126, R130, R131, R132). -/

/-- The queue of a region that a descriptor's TYPE selects (Table IMG-6); a type that no other queue takes, defined or
not, goes to CTRL. -/
def queueFor (r typ : Nat) : QueueId :=
  match typ with
  | 1 => .tile r
  | 2 => .move r
  | 3 => .spin r
  | _ => .ctrl r

/-- The deadline of a descriptor dispatched now (R132). -/
def State.deadlineOf (s : State) (raw : List Byte) (item : Nat) : Option Nat :=
  let us := beAt raw 8 4
  let base := bits (beAt raw 1 1) 3 2
  let start := if base = 1 then (Tab.find s.sched.items item).getD s.ns64
    else if base = 2 then s.sched.stepOpen.getD s.ns64 else s.ns64
  if us = 0 then none else some ((start + us * 1000) % 2 ^ 64)

/-- A descriptor dispatched to a queue for repetition `rep` (R126, R130): its effective item and threshold, its start
time if it is its item's first, and its deadline; and the state that has numbered it. -/
def State.entryOf (s : State) (q : QueueId) (raw : List Byte) (rep : Nat) : QEntry × State :=
  let item := (beAt raw 2 2 + rep) % 65536
  let thr := (beAt raw 16 4 + (if bit (beAt raw 1 1) 4 then rep * beAt raw 22 2 else 0)) % 2 ^ 32
  let s1 := if bit (beAt raw 1 1) 6 then
      { s with sched := { s.sched with items := Tab.insert s.sched.items item s.ns64 } }
    else s
  let bases := match qRegion q with
    | some r => (List.range 8).map fun b => Tab.get 0 s.sched.bases (8 * r + b)
    | none => []
  (⟨s1.sched.nextSid, raw, item, thr, s1.ns64, s1.deadlineOf raw item, false, bases⟩,
    { s1 with sched := { s1.sched with nextSid := s1.sched.nextSid + 1 } })

/-- A descriptor dispatched to a queue; one for a RETIRED region completes as failed at once (R134). -/
def State.place (s : State) (q : QueueId) (raw : List Byte) (rep : Nat) : State :=
  let x := s.entryOf q raw rep
  let gone := match qRegion q with
    | some r => s.regionState r == 5
    | none => false
  if gone then x.2.finish q x.1 true else (x.2.setQueue q (x.2.queue q ++ [x.1])).countItems

/-- Whether a queue has room for one more (R131: 64 descriptors in a region's queue). -/
def State.room (s : State) (q : QueueId) : Bool :=
  match qRegion q with
  | some _ => decide ((s.queue q).length < 64)
  | none => true

/-- An ENTRY list goes into its region's queues until one is full; the rest follows when there is room. -/
def State.feedFrom (s : State) (r ref : Nat) : Nat → State
  | 0 => { s with sched := { s.sched with feeds := Tab.erase s.sched.feeds r } }
  | n + 1 =>
    match imgDesc (s.regionImage r) ref with
    | none => { s with sched := { s.sched with feeds := Tab.erase s.sched.feeds r } }
    | some raw =>
      if s.room (queueFor r (beAt raw 0 1)) then (s.place (queueFor r (beAt raw 0 1)) raw 0).feedFrom r (ref + 1) n
      else { s with sched := { s.sched with feeds := Tab.insert s.sched.feeds r ref } }

/-- What is left of an ENTRY list completes as failed. -/
def State.failFrom (s : State) (r ref : Nat) : Nat → State
  | 0 => s
  | n + 1 => match imgDesc (s.regionImage r) ref with
    | none => s
    | some raw =>
      let q := queueFor r (beAt raw 0 1)
      let x := s.entryOf q raw 0
      (x.2.finish q x.1 true).failFrom r (ref + 1) n

/-- The part of a region's ENTRY list that its queues have not taken yet completes as failed: for a RETIRED region by R134,
and, like the descriptors that its queues hold, for one that drains for a switch or restarts (DESIGN CHOICE: R124 and R134
name the queued descriptors alone). -/
def State.failFeed (s : State) (r : Nat) : State :=
  match Tab.find s.sched.feeds r with
  | none => s
  | some ref => ({ s with sched := { s.sched with feeds := Tab.erase s.sched.feeds r } }).failFrom r ref
      (imgTail (s.regionImage r) ref)

/-- A PROGRAM entry is dispatched to the chip queue (R113); while ADMIT_HOLD is 1 it waits (R135). -/
def State.runProgram (s : State) (i : Nat) : State :=
  if s.flag F.SEQ_STAT_ADMIT_HOLD then { s with sched := { s.sched with programs := s.sched.programs ++ [i] } }
  else (List.range (imgProgCount s.image i)).foldl (fun t k => match imgDesc s.image (imgProgList s.image i + k) with
    | some raw => t.place .chip raw 0
    | none => t) s

/-- The PROGRAM entries that waited for ADMIT_HOLD to end are dispatched, oldest first. -/
def State.runWaiting (s : State) : State :=
  s.sched.programs.foldl State.runProgram { s with sched := { s.sched with programs := [] } }

/-- The chip scheduler goes on with a region's ENTRY list, unless ADMIT_HOLD or FATAL stops dispatch (R135). -/
def State.feed (s : State) (r : Nat) : State :=
  match Tab.find s.sched.feeds r with
  | none => s
  | some ref =>
    if s.flag F.SEQ_STAT_ADMIT_HOLD || s.fatal then s
    else s.feedFrom r ref (imgTail (s.regionImage r) ref)

/-- A region's ENTRY list is dispatched (R112, R124); an excluded region receives none (R111). -/
def State.enter (s : State) (r ref : Nat) : State :=
  if ref = 0xFFFFFFFF ∨ s.excluded r then s
  else ({ s with sched := { s.sched with feeds := Tab.insert s.sched.feeds r ref } }).feed r

/-- A region that becomes IDLE receives the ENTRY list kept for it (R121). -/
def State.enterDue (s : State) (r : Nat) : State :=
  match Tab.find s.sched.entryDue r with
  | none => s
  | some ref => ({ s with sched := { s.sched with entryDue := Tab.erase s.sched.entryDue r } }).enter r ref

/-- Issue from a queue of a region, which makes room for its ENTRY list. -/
def State.issueIn (s : State) (q : QueueId) (mine ok : QEntry → Bool) (run : QEntry → State → State) : State :=
  let s1 := s.issue q mine ok run
  match qRegion q with
  | some r => s1.feed r
  | none => s1

/-! Blocks, positions and the spare (R72–R75). -/

/-- A region's position map and spare under its image's map: working blocks keep their positions; a position whose
block is retired takes the spare if it is free, and is vacant otherwise (R73, R75). With several retired blocks at a phase
entry the lowest position gets the spare, whichever block was retired first, and so a spare already in use may move (DESIGN
CHOICE: the spec gives no order there). -/
def fill (dead : Nat → Bool) (spare : Option Nat) : Nat → List (Option Nat) →
    List (Option Nat) × Option Nat × Option (Nat × Nat)
  | _, [] => ([], spare, none)
  | p, none :: t =>
    let x := fill dead spare (p + 1) t
    (none :: x.1, x.2.1, x.2.2)
  | p, some b :: t =>
    if dead b then
      match spare with
      | some _ =>
        let x := fill dead none (p + 1) t
        (spare :: x.1, none, some (p, b))
      | none =>
        let x := fill dead none (p + 1) t
        (none :: x.1, x.2.1, x.2.2)
    else
      let x := fill dead spare (p + 1) t
      (some b :: x.1, x.2.1, x.2.2)

/-- QRN_BLK_MAP and SPARE_USED of a region: the free spare and the replacement in use. -/
def State.setSpare (s : State) (r phys : Nat) (free : Option Nat) (repl : Option (Nat × Nat)) : State :=
  s.setAll [(F.QRN_BLK_MAP_SPARE_PHYS.reg r, phys), (F.QRN_BLK_MAP_SPARE_VALID.reg r, b2n free.isSome),
    (F.QRN_BLK_MAP_REPL_VALID.reg r, b2n repl.isSome), (F.QRN_REG_STAT_SPARE_USED.reg r, b2n repl.isSome),
    (F.QRN_BLK_MAP_REPL_POS.reg r, (repl.getD (0, 0)).1), (F.QRN_BLK_MAP_REPL_PHYS.reg r, (repl.getD (0, 0)).2)]

/-- A region loads JOIN and POS_MAP of a phase of an image, and R73 and R75 are applied (R112, R124). -/
def State.loadPhase (s : State) (r n : Nat) (img : List Byte) (gen : Nat) : State :=
  let res := imgReserve img r
  let spare := imgSpare img r
  let dead := fun b => s.retiredBlock (16 * r + b)
  let want := (List.range 16).map fun p => if res && p == 15 then none else (imgPosMap img n r)[p]?
  let x := fill dead (if res && !dead spare then some spare else none) 0 want
  let s1 := { s with qrn := { s.qrn with pos := Tab.put identityMap s.qrn.pos r x.1 } }
  ((s1.setSpare r (if res then spare else 0) x.2.1 x.2.2).setAll
    [(F.QRN_REG_STAT_JOIN.reg r, imgJoin img n r), (F.QRN_REG_STAT_SPARE_RES.reg r, b2n res),
     (F.SEQ_REG_PHASE_PHASE.ix r, n), (F.SEQ_REG_PHASE_GEN.ix r, gen),
     (F.SEQ_REG_PHASE_EXCLUDED.ix r, b2n (imgExclude img r))]).regionEvents r

/-! Drains and phase switches (R124, R125). -/

/-- The drain requests of a region, first requester first. -/
def State.drains (s : State) (r : Nat) : List DrainReq := Tab.get [] s.sched.drains r

/-- The phase that a drain request switches to. -/
def DrainReq.target : DrainReq → Option Nat
  | .phase n _ => some n
  | .image n => some n
  | .test => none

/-- The drain requests written; SWITCHING and TARGET follow the first switch among them (R138). -/
def State.setDrains (s : State) (r : Nat) (l : List DrainReq) : State :=
  let t := { s with sched := { s.sched with drains := Tab.put [] s.sched.drains r l } }
  match (l.filterMap DrainReq.target).head? with
  | some n => t.setAll [(F.SEQ_REG_PHASE_SWITCHING.ix r, 1), (F.SEQ_REG_PHASE_TARGET.ix r, n)]
  | none => t.set (F.SEQ_REG_PHASE_SWITCHING.ix r) 0

/-- Whether a region has work in progress. -/
def State.busyRegion (s : State) (r : Nat) : Bool :=
  s.sched.flights.any fun f => qRegion f.queue == some r

/-- A region that no drain holds is RUNNING while it has tiles and IDLE otherwise (Table QRN-11). -/
def State.settleRegion (s : State) (r : Nat) : State :=
  let st := s.regionState r
  if st == 4 || st == 5 then s
  else if s.drains r != [] then s
  else
    let tiles := s.sched.flights.any fun f => f.queue == .tile r
    s.setRegionState r (if tiles then 1 else 0)

/-- A request to drain a region joins those that wait; the first makes the region DRAINING. -/
def State.askDrain (s : State) (r : Nat) (q : DrainReq) : State :=
  let s1 := if s.drains r == [] then s.setRegionState r 2 else s
  let s2 := s1.setDrains r (s.drains r ++ [q])
  match q with
  | .phase _ _ => s2.set (F.SEQ_REG_PHASE_REFUSED.ix r) 0
  | .image _ => s2
  | .test => s2

/-- The request that holds a region's drain ends; the next one, if any, drains it again. -/
def State.endDrain (s : State) (r : Nat) : State :=
  let rest := (s.drains r).drop 1
  let s1 := s.setDrains r rest
  if rest == [] then s1.setRegionState r 0 else s1.setRegionState r 2

/-- PHASE_REFUSED (R125, R136): of a PHASE descriptor with its DESC_ID and item, or of the station. -/
def State.phaseRefused (s : State) (r : Nat) (desc : Nat := 0) (item : Nat := 0) : State :=
  (((s.set (F.SEQ_REG_PHASE_REFUSED.ix r) 1).evt F.SEQ_EVT_PHASE_REFUSED).keepSeq 0x52 (some r) desc item).raise 0x52 .uc
    (locRegion r) desc

/-- A PHASE descriptor whose regions have all switched is done (R124). -/
def State.phaseDone (s : State) (asker : Option Nat) : State :=
  match asker with
  | none => s
  | some sid =>
    let waits := s.sched.drains.any fun x => x.2.any fun q => (match q with
      | .phase _ a => a == some sid
      | _ => false)
    if waits then s else s.onFlight sid fun f => { f with done := true }

/-- Queued descriptors of a region are taken out and fail (R124, R134), its ENTRY list included. -/
def State.dropQueued (s : State) (r : Nat) : State :=
  (s.failQueues (regionQueues r)).failFeed r

/-- Descriptors in progress of a region complete as failed. -/
def State.finishFlights (s : State) : List Flight → State
  | [] => s
  | f :: t => (s.finish f.queue f.entry true).finishFlights t

/-- The tiles of descriptors leave the arrays and their accumulators. -/
def State.clearTiles (s : State) (gone : Nat → Bool) : State :=
  { s with qrn := { s.qrn with
    runs := s.qrn.runs.filter fun x => !gone x.2.sid
    outs := (s.qrn.outs.map fun x => (x.1, x.2.filter fun o => !gone o.sid)).filter fun x => !x.2.isEmpty
    work := s.qrn.work.filter fun x => !gone x.1 } }

/-- Every descriptor of a region, queued or in progress, completes as failed, and its arrays stop (R77, R134). -/
def State.dropAll (s : State) (r : Nat) : State :=
  let mine := fun (f : Flight) => qRegion f.queue == some r
  let s1 := ({ s with sched := { s.sched with flights := s.sched.flights.filter fun f => !mine f } }).clearTiles
    fun sid => s.sched.flights.any fun f => mine f && f.entry.sid == sid
  (s1.finishFlights (s.sched.flights.filter mine)).dropQueued r

/-- IMG_GEN of the image being applied. -/
def State.nextGen (s : State) : Nat := s.get F.IMG_GEN_GEN + 1

/-- A region at its descriptor boundary does what its first drain request asks (R124): a phase switch takes the queued
descriptors out, loads the phase, becomes IDLE and receives ENTRY; a self-test finds the region DRAINED. -/
def State.drainReached (s : State) (r : Nat) : State :=
  match s.drains r with
  | [] => s
  | .test :: _ => s.setRegionState r 3
  | .phase n asker :: _ =>
    let s1 := (s.dropQueued r).loadPhase r n (s.regionImage r) (s.get (F.SEQ_REG_PHASE_GEN.ix r))
    ((s1.endDrain r).enter r (imgEntry (s.regionImage r) n r)).phaseDone asker
  | .image n :: _ =>
    let img := s.img.next.getD []
    let s1 := (s.dropQueued r).loadPhase r n img s.nextGen
    let s2 := { s1 with img := { s1.img with switching := s1.img.switching.del r } }
    (s2.endDrain r).enter r (imgEntry img n r)

/-- A STOPPED or RETIRED region takes a new image's phase at once and keeps its state; its ENTRY list waits until it
next becomes IDLE (R121). -/
def State.switchStopped (s : State) (r n : Nat) : State :=
  let img := s.img.next.getD []
  let s1 := (s.dropAll r).loadPhase r n img s.nextGen
  let due := if imgEntry img n r = 0xFFFFFFFF then Tab.erase s1.sched.entryDue r
    else Tab.insert s1.sched.entryDue r (imgEntry img n r)
  { s1 with
    img := { s1.img with switching := s1.img.switching.del r }
    sched := { s1.sched with entryDue := due } }

/-- A STOPPED region switches to a new image for which it was asked to drain (R121). -/
def State.switchDue (s : State) (r : Nat) : State :=
  let new := (s.drains r).filterMap fun q => (match q with
    | .image n => some n
    | _ => none)
  match new with
  | n :: _ => (s.setDrains r ((s.drains r).filter fun q => q != .image n)).switchStopped r n
  | [] => s

/-- The restart of a STOPPED region (R134): its queued descriptors fail, its tables are those of the running phase, and
it is IDLE, or goes on draining for a request that waits. An armed SCB_RESTART restarts a region that is not STOPPED when its
restart is asked for (R136, R372). -/
def State.restart (s : State) (r : Nat) : State :=
  if s.regionState r == 4 || (s.regionState r != 5 && s.forcedAt 0x53 (locRegion r)) then
    let s1 := (s.dropAll r).setRegionState r (if s.drains r == [] then 0 else 2)
    let s2 := (((s1.regionEvents r).evt F.SEQ_EVT_RESTARTED).keepSeq 0x53 (some r) 0 0).raise 0x53 .ce (locRegion r)
    s2.enterDue r
  else s

/-- Every STOPPED region restarts (R134). -/
def State.restartStopped (s : State) : State :=
  (List.range 64).foldl (fun t r => if t.regionState r == 4 then t.restart r else t) s

end Sys2Proof.Machine
end

