-- ==== Sys2Proof/Machine/Update.lean ====
section
/-! DEFINITION. What the update engine's commands share (R23, R86, R102–R104): the first update fault, a matrix that
fails or is non-finite, and a step that is abandoned. -/

namespace Sys2Proof.Machine

/-- The first update fault since UPD_CNT_CLR is kept (R104). -/
def State.firstUpd (s : State) (source matrix iter product : Nat) : State :=
  if s.get F.UPD_FE_SOURCE != 0 then s
  else s.setAll [(F.UPD_FE_SOURCE, source), (F.UPD_FE_ITER, iter), (F.UPD_FE_PRODUCT, product),
    (F.UPD_FE_MATRIX_MATRIX, matrix)]

/-- The matrix in Orthogonalise (UPD_ORTH_POS). -/
def State.orthMatrix (s : State) : Option Nat :=
  let m := s.get F.UPD_ORTH_POS_MATRIX
  if m = noMatrix then none else some m

/-- A matrix fails (R86): poison, a Spindle failure or the loss of a region. Each matrix is reported once. The iteration and
product are those of Orthogonalise when it is the matrix there. -/
def State.matFail (s : State) (r desc : Nat) (matrix : Option Nat) : State :=
  match matrix with
  | none => s
  | some m =>
    if s.step.failed.contains m then s
    else
      let here := s.orthMatrix == some m
      let s1 := { s with step := { s.step with failed := m :: s.step.failed } }
      let s2 := ((s1.firstUpd 0x49 m (if here then s.get F.UPD_ORTH_POS_ITER else 0)
        (if here then s.get F.UPD_ORTH_POS_PRODUCT else 0)).bump F.UPD_CNT_FAILED).evt F.UPD_EVT_MAT_FAIL
      s2.raise 0x49 .uc (locRegion r) desc

/-- The matrix that the work of Spindle with a unit is on: the tensor of an Apply, or the matrix in Orthogonalise. -/
def State.spinMatrix (s : State) (unit : Nat) : Option Nat := if unit = 0 then s.orthMatrix else some (unit - 1)

/-- The matrices that the loss of a region fails (R86): the one in Orthogonalise, where the region takes part in the step, and
those whose Apply its Spindle runs. -/
def State.regionMatrices (s : State) (r : Nat) : List (Option Nat) :=
  (if s.excluded r then none else s.orthMatrix) ::
    (s.sched.flights.filter fun f => f.queue == .spin r && decide (0 < f.unit)).map fun f => some (f.unit - 1)

/-- Several matrices fail with a region. -/
def State.matFails (s : State) (r : Nat) : List (Option Nat) → State
  | [] => s
  | m :: t => (s.matFail r 0 m).matFails r t

/-- A matrix is non-finite (R86): NONFINITE, and the step is abandoned when NONFINITE_ACT is 1. -/
def State.nonFinite (s : State) (r desc m iter product : Nat) : State :=
  if s.step.nonfinite.contains m then s
  else
    let s1 := { s with step := { s.step with nonfinite := m :: s.step.nonfinite } }
    let s2 := ((s1.firstUpd 0x48 m iter product).bump F.UPD_CNT_NONFINITE).evt F.UPD_EVT_NONFINITE
    let s3 := s2.raise 0x48 .uc (locRegion r) desc
    if s3.flag F.UPD_RULE_NONFINITE_ACT then s3.abandonStep else s3

/-- The lowest region that takes part in the step (R90). -/
def State.lowestRegion (s : State) : Nat := ((List.range 64).find? fun r => !s.excluded r).getD 0

/-- The region of the step at which an armed source acts (R103, R372). -/
def State.forcedRegion (s : State) (source : Nat) : Option Nat :=
  (List.range 64).find? fun r => !s.excluded r && s.forcedAt source (locRegion r)

end Sys2Proof.Machine
end

