-- ==== Sys2Proof/Machine/Member.lean ====
section
/-! DEFINITION. Members and epochs (R187, R270, R271), the commit of an outer step (R15, R23, R278), and the areas of
the running image. -/

namespace Sys2Proof.Machine

/-! Members (R270, R187). -/

/-- This gateway's site. -/
def State.site (s : State) : Nat := imgSite s.image

/-- The member sites of the current epoch. -/
def State.sites (s : State) : Nat := s.get F.MBR_STAT_SITES

/-- Whether a gateway of a site is a member: every one until tables are installed. -/
def State.memberGw (s : State) (site gw : Nat) : Bool :=
  !s.mbr.installed || (bit s.sites site && bit (Tab.get 0 s.mbr.gw (4 * site + gw / 32)) (gw % 32))

/-- Whether a fabric endpoint is a member in the current epoch. -/
def State.memberEp (s : State) (id : Nat) : Bool := !s.mbr.installed || bit (Tab.get 0 s.mbr.fab (id / 32)) (id % 32)

/-- The membership epoch. -/
def State.epoch (s : State) : Nat := s.get F.MBR_EPOCH_EPOCH

/-- Whether one 32-bit epoch is newer than another (R270). -/
def newer (a b : Nat) : Bool := decide (0 < (a + 2 ^ 32 - b % 2 ^ 32) % 2 ^ 32 ∧ (a + 2 ^ 32 - b % 2 ^ 32) % 2 ^ 32 < 2 ^ 31)

/-- Whether an epoch is accepted from a sender (R187): the current one, or the one before it from a current member. -/
def State.epochOk (s : State) (mepoch : Nat) (member : Bool) : Bool :=
  mepoch == s.epoch || (s.mbr.prevEpoch == some mepoch && member)

/-- The device becomes fenced (R271). -/
def State.fence (s : State) : State :=
  if s.fenced then s
  else ((((s.set F.MBR_STAT_STATE 1).abandonStep).evt F.MBR_EVT_FENCED).raise 0xB8 .uc (locChip 0x18)).holdGrants

/-- An epoch newer than this device's own is seen (R271), or an armed source acts (R372). -/
def State.seeEpoch (s : State) (mepoch : Nat) : State :=
  if newer mepoch s.epoch || s.forcedAt 0xB8 (locChip 0x18) then s.fence else s

/-- Whether the current tables include this device (R271). -/
def State.selfMember (s : State) : Bool :=
  !s.mbr.installed || (s.memberGw s.site (imgGw s.image) && s.memberEp (imgEndpoint s.image))

/-! Commits (R15, R23, R278). -/

/-- The committed outer epoch. -/
def State.outerEpoch (s : State) : Nat := s.get64 F.UPD_OUTER_EPOCH_LO_EPOCH F.UPD_OUTER_EPOCH_HI_EPOCH

/-- The committed outer epoch written. -/
def State.setOuterEpoch (s : State) (e : Nat) : State :=
  s.set64 F.UPD_OUTER_EPOCH_LO_EPOCH F.UPD_OUTER_EPOCH_HI_EPOCH e

/-- The commit mask. -/
def State.commitMask (s : State) : Nat := s.get F.MBR_STAT_COMMIT

/-- T grows by the step's tally from the pin onwards (R278). -/
def State.addTokens (s : State) : State :=
  if s.flag F.MBR_STAT_PIN_HELD || s.mbr.pinCopy.isSome then
    s.add64 F.MBR_TOK_LO_TOKENS F.MBR_TOK_HI_TOKENS s.mbr.tally
  else s

/-! The Exchange among sites (R21). -/

/-- The site before or after this one in the ring order of a step: the order of site numbers (R21). -/
def ringSite (sites : List Nat) (own : Nat) (next : Bool) : Nat :=
  let i := (sites.findIdx? (· == own)).getD 0
  (sites[(i + if next then 1 else sites.length - 1) % sites.length]?).getD own

/-- The sites of a mask. -/
def siteList (mask : Nat) : List Nat := (List.range 8).filter fun i => bit mask i

/-- The sites whose corresponding gateways send this one EXCH segments in a step (R21): the other of two; the neighbours of
a ring, from each of which one half of a matrix comes. -/
def exchangeSites (mask own : Nat) : List Nat :=
  let l := siteList mask
  ([ringSite l own true, ringSite l own false].eraseDups).filter (· != own)

/-- Whether the corresponding gateway at a site is absent from the current membership epoch (R282). -/
def State.absentPeer (s : State) (site : Nat) : Bool := !s.memberGw site (imgGw s.image)

/-! Epoch offsets (R272). -/

/-- EOFF of a site as a signed number. -/
def State.eoff (s : State) (site : Nat) : Int := signed 32 (s.get (F.MBR_EOFF_OFFSET.ix site))

/-- A committed epoch that a site tells, in this gateway's own terms. -/
def State.ownTerms (s : State) (site e : Nat) : Nat := unsigned 64 ((e : Int) - s.eoff site)

/-! Notices (R273). -/

/-- What notices have told of a site. -/
def State.siteInfo (s : State) (site : Nat) : SiteInfo := Tab.get ⟨0, 0, 0, 0, 0, 0⟩ s.mbr.info site

/-- The ages of the reach reports grow with time (R273). -/
def State.growAges (s : State) : State :=
  let now := s.ns64 / 1000000
  s.setAll (((List.range 8).filter fun i => s.get (F.MBR_REACH_AGE_MS.ix i) != 0xFFFF).map fun i =>
    (F.MBR_REACH_AGE_MS.ix i, min 0xFFFF (now - (s.siteInfo i).reachAt)))

/-- The body of a notice this device sends (Table MLR-5), with the ages of its reach reports or with 0 in their place. -/
def State.noticeBody (s : State) (ages : Bool) : List Byte :=
  let flags := s.get F.MBR_STAT_OUTSIDE + 2 * s.get F.MBR_STAT_PIN_HELD + 4 * b2n s.mbr.rejoinReady
  beBytes 4 s.epoch ++ beBytes 1 s.site ++ beBytes 1 (s.get F.MBR_STAT_STATE) ++ beBytes 1 s.commitMask ++
    beBytes 1 flags ++ beBytes 8 s.outerEpoch ++ beBytes 8 (s.get64 F.MBR_PIN_LO_EPOCH F.MBR_PIN_HI_EPOCH) ++
    beBytes 1 (s.get F.MBR_PIN_MASK_MASK) ++ beBytes 7 0 ++
    (List.range 8).flatMap fun i => if i = s.site then beBytes 1 (s.get F.MBR_STAT_REACH) ++ beBytes 3 0
      else beBytes 1 (s.get (F.MBR_REACH_MASK.ix i)) ++ beBytes 2 (if ages then s.get (F.MBR_REACH_AGE_MS.ix i) else 0) ++ beBytes 1 0

/-! Owned state (R277). -/

/-- How many parameters this gateway owns. -/
def State.ownedParams (s : State) : Nat := ((imgOwned s.image (imgGw s.image)).map fun t => t.rows * t.cols).sum

/-- Areas of a kind in an image's MEMORY section: base and length (Table MEM-5). -/
def imgAreas (img : List Byte) (kind : Nat) : List (Nat × Nat) :=
  let b := imgBody img 0x8004 0
  ((List.range (beAt b 0 1)).filter fun a => beAt b (64 + 32 * a) 1 == kind).map fun a =>
    (beAt b (66 + 32 * a) 6, beAt b (72 + 32 * a) 8)

/-- The ranges that `n` bytes from an offset of a list of areas take, the areas one after the other. -/
def areaRanges : List (Nat × Nat) → Nat → Nat → List (Nat × Nat)
  | [], _, _ => []
  | x :: t, o, n =>
    if n = 0 then []
    else if x.2 ≤ o then areaRanges t (o - x.2) n
    else (x.1 + o, min n (x.2 - o)) :: areaRanges t 0 (n - min n (x.2 - o))

/-- A range taken out of ranges. -/
def cutRange (a n : Nat) (l : List (Nat × Nat)) : List (Nat × Nat) :=
  l.flatMap fun x => ([(x.1, min (x.1 + x.2) a - x.1), (max x.1 (a + n), x.1 + x.2 - max x.1 (a + n))]).filter fun y =>
    decide (0 < y.2)

/-- Whether the outer rule of the image keeps momentum (Table OS-2). -/
def State.momentum (s : State) : Bool := s.get F.UPD_RULE_RULE != 0

/-- Where the anchor and the momentum of an owned tensor stand in the OWNED areas: its 4 bytes per parameter in shard-map
order, all anchors before all momenta (DESIGN CHOICE: the spec does not say how the OWNED areas lay them out). -/
def State.tensorRanges (s : State) (i : Nat) : List (Nat × Nat) :=
  let l := imgOwned s.image (imgGw s.image)
  let size := fun (t : Tensor) => 4 * t.rows * t.cols
  let before := ((l.take i).map size).sum
  let n := ((l[i]?).map size).getD 0
  let areas := imgAreas s.image 1
  areaRanges areas before n ++ (if s.momentum then areaRanges areas (4 * s.ownedParams + before) n else [])

/-- The ranges of the owned state (Table OS-2). -/
def State.ownedRanges (s : State) : List (Nat × Nat) :=
  areaRanges (imgAreas s.image 1) 0 ((if s.momentum then 8 else 4) * s.ownedParams)

/-- Bytes of the owned state have come from the partner's replica or from another site (R282): a tensor of an abandoned step
whose anchor and momentum have all come is restored, and the grants go on after the last. -/
def State.restored (s : State) (a n : Nat) : State :=
  if s.step.restore.isEmpty then s
  else
    let back := (a, n) :: s.step.back
    let left := s.step.restore.filter fun i => !(back.foldl (fun l x => cutRange x.1 x.2 l) (s.tensorRanges i)).isEmpty
    ({ s with step := { s.step with restore := left, back := if left.isEmpty then [] else back } }).holdGrants

/-- The ranges of a full replica of the partner's state in the REPLICA area (R26, Table MEM-5). -/
def State.replicaRanges (s : State) : List (Nat × Nat) :=
  let params := ((imgOwned s.image (imgPartner s.image)).map fun t => t.rows * t.cols).sum
  areaRanges (imgAreas s.image 8) 0 ((if s.momentum then 8 else 4) * params)

/-- The version that a replica stream of the partner brings: the one this gateway commits, in Apply, or has committed
(DESIGN CHOICE: no packet names it). -/
def State.streamVersion (s : State) : Nat × Nat :=
  if s.get F.UPD_STEP_STAT_STATE = 4 then ((s.outerEpoch + 1) % 2 ^ 64, s.mbr.stepMask.getD s.commitMask)
  else (s.outerEpoch, s.get F.UPD_ANCHOR_MASK_MASK)

/-- Bytes of a replica stream have been written (R26, R159): with the last of them the version is confirmed to the partner,
and the REPLICA area is no longer lost. -/
def State.replicaIn (s : State) (a n : Nat) : State :=
  if imgGwPerSite s.image ≤ 1 then s
  else
    let all := s.replicaRanges
    let left := cutRange a n (if s.mbr.replicaLeft.isEmpty then all else s.mbr.replicaLeft)
    if left == all then s
    else if left.isEmpty then
      let v := s.streamVersion
      (({ s with mbr := { s.mbr with replicaLeft := [] } }).emit (.replicaConfirm v.1 v.2)).setBit F.PND_STAT_LOST 0 false
    else { s with mbr := { s.mbr with replicaLeft := left } }

/-- The commit of an outer step under a mask (R23): the outer epoch rises by 1, the anchor version and its journal
record follow, the causes of UPD_EVT end, the owned state is streamed to the partner, whose replica is out of date until it
confirms (R26), and the state is SCATTER. The PUTs of the stream are commands of their own, over the ranges named. -/
def State.commitAs (s : State) (mask : Nat) : State :=
  let e := (s.outerEpoch + 1) % 2 ^ 64
  let partner := decide (1 < imgGwPerSite s.image)
  let s1 := (((s.setOuterEpoch e).set F.UPD_ANCHOR_MASK_MASK mask).journal).evtEndAll
    [F.UPD_EVT_MAT_FAIL, F.UPD_EVT_NONFINITE, F.UPD_EVT_PARTNER_WAIT, F.UPD_EVT_SPN_FAIL]
  let s2 := (s1.setStep 5).set F.UPD_STEP_STAT_PARTNER_WAIT 0
  let s3 := { s2 with
    step := { s2.step with
      nonfinite := [], failed := [], rewritten := [], restore := [], back := []
      partnerHeld := !partner
      fullStream := if partner then false else s2.step.fullStream }
    mbr := { s2.mbr with stepMask := none, stepCtl := [] } }
  if partner then s3.emit (.replicaStream e mask s.step.fullStream s.ownedRanges) else s3

/-- The bytes of the first areas of a list, `n` in all. -/
def State.fetchAreas (s : State) : List (Nat × Nat) → Nat → List (Byte × Bool)
  | [], _ => []
  | x :: t, n => s.fetch x.1 (min x.2 n) ++ s.fetchAreas t (n - x.2)

/-- The committed anchor is copied to the PINNED area: 4 bytes per owned parameter from the start of the OWNED areas
(DESIGN CHOICE: the spec does not say how the OWNED areas lay out anchor and momentum). -/
def State.copyPin (s : State) : State :=
  match (imgAreas s.image 9).head? with
  | none => s
  | some p => s.deposit p.1 (s.fetchAreas (imgAreas s.image 1) (min p.2 (4 * s.ownedParams)))

end Sys2Proof.Machine
end

