-- ==== Sys2Proof/Machine/Packet.lean ====
section
/-! DEFINITION. Fabric packets (R178–R180): their bytes, their check and their form. -/

namespace Sys2Proof

open Sys2Proof.Machine

/-- A packet's bytes on a link (R178). -/
def Packet.wire (k : Packet) : Nat := 32 + k.data.length

/-- The credits of a packet (R177). -/
def Packet.credits (k : Packet) : Nat := (k.wire + 255) / 256

/-- The 32 header bytes (Table FAB-5) with given DL and HOPS. -/
def Packet.head (k : Packet) (dl hops : Nat) : List Byte :=
  beBytes 1 (k.cls % 4 * 64 + dl % 2 * 32 + k.repoch % 2 * 16 + k.ver % 16) ++
  beBytes 1 (b2n k.mcast * 128 + b2n k.last * 64 + b2n k.poison * 32) ++
  beBytes 1 k.opcode ++ beBytes 1 hops ++ beBytes 4 k.mepoch ++ beBytes 3 k.dst ++ beBytes 3 k.src ++
  beBytes 2 k.len ++ beBytes 4 k.opId ++ beBytes 6 k.addr ++ beBytes 2 k.pkt ++ beBytes 4 k.pcrc

/-- The PCRC of a packet: the CRC-32C of header bytes 0–27, DL and HOPS zero, and the payload. -/
def Packet.crc (k : Packet) : Nat := crc32c ((k.head 0 0).take 28 ++ k.data)

/-- A packet with its PCRC. -/
def Packet.sealed (k : Packet) : Packet := { k with pcrc := k.crc }

/-- Whether an endpoint ID is reserved (R179). -/
def reservedId (id : Nat) : Bool := id == 0 || decide (0xFFF00 ≤ id)

/-- Whether OPCODE belongs to CLASS (Table FAB-6, R207). -/
def opcodeOk (cls op : Nat) : Bool :=
  match cls with
  | 0 => op == 3 || op == 5
  | 1 => op == 2 || op == 4 || op == 6
  | 2 => op == 1
  | 3 => decide (0x10 ≤ op ∧ op ≤ 0x16)
  | _ => false

/-- Whether a packet's form is good: VER, CLASS and OPCODE (R180), no reserved ID as source or unicast destination
(R179), and multicast in FWD and COL only (R186). -/
def Packet.formOk (k : Packet) : Bool :=
  k.ver == 1 && opcodeOk k.cls k.opcode && !reservedId k.src &&
    (if k.mcast then decide (2 ≤ k.cls) else !reservedId k.dst)

end Sys2Proof
end

