-- ==== Sys2Proof/Machine/Stamp.lean ====
section
/-! DEFINITION. Time-stamps (R316, R321, R323, R324): the network time of each hub in units of 2^−16 ns, stamps with their
corrections, and the capture pairs of the fabric ports. -/

namespace Sys2Proof.Machine

/-- The network time of a hub in units of 2^−16 ns (R316, R321). -/
def State.now16 (s : State) (hub : Nat) : Int :=
  ((s.time.sec * 1000000000 + s.time.ns) * 65536 + s.time.frac / 65536 : Nat) + (if hub = 1 then s.time.skew * 65536 else 0)

/-- A stamp with a stated correction and a board correction in ps, modulo 2^64 ns (R323, R317). -/
def stampOf (now : Int) (stated board : Int) : Nat :=
  unsigned 80 (now + (stated + board) * 65536 / 1000)

/-- The transmit stamp of a line port's frame (Table TIM-2). -/
def State.lineTx (s : State) (p : Nat) : Nat :=
  stampOf (s.now16 (p / 2)) 3600 (signed 16 (s.get (F.TIM_PORT_CORR_TX_PS.ix (16 + p))))

/-- The receive stamp of a line port's frame. -/
def State.lineRx (s : State) (p : Nat) : Nat :=
  stampOf (s.now16 (p / 2)) (-6400) (signed 16 (s.get (F.TIM_PORT_CORR_RX_PS.ix (16 + p))))

/-- Whole nanoseconds of a stamp, as ns64. -/
def stampNs (x : Nat) : Nat := x / 65536 % 2 ^ 64

/-- A packet that leaves a fabric port is captured when its OP_ID is the one asked for and the side is empty (R324). -/
def State.captureTx (s : State) (p opId : Nat) : State :=
  if s.get (F.TIM_FCAP_CFG_OP_ID.ix p) == opId && !s.time.fcap.has (2 * p) then
    let x := stampOf (s.now16 (p / 8)) 3200 (signed 16 (s.get (F.TIM_PORT_CORR_TX_PS.ix p)))
    (({ s with time := { s.time with fcap := s.time.fcap.add (2 * p) } }).set64 (F.TIM_FCAP_TX_LO_NS64.ix p)
      (F.TIM_FCAP_TX_HI_NS64.ix p) (stampNs x)).set (F.TIM_FCAP_FRAC_TX.ix p) (x % 65536)
  else s

/-- A packet that arrives on a fabric port (R324). -/
def State.captureRx (s : State) (p opId : Nat) : State :=
  if s.get (F.TIM_FCAP_CFG_OP_ID.ix p) == opId && !s.time.fcap.has (2 * p + 1) then
    let x := stampOf (s.now16 (p / 8)) (-5800) (signed 16 (s.get (F.TIM_PORT_CORR_RX_PS.ix p)))
    (({ s with time := { s.time with fcap := s.time.fcap.add (2 * p + 1) } }).set64 (F.TIM_FCAP_RX_LO_NS64.ix p)
      (F.TIM_FCAP_RX_HI_NS64.ix p) (stampNs x)).set (F.TIM_FCAP_FRAC_RX.ix p) (x % 65536)
  else s

end Sys2Proof.Machine
end

