-- ==== Sys2Proof/Machine/Fabric.lean ====
section
/-! DEFINITION. The Krava fabric's operations (R172–R198): ports and their credits, packets and their checks, routing,
injection, and operations that complete or fail. -/

namespace Sys2Proof.Machine

/-! The PORTS section (R173, Table FAB-2). -/

/-- EXPECT_ID of a port. -/
def imgExpectId (img : List Byte) (p : Nat) : Nat := beAt (imgBody img 0x8005 0) (33 + 32 * p) 3
/-- WBASE, WPERM and WLEN of window w. -/
def imgWindow (img : List Byte) (w : Nat) : Nat × Nat × Nat :=
  let b := imgBody img 0x8005 0
  (beAt b (544 + 16 * w) 6, bits (beAt b (550 + 16 * w) 1) 7 6, beAt b (552 + 16 * w) 8)
/-- Whether CTR_ADD may reach global counter n (R190). -/
def imgCtrOpen (img : List Byte) (n : Nat) : Bool :=
  let b := imgBody img 0x8005 0
  bit (beAt b 6 1) 0 && decide (beAt b 8 2 ≤ n ∧ n < beAt b 8 2 + beAt b 10 2 ∧ n < 4096)

/-- Whether a range lies in a remote window that allows an access (R189): bit 0 of WPERM for GET, bit 1 for PUT. -/
def imgWindowOk (img : List Byte) (perm a n : Nat) : Bool :=
  (List.range 8).any fun w =>
    let x := imgWindow img w
    bit x.2.1 perm && decide (x.1 ≤ a ∧ a + n ≤ x.1 + x.2.2)

/-! Ports (R175, R177). -/

/-- A port with no credits given or received. -/
def PortSt.idle : PortSt := ⟨[0, 0, 0, 0, 0, 0, 0, 0], [0, 0, 0, 0, 0, 0, 0, 0], 0, 0⟩

/-- A port's credit state. -/
def State.fabPort (s : State) (p : Nat) : PortSt := Tab.get PortSt.idle s.fab.ports p

/-- A port's credit state written. -/
def State.setFabPort (s : State) (p : Nat) (x : PortSt) : State :=
  { s with fab := { s.fab with ports := Tab.put PortSt.idle s.fab.ports p x } }

/-- The state of a port (Table FAB-3). -/
def State.fabState (s : State) (p : Nat) : Nat := s.get (F.FAB_PORT_STAT_STATE.ix p)

/-- A port's state written, with its bits in FAB_STAT; VALID of its peer clears when it leaves DOWN. -/
def State.setFabState (s : State) (p st : Nat) : State :=
  let s1 := if s.fabState p == 0 && st != 0 then s.set (F.FAB_PORT_PEER_VALID.ix p) 0 else s
  ((s1.set (F.FAB_PORT_STAT_STATE.ix p) st).setBit F.FAB_STAT_ACTIVE p (st == 4)).setBit F.FAB_STAT_FAILED p (st == 5)

/-- Whether a port is ACTIVE. -/
def State.fabActive (s : State) (p : Nat) : Bool := s.fabState p == 4

/-- The location code of a port's faults (R197): photonic die P(p div 4). -/
def locPort (p : Nat) : Nat := locChip (0x20 + p / 4)

/-- The location code of a hub. -/
def locHub (j : Nat) : Nat := locChip (0x18 + j)

/-- A fabric fault (R197, R198): its event bit, the first-fault registers and the record. -/
def State.raiseFab (s : State) (source : Nat) (cls : FClass) (ev : Option Fld) (loc port peer opId : Nat) : State :=
  let s1 := match ev with
    | some f => s.evt f
    | none => s
  let s2 := if s1.get F.FAB_FE_INFO_SOURCE != 0 then s1
    else s1.setAll [(F.FAB_FE_INFO_SOURCE, source), (F.FAB_FE_INFO_PORT, port), (F.FAB_FE_INFO_PEER, peer),
      (F.FAB_FE_OPID_OP_ID, opId)]
  s2.raise source cls loc 0 port opId

/-- PORT_DOWN (Table FAB-10). -/
def State.portDown (s : State) (p : Nat) : State :=
  s.raiseFab 0x80 .uc (some F.FAB_EVT_PORT_DOWN) (locPort p) p 0 0

/-- The packets that RTE_IN_USE counts (R198): those that wait in this device's buffers, by REPOCH. -/
def FabSt.inUse (x : FabSt) (repoch : Nat) : Nat :=
  (x.queues.map fun q => (q.2.filter fun h => h.pkt.repoch == repoch).length).sum +
    (x.inbox.filter fun i => i.pkt.repoch == repoch).length

/-- RTE_IN_USE follows the buffers. -/
def State.countInUse (s : State) : State :=
  s.setAll [(F.RTE_IN_USE_A, min 65535 (s.fab.inUse 0)), (F.RTE_IN_USE_B, min 65535 (s.fab.inUse 1))]

/-- The packets that wait on a VC of an ingress. -/
def State.held7 (s : State) (ingress vc : Nat) : List HeldPkt := Tab.get [] s.fab.queues (8 * ingress + vc)

/-- The packets that wait on a VC of an ingress written. -/
def State.setHeld7 (s : State) (ingress vc : Nat) (l : List HeldPkt) : State :=
  ({ s with fab := { s.fab with queues := Tab.put [] s.fab.queues (8 * ingress + vc) l } }).countInUse

/-- Credits of a VC put on a port's running total, modulo 4,096 (R177). -/
def State.giveCredits (s : State) (p v n : Nat) : State :=
  let x := s.fabPort p
  s.setFabPort p { x with given := x.given.set v (((x.given[v]?).getD 0 + n) % 4096) }

/-- The buffer of a packet that came in on a port is free (R177). -/
def State.freeBuffer (s : State) (ingress vc : Nat) (k : Packet) : State :=
  if ingress < 16 then s.giveCredits ingress vc k.credits else s

/-- The buffer of a packet that waits is free, if its port is still owed the credits. -/
def State.freeHeld (s : State) (h : HeldPkt) : State := if h.owes then s.freeBuffer h.ingress h.vc h.pkt else s

/-- Packets held for a port that leaves ACTIVE are discarded (R177): a chosen unicast packet goes, and a multicast
packet loses the branch. -/
def HeldPkt.without (p : Nat) (h : HeldPkt) : Option HeldPkt :=
  if h.pkt.mcast then
    let b := h.branches.filter fun q => q != p
    if b.isEmpty then none else some { h with branches := b }
  else if h.out == some p then none else some h

/-- A packet of a port that leaves ACTIVE goes on, but the credits of its buffer are discarded with all the others (R177). -/
def HeldPkt.settled (p : Nat) (h : HeldPkt) : HeldPkt := if h.ingress == p then { h with owes := false } else h

/-- Every queue without the packets held for a port, and nothing owed to that port. -/
def State.dropHeld (s : State) (p : Nat) : State :=
  let qs := s.fab.queues.filterMap fun q =>
    match (q.2.filterMap (HeldPkt.without p)).map (HeldPkt.settled p) with
    | [] => none
    | l => some (q.1, l)
  let gone := s.fab.queues.flatMap fun q => q.2.filter fun h => (h.without p).isNone && h.ingress != p
  let inbox := s.fab.inbox.map fun i => if i.ingress == p then { i with owes := false } else i
  gone.foldl State.freeHeld ({ s with fab := { s.fab with queues := qs, inbox := inbox } }).countInUse

/-- A port goes to FAILED for a reason (Table FAB-4). Leaving ACTIVE discards its credits and held packets (R177) and
raises PORT_DOWN (R197). -/
def State.fabFail (s : State) (p reason : Nat) : State :=
  let active := s.fabActive p
  let s1 := ((s.setFabState p 5).set (F.FAB_PORT_STAT_REASON.ix p) reason).setFabPort p PortSt.idle
  let s2 := s1.setAll ((List.range 8).map fun v => (F.FAB_CRED_TX.ix p v, 0))
  if active then
    ((({ s2 with fab := { s2.fab with withheld := s2.fab.withheld.filter fun w => w.port != p } }).dropHeld p).bump
      (F.FAB_CNT_C_DOWN.ix p)).portDown p
  else s2

/-- A packet is discarded and counted (R180): the port's counter, the first header, and DISC_RATE once a second when
discards exceed DISC_LIMIT. A packet of local injection has no port to count on. -/
def State.discard (s : State) (ingress : Nat) (cnt : Fld) (k : Packet) : State :=
  let s1 := if s.fab.feHdr then s
    else ({ s with fab := { s.fab with feHdr := true } }).setAll
      ((List.range 8).map fun w => (F.FAB_FE_HDR_HDR.ix w, beAt (k.head k.dl k.hops) (4 * w) 4))
  if ingress < 16 then
    let n := Tab.get 0 s1.fab.discards ingress + 1
    let s2 := ({ s1 with fab := { s1.fab with discards := Tab.put 0 s1.fab.discards ingress n } }).bump
      (cnt.ix ingress)
    let limit := s2.get F.FAB_CFG_DISC_LIMIT
    if limit != 0 && (decide (limit < n) || s2.forcedAt 0x84 (locPort ingress)) && !s2.fab.discRaised.has ingress then
      ({ s2 with fab := { s2.fab with discRaised := s2.fab.discRaised.add ingress } }).raiseFab 0x84 .ce
        (some F.FAB_EVT_DISC_RATE) (locPort ingress) ingress 0 0
    else s2
  else s1

/-! Routing (R181–R186). -/

/-- Whether a version routes. -/
def State.versionOk (s : State) (v : Nat) : Bool := if v = 1 then s.flag F.RTE_VALID_VALID_B else s.flag F.RTE_VALID_VALID_A

/-- The unicast entry of a version (Table FAB-7). -/
def State.ucEntry (s : State) (v dst : Nat) : Nat := Tab.get 0 s.fab.uc (2 ^ 20 * v + dst % 2 ^ 20)

/-- The multicast entry of a version (R186). -/
def State.mcEntry (s : State) (v g : Nat) : Nat := Tab.get 0 s.fab.mc (4096 * v + g % 4096)

/-- The hub of an ingress: ports 0–7 and 16 are H0's. -/
def hubOf (ingress : Nat) : Nat := if ingress < 16 then ingress / 8 else ingress - 16

/-- A packet delivered to this gateway. A hub keeps at most 256 COL_NACK and discards the rest (R223). -/
def State.deliver (s : State) (ingress vc : Nat) (owes : Bool) (k : Packet) : State :=
  let nacks := s.fab.inbox.filter fun i => i.hub == hubOf ingress && i.pkt.opcode == 0x14
  if k.opcode == 0x14 && decide (256 ≤ nacks.length) then (if owes then s.freeBuffer ingress vc k else s)
  else ({ s with fab := { s.fab with inbox := s.fab.inbox ++ [InPkt.mk (hubOf ingress) ingress vc owes k] } }).countInUse

/-- A packet is routed by its own version (R181, R182, R186): delivered here, put to wait for its output, or
discarded. -/
def State.routePacket (s : State) (ingress vc : Nat) (k : Packet) : State :=
  let lose := fun (f : Fld) => (s.freeBuffer ingress vc k).discard ingress f k
  if !s.versionOk k.repoch then lose F.FAB_CNT_A_NO_ROUTE
  else if k.mcast then
    let e := s.mcEntry k.repoch k.dst
    let branches := (List.range 16).filter fun p => bit e p
    if !bit e 31 then lose F.FAB_CNT_A_NO_ROUTE
    else if bits e 28 24 != min ingress 16 then lose F.FAB_CNT_C_MCAST_IN
    else
      let s1 := if bit e 30 then s.deliver ingress vc branches.isEmpty k else s
      if branches.isEmpty then (if bit e 30 then s1 else lose F.FAB_CNT_A_NO_ROUTE)
      else s1.setHeld7 ingress vc (s1.held7 ingress vc ++ [HeldPkt.mk k ingress vc none branches true])
  else
    let e := s.ucEntry k.repoch k.dst
    if !bit e 31 then lose F.FAB_CNT_A_NO_ROUTE
    else if bit e 30 then s.deliver ingress vc true k
    else s.setHeld7 ingress vc (s.held7 ingress vc ++ [HeldPkt.mk k ingress vc none [] true])

/-- The dimension of an ingress or output: 0–2 for torus ports, 3 for spurs, 4 for local injection. -/
def State.dimOf (s : State) (p : Nat) : Nat :=
  if 16 ≤ p then 4 else if s.get (F.FAB_PORT_STAT_ROLE.ix p) == 1 then s.get (F.FAB_PORT_STAT_DIR.ix p) / 2 else 3

/-- The dateline bit of a packet that leaves by a port (R184). -/
def State.nextDl (s : State) (ingress p dl : Nat) : Nat :=
  if s.dimOf p == 3 then 0
  else if s.flag (F.FAB_PORT_STAT_DATELINE.ix p) then 1
  else if s.dimOf p == s.dimOf ingress then dl else 0

/-- The VC a packet takes out of a port. -/
def State.nextVc (s : State) (ingress p : Nat) (k : Packet) : Nat := 2 * k.cls + s.nextDl ingress p k.dl

/-- The candidates of a unicast entry, in order. -/
def candidates (e : Nat) : List Nat := (List.range (bits e 29 28 + 1)).map fun c => bits e (5 * c + 4) (5 * c)

/-- The port a packet takes (R182): of the eligible candidates the one with the most downstream credits, ties to the
lowest index. -/
def State.choose (s : State) (ingress : Nat) (k : Packet) : Option Nat :=
  let ok := (candidates (s.ucEntry k.repoch k.dst)).filter fun p => decide (p < 16) && s.fabActive p && p != ingress
  let cr := fun p => s.get (F.FAB_CRED_TX.ix p (s.nextVc ingress p k))
  ok.foldl (fun best p => match best with
    | none => some p
    | some q => if cr q < cr p then some p else some q) none

/-- Whether this device sends nothing on the fabric (R271, R376). -/
def State.mute (s : State) : Bool := s.fatal || s.fenced

/-! The arbiter of an output (R194). -/

/-- The weight of a VC in FAB_ARB: that of its class. -/
def State.arbWeight (s : State) (v : Nat) : Nat :=
  match v / 2 with
  | 0 => s.get F.FAB_ARB_REQ
  | 1 => s.get F.FAB_ARB_RSP
  | 2 => s.get F.FAB_ARB_FWD
  | _ => s.get F.FAB_ARB_COL

/-- The packets that each VC of an output has sent in this round. -/
def State.round (s : State) (p : Nat) : List Nat := Tab.get [0, 0, 0, 0, 0, 0, 0, 0] s.fab.round p

/-- Whether a VC of an output has a share of the round left. -/
def State.hasShare (s : State) (p v : Nat) : Bool := decide (((s.round p)[v]?).getD 0 < s.arbWeight v)

/-- A packet of a VC is counted in the round, a new one when the VC's share was spent. -/
def State.countRound (s : State) (p v : Nat) : State :=
  let r := if s.hasShare p v then s.round p else [0, 0, 0, 0, 0, 0, 0, 0]
  { s with fab := { s.fab with
    round := Tab.put [0, 0, 0, 0, 0, 0, 0, 0] s.fab.round p (r.set v ((r[v]?).getD 0 + 1)) } }

/-- A copy of a packet leaves by a port (R177, R178, R184, R194): credits, bytes, DL and, for a packet in transit, HOPS. -/
def State.sendOn (s0 : State) (ingress p : Nat) (k : Packet) : State :=
  let v := s0.nextVc ingress p k
  let s := s0.countRound p v
  let out : Packet := { k with dl := s.nextDl ingress p k.dl, hops := if ingress < 16 then (k.hops + 1) % 256 else k.hops }
  let f := F.FAB_CRED_TX.ix p v
  (((s.set f (s.get f - k.credits)).add64 (F.FAB_TX_LO_BYTES.ix p) (F.FAB_TX_HI_BYTES.ix p) k.wire).captureTx p k.opId).emit (.packet p out)

/-- Whether credits for a packet are held at a port. -/
def State.canSend (s : State) (ingress p : Nat) (k : Packet) : Bool :=
  decide (k.credits ≤ s.get (F.FAB_CRED_TX.ix p (s.nextVc ingress p k)))

/-- Whether the packet at the head of a VC of an ingress would leave by VC v of an output now: it has taken or would take that
output, and has credits there. -/
def State.headFor (s : State) (p v : Nat) (q : Nat × List HeldPkt) : Bool :=
  match q.2.head? with
  | none => false
  | some h =>
    let takes := if h.pkt.mcast then h.branches.contains p else h.out.or (s.choose h.ingress h.pkt) == some p
    takes && s.nextVc h.ingress p h.pkt == v && s.canSend h.ingress p h.pkt

/-- Whether the arbiter of an output lets a VC send (R194): it has a share of the round left, or no VC that holds a packet
with credits there has one (DESIGN CHOICE: a weight is a number of packets a round, and a VC is passed over for a round once it
has sent them). -/
def State.arbiterOk (s : State) (p v : Nat) : Bool :=
  s.hasShare p v || !((List.range 8).any fun w => s.hasShare p w && s.fab.queues.any (s.headFor p w))

/-- Whether a packet can leave by a port now: credits, and the arbiter. -/
def State.mayLeave (s : State) (ingress p : Nat) (k : Packet) : Bool :=
  s.canSend ingress p k && s.arbiterOk p (s.nextVc ingress p k)

/-- The branches of a multicast packet that can go now (R186): a branch whose port is not ACTIVE loses its copy as
NO_ROUTE, one without credits, or that the arbiter passes over, waits. The state and the branches left. -/
def State.sendBranches (s : State) (ingress : Nat) (k : Packet) : List Nat → State × List Nat
  | [] => (s, [])
  | p :: t =>
    if !s.fabActive p then (s.discard ingress F.FAB_CNT_A_NO_ROUTE k).sendBranches ingress k t
    else if s.mayLeave ingress p k then (s.sendOn ingress p k).sendBranches ingress k t
    else
      let r := s.sendBranches ingress k t
      (r.1, p :: r.2)

/-! Injection (R182, R184, R185). -/

/-- A packet of this gateway, as a hub injects it: its version is the one that RTE_SEL names, its epoch the current
one, its source this endpoint. A device that sends nothing injects nothing. -/
def State.inject (s : State) (hub : Nat) (k : Packet) : State :=
  if s.mute then s
  else
    let x : Packet := { k with repoch := s.get F.RTE_SEL_SEL, mepoch := s.epoch, src := s.get F.FAB_ENDPOINT_ID }
    s.routePacket (16 + hub) (2 * x.cls) x.sealed

/-- Several packets injected in order. -/
def State.injectAll (s : State) (hub : Nat) : List Packet → State
  | [] => s
  | k :: t => (s.inject hub k).injectAll hub t

/-- A packet with the fields an operation sets; version, epoch, source and PCRC are set at injection. -/
def packetOf (cls op dst opId addr pkt : Nat) (mcast last poison : Bool) (len : Nat) (data : List Byte) : Packet :=
  ⟨cls, 0, 0, 1, mcast, last, poison, op, 0, 0, dst, 0, len, opId, addr, pkt, data, 0, true⟩

/-! Delivered packets. -/

/-- The oldest packet of an opcode delivered at a hub, and the state without it. -/
def State.takePacket (s : State) (hub op : Nat) : Option (InPkt × State) :=
  match s.fab.inbox.findIdx? fun i => i.hub == hub && i.pkt.opcode == op with
  | none => none
  | some n => (s.fab.inbox[n]?).map fun i =>
      (i, ({ s with fab := { s.fab with inbox := s.fab.inbox.eraseIdx n } }).countInUse)

/-- A consumed packet's buffer is free; its credits are withheld while the pool its consumer takes it through asks for
it (R196): for a write to the far tier, the pool of the port's hub that fits the payload. A pool without buffers takes no
packet. -/
def State.consumed (s : State) (i : InPkt) (throughPool : Bool) : State :=
  if i.owes && decide (i.ingress < 16) then
    let n := 6 * i.hub + ((List.range 6).find? fun c => decide (i.pkt.data.length ≤ 256 * 4 ^ c)).getD 5
    if throughPool && s.get (F.HOP_POOL_TOTAL_COUNT.ix n) != 0 then
      { s with fab := { s.fab with withheld := s.fab.withheld ++ [⟨i.ingress, i.vc, i.pkt.credits, n⟩] } }
    else s.freeBuffer i.ingress i.vc i.pkt
  else s

/-- Whether a pool's level withholds the credits of a VC (Table FAB-9). -/
def withholds (level vc : Nat) : Bool :=
  match vc / 2 with
  | 0 => decide (1 ≤ level)
  | 2 => decide (2 ≤ level)
  | 3 => decide (3 ≤ level)
  | _ => false

/-- Withheld credits of a port whose pool's level has risen again are returned (R196). -/
def State.releaseCredits (s : State) (p : Nat) : State :=
  let go := fun (w : Withheld) => w.port == p && !withholds (s.get (F.HOP_POOL_STAT_LEVEL.ix w.pool)) w.vc
  let s1 := { s with fab := { s.fab with withheld := s.fab.withheld.filter fun w => !go w } }
  (s.fab.withheld.filter go).foldl (fun t w => t.giveCredits w.port w.vc w.credits) s1

/-! Target contexts (R188). -/

/-- The key of a context: (SRC, OP_ID), whatever port a packet of the operation comes in on. -/
def ctxKey (src opId : Nat) : Nat := 2 ^ 32 * src + opId

/-- The contexts that a hub holds. -/
def FabSt.ctxOn (x : FabSt) (hub : Nat) : Nat := (x.ctx.filter fun c => c.2.hub == hub).length

/-- FAB_CTX follows the contexts. -/
def State.countCtx (s : State) : State := s.setAll [(F.FAB_CTX_H0, s.fab.ctxOn 0), (F.FAB_CTX_H1, s.fab.ctxOn 1)]

/-- Whether the context of a packet exists or can be opened: 4,096 on each hub. A context is opened on the hub of the first
packet that arrives (DESIGN CHOICE: R188 does not say which hub holds it). -/
def State.ctxRoom (s : State) (hub key : Nat) : Bool := (Tab.find s.fab.ctx key).isSome || decide (s.fab.ctxOn hub < 4096)

/-- The worse of two statuses: ADDR_ERR before POISON before OK. -/
def worse (a b : Nat) : Nat := if a = 1 ∨ b = 1 then 1 else max a b

/-- A packet counted in its context: whether the operation is complete, its status, and the state. -/
def State.countPacket (s : State) (hub : Nat) (k : Packet) (status : Nat) : Bool × Nat × State :=
  let key := ctxKey k.src k.opId
  let c := (Tab.find s.fab.ctx key).getD ⟨hub, 0, none, 0⟩
  let x : FabCtx := ⟨c.hub, c.count + 1, if k.last then some (k.pkt + 1) else c.total, worse c.status status⟩
  let full := x.total == some x.count
  (full, x.status, ({ s with fab := { s.fab with
    ctx := if full then Tab.erase s.fab.ctx key else Tab.insert s.fab.ctx key x } }).countCtx)

/-- An acknowledgement (Table FAB-6): STATUS in ADDR bits [47:40]. -/
def ackOf (op : Nat) (k : Packet) (status : Nat) : Packet :=
  packetOf 1 op k.src k.opId (status * 2 ^ 40) 0 false true false 0 []

/-! Initiated operations (R188, R189, R192). -/

/-- An outstanding operation written or removed. -/
def State.setOp (s : State) (id : Nat) (o : Option FabOp) : State :=
  { s with fab := { s.fab with ops := match o with
      | some x => Tab.insert s.fab.ops id x
      | none => Tab.erase s.fab.ops id } }

/-- How many packets an operation of `n` bytes takes. -/
def packetsOf (n : Nat) : Nat := max 1 ((n + 4095) / 4096)

/-- The bytes of packet i of an operation of `n` bytes. -/
def packetLen (n i : Nat) : Nat := min 4096 (n - 4096 * i)

/-- Packet i of an operation (R188). -/
def State.opPacket (s : State) (kind : OpKind) (q : FabReq) (i : Nat) : Packet :=
  let last := i + 1 == packetsOf q.len
  let n := packetLen q.len i
  match kind with
  | .put =>
    let xs := s.fetch (q.buf + 4096 * i) n
    packetOf 2 1 q.dst q.opId (q.addr + 4096 * i) i q.mcast last (xs.any Prod.snd) n (xs.map Prod.fst)
  | .get => packetOf 0 3 q.dst q.opId (q.addr + 4096 * i) i false last false n []
  | .ctr => packetOf 0 5 q.dst q.opId q.addr 0 false true false 4 (beBytes 4 q.value)

/-- What completion of an operation signals (R192): its counter receives the increment, and poison on failure. -/
def State.signalOp (s : State) (q : FabReq) (failed : Bool) : State :=
  match q.sig with
  | some c => s.addGlobal c q.inc failed
  | none => s

/-- OP_FAIL (R192). -/
def State.opFail (s : State) (id : Nat) (o : FabOp) : State :=
  (((s.setOp id none).bump F.FAB_EP_CNT_A_OP_FAIL).raiseFab 0x83 .uc (some F.FAB_EVT_OP_FAIL) (locHub o.req.hub) 0
    o.req.dst o.req.opId).signalOp o.req true

/-- The packets of an operation are injected. A PUT whose source reaches no store, or a far-tier link that is down, fails
and sends nothing (R141, R159). -/
def State.sendOp (s : State) (o : FabOp) : State :=
  let n := match o.kind with
    | .ctr => 1
    | _ => packetsOf o.req.len
  let x := match o.kind with
    | .put => s.rangeFaults 0 [(o.req.buf, o.req.len)] []
    | _ => (false, s)
  if x.1 then x.2.opFail o.req.opId o
  else x.2.injectAll o.req.hub ((List.range n).map (x.2.opPacket o.kind o.req))

/-- An operation is initiated: outstanding until its reply, except a multicast PUT, which has none (R186). An OP_ID
that is outstanding is not used again. -/
def State.issueOp (s : State) (kind : OpKind) (q : FabReq) : State :=
  let o : FabOp := ⟨kind, q, 0, 0, none⟩
  if s.mute || (Tab.find s.fab.ops q.opId).isSome then s
  else (if q.mcast then s else s.setOp q.opId (some o)).sendOp o

/-- A reply that no outstanding operation waits for is discarded as STALE (R189). -/
def State.staleReply (s : State) : State := s.bump F.FAB_EP_CNT_B_STALE

/-- A reply to an operation of a kind: the outstanding operation it answers. -/
def State.answered (s : State) (kind : OpKind) (k : Packet) : Option FabOp :=
  match Tab.find s.fab.ops k.opId with
  | some o => if o.kind == kind && o.req.dst == k.src then some o else none
  | none => none

/-- A reply with a status ends its operation (R192). -/
def State.endOp (s : State) (kind : OpKind) (k : Packet) (status : Nat) : State :=
  match s.answered kind k with
  | none => s.staleReply
  | some o =>
    if status = 0 && !s.forcedAt 0x83 (locHub o.req.hub) then (s.setOp k.opId none).signalOp o.req false
    else s.opFail k.opId o

end Sys2Proof.Machine
end

