-- ==== Sys2Proof/Machine/PondMsg.lean ====
section
/-! DEFINITION. The bytes of pond messages (R6, R153, R158, Table MEM-7, Table MEM-8) and of the fabric's link control blocks
(R177). -/

namespace Sys2Proof.Machine

/-! Messages sent. -/

/-- Header bytes 0–27 of a message (Table MEM-7): STATUS and the credit fields are 0 towards the module. -/
def PondMsg.head (m : PondMsg) : List Byte :=
  beBytes 1 m.opcode ++ beBytes 1 (b2n m.nak * 128 + (m.granules - 1) % 64) ++ beBytes 2 (m.tag % 4096) ++ beBytes 6 m.addr ++
    beBytes 2 m.seq ++ beBytes 2 m.ackSeq ++ beBytes 5 0 ++ beBytes 1 m.sub ++ beBytes 8 m.poison

/-- The bytes of a message: header, HCRC, and data with its DCRC where it carries any. -/
def PondMsg.bytes (m : PondMsg) : List Byte :=
  m.head ++ beBytes 4 (crc32c m.head) ++ (if m.data.isEmpty then [] else m.data ++ beBytes 4 (crc32c m.data))

/-- The granule of the IDENT that the Aedbola sends (R158). -/
def identGranule (serial link : Nat) : List Byte :=
  beBytes 2 0x0AB1 ++ beBytes 14 0 ++ beBytes 8 serial ++ beBytes 1 link ++ beBytes 1 1 ++ List.replicate 230 0#8

/-! Messages received. -/

/-- OPCODE. -/
def msgOp (m : List Byte) : Nat := beAt m 0 1
/-- NAK. -/
def msgNak (m : List Byte) : Bool := bit (beAt m 1 1) 7
/-- LENM1. -/
def msgLenM1 (m : List Byte) : Nat := beAt m 1 1 % 64
/-- TAG. -/
def msgTag (m : List Byte) : Nat := beAt m 2 2 % 4096
/-- SEQ. -/
def msgSeq (m : List Byte) : Nat := beAt m 10 2
/-- ACK_SEQ. -/
def msgAck (m : List Byte) : Nat := beAt m 12 2
/-- CRD_HDR. -/
def msgCrdHdr (m : List Byte) : Nat := beAt m 14 2
/-- CRD_DATA. -/
def msgCrdData (m : List Byte) : Nat := beAt m 16 2
/-- STATUS. -/
def msgStatus (m : List Byte) : Nat := beAt m 18 1
/-- MGMT_SUB. -/
def msgSub (m : List Byte) : Nat := beAt m 19 1
/-- POISON. -/
def msgPoison (m : List Byte) : Nat := beAt m 20 8

/-- Whether a message carries data (Table MEM-8). -/
def msgCarries (m : List Byte) : Bool := msgOp m == 2 || msgOp m == 3 || msgOp m == 5

/-- The data of a message that carries any. -/
def msgData (m : List Byte) : List Byte := (m.drop 32).take (256 * (msgLenM1 m + 1))

/-- Whether HCRC and DCRC hold (R153). -/
def msgIntact (m : List Byte) : Bool :=
  crc32c (m.take 28) == beAt m 28 4 && (!msgCarries m || crc32c (msgData m) == beAt m (32 + 256 * (msgLenM1 m + 1)) 4)

/-- Whether a module may send this header (Table MEM-7, Table MEM-8): its OPCODE is NOP, RDC, WRA or MGMT, the STATUS of a
completion is defined, and MGMT is an IDENT of one granule. A reserved bit is ignored (R6). -/
def msgFormOk (m : List Byte) : Bool :=
  match msgOp m with
  | 0 => true
  | 3 => decide (msgStatus m ≤ 3)
  | 4 => decide (msgStatus m ≤ 3)
  | 5 => msgSub m == 1 && msgLenM1 m == 0
  | _ => false

/-- A module's IDENT (R158). -/
structure PondIdent where
  part : Nat
  capGib : Nat
  bootId : Nat
  hdrCred : Nat
  dataCred : Nat
  link : Nat
  proto : Nat
deriving DecidableEq, Repr

/-- The IDENT in the granule of a MGMT message. -/
def msgIdent (m : List Byte) : PondIdent :=
  let d := msgData m
  ⟨beAt d 0 2, beAt d 2 2, beAt d 4 4, beAt d 8 2, beAt d 12 4, beAt d 24 1, beAt d 25 1⟩

/-! Link control blocks (R177). -/

/-- A block of 16 bytes: eight counts of 12 bits, VC 0 first, the block sequence and the CRC-16 (DESIGN CHOICE: R177 names
the parts in this order, most significant first, and gives no offsets). -/
def blockBytes (totals : List Nat) (seq : Nat) : List Byte :=
  let b := beBytes 12 (totals.foldl (fun a v => 4096 * a + v % 4096) 0) ++ beBytes 2 seq
  b ++ beBytes 2 (crc16 0 b)

/-- The eight counts of a block. -/
def blockTotals (b : List Byte) : List Nat := (List.range 8).map fun v => beAt b 0 12 / 4096 ^ (7 - v) % 4096

/-- Whether a block's CRC-16 holds. -/
def blockOk (b : List Byte) : Bool := crc16 0 (b.take 14) == beAt b 14 2

end Sys2Proof.Machine
end

