-- ==== Sys2Proof/Machine/FabricCmd.lean ====
section
/-! DEFINITION. Meanings of the fabric and routing commands (R172–R200). -/

namespace Sys2Proof.Machine

/-! Bring-up and credits. -/

/-- A port may train (Table FAB-3): it is used, the first image has taken effect, and no cause of R442 holds. -/
def State.fabMayTrain (s : State) (p : Nat) : Bool :=
  s.get (F.FAB_PORT_STAT_ROLE.ix p) != 0 && s.img.first && !(s.pwr.causes.any fun c => c.2 == p / 4)

/-- FAB_RETRAIN (R175): RETRAIN, or AUTO_RETRAIN (`auto`), starts training from DOWN. -/
def execFabRetrain (port : Nat) (auto : Bool) (s : State) : Host.Outcome State Fault Refusal :=
  .next (
    let go := fun (t : State) => if t.fabState port == 0 && t.fabMayTrain port then
      (t.setFabState port 1).lightPort port else t
    if auto then if s.flag F.FAB_CFG_AUTO_RETRAIN && !s.fatal then go s else s
    else s.hostWrite 12 go)

/-- FAB_DOWN (R175, R198): DOWN takes the port to FAILED with reason 5. -/
def execFabDown (port : Nat) (s : State) : Host.Outcome State Fault Refusal :=
  .next (s.hostWrite 12 fun t => t.fabFail port 5)

/-- FAB_LANES_LOCKED (R175, R432). -/
def execFabLanesLocked (port : Nat) (s : State) : Host.Outcome State Fault Refusal :=
  .next (if s.fabState port == 1 && !s.portCold port then s.setFabState port 2 else s)

/-- FAB_ALIGNED (R175, R176): the port moves to PARAM and sends its IDENT. -/
def execFabAligned (port : Nat) (s : State) : Host.Outcome State Fault Refusal :=
  .next (if s.fabState port == 2 then
      ((s.setFabState port 3).setFabPort port PortSt.idle).emit (.fabIdent port 0x0AB1 (s.get F.FAB_ENDPOINT_ID) (s.get (F.FAB_PORT_STAT_ROLE.ix port))
        (s.get (F.FAB_PORT_STAT_DIR.ix port)) (s.get F.FAB_POS_X) (s.get F.FAB_POS_Y) (s.get F.FAB_POS_Z)
        ((List.range 8).map fun v => s.get (F.FAB_CRED_RX_CFG.ix port v)))
    else s)

/-- The coordinates one step along a direction, modulo the ring size (R176). -/
def State.neighbour (s : State) (dir : Nat) : List Nat :=
  let d := [s.get F.FAB_POS_DXM1 + 1, s.get F.FAB_POS_DYM1 + 1, s.get F.FAB_POS_DZM1 + 1]
  ([s.get F.FAB_POS_X, s.get F.FAB_POS_Y, s.get F.FAB_POS_Z].zip d).zipIdx.map fun x =>
    if x.2 = dir / 2 then (x.1.1 + (if dir % 2 = 0 then 1 else x.1.2 - 1)) % x.1.2 else x.1.1

/-- Whether a peer's IDENT is accepted (R176); on a spur port only the endpoint ID is compared. -/
def State.fabIdentOk (s : State) (p : Nat) (x : FabIdent) : Bool :=
  let e := imgExpectId s.image p
  let dir := s.get (F.FAB_PORT_STAT_DIR.ix p)
  (e % 2 ^ 20 == 0xFFFFF || x.id == e % 2 ^ 20) &&
    (s.get (F.FAB_PORT_STAT_ROLE.ix p) != 1 ||
      (x.role == 1 && x.dir == dir / 2 * 2 + (1 - dir % 2) && [x.x, x.y, x.z] == s.neighbour dir))

/-- FAB_IDENT (R176, R177): an accepted IDENT makes the port ACTIVE with the credits the peer advertises; any other
takes it to FAILED with reason 4. -/
def execFabIdent (port : Nat) (ident : FabIdent) (s : State) : Host.Outcome State Fault Refusal :=
  .next (if s.fabState port == 3 then
      if s.fabIdentOk port ident && !s.forcedAt 0x81 (locPort port) then
        ((({ s with fab := { s.fab with met := s.fab.met.add port } }).setFabPort port PortSt.idle).setFabState port 4 |>.setAll [(F.FAB_PORT_PEER_VALID.ix port, 1),
          (F.FAB_PORT_PEER_ID.ix port, ident.id)]).setAll
          ((List.range 8).map fun v => (F.FAB_CRED_TX.ix port v, (ident.cred[v]?).getD 0))
      else (s.raiseFab 0x81 .uc (some F.FAB_EVT_IDENT_BAD) (locPort port) port ident.id 0).fabFail port 4
    else s)

/-- Whether control blocks flow on a port: in PARAM, whose IDENT they carry, and in ACTIVE (R176, R177). -/
def State.fabOpen (s : State) (p : Nat) : Bool := s.fabState p == 3 || s.fabActive p

/-- FAB_SILENCE (R175): no control block for 1 µs. -/
def execFabSilence (port : Nat) (s : State) : Host.Outcome State Fault Refusal :=
  .next (if s.fabOpen port then s.fabFail port 1 else s)

/-- FAB_TRAINING_TIMEOUT (R175): a training step exceeded 100 ms. A port that waits in OPTICAL for a cold laser die stays
there (R432). -/
def execFabTrainingTimeout (port : Nat) (s : State) : Host.Outcome State Fault Refusal :=
  .next (let st := s.fabState port
    if (st == 1 && !s.portCold port) || st == 2 || st == 3 then s.fabFail port 6 else s)

/-- FAB_BACKOFF_END (R175): 1 s after FAILED the port is DOWN. -/
def execFabBackoffEnd (port : Nat) (s : State) : Host.Outcome State Fault Refusal :=
  .next (if s.fabState port == 5 then s.setFabState port 0 else s)

/-- FAB_ACTIVE_DEADLINE (R197): a used port has not reached ACTIVE 1 s after the first image. -/
def execFabActiveDeadline (port : Nat) (s : State) : Host.Outcome State Fault Refusal :=
  .next (if s.get (F.FAB_PORT_STAT_ROLE.ix port) != 0 && s.img.first && !s.fab.met.has port then s.portDown port else s)

/-- LINK_CONTROL_BLOCK (R177): the running totals of returned credits; a block that fails its CRC is discarded, and the
eighth in succession takes the port to FAILED with reason 3. An armed PORT_DOWN takes the ACTIVE port down as silence would
(R372). -/
def execLinkControlBlock (port : Nat) (block : List Byte) (s : State) : Host.Outcome State Fault Refusal :=
  .next (if s.fabActive port && s.forcedAt 0x80 (locPort port) then s.fabFail port 1
    else if s.fabOpen port then
      let x := s.fabPort port
      if blockOk block then
        let totals := blockTotals block
        let gain := fun v => ((totals[v]?).getD 0 + 4096 - (x.seen[v]?).getD 0) % 4096
        if s.fabActive port then (s.setFabPort port { x with seen := totals, bad := 0 }).setAll
          ((List.range 8).map fun v => (F.FAB_CRED_TX.ix port v, s.get (F.FAB_CRED_TX.ix port v) + gain v))
        else s.setFabPort port { x with bad := 0 }
      else if 7 ≤ x.bad then s.fabFail port 3
      else s.setFabPort port { x with bad := x.bad + 1 }
    else s)

/-- CONTROL_BLOCK_SEND (R177, R196): the running totals go out, with withheld credits whose pool allows it. -/
def execControlBlockSend (port : Nat) (s : State) : Host.Outcome State Fault Refusal :=
  .next (if s.fabOpen port && !s.fatal then
      let s1 := s.releaseCredits port
      let x := s1.fabPort port
      (s1.setFabPort port { x with blockSeq := (x.blockSeq + 1) % 65536 }).emit (.block port (blockBytes x.given x.blockSeq))
    else s)

/-! Packets. -/

/-- PACKET_ARRIVAL (R180, R271): the checks of a hub, then delivery here or a place in the VC's queue. A port that is
not ACTIVE receives nothing. -/
def execPacketArrival (port : Nat) (packet : Packet) (s : State) : Host.Outcome State Fault Refusal :=
  .next (if s.fabActive port then
      let vc := 2 * packet.cls + packet.dl
      let s1 := (s.add64 (F.FAB_RX_LO_BYTES.ix port) (F.FAB_RX_HI_BYTES.ix port) packet.wire).captureRx port packet.opId
      let lose := fun (t : State) (f : Fld) => (t.freeBuffer port vc packet).discard port f packet
      if !packet.fecOk || packet.pcrc != packet.crc || !packet.formOk then lose s1 F.FAB_CNT_A_PCRC
      else if 64 ≤ packet.hops then lose s1 F.FAB_CNT_B_EXPIRED
      else
        let s2 := s1.seeEpoch packet.mepoch
        if !s2.epochOk packet.mepoch (s2.memberEp packet.src) then lose s2 F.FAB_CNT_B_FENCED
        else s2.routePacket port vc packet
    else s)

/-- PACKET_FORWARD (R182, R184, R186, R194): the head of a VC takes its port once and leaves when the port has credits and its
arbiter lets it; a multicast packet leaves by each branch that can. -/
def execPacketForward (ingress vc : Nat) (s : State) : Host.Outcome State Fault Refusal :=
  .next (if s.mute then s
    else match s.held7 ingress vc with
      | [] => s
      | h :: t =>
        if h.pkt.mcast then
          let r := s.sendBranches ingress h.pkt h.branches
          if r.2.isEmpty then (r.1.setHeld7 ingress vc t).freeHeld h
          else r.1.setHeld7 ingress vc ({ h with branches := r.2 } :: t)
        else
          match h.out.or (s.choose ingress h.pkt) with
          | none => ((s.setHeld7 ingress vc t).freeHeld h).discard ingress F.FAB_CNT_A_NO_ROUTE h.pkt
          | some p =>
            if s.mayLeave ingress p h.pkt then ((s.setHeld7 ingress vc t).sendOn ingress p h.pkt).freeHeld h
            else s.setHeld7 ingress vc ({ h with out := some p } :: t))

/-- HOP_LIFE_EXPIRY (R180): the packet at the head of a VC has waited longer than HOP_LIFE. -/
def execHopLifeExpiry (ingress vc : Nat) (s : State) : Host.Outcome State Fault Refusal :=
  .next (match s.held7 ingress vc with
    | [] => s
    | h :: t =>
      ((s.setHeld7 ingress vc t).freeHeld h).discard ingress F.FAB_CNT_B_EXPIRED h.pkt)

/-! Operations. -/

/-- A PUT packet at its target (R188, R189, R145): written in a permitted window, counted, and acknowledged when the
operation is complete, a multicast one excepted. -/
def State.putPacket (s : State) (i : InPkt) : State :=
  let k := i.pkt
  if !s.ctxRoom i.hub (ctxKey k.src k.opId) then (s.consumed i false).staleReply
  else
    let n := k.data.length
    let far := s.storeAt k.addr == .far
    let x := if imgWindowOk s.image 1 k.addr n then
        let f := s.rangeFaults 0 [] [(k.addr, n)]
        (if f.1 then 1 else if k.poison then 2 else 0,
          ((f.2.deposit k.addr (k.data.map fun b => (b, k.poison))).restored k.addr n).replicaIn k.addr n)
      else (1, s)
    let r := (x.2.consumed i far).countPacket i.hub k x.1
    if r.1 && !k.mcast then r.2.2.inject i.hub (ackOf 2 k r.2.1) else r.2.2

/-- A GET packet at its target (R189): the data of a permitted window, or ADDR_ERR. -/
def State.getPacket (s : State) (i : InPkt) : State :=
  let k := i.pkt
  if !s.ctxRoom i.hub (ctxKey k.src k.opId) then (s.consumed i false).staleReply
  else
    let ok := imgWindowOk s.image 0 k.addr k.len
    let f := if ok then s.rangeFaults 0 [(k.addr, k.len)] [] else (true, s)
    let r := (f.2.consumed i false).countPacket i.hub k (b2n f.1)
    let xs := s.fetch k.addr k.len
    r.2.2.inject i.hub (if f.1 then packetOf 1 4 k.src k.opId (2 ^ 40) k.pkt false k.last false 0 []
      else packetOf 1 4 k.src k.opId k.addr k.pkt false k.last (xs.any Prod.snd) k.len (xs.map Prod.fst))

/-- GET (R188, R189). -/
def execGet (c : FabCmd) (s : State) : Host.Outcome State Fault Refusal :=
  .next (match c with
    | .issue q => s.issueOp .get { q with mcast := false }
    | .take hub => match s.takePacket hub 3 with
      | some x => x.2.getPacket x.1
      | none => s)

/-- A CTR_ADD packet at its target (R190). -/
def State.ctrPacket (s : State) (i : InPkt) : State :=
  let k := i.pkt
  if !s.ctxRoom i.hub (ctxKey k.src k.opId) then (s.consumed i false).staleReply
  else
    let n := (k.addr - 0xFC0000000000) / 64
    let ok := k.len == 4 && decide (0xFC0000000000 ≤ k.addr) && k.addr % 64 == 0 && imgCtrOpen s.image n
    let s1 := if ok then s.addGlobal n (beNat k.data) false else s
    let r := (s1.consumed i false).countPacket i.hub k (b2n (!ok))
    if r.1 then r.2.2.inject i.hub (ackOf 6 k r.2.1) else r.2.2

/-- CTR_ADD (R190). -/
def execCtrAdd (c : FabCmd) (s : State) : Host.Outcome State Fault Refusal :=
  .next (match c with
    | .issue q => s.issueOp .ctr { q with mcast := false }
    | .take hub => match s.takePacket hub 5 with
      | some x => x.2.ctrPacket x.1
      | none => s)

/-- PUT_ACK (R192): ends the PUT, as failed on a non-zero status. -/
def execPutAck (hub : Nat) (s : State) : Host.Outcome State Fault Refusal :=
  .next (match s.takePacket hub 2 with
    | some x => (x.2.consumed x.1 false).endOp .put x.1.pkt (x.1.pkt.addr / 2 ^ 40)
    | none => s)

/-- CTR_ACK (R192). -/
def execCtrAck (hub : Nat) (s : State) : Host.Outcome State Fault Refusal :=
  .next (match s.takePacket hub 6 with
    | some x => (x.2.consumed x.1 false).endOp .ctr x.1.pkt (x.1.pkt.addr / 2 ^ 40)
    | none => s)

/-- OP_TIMEOUT (R192): PUT and GET are reissued whole with the new OP_ID the gateway chooses, up to RETRIES times; a
CTR_ADD, or an operation whose reissues are spent, fails. An armed OP_REISSUE reissues once more (R372). -/
def execOpTimeout (opId newOpId : Nat) (s : State) : Host.Outcome State Fault Refusal :=
  .next (match Tab.find s.fab.ops opId with
    | none => s
    | some o =>
      if o.kind != .ctr && (decide (o.reissues < s.get F.FAB_CFG_RETRIES) || s.forcedAt 0x82 (locHub o.req.hub)) then
        let q := { o.req with opId := newOpId }
        let o1 : FabOp := ⟨o.kind, q, o.reissues + 1, 0, none⟩
        ((((s.setOp opId none).setOp newOpId (some o1)).bump F.FAB_EP_CNT_A_REISSUE).raiseFab 0x82 .ce none (locHub q.hub) 0
          q.dst newOpId).sendOp o1
      else s.opFail opId o)

/-- CONTEXT_EXPIRY (R191). -/
def execContextExpiry (hub src opId : Nat) (s : State) : Host.Outcome State Fault Refusal :=
  .next (if (Tab.find s.fab.ctx (ctxKey src opId)).any fun c => c.hub == hub then
      (({ s with fab := { s.fab with ctx := Tab.erase s.fab.ctx (ctxKey src opId) } }).countCtx).bump
        F.FAB_EP_CNT_B_CTX_EXPIRED
    else s)

/-! Registers. -/

/-- FAB_CNT_CLR (R198): the endpoint counters clear, the first-error registers are re-armed and the causes of FAB_EVT
end. -/
def execFabCntClr (s : State) : Host.Outcome State Fault Refusal :=
  .next (s.hostWrite 12 fun t =>
    ((({ t with fab := { t.fab with feHdr := false } }).clearAll ([F.FAB_EP_CNT_A_REISSUE, F.FAB_EP_CNT_A_OP_FAIL,
      F.FAB_EP_CNT_B_CTX_EXPIRED, F.FAB_EP_CNT_B_STALE, F.FAB_FE_INFO_SOURCE, F.FAB_FE_INFO_PORT, F.FAB_FE_INFO_PEER,
      F.FAB_FE_OPID_OP_ID] ++ (List.range 8).map F.FAB_FE_HDR_HDR.ix)).evtEndAll
      [F.FAB_EVT_OP_FAIL, F.FAB_EVT_DISC_RATE, F.FAB_EVT_IDENT_BAD, F.FAB_EVT_PORT_DOWN]))

/-- FAB_PORT_CNT_CLR (R198). -/
def execFabPortCntClr (port : Nat) (s : State) : Host.Outcome State Fault Refusal :=
  .next (s.hostWrite 12 fun t => t.clearAll [F.FAB_CNT_A_PCRC.ix port, F.FAB_CNT_A_NO_ROUTE.ix port,
    F.FAB_CNT_B_FENCED.ix port, F.FAB_CNT_B_EXPIRED.ix port, F.FAB_CNT_C_MCAST_IN.ix port, F.FAB_CNT_C_DOWN.ix port])

/-- RTE_SEL written, by station software or by a flip (R185, R221): the time of a change is kept. -/
def State.selectVersion (s : State) (v : Nat) : State :=
  if s.get F.RTE_SEL_SEL == v % 2 then s
  else ({ s with fab := { s.fab with lastSel := some s.ns64 } }).set F.RTE_SEL_SEL v

/-- RTE_SEL (R185). -/
def execRteSel (sel : Nat) (s : State) : Host.Outcome State Fault Refusal :=
  .next (s.hostWrite 13 fun t => (t.selectVersion sel).coveredWrite)

/-- RTE_VALID (R199): a write that clears the selected version's bit is ignored. -/
def execRteValid (valid : Nat) (s : State) : Host.Outcome State Fault Refusal :=
  .next (s.hostWrite 13 fun t =>
    if bit valid (t.get F.RTE_SEL_SEL) then
      (t.setAll [(F.RTE_VALID_VALID_A, b2n (bit valid 0)), (F.RTE_VALID_VALID_B, b2n (bit valid 1))]).coveredWrite
    else t)

/-- RTE_WINDOW_WRITE (R185, R199): one entry of the version that RTE_WIN_CTL names, in both hubs' copies; the selected
version is not written. -/
def execRteWindowWrite (multicast : Bool) (index entry : Nat) (s : State) : Host.Outcome State Fault Refusal :=
  .next (s.hostWrite 13 fun t =>
    let v := t.get F.RTE_WIN_CTL_VERSION
    if v == t.get F.RTE_SEL_SEL then t.evt F.RTE_EVT_WIN_REFUSED
    else if multicast then
      { t with fab := { t.fab with mc := Tab.put 0 t.fab.mc (4096 * v + index % 4096) (entry % 2 ^ 32) } }
    else
      let k := 2 ^ 20 * v + 65536 * t.get F.RTE_WIN_CTL_PAGE + index % 65536
      { t with fab := { t.fab with uc := Tab.put 0 t.fab.uc k (entry % 2 ^ 32) } })

/-- A ROUTES body staged into a version (R200): every entry it does not list is invalid, and VALID is set. -/
def State.stageRoutes (s : State) (v : Nat) (body : List Byte) : State :=
  let nu := beAt body 4 4
  let nm := beAt body 8 4
  let uc := (List.range nu).foldl (fun (t : Tab Nat) i =>
    Tab.put 0 t (2 ^ 20 * v + beAt body (16 + 8 * i) 3 % 2 ^ 20) (beAt body (20 + 8 * i) 4))
    (s.fab.uc.filter fun x => x.1 / 2 ^ 20 != v)
  let mc := (List.range nm).foldl (fun (t : Tab Nat) i =>
    Tab.put 0 t (4096 * v + beAt body (16 + 8 * (nu + i)) 2 % 4096) (beAt body (20 + 8 * (nu + i)) 4))
    (s.fab.mc.filter fun x => x.1 / 4096 != v)
  ({ s with fab := { s.fab with uc := uc, mc := mc, staging := none } }).set
    (if v = 1 then F.RTE_VALID_VALID_B else F.RTE_VALID_VALID_A) 1

/-- Whether 64 × HOP_LIFE has passed since this device's last change of RTE_SEL (R185). -/
def State.selSettled (s : State) : Bool :=
  match s.fab.lastSel with
  | none => true
  | some t => notBefore s.ns64 (t + 64000 * s.get F.FAB_TIMERS_HOP_LIFE_US)

/-- ROUTES_STAGING (R185, R200): a ROUTES section that waits goes into the inactive version. -/
def execRoutesStaging (s : State) : Host.Outcome State Fault Refusal :=
  .next (match s.fab.staging with
    | none => s
    | some body =>
      let v := 1 - s.get F.RTE_SEL_SEL
      if s.selSettled && s.fab.inUse v == 0 then s.deviceChange fun t => t.stageRoutes v body else s)

end Sys2Proof.Machine
end

