-- ==== Sys2Proof/Machine/Retain.lean ====
section
/-! DEFINITION. Millrace's flows and its retain buffer (R258, R263–R266, R274, Table MEM-11): sequence numbers, retained
segments, ranges voided, and what a loss of the RETAIN area or of a peer does to them. -/

namespace Sys2Proof.Machine

/-- A sequence number as 48 bits (R258). -/
def seq48 (n : Nat) : Nat := n % 2 ^ 48

/-- How far SEQ `a` lies beyond `b`, by signed 48-bit difference (R258); 0 when it does not. -/
def seqAhead (a b : Nat) : Nat :=
  let d := (a + 2 ^ 48 - b % 2 ^ 48) % 2 ^ 48
  if d < 2 ^ 47 then d else 0

/-- Whether SEQ `a` lies before `b`. -/
def seqLess (a b : Nat) : Bool := decide (0 < seqAhead b a)

/-- The next SEQ of a flow to send. -/
def State.txNextSeq (s : State) (f : Nat) : Nat := s.get64 (F.MLR_FLOW_TX_LO_SEQ.ix f) (F.MLR_FLOW_TX_HI_SEQ.ix f)

/-- The sender's view of CUM. -/
def State.ackCum (s : State) (f : Nat) : Nat := s.get64 (F.MLR_FLOW_ACK_LO_SEQ.ix f) (F.MLR_FLOW_ACK_HI_SEQ.ix f)

/-- The receiver's CUM. -/
def State.rxCum (s : State) (f : Nat) : Nat := s.get64 (F.MLR_FLOW_RX_LO_SEQ.ix f) (F.MLR_FLOW_RX_HI_SEQ.ix f)

/-- A flow that has sent nothing. -/
def TxFlow.idle : TxFlow := ⟨[], [], none, [], []⟩

/-- A flow that has received nothing. -/
def RxFlow.idle : RxFlow := ⟨[], [], 0⟩

/-- The sending side of a flow. -/
def State.txFlow (s : State) (f : Nat) : TxFlow := Tab.get TxFlow.idle s.mlr.tx f

/-- The sending side written. -/
def State.setTxFlow (s : State) (f : Nat) (x : TxFlow) : State :=
  { s with mlr := { s.mlr with tx := Tab.put TxFlow.idle s.mlr.tx f x } }

/-- The receiving side of a flow. -/
def State.rxFlow (s : State) (f : Nat) : RxFlow := Tab.get RxFlow.idle s.mlr.rx f

/-- The receiving side written. -/
def State.setRxFlow (s : State) (f : Nat) (x : RxFlow) : State :=
  { s with mlr := { s.mlr with rx := Tab.put RxFlow.idle s.mlr.rx f x } }

/-- The state of a flow: 0 unused, 1 running, 2 failed, 3 peer lost. -/
def State.flowState (s : State) (f : Nat) : Nat := s.get (F.MLR_FLOW_STAT_STATE.ix f)

/-- The flow's state written, with FLOWS_UP. -/
def State.setFlowState (s : State) (f st : Nat) : State :=
  let s1 := s.set (F.MLR_FLOW_STAT_STATE.ix f) st
  s1.set F.MLR_STAT_FLOWS_UP ((List.range 256).filter fun i => s1.flowState i == 1).length

/-- The hub that serves a flow: the RX_HUB of its record (DESIGN CHOICE for a flow that only sends). -/
def State.flowHub (s : State) (f : Nat) : Nat := ((imgFlow s.image f).map fun r => r.hub).getD 0

/-- The location code of a flow's faults (R285). -/
def State.locFlow (s : State) (f : Nat) : Nat := locChip (0x18 + s.flowHub f)

/-- The first Millrace fault since the last clear is kept (R286). -/
def State.firstMlr (s : State) (source f : Nat) : State :=
  if s.get F.MLR_FE_SOURCE != 0 then s else s.setAll [(F.MLR_FE_SOURCE, source), (F.MLR_FE_FLOW, f)]

/-- The size of the retain buffer (Table MEM-4). -/
def State.retainSize (s : State) : Nat := beAt (imgBody s.image 0x8004 0) 2 2 * 2 ^ 30

/-- Retained bytes. -/
def retainBytes (l : List Seg) : Nat := (l.map fun x => x.wire.length).sum

/-- The retained segments written, with MLR_RETAIN and the use of each Bolter slot (R266, R313). -/
def State.setRetain (s : State) (l : List Seg) : State :=
  let s1 := ({ s with mlr := { s.mlr with retain := l } }).set64 F.MLR_RETAIN_LO_BYTES F.MLR_RETAIN_HI_BYTES (retainBytes l)
  s1.setAll ((List.range 16).map fun n =>
    let e := s.get (F.CMP_SLOT_STAT_EPOCH.ix n)
    (F.CMP_SLOT_USE_RETAINED.ix n,
      if s.flag (F.CMP_SLOT_STAT_VALID.ix n) then (l.filter fun x => x.tables.contains e).length else 0))

/-! The ring of the RETAIN area (R266). -/

/-- Segments of the flows that satisfy a test, made and not yet sent. -/
def State.unsent (s : State) (p : Nat → Bool) : List Seg :=
  let new := fun (q : Nat × List QSeg) => (q.2.filter fun x => !x.resend && p x.seg.flow).map QSeg.seg
  s.slu.queues.flatMap new ++ s.slu.held.flatMap new

/-- Whether a segment of `n` bytes fits at the ring's next place: it overlaps no segment that is retained or made. -/
def State.retainFits (s : State) (n : Nat) : Bool :=
  let size := s.retainSize
  decide (n ≤ size) && (s.mlr.retain ++ s.unsent fun _ => true).all fun y =>
    let d := (y.place + size - s.mlr.ring) % size
    decide (n ≤ d) && decide (d + y.wire.length ≤ size)

/-- A segment's wire form written to its place in the RETAIN area, over the area's end to its start. -/
def State.writeRetain (s : State) (x : Seg) : State :=
  match (imgAreas s.image 10).head? with
  | none => s
  | some a =>
    let first := x.wire.take (s.retainSize - x.place)
    let put := fun (t : State) (o : Nat) (bs : List Byte) => t.deposit (a.1 + o) (bs.map fun b => (b, false))
    let s1 := put s x.place first
    if first.length < x.wire.length then put s1 0 (x.wire.drop first.length) else s1

/-- The LOST bit of RETAIN clears once no range voided for a loss is left (Table MEM-11). -/
def State.settleLost (s : State) : State :=
  if s.getBit F.PND_STAT_LOST 2 && s.mlr.tx.all (fun x => x.2.voids.isEmpty) then s.setBit F.PND_STAT_LOST 2 false else s

/-- A range cut into ranges of at most 65,535 (Table MLR-3), the data owed with the last. -/
def splitVoid (owed : List SegReq) : Nat → Nat → Nat → List Voided
  | 0, _, _ => []
  | k + 1, first, n => if n ≤ 65535 then [⟨first, n, owed⟩]
    else ⟨first, 65535, []⟩ :: splitVoid owed k (seq48 (first + 65535)) (n - 65535)

/-- What waits in Sluice of a flow is dropped: the resends, and the new segments too unless they are kept. -/
def State.dropWaiting (s : State) (f : Nat) (keepNew : Bool) : State :=
  let cut := fun (q : List QSeg) => q.filter fun y => !((y.resend || !keepNew) && y.seg.flow == f)
  let queues := Tab.change [] cut s.slu.queues
  let s1 := { s with slu := { s.slu with
    queues := queues, held := if keepNew then s.slu.held else Tab.erase s.slu.held f } }
  s1.setAll ((List.range 128).map fun k => (F.SLU_Q_DEPTH_BYTES.ix (k / 32) (k % 32),
    ((Tab.get [] queues k).map fun x => x.seg.wire.length).sum))

/-- A flow's unacknowledged segments are abandoned and their range is voided (R264): those sent, whose data is owed, when
`again`; and all, for good, when the peer is lost (Table MLR-6). -/
def State.voidFlow (s : State) (f : Nat) (again : Bool) : State :=
  let mine := (s.mlr.retain.filter fun x => x.flow == f) ++ if again then [] else s.unsent (· == f)
  match mine with
  | [] => s
  | x :: t =>
    let low := t.foldl (fun m y => if seqLess y.seq m then y.seq else m) x.seq
    let high := t.foldl (fun m y => if seqLess m y.seq then y.seq else m) x.seq
    let n := seqAhead high low + 1
    let tx := s.txFlow f
    let owed := if again then mine.map fun y => y.req else []
    let old := if again then tx else { tx with voids := tx.voids.map fun v => { v with owed := [] }, owed := [], sent := [] }
    let s1 := (s.setRetain (s.mlr.retain.filter fun y => y.flow != f)).setTxFlow f
      { old with voids := old.voids ++ splitVoid owed (n / 65535 + 1) low n }
    (s1.dropWaiting f again).bump (F.MLR_FLOW_CNT_B_REPLACED.ix f) n

/-- The retain buffer loses its contents (Table MEM-11, R264): every flow's retained segments are abandoned and replaced,
and RETAIN_LOST is raised when there were any. -/
def State.loseRetain (s : State) : State :=
  if s.mlr.retain.isEmpty then s.settleLost
  else
    let flows := (s.mlr.retain.map fun x => x.flow).eraseDups
    let f := flows.headD 0
    let s1 := flows.foldl (fun t g => t.voidFlow g true) s
    ((s1.evt F.MLR_EVT_RETAIN_LOST).firstMlr 0xB3 f).raise 0xB3 .uc (s.locFlow f) 0 f

/-- A flow whose peer's site is lost (Table MLR-6): its segments are abandoned and their space is freed; the range is
voided at the rejoin. -/
def State.losePeer (s : State) (f : Nat) : State := (s.voidFlow f false).setFlowState f 3

/-- At a step boundary failed flows restart with a VOID over their unacknowledged range (R263, R264). -/
def State.restartFlows (s : State) : State :=
  (List.range 256).foldl (fun t f => if t.flowState f == 2 then (t.voidFlow f true).setFlowState f 1 else t) s

/-- Flows whose peer's site is reachable again start once more (R274, R279): the range abandoned is voided. -/
def State.regainPeers (s : State) (mask : Nat) : State :=
  (List.range 256).foldl (fun t f =>
    if t.flowState f == 3 && bit mask (t.get (F.MLR_FLOW_STAT_PEER_SITE.ix f)) then t.setFlowState f 1 else t) s

end Sys2Proof.Machine
end

