-- ==== Sys2Proof/Machine/Pond.lean ====
section
/-! DEFINITION. Meanings of the near-tier scrub, Millpond and MEM commands (R147, R148, R151–R159, R168–R170). -/

namespace Sys2Proof.Machine

/-! Areas (R148, Table MEM-5, Table MEM-11). -/

/-- LOST bits of the areas that the running image has (Table MEM-11). -/
def State.lostBits (s : State) : Nat :=
  let img := s.image
  let has := fun k => b2n (!(imgAreas img k).isEmpty)
  has 8 + 2 * has 9 + 4 * has 10 + 8 * min 1 (has 11 + has 12)

/-- Bits set in a field. -/
def orBits (w a b : Nat) : Nat := ((List.range w).map fun n => b2n (bit a n || bit b n) * 2 ^ n).sum

/-- Every far-tier area counts as having lost its contents (R150, R159): the LOST bits. REPLICA_LOST to the partner and
the reactions of Millrace and of the partition machinery follow from the bits (Table MEM-11). -/
def State.areasLost (s : State) (l : Nat) : State :=
  let bits_ := s.lostBits
  if bits_ = 0 then s
  else
    let s1 := s.set F.PND_STAT_LOST (orBits 4 (s.get F.PND_STAT_LOST) bits_)
    let s2 := if bit bits_ 0 then s1.emit .replicaLost else s1
    let s3 := if bit bits_ 2 then s2.loseRetain else s2
    s3.evtOf F.PND_EVT_LOST l

/-- A LOST bit clears (Table MEM-11). -/
def State.lostClear (s : State) (n : Nat) : State := s.setBit F.PND_STAT_LOST n false

/-! Link states (R152, Table MEM-6). -/

/-- A link with nothing on its way. -/
def PondLink.idle : PondLink := ⟨0, 0, [], 0, [], [], 0, 0, none, false⟩

/-- What a link keeps when it leaves its session: the last accepted BOOT_ID, and whether it has reached ACTIVE. -/
def PondLink.kept (p : PondLink) : PondLink := { PondLink.idle with boot := p.boot, met := p.met }

/-- A pond link. -/
def State.pondLink (s : State) (l : Nat) : PondLink := Tab.get PondLink.idle s.pond l

/-- A pond link written, with the credits it holds in PND_CRED. -/
def State.setPondLink (s : State) (l : Nat) (p : PondLink) : State :=
  ({ s with pond := Tab.put PondLink.idle s.pond l p }).setAll
    [(F.PND_CRED_HDR.ix l, min p.hdr 65535), (F.PND_CRED_DATA.ix l, min p.dat 65535)]

/-- The state of a pond link. -/
def State.pondState (s : State) (l : Nat) : Nat := s.get (F.PND_LINK_STAT_STATE.ix l)

/-- A link's state written, with its ACTIVE bit. -/
def State.setPondState (s : State) (l st : Nat) : State :=
  (s.set (F.PND_LINK_STAT_STATE.ix l) st).setBit F.PND_STAT_ACTIVE l (st == 4)

/-- Buffers of reads that fail return poisoned data (R155, R159). -/
def State.failReads (s : State) : List (Nat × PondRead) → State
  | [] => s
  | x :: t => (if x.2.dead then s else s.storePoison x.2.dst (256 * x.2.granules)).failReads t

/-- PL_DOWN (R159). -/
def State.plDown (s : State) (l : Nat) : State := (s.evtOf F.PND_EVT_DOWN l).raise 0x71 .uc (locPond l)

/-- A link goes to FAILED for a reason (Table MEM-10). Leaving ACTIVE raises PL_DOWN, fails the requests on their way
and loses the far-tier areas (R159). -/
def State.pondFail (s : State) (l reason : Nat) : State :=
  let active := s.pondState l == 4
  let p := s.pondLink l
  let s1 := ((s.setPondState l 5).set (F.PND_LINK_STAT_REASON.ix l) reason).setPondLink l p.kept
  if active then (((s1.bump (F.PND_CNT_B_DOWN.ix l)).failReads p.reads).plDown l).areasLost l else s1

/-- Whether a cause of R442 holds on a photonic die. -/
def State.causeOn (s : State) (die : Nat) : Bool := s.pwr.causes.any fun c => c.2 == die

/-- PATROL_SCRUB (R147): one line of the near tier is read; a corrected line is written back unless it was written
meanwhile (`overwritten`), which either way leaves its bytes as they are; an uncorrectable one is poisoned. -/
def execPatrolScrub (addr : Nat) (error : Option Bool) (_overwritten : Bool) (s : State) :
    Host.Outcome State Fault Refusal :=
  .next (
    if s.get F.MEM_SCRUB_CFG_HOURS == 0 then s
    else
      let k := stackOf addr
      let s1 := s.put F.MEM_STAT_SCRUB_BUSY (addr / 64 != (0x1F000000000 - 64) / 64)
      let uc := error == some false || s1.forcedAt 0x62 (locChip k)
      if uc then
        ((s1.markUnit addr true).bump (F.MEM_STACK_CNT_UC.ix k)).raiseMem 0x62 F.MEM_EVT_SCRUB_UC (locChip k) 0 addr
      else if error == some true then (s1.bump (F.MEM_STACK_CNT_CE.ix k)).raise 0x60 .ce (locChip k) 0 0 addr
      else s1)

/-- A link may train (Table MEM-6): it is in POND_MASK, the first image has taken effect, and no cause of R442 holds. -/
def State.pondMayTrain (s : State) (l : Nat) : Bool := s.getBit F.PND_STAT_MASK l && s.img.first && !s.causeOn l

/-- PND_RETRAIN (R152): RETRAIN, or AUTO_RETRAIN (`auto`), starts training from DOWN. -/
def execPndRetrain (link : Nat) (auto : Bool) (s : State) : Host.Outcome State Fault Refusal :=
  .next (
    let go := fun (t : State) => if t.pondState link == 0 && t.pondMayTrain link then
      (t.setPondState link 1).lightPort (20 + link) else t
    if auto then if s.flag F.PND_CFG_AUTO_RETRAIN && !s.fatal then go s else s
    else s.hostWrite 10 go)

/-- PND_DOWN (R159, R170): DOWN takes the link to FAILED with reason 5. -/
def execPndDown (link : Nat) (s : State) : Host.Outcome State Fault Refusal :=
  .next (s.hostWrite 10 fun t => t.pondFail link 5)

/-- POND_LANES_LOCKED (R152, R432). -/
def execPondLanesLocked (link : Nat) (s : State) : Host.Outcome State Fault Refusal :=
  .next (if s.pondState link == 1 && !s.portCold (20 + link) then s.setPondState link 2 else s)

/-! Messages (R153–R156). -/

/-- Whether a link exchanges messages: in PARAM and in ACTIVE (Table MEM-6). -/
def State.pondOpen (s : State) (l : Nat) : Bool := s.pondState l == 3 || s.pondState l == 4

/-- A message is sent: it takes the next SEQ, the first of a session being 1 (DESIGN CHOICE: the spec gives none), and waits
for its acknowledgement. -/
def State.pondSend (s : State) (l : Nat) (p : PondLink) (x : PondMsg) : State :=
  let m : PondMsg := { x with seq := (p.txSeq + 1) % 65536, ackSeq := p.rxSeq }
  (s.setPondLink l { p with txSeq := m.seq, unacked := p.unacked ++ [m] }).emit (.pond l m.bytes)

/-- A NOP, which takes no SEQ of its own: it carries the last one sent (DESIGN CHOICE: R156 numbers every other message). -/
def PondLink.nop (p : PondLink) (nak : Bool) : PondMsg := ⟨0, nak, p.txSeq, p.rxSeq, 0, 0, 0, 0, 0, []⟩

/-- A NOP is sent. -/
def State.pondSendNop (s : State) (l : Nat) (nak : Bool) : State := s.emit (.pond l ((s.pondLink l).nop nak).bytes)

/-- Whether a link can send one more request. -/
def State.pondReady (s : State) (l : Nat) : Bool := s.pondState l == 4 && decide ((s.pondLink l).unacked.length < 64)

/-- The device serial (GEN_SERIAL). -/
def State.serialNumber (s : State) : Nat := s.get64 F.GEN_SERIAL_LO_SERIAL F.GEN_SERIAL_HI_SERIAL

/-- POND_ALIGNED (R152, R156, R158): the link moves to PARAM and sends its IDENT, which waits for its acknowledgement as every
numbered message does. -/
def execPondAligned (link : Nat) (s : State) : Host.Outcome State Fault Refusal :=
  .next (if s.pondState link == 2 then
      (s.setPondState link 3).pondSend link (s.pondLink link).kept ⟨5, false, 0, 0, 0, 0, 1, 1, 0, identGranule s.serialNumber link⟩
    else s)

/-- RD (R154): sent once its completion buffer is reserved (dst) and a header credit is held. -/
def execRd (link tag addr granules dst : Nat) (s : State) : Host.Outcome State Fault Refusal :=
  .next (
    let p := s.pondLink link
    if s.pondReady link && decide (1 ≤ p.hdr) && (Tab.find p.reads tag).isNone &&
        decide (1 ≤ granules ∧ granules ≤ 64) && addr % 256 == 0 then
      s.pondSend link { p with hdr := p.hdr - 1, reads := Tab.insert p.reads tag ⟨addr, granules, dst, false⟩ }
        ⟨1, false, 0, 0, tag, addr, granules, 0, 0, []⟩
    else s)

/-- WR (R154): sent once a header credit and a credit for each granule are held. -/
def execWr (link addr : Nat) (data : List Byte) (poison : Nat) (s : State) : Host.Outcome State Fault Refusal :=
  .next (
    let p := s.pondLink link
    let n := data.length / 256
    if s.pondReady link && decide (1 ≤ p.hdr ∧ n ≤ p.dat ∧ 1 ≤ n ∧ n ≤ 64) && data.length % 256 == 0 &&
        addr % 256 == 0 then
      s.pondSend link { p with hdr := p.hdr - 1, dat := p.dat - n, writes := p.writes ++ [⟨addr, data, poison, false⟩] }
        ⟨2, false, 0, 0, 0, addr, n, 0, poison, data⟩
    else s)

/-- The replay of every unacknowledged message (R156): each replay is a CE event, and a message that fails 8
consecutive replays takes the link to FAILED. -/
def State.pondReplay (s : State) (l : Nat) : State :=
  let p := s.pondLink l
  if p.unacked.isEmpty then s
  else if 8 ≤ p.replays then s.pondFail l 2
  else
    let s1 := s.setPondLink l { p with replays := p.replays + 1 }
    let s2 := p.unacked.foldl (fun t m => t.emit (.pond l ({ m with ackSeq := p.rxSeq } : PondMsg).bytes)) s1
    (s2.bump (F.PND_CNT_A_REPLAY.ix l) p.unacked.length).raise 0x70 .ce (locPond l)

/-- Whether sequence number a is at or before b, by signed 16-bit difference. -/
def seqLe (a b : Nat) : Bool := decide ((b + 65536 - a % 65536) % 65536 < 32768)

/-- What every intact header brings (R154, R156): acknowledgements, credits, and a request for replay. An armed PL_REPLAY asks
for one (R372). -/
def State.pondHeader (s : State) (l : Nat) (m : List Byte) : State :=
  let p := s.pondLink l
  let rest := p.unacked.filter fun x => !seqLe x.seq (msgAck m)
  let s1 := s.setPondLink l { p with
    unacked := rest
    replays := if rest.length == p.unacked.length then p.replays else 0
    hdr := p.hdr + msgCrdHdr m
    dat := p.dat + msgCrdData m }
  if msgNak m || s1.forcedAt 0x70 (locPond l) then s1.pondReplay l else s1

/-- A message arrives on a link that exchanges messages (R156): a damaged one is discarded and answered by NOP with NAK; an
undefined opcode or header takes the link to FAILED with reason 3; a numbered one out of order is discarded like a damaged one
(DESIGN CHOICE: a header is judged once its HCRC holds, and before its SEQ); any other is taken. -/
def State.pondTake (s : State) (l op : Nat) (msg : List Byte) (f : State → State) : State :=
  if !s.pondOpen l then s
  else if !msgIntact msg then s.pondSendNop l true
  else if !msgFormOk msg then s.pondFail l 3
  else if msgOp msg != op then s
  else if op == 0 then s.pondHeader l msg
  else if msgSeq msg != ((s.pondLink l).rxSeq + 1) % 65536 then s.pondSendNop l true
  else
    let s1 := s.setPondLink l { s.pondLink l with rxSeq := msgSeq msg }
    let s2 := s1.pondHeader l msg
    if s2.pondOpen l then f s2 else s2

/-- Whether a module's IDENT is accepted (R158). -/
def pondIdentOk (x : PondIdent) : Bool :=
  x.part == 0x0384 && x.capGib == 384 && decide (1 ≤ x.hdrCred ∧ x.hdrCred ≤ 4096) && decide (64 ≤ x.dataCred) &&
    x.link == 0 && x.proto == 1

/-- A module's IDENT in PARAM (R158): an accepted one makes the link ACTIVE with the credits it brings; any other takes it to
FAILED. -/
def State.takeIdent (s : State) (l : Nat) (x : PondIdent) : State :=
  let s1 := s.setAll [(F.PND_MOD_ID_PART.ix l, x.part), (F.PND_MOD_ID_CAP_GIB.ix l, x.capGib)]
  if pondIdentOk x && !s1.forcedAt 0x74 (locPond l) then
    let old := s1.pondLink l
    let p : PondLink := { old with
      hdr := old.hdr + x.hdrCred, dat := old.dat + x.dataCred, boot := some x.bootId, met := true }
    let s2 := ((s1.setPondLink l p).set (F.PND_MOD_BOOT_BOOT_ID.ix l) x.bootId).setPondState l 4
    match old.boot with
    | some b => if b == x.bootId then s2 else s2.set (F.PND_LINK_STAT_BOOT_CHANGED.ix l) 1
    | none => s2
  else ((s1.evtOf F.PND_EVT_IDENT_BAD l).raise 0x74 .uc (locPond l)).pondFail l 6

/-- POND_IDENT (R156, R158): a module's IDENT message arrives. -/
def execPondIdent (link : Nat) (msg : List Byte) (s : State) : Host.Outcome State Fault Refusal :=
  .next (s.pondTake link 5 msg fun t => if t.pondState link == 3 then t.takeIdent link (msgIdent msg) else t)

/-- POND_TRAINING_TIMEOUT (R157): a training step took more than 100 ms. A link that waits in OPTICAL for a cold laser die
stays there (R432). -/
def execPondTrainingTimeout (link : Nat) (s : State) : Host.Outcome State Fault Refusal :=
  .next (let st := s.pondState link
    if (st == 1 && !s.portCold (20 + link)) || st == 2 || st == 3 then s.pondFail link 7 else s)

/-- POND_SILENCE (R157, R159): 50 µs of silence on an ACTIVE link. -/
def execPondSilence (link : Nat) (s : State) : Host.Outcome State Fault Refusal :=
  .next (if s.pondState link == 4 then s.pondFail link 1 else s)

/-- POND_BACKOFF_END (R152): 1 s after FAILED the link is DOWN. -/
def execPondBackoffEnd (link : Nat) (s : State) : Host.Outcome State Fault Refusal :=
  .next (if s.pondState link == 5 then s.setPondState link 0 else s)

/-- POND_ACTIVE_DEADLINE (R159): a link of the mask has not reached ACTIVE 1 s after the first image. -/
def execPondActiveDeadline (link : Nat) (s : State) : Host.Outcome State Fault Refusal :=
  .next (if s.getBit F.PND_STAT_MASK link && s.img.first && !(s.pondLink link).met then (s.plDown link).areasLost link else s)

/-- PL_STATUS (R155): a completion with a non-zero STATUS. -/
def State.pondStatus (s : State) (l status addr : Nat) : State :=
  if status = 0 && !s.forcedAt 0x73 (locPond l) then s
  else ((s.bump (F.PND_CNT_B_STATUS.ix l)).evtOf F.PND_EVT_TIMEOUT l).raise 0x73 .uc (locPond l) 0 status addr

/-- Bytes with the poison of their granules: bit n of the mask for granule n (Table MEM-7). -/
def granuleFlags (mask : Nat) (data : List Byte) : List (Byte × Bool) :=
  (data.zipIdx).map fun x => (x.1, bit mask (x.2 / 256))

/-- PL_TIMEOUT (R157): a request is not completed within REQ_TO_US. -/
def State.timedOut (s : State) (l addr : Nat) : State :=
  ((s.bump (F.PND_CNT_A_TIMEOUT.ix l)).evtOf F.PND_EVT_TIMEOUT l).raise 0x72 .uc (locPond l) 0 0 addr

/-- A read times out: its buffer is poisoned, and its TAG stays taken until its completion has come. -/
def State.timeoutRead (s : State) (l tag : Nat) (r : PondRead) : State :=
  let p := s.pondLink l
  ((s.setPondLink l { p with reads := Tab.insert p.reads tag { r with dead := true } }).storePoison r.dst
    (256 * r.granules)).timedOut l r.addr

/-- RDC (R154, R155, R157): the read with this TAG completes; its data stands in its buffer, poisoned where the mask or an
error status says so. A completion that no read waits for, or that comes after the read's timeout, is discarded. An armed
PL_TIMEOUT times the read out (R372). -/
def execRdc (link : Nat) (msg : List Byte) (s : State) : Host.Outcome State Fault Refusal :=
  .next (s.pondTake link 3 msg fun t =>
    let p := t.pondLink link
    let tag := msgTag msg
    match Tab.find p.reads tag with
    | none => t
    | some r =>
      let p1 := { p with reads := Tab.erase p.reads tag }
      if r.dead then t.setPondLink link p1
      else if t.forcedAt 0x72 (locPond link) then (t.timeoutRead link tag r).setPondLink link p1
      else
        let t1 := (t.setPondLink link p1).pondStatus link (msgStatus msg) r.addr
        let n := 256 * r.granules
        if 2 ≤ msgStatus msg then t1.storePoison r.dst n
        else (t1.deposit r.dst (granuleFlags (if msgStatus msg = 1 then msgPoison msg else 0) ((msgData msg).take n))).add64
          (F.PND_RD_LO_BYTES.ix link) (F.PND_RD_HI_BYTES.ix link) n)

/-- The device address of a module byte address of a link (R151, read backwards). -/
def farAddr (mask l maddr : Nat) : Nat :=
  let k := popcount l (mask % 2 ^ l)
  0x20000000000 + (maddr / 4096 * popcount 4 mask + k) * 4096 + maddr % 4096

/-- The granules of a write stored at their device addresses. -/
def State.storeGranules (s : State) (l maddr poison : Nat) : Nat → List Byte → State
  | 0, _ => s
  | n + 1, bs =>
    let a := farAddr s.pondMask l maddr
    let s1 := (s.writeBytes a (bs.take 256)).markUnit a (bit poison 0)
    s1.storeGranules l (maddr + 256) (poison / 2) n (bs.drop 256)

/-- WRA (R154, R155, R157): the oldest write is acknowledged: visible to every later read, or lost with the error status 2 or
3. With STATUS 1 (POISON), to which R155 gives no effect on a write, its data is stored with the poison it was sent with
(DESIGN CHOICE). The acknowledgement of a write that has timed out is discarded. -/
def execWra (link : Nat) (msg : List Byte) (s : State) : Host.Outcome State Fault Refusal :=
  .next (s.pondTake link 4 msg fun t =>
    let p := t.pondLink link
    match p.writes with
    | [] => t
    | w :: rest =>
      let t0 := t.setPondLink link { p with writes := rest }
      if w.dead then t0
      else if t0.forcedAt 0x72 (locPond link) then t0.timedOut link w.addr
      else
        let t1 := t0.pondStatus link (msgStatus msg) w.addr
        if 2 ≤ msgStatus msg then t1
        else (t1.storeGranules link w.addr w.poison (w.data.length / 256) w.data).add64 (F.PND_WR_LO_BYTES.ix link)
          (F.PND_WR_HI_BYTES.ix link) w.data.length)

/-- POND_NOP (R156): a NOP carries acknowledgements and credits; with NAK set it asks for replay. -/
def execPondNop (link : Nat) (msg : List Byte) (s : State) : Host.Outcome State Fault Refusal :=
  .next (s.pondTake link 0 msg id)

/-- POND_MESSAGE_DISCARD (R156, Table MEM-10): a message that is damaged, out of order or of no defined form. One that is
none of these is not discarded: its arrival is a command of its own. -/
def execPondMessageDiscard (link : Nat) (msg : List Byte) (s : State) : Host.Outcome State Fault Refusal :=
  .next (if msgFormOk msg && msgIntact msg && (msgOp msg == 0 || msgSeq msg == ((s.pondLink link).rxSeq + 1) % 65536) then s
    else s.pondTake link (msgOp msg) msg id)

/-- POND_REPLAY_TIMER (R156): no ACK_SEQ advance for 5 µs. -/
def execPondReplayTimer (link : Nat) (s : State) : Host.Outcome State Fault Refusal :=
  .next (if s.pondOpen link then s.pondReplay link else s)

/-- POND_IDLE_NOP (R157): a NOP every 2 µs of idleness. An armed PL_DOWN takes the ACTIVE link down as silence would (R372). -/
def execPondIdleNop (link : Nat) (s : State) : Host.Outcome State Fault Refusal :=
  .next (if s.pondState link == 4 && s.forcedAt 0x71 (locPond link) then s.pondFail link 1
    else if s.pondOpen link then s.pondSendNop link false else s)

/-- The oldest write that has not timed out, marked as timed out. -/
def timeoutWrite : List PondWrite → Option (PondWrite × List PondWrite)
  | [] => none
  | w :: t => if w.dead then (timeoutWrite t).map fun x => (x.1, w :: x.2) else some (w, { w with dead := true } :: t)

/-- PL_TIMEOUT (R157): a request is not completed within REQ_TO_US; it fails, a write being lost, and a later completion is
discarded. -/
def execPlTimeout (link : Nat) (read : Bool) (tag : Nat) (s : State) : Host.Outcome State Fault Refusal :=
  .next (
    let p := s.pondLink link
    if read then
      match Tab.find p.reads tag with
      | none => s
      | some r => if r.dead then s else s.timeoutRead link tag r
    else
      match timeoutWrite p.writes with
      | none => s
      | some x => (s.setPondLink link { p with writes := x.2 }).timedOut link x.1.addr)

/-! Strobes. -/

/-- MEM_CNT_CLR (R169): the MEM counters clear, the first-error registers are re-armed and the causes of MEM_EVT end. -/
def execMemCntClr (s : State) : Host.Outcome State Fault Refusal :=
  .next (s.hostWrite 9 fun t =>
    ((t.clearAll ((List.range 12).flatMap (fun k => [F.MEM_STACK_CNT_UC.ix k, F.MEM_STACK_CNT_CE.ix k]) ++
      (List.range 4).flatMap (fun k => [F.MEM_BSRAM_CNT_UC.ix k, F.MEM_BSRAM_CNT_CE.ix k]) ++
      (List.range 2).flatMap (fun j => [F.MEM_HSRAM_CNT_UC.ix j, F.MEM_HSRAM_CNT_CE.ix j]) ++
      [F.MEM_FE_ADDR_LO_ADDR, F.MEM_FE_ADDR_HI_ADDR, F.MEM_FE_INFO_SOURCE, F.MEM_FE_INFO_UNIT])).evtEndAll
      [F.MEM_EVT_ADDR_BAD, F.MEM_EVT_SCRUB_UC, F.MEM_EVT_POISONED]))

/-- PND_CNT_CLR (R170): a link's counters and BOOT_CHANGED clear, and its causes of PND_EVT end. -/
def execPndCntClr (link : Nat) (s : State) : Host.Outcome State Fault Refusal :=
  .next (s.hostWrite 10 fun t =>
    (t.clearAll [F.PND_CNT_A_REPLAY.ix link, F.PND_CNT_A_TIMEOUT.ix link, F.PND_CNT_B_STATUS.ix link,
      F.PND_CNT_B_DOWN.ix link, F.PND_LINK_STAT_BOOT_CHANGED.ix link]).evtEndAllOf link
      [F.PND_EVT_LOST, F.PND_EVT_DOWN, F.PND_EVT_IDENT_BAD, F.PND_EVT_TIMEOUT])

/-- CLR_STAGE (R159): LOST bit 3 clears. -/
def execClrStage (s : State) : Host.Outcome State Fault Refusal := .next (s.hostWrite 10 fun t => t.lostClear 3)

end Sys2Proof.Machine
end

