-- ==== Sys2Proof/Machine/Hopper.lean ====
section
/-! DEFINITION. Meanings of the Hopper commands (R160–R167, R171): buffer grants by minimum, level and rank, releases,
the audit and the rebuild of a pool. -/

namespace Sys2Proof.Machine

/-- A pool that no image has filled. -/
def HopPool.empty : HopPool := ⟨0, [], []⟩

/-- A pool's list state. -/
def State.pool (s : State) (n : Nat) : HopPool := Tab.get HopPool.empty s.hop n

/-- A pool's list state written, with WAITING. -/
def State.setPool (s : State) (n : Nat) (p : HopPool) : State :=
  ({ s with hop := Tab.put HopPool.empty s.hop n p }).set (F.HOP_POOL_STAT_WAITING.ix n) (min 256 p.waiting.length)

/-- The rank of an owner (Table MEM-13): 0 for A, 1 for B, 2 for C. -/
def ownerRank (o : Nat) : Nat := if o = 10 ∨ o = 11 then 0 else if o = 13 ∨ o = 14 then 2 else 1

/-- COUNT of a pool. -/
def State.poolCount (s : State) (n : Nat) : Nat := s.get (F.HOP_POOL_TOTAL_COUNT.ix n)
/-- HELD of an owner in a pool. -/
def State.held (s : State) (n o : Nat) : Nat := s.get (F.HOP_HELD_HELD.ix n o)
/-- MIN of an owner in a pool. -/
def State.minOf (s : State) (n o : Nat) : Nat := s.get (F.HOP_MIN_MIN.ix n o)

/-- free_shared of a pool (R162). -/
def State.freeShared (s : State) (n : Nat) : Int :=
  (s.get (F.HOP_POOL_SHARED_SHARED.ix n) : Int) -
    (((List.range 15).map fun o => s.held n o - s.minOf n o).sum : Nat)

/-- The threshold of a level, in 1/256 of SHARED: 1 AMBER, 2 RED, 3 BLACK. -/
def State.threshold (s : State) (n : Nat) : Nat → Nat
  | 1 => s.get (F.HOP_POOL_CFG_AMBER.ix n)
  | 2 => s.get (F.HOP_POOL_CFG_RED.ix n)
  | _ => s.get (F.HOP_POOL_CFG_BLACK.ix n)

/-- Whether a pool has reached a level (R162). -/
def State.reached (s : State) (n lvl : Nat) : Bool :=
  decide (256 * s.freeShared n ≤ (s.threshold n lvl * s.get (F.HOP_POOL_SHARED_SHARED.ix n) : Nat))

/-- Levels left one after another while free_shared exceeds the threshold by 4 × SHARED ÷ 256 (R162). -/
def State.leave (s : State) (n floor : Nat) : Nat → Nat
  | 0 => 0
  | lvl + 1 =>
    if lvl + 1 ≤ floor then lvl + 1
    else if decide (((s.threshold n (lvl + 1) + 4) * s.get (F.HOP_POOL_SHARED_SHARED.ix n) : Nat) <
        256 * s.freeShared n) then s.leave n floor lvl
    else lvl + 1

/-- The level of a pool from its present one (R162). -/
def State.nextLevel (s : State) (n : Nat) : Nat :=
  let down := if s.reached n 3 then 3 else if s.reached n 2 then 2 else if s.reached n 1 then 1 else 0
  let cur := s.get (F.HOP_POOL_STAT_LEVEL.ix n)
  if cur ≤ down then down else s.leave n down cur

/-- HOP_EVT follows the pools (R171). -/
def State.hopEvents (s : State) : State :=
  let any := fun p => (List.range 12).any p
  (((s.evtIs F.HOP_EVT_RED (any fun n => s.get (F.HOP_POOL_STAT_LEVEL.ix n) == 2)).evtIs F.HOP_EVT_BLACK
    (any fun n => s.get (F.HOP_POOL_STAT_LEVEL.ix n) == 3)).evtIs F.HOP_EVT_BROKEN
    (any fun n => s.flag (F.HOP_POOL_STAT_BROKEN.ix n))).put F.HOP_STAT_BROKEN_ANY
    (any fun n => s.flag (F.HOP_POOL_STAT_BROKEN.ix n))

/-- A pool's level shown in its own register, in HOP_STAT and in HOP_EVT (R162, R171). -/
def State.showLevel (s : State) (n lvl : Nat) : State :=
  let v := s.get F.HOP_STAT_LEVELS
  ((s.set (F.HOP_POOL_STAT_LEVEL.ix n) lvl).set F.HOP_STAT_LEVELS (v - v / 4 ^ n % 4 * 4 ^ n + lvl * 4 ^ n)).hopEvents

/-- HOP_LEVEL (R163, R168). -/
def State.levelEvent (s : State) (n : Nat) : State := s.raise 0x78 .ce (locChip (0x18 + n / 6)) 0 n

/-- A pool's level follows its occupancy, once pools exist (R167); entering RED or BLACK is a CE event (R163), which an armed
HOP_LEVEL makes as well (R372). -/
def State.relevel (s : State) (n : Nat) : State :=
  if !s.img.first then s
  else
    let lvl := s.nextLevel n
    if lvl = s.get (F.HOP_POOL_STAT_LEVEL.ix n) then
      (if s.forcedAt 0x78 (locChip (0x18 + n / 6)) then s.levelEvent n else s)
    else if 2 ≤ lvl then (s.showLevel n lvl).levelEvent n else s.showLevel n lvl

/-- Whether an owner's request can be granted (R162). -/
def State.grantable (s : State) (n o : Nat) : Bool :=
  decide (s.held n o < s.minOf n o) ||
    (decide (0 < s.freeShared n) && decide (s.get (F.HOP_POOL_STAT_LEVEL.ix n) + ownerRank o ≤ 2))

/-- The handle of a buffer (R160). -/
def handleOf (n index : Nat) : Nat := n / 6 * 2 ^ 31 + n % 6 * 2 ^ 28 + index % 2 ^ 28

/-- A count that falls by 1, modulo 2^w (cut to the field's width when it is written). -/
def wrapDown (w v : Nat) : Nat := v + (2 ^ w - 1)

/-- A buffer is popped from the free list and granted. The last handle pushed goes first, then the indices never
granted yet, in order (DESIGN CHOICE: the spec does not say which buffer a grant takes). -/
def State.grant (s : State) (n o : Nat) : State :=
  let p := s.pool n
  let x := match p.pushed with
    | i :: t => (i, { p with pushed := t })
    | [] => (p.fresh, { p with fresh := p.fresh + 1 })
  let s1 := s.setPool n x.2
  let inc := fun (t : State) (f : Fld) => t.set f (t.get f + 1)
  let s2 := (inc (inc s1 (F.HOP_POOL_ALLOC_ALLOC.ix n)) (F.HOP_HELD_HELD.ix n o)).set (F.HOP_POOL_FREE_FREE_LEN.ix n)
    (wrapDown 32 (s1.get (F.HOP_POOL_FREE_FREE_LEN.ix n)))
  (s2.emit (.grant (n / 6) o (handleOf n x.1))).relevel n

/-- The handle that the next grant of a pool gives. -/
def State.nextHandle (s : State) (n : Nat) : Nat :=
  let p := s.pool n
  handleOf n (p.pushed.head?.getD p.fresh)

/-- Whether a pool grants at all: it has buffers on its list, is not BROKEN and is not being audited. -/
def State.grants (s : State) (n : Nat) : Bool :=
  let p := s.pool n
  !s.flag (F.HOP_POOL_STAT_BROKEN.ix n) && !s.flag (F.HOP_POOL_STAT_AUDIT_BUSY.ix n) &&
    (!p.pushed.isEmpty || decide (p.fresh < s.poolCount n))

/-- The place of the request served next among the first 256 that wait (R163): within a minimum, then by rank down to `low`,
then in arrival order. -/
def State.nextWaiting (s : State) (n low : Nat) : Option Nat :=
  let w := ((s.pool n).waiting.take 256).zipIdx
  let pick := fun (p : Nat → Bool) => (w.find? fun x => p x.1 && s.grantable n x.1).map Prod.snd
  let rank := fun k => if k ≤ low then pick fun o => ownerRank o == k else none
  ((pick fun o => decide (s.held n o < s.minOf n o)).or (rank 0)).or ((rank 1).or (rank 2))

/-- Waiting requests, down to a rank, are served while one can be granted. -/
def State.serve (s : State) (n low : Nat) : Nat → State
  | 0 => s
  | k + 1 =>
    if s.grants n then
      match s.nextWaiting n low with
      | none => s
      | some i =>
        let p := s.pool n
        ((s.setPool n { p with waiting := p.waiting.eraseIdx i }).grant n ((p.waiting[i]?).getD 0)).serve n low k
    else s

/-- The rank down to which a pool's queue is served at once: the chunks of keyed collectives take their buffers of class 5 as
requests of rank A do (R163, R219), so ranks B and C wait until they have. -/
def servedRank (n : Nat) : Nat := if n % 6 = 5 then 0 else 2

/-- A pool's queue served as far as `low`. -/
def State.serveQueue (s : State) (n low : Nat) : State := s.serve n low (s.pool n).waiting.length

/-- The pool of a hub that fits a size (R160): the smallest class whose buffer holds it. -/
def poolFor (hub size : Nat) : Option Nat :=
  ((List.range 6).find? fun c => decide (size ≤ 256 * 4 ^ c)).map fun c => 6 * hub + c

/-- A request is refused: its pool has no buffers or is BROKEN (R160, R166). The requester is told, and its operation fails
with the fault of its own chapter. -/
def State.refuse (s : State) (n o : Nat) : State := (s.bump (F.HOP_CNT_REFUSED.ix n)).emit (.refused (n / 6) o)

/-- HOP_LIST (R166): a free list cannot be corrected; the pool is BROKEN, and refuses the requests that wait in its queue. -/
def State.breakPool (s : State) (n : Nat) : State :=
  let p := s.pool n
  let s1 := ((s.set (F.HOP_POOL_STAT_BROKEN.ix n) 1).hopEvents).raise 0x79 .uc (locChip (0x18 + n / 6)) 0 n
  p.waiting.foldl (fun t o => t.refuse n o) (s1.setPool n { p with waiting := [] })

/-- Whether a pool refuses every request. -/
def State.refuses (s : State) (n : Nat) : Bool := s.poolCount n == 0 || s.flag (F.HOP_POOL_STAT_BROKEN.ix n)

/-- A request of an owner (R160, R162, R163): granted, queued or refused. `listError` says that reading the free list met an
error that cannot be corrected. -/
def State.askPool (s : State) (n owner : Nat) (listError : Bool) : State :=
  let s1 := if (listError || s.forcedAt 0x79 (locChip (0x18 + n / 6))) && !s.refuses n then s.breakPool n else s
  if s1.refuses n then s1.refuse n owner
  else if s1.grants n && s1.grantable n owner then s1.grant n owner
  else
    let p := s1.pool n
    (s1.setPool n { p with waiting := p.waiting ++ [owner] }).bump (F.HOP_CNT_WAITED.ix n)

/-- A handle is released (R164): pushed unchecked, ALLOC and HELD fall, and waiting requests are served. A BROKEN pool
counts and discards it (R166). A handle whose CLASS is 6 or 7 names no pool of Table MEM-12; it goes by the same sum, 6 × HUB
+ CLASS, to a pool of the other hub or to none of the twelve (DESIGN CHOICE: R164 checks nothing and does not say). -/
def State.releaseHandle (s : State) (owner handle : Nat) : State :=
  let n := 6 * bits handle 31 31 + bits handle 30 28
  let dec := fun (t : State) (f : Fld) => t.set f (wrapDown f.width (t.get f))
  let s1 := dec (dec s (F.HOP_POOL_ALLOC_ALLOC.ix n)) (F.HOP_HELD_HELD.ix n owner)
  if s1.flag (F.HOP_POOL_STAT_BROKEN.ix n) then s1.relevel n
  else
    let p := s1.pool n
    let s2 := (s1.setPool n { p with pushed := bits handle 27 0 :: p.pushed }).set (F.HOP_POOL_FREE_FREE_LEN.ix n)
      (s1.get (F.HOP_POOL_FREE_FREE_LEN.ix n) + 1)
    (s2.relevel n).serveQueue n (servedRank n)

/-- Several handles released. -/
def State.releaseHandles (s : State) (owner : Nat) (handles : List Nat) : State :=
  handles.foldl (fun t h => t.releaseHandle owner h) s

/-- HOP_AUDIT (R165): GO holds the pool's grants and starts the walk; ignored while one runs. -/
def execHopAudit (pool : Nat) (s : State) : Host.Outcome State Fault Refusal :=
  .next (s.hostWrite 11 fun t => t.set (F.HOP_POOL_STAT_AUDIT_BUSY.ix pool) 1)

/-- An audit ends (R165): the entries found, and those out of range; grants resume. -/
def State.auditDone (s : State) (n : Nat) : State :=
  let p := s.pool n
  let c := s.poolCount n
  (s.setAll [(F.HOP_POOL_STAT_AUDIT_BUSY.ix n, 0), (F.HOP_AUDIT_WALK_COUNT.ix n, p.pushed.length + (c - p.fresh)),
    (F.HOP_AUDIT_OUT_COUNT.ix n, (p.pushed.filter fun i => decide (c ≤ i)).length)]).serveQueue n (servedRank n)

/-- A BROKEN pool's free list is rewritten with every index (R166). -/
def State.rebuildPool (s : State) (n : Nat) : State :=
  (((s.setPool n { s.pool n with fresh := 0, pushed := [] }).setAll [(F.HOP_POOL_STAT_BROKEN.ix n, 0),
    (F.HOP_POOL_FREE_FREE_LEN.ix n, s.poolCount n)]).hopEvents).serveQueue n (servedRank n)

/-- HOP_CNT_CLR (R171). -/
def execHopCntClr (pool : Nat) (s : State) : Host.Outcome State Fault Refusal :=
  .next (s.hostWrite 11 fun t => t.clearAll [F.HOP_CNT_WAITED.ix pool, F.HOP_CNT_REFUSED.ix pool])

/-! The HOPPER section (R161, Table MEM-14). -/

/-- COUNT of pool n in an image. -/
def imgPoolCount (img : List Byte) (n : Nat) : Nat := beAt (imgBody img 0x800C 0) (36 + 80 * n) 4
/-- MIN of owner o in pool n in an image. -/
def imgPoolMin (img : List Byte) (n o : Nat) : Nat := beAt (imgBody img 0x800C 0) (44 + 80 * n + 4 * o) 4

/-- The pools exist when the first image takes effect (R167), each at the level of its occupancy (R162): one without a shared
part is at BLACK. That is no entry into a level, and makes no event (DESIGN CHOICE). -/
def State.makePool (s : State) (img : List Byte) (n : Nat) : State :=
  let b := imgBody img 0x800C 0
  let o := 32 + 80 * n
  let c := imgPoolCount img n
  let mins := (List.range 15).map (imgPoolMin img n)
  let s1 := (s.setAll [(F.HOP_POOL_CFG_LOC.ix n, bits (beAt b o 1) 7 7), (F.HOP_POOL_CFG_AMBER.ix n, beAt b (o + 1) 1),
    (F.HOP_POOL_CFG_RED.ix n, beAt b (o + 2) 1), (F.HOP_POOL_CFG_BLACK.ix n, beAt b (o + 3) 1),
    (F.HOP_POOL_TOTAL_COUNT.ix n, c), (F.HOP_POOL_SHARED_SHARED.ix n, c - mins.sum),
    (F.HOP_POOL_FREE_FREE_LEN.ix n, c)]).setAll ((mins.zipIdx).map fun x => (F.HOP_MIN_MIN.ix n x.2, x.1))
  s1.showLevel n (s1.nextLevel n)

/-- Every pool. -/
def State.makePools (s : State) (img : List Byte) : State := (List.range 12).foldl (fun t n => t.makePool img n) s

/-- The base address of pool n (R160): pools in ascending class order, each rounded up to a multiple of its buffer
size, from the hub's Hopper area or from the carve-out, hub 0 first. -/
def State.poolBase (s : State) (n : Nat) : Nat :=
  let img := s.img.running.getD []
  let loc := fun k => s.get (F.HOP_POOL_CFG_LOC.ix k)
  let size := fun k => 256 * 4 ^ (k % 6)
  let up := fun a k => (a + size k - 1) / size k * size k
  let start := if loc n = 0 then 0x202000000 + n / 6 * 0x10000000 else beAt (imgBody img 0x800C 0) 0 6
  let before := (List.range n).filter fun k => loc k == loc n && (loc n == 1 || k / 6 == n / 6)
  up (before.foldl (fun a k => up a k + s.poolCount k * size k) start) n

end Sys2Proof.Machine
end

