-- ==== Sys2Proof/Machine/Coll.lean ====
section
/-! DEFINITION. Collectives (R201–R226): chain templates, posting, firing, chunks and packets, reduction slots, grants,
releases and completion. -/

namespace Sys2Proof.Machine

/-! Chain templates (R204). -/

/-- An element of the COLL_CHAINS body. -/
def imgElem (img : List Byte) (i : Nat) : ElemDef :=
  let b := imgBody img 0x8007 0
  let o := 16 + 16 * beAt b 0 2 + 32 * i
  let x := beAt b o 1
  ⟨bits x 7 4, bit x 3, bit x 2, bit x 1, bit x 0, beAt b (o + 1) 1, beAt b (o + 2) 2, beAt b (o + 4) 4,
    beAt b (o + 8) 3, bits (beAt b (o + 11) 1) 7 7, beAt b (o + 11) 1 % 128, beAt b (o + 12) 4, beAt b (o + 16) 4,
    beAt b (o + 20) 2, beAt b (o + 22) 2⟩

/-- CHAINS of an image. -/
def imgChains (img : List Byte) : Nat := beAt (imgBody img 0x8007 0) 0 2

/-- Offset of a chain's directory entry. -/
def chainOff (c : Nat) : Nat := 16 + 16 * c

/-- A field of a chain's directory entry. -/
def imgChain (img : List Byte) (c o n : Nat) : Nat := beAt (imgBody img 0x8007 0) (chainOff c + o) n

/-- An element that has not fired. -/
def Elem.fresh (d : ElemDef) : Elem := ⟨d, false, false, false, 0, 0, [], [], [], [], [], 0⟩

/-! Collectives. -/

/-- The collective of a group and eff_seq. -/
def State.coll (s : State) (g q : Nat) : Option Coll := s.col.colls.find? fun c => c.group == g && c.seq == q

/-- A collective written. -/
def State.setColl (s : State) (c : Coll) : State :=
  { s with col := { s.col with
    colls := s.col.colls.map fun x => if x.group == c.group && x.seq == c.seq then c else x } }

/-- A change of one element. -/
def State.onElem (s : State) (g q i : Nat) (f : Elem → Elem) : State :=
  match s.coll g q with
  | none => s
  | some c => s.setColl { c with elems := c.elems.modify i f }

/-- Bytes of an element in the wire format. -/
def Coll.eb (c : Coll) : Nat := if c.wire32 then 4 else 2

/-- Bytes of a full chunk (R206). -/
def Coll.cb (c : Coll) : Nat := 65536 * c.eb

/-- Chunks of the buffer. -/
def Coll.chunks (c : Coll) : Nat := (c.len + c.cb - 1) / c.cb

/-- Bytes of a chunk: the last holds what LEN leaves. -/
def Coll.chunkLen (c : Coll) (k : Nat) : Nat := min c.cb (c.len - k * c.cb)

/-- The index of the element of a chain that satisfies a test. -/
def Coll.find (c : Coll) (p : Elem → Bool) : Option (Nat × Elem) :=
  ((c.elems.zipIdx).find? fun x => p x.1).map fun x => (x.2, x.1)

/-- Signed 32-bit difference (R202): whether `a` is before `b`. -/
def seqBefore (a b : Nat) : Bool := decide (2 ^ 31 ≤ (a + 2 ^ 32 - b % 2 ^ 32) % 2 ^ 32)

/-! Slots (R211, R214). -/

/-- Whether a slot number of a hub is neither guaranteed, busy nor reclaiming. -/
def State.slotFree (s : State) (hub n : Nat) : Bool :=
  (Tab.find s.col.slots (128 * hub + n)).isNone && !(s.col.colls.any fun c => c.home == hub && c.gslot == some n)

/-- The lowest free slot number of a hub. -/
def State.firstSlot (s : State) (hub : Nat) : Option Nat := (List.range 128).find? (s.slotFree hub)

/-- Slots that an element holds. -/
def State.slotsHeld (s : State) (c : Coll) (i : Nat) : Nat :=
  (s.col.slots.filter fun x => x.2.group == c.group && x.2.seq == c.seq && x.2.elem == i && !x.2.reclaiming).length

/-- MAX_SLOTS of an element. -/
def State.maxSlots (s : State) (e : Elem) : Nat :=
  if e.d.maxSlots = 0 then s.get F.COL_CFG_MAX_SLOTS_DEF else e.d.maxSlots

/-- Whether an element has a chunk that waits for a slot (R212). -/
def State.elemWaits (s : State) (hub : Nat) (c : Coll) (i : Nat) (e : Elem) : Bool :=
  e.d.kind == 2 && e.d.hub == hub && e.fired && !e.done && decide (e.next < e.d.nch) &&
    decide (s.slotsHeld c i < s.maxSlots e)

/-- COL_HUB follows the slots (R211–R214). -/
def State.countSlots (s : State) : State :=
  s.setAll ([0, 1].flatMap fun j =>
    let mine := s.col.slots.filter fun x => x.1 / 128 == j
    let wait := (s.col.colls.map fun c => ((c.elems.zipIdx).map fun x =>
      if s.elemWaits j c x.2 x.1 then x.1.d.nch - x.1.next else 0).sum).sum
    [(F.COL_HUB_FREE.ix j, ((List.range 128).filter (s.slotFree j)).length),
     (F.COL_HUB_POSTED.ix j, (s.col.colls.filter fun c => c.home == j && c.gslot.isSome).length),
     (F.COL_HUB_RECLAIMING.ix j, (mine.filter fun x => x.2.reclaiming).length),
     (F.COL_HUB_WAITING.ix j, min 255 wait)])

/-- A slot written. -/
def State.setSlot (s : State) (n : Nat) (x : Slot) : State :=
  { s with col := { s.col with slots := Tab.insert s.col.slots n x } }

/-- A slot made free. -/
def State.freeSlot (s : State) (n : Nat) : State := { s with col := { s.col with slots := Tab.erase s.col.slots n } }

/-- The slot of a chunk that is being reduced. -/
def State.slotOf (s : State) (g q k : Nat) : Option (Nat × Slot) :=
  s.col.slots.find? fun x => x.2.group == g && x.2.seq == q && x.2.chunk == k && !x.2.reclaiming

/-- A collective fault (R225, R226): its event bit, the first-fault registers and the record. -/
def State.raiseCol (s : State) (source : Nat) (cls : FClass) (ev : Option Fld) (hub g q attempt chunk : Nat) : State :=
  let s1 := match ev with
    | some f => s.evt f
    | none => s
  let s2 := if s1.get F.COL_FE_INFO_SOURCE != 0 then s1
    else s1.setAll [(F.COL_FE_INFO_SOURCE, source), (F.COL_FE_INFO_HUB, hub), (F.COL_FE_INFO_GROUP, g),
      (F.COL_FE_SEQ_SEQ, q), (F.COL_FE_CHUNK_ATTEMPT, attempt), (F.COL_FE_CHUNK_CHUNK, chunk)]
  s2.raise source cls (locHub hub) 0 g q

/-! Completion (R203, R205, R215). -/

/-- Whether a collective could not complete by its deadline (R216, R222): its TALLY has failed and its descriptor is late. It
keeps its guaranteed slot until it is cancelled. -/
def State.overdue (s : State) (c : Coll) : Bool :=
  (c.elems.any fun e => e.d.kind == 7 && e.failed) && (match s.flight c.sid with
    | some f => f.entry.late
    | none => false)

/-- A chain whose elements are all done: the collective lingers, its guaranteed slot is released, and its descriptor is
done (R203, R215), unless it is overdue. -/
def State.settleColl (s : State) (g q : Nat) : State :=
  match s.coll g q with
  | none => s
  | some c =>
    if c.elems.all (fun e => e.done) && !c.linger && !s.overdue c then
      (s.setColl { c with linger := true, gslot := none }).onFlight c.sid fun f =>
        { f with done := true, failed := f.failed || c.elems.any fun e => e.failed }
    else s

/-- An element is complete (R205): SIG_INC is added to its counter, a failure poisons it. -/
def State.endElem (s : State) (g q i : Nat) (failed : Bool) : State :=
  match s.coll g q with
  | none => s
  | some c => match c.elems[i]? with
    | none => s
    | some e =>
      if e.done then s
      else
        let s1 := s.onElem g q i fun x => { x with fired := true, done := true, failed := failed }
        let s2 := if bit e.d.sig 15 then s1.addGlobal ((e.d.sig % 4096 + c.ctrBase) % 4096) e.d.inc failed else s1
        s2.settleColl g q

/-! Packets (R206, R207). -/

/-- The ADDR field of a COL packet. -/
def colAddr (g attempt chunk : Nat) : Nat := g % 65536 * 2 ^ 32 + attempt % 4 * 2 ^ 30 + chunk % 2 ^ 30

/-- A COL packet without data. -/
def colPacket (op dst : Nat) (mcast : Bool) (g q attempt chunk : Nat) : Packet :=
  packetOf 3 op dst q (colAddr g attempt chunk) 0 mcast true false 0 []

/-- An access of element `i` to its buffers (R141, R159): one that reaches no store, or a far-tier link that is down, is
recorded once for the collective, and the element and its descriptor fail. -/
def State.collAccess (s : State) (c : Coll) (i : Nat) (reads writes : List (Nat × Nat)) : State :=
  let x := s.rangeFaults (s.flightId c.sid) reads writes
  if !x.1 then x.2
  else match s.coll c.group c.seq with
    | none => s
    | some d =>
      let t := if d.bad then s else x.2
      ((t.setColl { d with bad := true, elems := d.elems.modify i fun e => { e with failed := true } }).failFlight c.sid)

/-- A chunk goes out of its buffer as one operation. -/
def State.sendChunk (s0 : State) (c : Coll) (i hub op dst : Nat) (mcast : Bool) (attempt k : Nat) : State :=
  let n := c.chunkLen k
  let s := s0.collAccess c i [(c.addr + k * c.cb, n)] []
  s.injectAll hub ((List.range (packetsOf n)).map fun i =>
    let xs := s.fetch (c.addr + k * c.cb + 4096 * i) (packetLen n i)
    packetOf 3 op dst c.seq (colAddr c.group attempt k) i mcast (i + 1 == packetsOf n) (xs.any Prod.snd) xs.length
      (xs.map Prod.fst))

/-- The FP32 values of wire bytes (R210). -/
def wireVals (eb : Nat) : Nat → List Byte → List F32
  | 0, _ => []
  | n + 1, bs => BitVec.ofNat 32 (if eb = 4 then beNat (bs.take 4) else beNat (bs.take 2) * 65536) ::
    wireVals eb n (bs.drop eb)

/-- The wire bytes of a value (R210). -/
def wireBytes (eb : Nat) (v : F32) : List Byte := if eb = 4 then beBytes 4 v.toNat else beBytes 2 (rneBf16 (f32Val v))

/-- Values added into a slot from its first place on (R210). -/
def addInto : List F32 → List F32 → List F32
  | v :: vs, x :: xs => add32 v x :: addInto vs xs
  | vs, [] => vs
  | [], _ => []

/-- A packet's values added into a slot. -/
def Slot.sum (x : Slot) (eb pkt : Nat) (data : List Byte) (poison : Bool) : Slot :=
  let o := 4096 * pkt / eb
  { x with
    acc := x.acc.take o ++ addInto (x.acc.drop o) (wireVals eb (data.length / eb) data)
    poison := x.poison || poison }

/-- The values a slot is preloaded with (R210), and whether they are poisoned. -/
def State.preload (s : State) (c : Coll) (e : Elem) (k : Nat) : List F32 × Bool :=
  let n := c.chunkLen k
  if e.d.loc then
    let xs := s.fetch (c.addr + k * c.cb) n
    (wireVals c.eb (n / c.eb) (xs.map Prod.fst), xs.any Prod.snd)
  else (List.replicate (n / c.eb) 0#32, false)

/-- The reads of a chunk's preload. -/
def State.preloadAccess (s : State) (c : Coll) (i : Nat) (e : Elem) (k : Nat) : State :=
  if e.d.loc then s.collAccess c i [(c.addr + k * c.cb, c.chunkLen k)] [] else s

/-- A slot is given to a chunk (R208): preloaded, and its senders granted. -/
def State.takeSlot (s0 : State) (n : Nat) (c : Coll) (i : Nat) (e : Elem) : State :=
  let k := e.d.c0 + e.next
  let s := s0.preloadAccess c i e k
  let p := s.preload c e k
  let pool := 6 * e.d.hub + 5
  let h1 := s.nextHandle pool
  let s1 := if e.d.keyed then s.grant pool 11 else s
  let h2 := s1.nextHandle pool
  let s2 := if e.d.keyed then s1.grant pool 11 else s1
  let x : Slot := ⟨c.group, c.seq, i, k, 0, 0, p.1, p.2, 0, [], [], if e.d.keyed then [h1, h2] else [], false⟩
  ((s2.setSlot n x).onElem c.group c.seq i fun y => { y with next := y.next + 1 }).inject e.d.hub
    (colPacket 0x11 e.d.peer e.d.peerMc c.group c.seq 0 k)

/-- Whether two Hopper buffers of class 5 can be had for a keyed chunk (R219). -/
def State.keyedRoom (s : State) (hub : Nat) : Bool :=
  let n := 6 * hub + 5
  let ok := fun (t : State) => t.grants n && t.grantable n 11
  ok s && ok (s.grant n 11)

/-- The chunks that can take a slot now (R212, R218): collective, element number, element. GATHER chains wait while
grants are held. -/
def State.waiters (s : State) (hub : Nat) : List (Coll × Nat × Elem) :=
  s.col.colls.flatMap fun c =>
    if c.linger || (c.gather && s.flag F.COL_STAT_GRANT_HOLD) then []
    else ((c.elems.zipIdx).filter fun x => s.elemWaits hub c x.2 x.1 && (!x.1.d.keyed || s.keyedRoom hub)).map fun x =>
      (c, x.2, x.1)

/-- The order in which shared slots are given (R212): group, eff_seq by signed difference, chunk. -/
def chunkBefore (a b : Coll × Nat × Elem) : Bool :=
  if a.1.group != b.1.group then decide (a.1.group < b.1.group)
  else if a.1.seq != b.1.seq then seqBefore a.1.seq b.1.seq
  else decide (a.2.2.d.c0 + a.2.2.next < b.2.2.d.c0 + b.2.2.next)

/-- The first of a list in an order. -/
def firstBy {α : Type} (before : α → α → Bool) : List α → Option α
  | [] => none
  | a :: t => match firstBy before t with
    | none => some a
    | some b => if before b a then some b else some a

/-- One free slot is given (R211, R212): a collective's free guaranteed slot first, then a shared slot. -/
def State.giveSlot (s : State) (hub : Nat) : Option State :=
  let w := s.waiters hub
  let own := w.filter fun x => x.1.home == hub && (match x.1.gslot with
    | some n => (Tab.find s.col.slots (128 * hub + n)).isNone
    | none => false)
  match firstBy chunkBefore own with
  | some x => some (s.takeSlot (128 * hub + x.1.gslot.getD 0) x.1 x.2.1 x.2.2)
  | none => match s.firstSlot hub, firstBy chunkBefore w with
    | some n, some x => some (s.takeSlot (128 * hub + n) x.1 x.2.1 x.2.2)
    | _, _ => none

/-- Free slots of a hub are given while a chunk waits. -/
def State.giveSlots (s : State) (hub : Nat) : Nat → State
  | 0 => s
  | k + 1 => match s.giveSlot hub with
    | none => s
    | some t => t.giveSlots hub k

/-- A slot's values are written back to the chunk's place (R210). -/
def State.writeBack (s : State) (c : Coll) (e : Elem) (x : Slot) : State :=
  let a := (if e.d.out2 then c.addr2 else c.addr) + x.chunk * c.cb
  (s.collAccess c x.elem [] [(a, c.chunkLen x.chunk)]).deposit a ((x.acc.flatMap (wireBytes c.eb)).map fun b => (b, x.poison))

/-- A chunk of a REDUCE element has ended: its buffers are released, and the element completes with its last chunk. -/
def State.chunkEnd (s : State) (c : Coll) (x : Slot) (failed : Bool) : State :=
  let s1 := (s.releaseHandles 11 x.handles).onElem c.group c.seq x.elem fun e =>
    { e with finished := e.finished + 1, failed := e.failed || failed, written := e.written.add x.chunk }
  match (s1.coll c.group c.seq).bind fun d => d.elems[x.elem]? with
  | none => s1
  | some e => if e.d.nch ≤ e.finished then s1.endElem c.group c.seq x.elem e.failed else s1

/-- The keyed chunks of a hub whose pool refuses every request (R160, R166, R219): those that would take a slot now. -/
def State.refusedChunks (s : State) (hub : Nat) : List (Coll × Nat × Elem) :=
  if !s.refuses (6 * hub + 5) then []
  else s.col.colls.flatMap fun c =>
    if c.linger || (c.gather && s.flag F.COL_STAT_GRANT_HOLD) then []
    else ((c.elems.zipIdx).filter fun x => s.elemWaits hub c x.2 x.1 && x.1.d.keyed).map fun x => (c, x.2, x.1)

/-- A keyed chunk whose buffers are refused fails (R160, R166): CHUNK_FAIL, its place poisoned as that of a chunk whose reissues
are spent. -/
def State.refuseChunk (s0 : State) (hub : Nat) (c : Coll) (i : Nat) (e : Elem) : State :=
  let k := e.d.c0 + e.next
  let s := s0.preloadAccess c i e k
  let x : Slot := ⟨c.group, c.seq, i, k, 0, 0, (s.preload c e k).1, true, 0, [], [], [], false⟩
  let s1 := ((s.refuse (6 * hub + 5) 11).bump F.COL_CNT_A_FAIL).raiseCol 0x91 .uc (some F.COL_EVT_CHUNK_FAIL) e.d.hub c.group
    c.seq 0 k
  ((s1.writeBack c e x).onElem c.group c.seq i fun y => { y with next := y.next + 1 }).chunkEnd c x true

/-- Every keyed chunk whose buffers are refused fails. -/
def State.refuseChunks (s : State) (hub : Nat) : Nat → State
  | 0 => s
  | k + 1 => match s.refusedChunks hub with
    | [] => s
    | x :: _ => (s.refuseChunk hub x.1 x.2.1 x.2.2).refuseChunks hub k

/-- Chunks of every element of every collective. -/
def State.chunkCount (s : State) : Nat := (s.col.colls.map fun c => (c.elems.map fun e => e.d.nch).sum).sum

/-- Both hubs give their free slots, unless the device grants nothing (R271, R376); then the requests of ranks B and C for
buffers of class 5 are served (R163). -/
def State.giveAll (s : State) : State :=
  let n := s.chunkCount
  let t := if s.mute then s else (((s.refuseChunks 0 n).refuseChunks 1 n).giveSlots 0 128).giveSlots 1 128
  ((t.serveQueue 5 2).serveQueue 11 2).countSlots

/-- When the last chunk of each sender of a GATHER chain was complete, while lateness is measured (R220). -/
def State.noteLate (s : State) (srcs : List Nat) : State :=
  if s.flag F.COL_CFG_LATE_EN then { s with late := srcs.foldl (fun l x => Tab.insert l x s.ns64) s.late } else s

/-- A chunk is complete (R210): written back, its slot free. -/
def State.chunkDone (s : State) (n : Nat) (c : Coll) (e : Elem) (x : Slot) (srcs : List Nat) : State :=
  let s1 := if c.gather then s.noteLate srcs else s
  (((s1.writeBack c e x).freeSlot n).chunkEnd c x false).giveAll

/-- The first Gather contribution of a step is accepted (R28, R218, R224): OPEN_CTR rises, the state is GATHER, the releases
of the step before stop repeating, and lateness is measured anew. A step that a merge's close has put in GATHER takes its
first contribution there (R279). -/
def State.firstGather (s : State) (c : Coll) : State :=
  let st := s.get F.UPD_STEP_STAT_STATE
  if c.gather && (st == 0 || (st == 1 && !s.step.opened)) then
    let s1 := if bit c.openCtr 15 then s.addGlobal (c.openCtr % 4096) 1 false else s
    ({ s1 with
      step := { s1.step with
        gathered := 0, exchanged := 0, orthDone := 0, abandoned := false, opened := true, nonfinite := [], failed := [] }
      col := { s1.col with releases := [] }
      late := [] }).setStep 1
  else s

/-- A packet of a chunk is summed into its slot (R209, R210), which completes by count. -/
def State.sumPacket (s : State) (n : Nat) (c : Coll) (e : Elem) (x : Slot) (k : Packet) : State :=
  let y := x.sum c.eb k.pkt k.data k.poison
  let z := { y with count := y.count + 1, totals := if k.last then y.totals ++ [(k.src, k.pkt + 1)] else y.totals }
  let s1 := s.add64 F.COL_REDUCED_LO_BYTES F.COL_REDUCED_HI_BYTES k.data.length
  if z.totals.length == e.d.fanin && z.count == (z.totals.map Prod.snd).sum then
    s1.chunkDone n c e z (z.totals.map Prod.fst)
  else s1.setSlot n z

/-- A duplicate is discarded and counted (R219, R222). -/
def State.dup (s : State) (k : Nat) : State := s.bump F.COL_CNT_B_DUP k

/-- A COL packet or grant that matches nothing (R208, R209, R223). -/
def State.colStale (s : State) : State := s.bump F.COL_CNT_B_STALE

/-- A packet of a keyed chunk is staged by its sender (R219): a third sender is STALE; the first copy complete by count
is added and completes the slot, the other is dropped as DUP. -/
def State.stagePacket (s : State) (n : Nat) (c : Coll) (e : Elem) (x : Slot) (k : Packet) : State :=
  let known := x.stages.any fun t => t.src == k.src
  if !known && 2 ≤ x.stages.length then s.colStale
  else
    let old := (x.stages.find? fun t => t.src == k.src).getD ⟨k.src, [], none, false⟩
    let st : Stage := ⟨k.src, (k.pkt, k.data) :: old.pkts, if k.last then some (k.pkt + 1) else old.total,
      old.poison || k.poison⟩
    let others := x.stages.filter fun t => t.src != k.src
    if st.total == some st.pkts.length then
      let y := st.pkts.foldr (fun p a => a.sum c.eb p.1 p.2 st.poison) x
      let n64 := (st.pkts.map fun p => p.2.length).sum
      ((s.add64 F.COL_REDUCED_LO_BYTES F.COL_REDUCED_HI_BYTES n64).dup ((others.map fun t => t.pkts.length).sum)).chunkDone n c e { y with stages := [] } [k.src]
    else s.setSlot n { x with stages := st :: others }

/-! Grants and sends (R208, R213, R215). -/

/-- Whether an element has failed. -/
def State.elemFailed (s : State) (g q i : Nat) : Bool :=
  match (s.coll g q).bind fun c => c.elems[i]? with
  | none => false
  | some e => e.failed

/-- A SEND element sends the chunks it holds grants for, in increasing index (R205). -/
def State.sendReady (s : State) (g q i : Nat) : Nat → State
  | 0 => s
  | n + 1 => match s.coll g q with
    | none => s
    | some c => match c.elems[i]? with
      | none => s
      | some e => match e.grants.find? fun x => x.1 == e.d.c0 + e.next with
        | none => s
        | some x =>
          let s1 := (s.sendChunk c i e.d.hub 0x10 e.d.peer false x.2 x.1).onElem g q i fun y =>
            { y with
              next := y.next + 1
              grants := y.grants.filter fun z => z.1 != x.1
              sent := Tab.insert y.sent x.1 x.2 }
          if e.next + 1 == e.d.nch then s1.endElem g q i (s1.elemFailed g q i) else s1.sendReady g q i n

/-- A grant for a SEND element of a collective at this member: a chunk sent before is sent again for a new ATTEMPT
(R213, R215), any other is held until its turn. -/
def State.takeGrant (s : State) (c : Coll) (i : Nat) (e : Elem) (k attempt : Nat) : State :=
  if (Tab.find e.sent k).isSome then
    if Tab.find e.sent k == some attempt then s
    else (s.sendChunk c i e.d.hub 0x10 e.d.peer false attempt k).onElem c.group c.seq i fun y =>
      { y with sent := Tab.insert y.sent k attempt }
  else
    let s1 := s.onElem c.group c.seq i fun y => { y with grants := (k, attempt) :: y.grants.filter fun z => z.1 != k }
    if e.fired && !e.done then s1.sendReady c.group c.seq i e.d.nch else s1

/-- The SEND element of a chain that a grant is for. -/
def Coll.sendElem (c : Coll) (k src : Nat) : Option (Nat × Elem) :=
  c.find fun e => e.d.kind == 1 && decide (e.d.c0 ≤ k ∧ k < e.d.c0 + e.d.nch) && (e.d.peerMc || e.d.peer == src)

/-! Posting (R201, R202, R211). -/

/-- The effective sequence number (R202). -/
def State.effSeq (s : State) (seq stride : Nat) : Nat := (seq + (s.outerEpoch + 1) * stride) % 2 ^ 32

/-- The home hub of a chain. -/
def imgHome (img : List Byte) (c : Nat) : Nat := bits (imgChain img c 5 1) 5 5

/-- The collective that a COLL descriptor posts (Table COL-1). -/
def State.collOf (s : State) (e : QEntry) (slot : Nat) : Coll :=
  let img := s.image
  let ch := e.at 24 2
  let fl := imgChain img ch 5 1
  ⟨e.at 26 2, s.effSeq (e.at 28 4) (imgChain img ch 8 2), e.sid, bit fl 7, bit fl 6, bits fl 5 5, bit fl 4,
    imgChain img ch 6 2, e.at 32 6, e.at 48 6, e.at 40 4, e.at 44 4, e.at 54 2,
    (List.range (imgChain img ch 4 1)).map fun i => Elem.fresh (imgElem img (imgChain img ch 0 4 + i)), false,
    some slot, s.outerEpoch, false⟩

/-- The grants that wait for a collective reach its elements. -/
def State.claimEarly (s : State) (g q : Nat) : List Early → State
  | [] => s
  | x :: t =>
    let s1 := match s.coll g q with
      | none => s
      | some c => match c.sendElem x.chunk x.src with
        | none => s.colStale
        | some y => s.takeGrant c y.1 y.2 x.chunk x.attempt
    s1.claimEarly g q t

/-- A collective is posted with its guaranteed slot. -/
def State.postColl (s : State) (e : QEntry) (slot : Nat) : State :=
  let c := s.collOf e slot
  let mine := fun (x : Early) => x.group == c.group && x.seq == c.seq
  let s1 := { s with col := { s.col with
    colls := s.col.colls ++ [c], early := s.col.early.filter fun x => !mine x } }
  (s1.claimEarly c.group c.seq (s.col.early.filter mine)).countSlots

/-! Firing (R205). -/

/-- The counter number of an element's trigger. -/
def Coll.trigCtr (c : Coll) (e : Elem) : Nat := 4096 + (e.d.trig % 4096 + c.ctrBase) % 4096

/-- Whether an element's trigger is met. -/
def State.trigMet (s : State) (c : Coll) (e : Elem) : Bool :=
  !bit e.d.trig 15 ||
    decide ((s.ctr .chip (c.trigCtr e) + 2 ^ 32 - (e.d.thr + c.thrBase) % 2 ^ 32) % 2 ^ 32 < 2 ^ 31)

/-- DESC_BAD of an element (R205). -/
def State.elemBad (s : State) (c : Coll) : State :=
  let s1 := s.evt F.SEQ_EVT_DESC_BAD
  let s2 := if s1.get F.SEQ_FE_INFO_SOURCE != 0 then s1
    else s1.setAll [(F.SEQ_FE_DESC_DESC_ID, s1.flightId c.sid), (F.SEQ_FE_INFO_SOURCE, 0x51), (F.SEQ_FE_INFO_CHIP, 1)]
  s2.raise 0x51 .uc (locChip 0x18) (s.flightId c.sid)

/-- An element of a kind fires when its trigger is met (R205): one that waited on a poisoned counter, or names a chunk
beyond the buffer, fails. -/
def State.fireElem (s : State) (g q i kind : Nat) (run : Coll → Elem → State → State) : State :=
  match s.coll g q with
  | none => s
  | some c => match c.elems[i]? with
    | none => s
    | some e =>
      if e.d.kind == kind && !e.fired && !c.linger && s.trigMet c e && !s.fatal then
        if bit e.d.trig 15 && s.ctrPoison .chip (c.trigCtr e) then s.endElem g q i true
        else if decide (1 ≤ kind ∧ kind ≤ 4) && decide (c.chunks < e.d.c0 + e.d.nch) then
          (s.elemBad c).endElem g q i true
        else run c e (s.onElem g q i fun x => { x with fired := true })
      else s

/-! Releases (R224). -/

/-- COL_RELEASE with the committed anchor version. -/
def State.releasePacket (s : State) (c : Coll) (e : Elem) : Packet :=
  packetOf 3 0x15 e.d.peer c.seq (colAddr c.group 0 0) 0 true true false 16
    (beBytes 8 s.outerEpoch ++ beBytes 1 (s.get F.UPD_ANCHOR_MASK_MASK) ++ beBytes 7 0)

/-- A RELEASE element whose gateway has committed since the collective was posted sends its first release and is done;
before, it waits. -/
def State.tryRelease (s : State) (g q i : Nat) : State :=
  match s.coll g q with
  | none => s
  | some c => match c.elems[i]? with
    | none => s
    | some e =>
      if e.d.kind == 6 && e.fired && !e.done && s.outerEpoch != c.epoch then
        let k := s.releasePacket c e
        let s1 := { s with col := { s.col with releases := s.col.releases ++ [Release.mk g q i e.d.hub k] } }
        (s1.inject e.d.hub k).endElem g q i false
      else s

/-- Every waiting RELEASE element, after a commit. -/
def State.releaseAll (s : State) : State :=
  s.col.colls.foldl (fun t c => (List.range c.elems.length).foldl (fun u i => u.tryRelease c.group c.seq i) t) s

/-! Cancelling (R216). -/

/-- Elements of a collective that are not done complete as failed. -/
def State.failElems (s : State) (g q : Nat) : List Nat → State
  | [] => s
  | i :: t => (s.endElem g q i true).failElems g q t

/-- A collective that is not complete is cancelled (R216): its elements and its descriptor fail, its slots, grants and early
grants are released, and it does not linger. -/
def State.cancelColl (s : State) (g q : Nat) : State :=
  match (s.coll g q).filter fun c => !c.linger with
  | none => s
  | some c =>
    let s1 := (s.failElems g q (List.range c.elems.length)).onFlight c.sid fun f => { f with done := true, failed := true }
    let mine := fun (x : Slot) => x.group == g && x.seq == q
    let handles := (s1.col.slots.filter fun x => mine x.2 && !x.2.reclaiming).flatMap fun x => x.2.handles
    let s2 := { s1 with col := { s1.col with
      colls := s1.col.colls.filter fun x => !(x.group == g && x.seq == q)
      slots := s1.col.slots.filter fun x => !mine x.2 || x.2.reclaiming
      early := s1.col.early.filter fun x => !(x.group == g && x.seq == q)
      releases := s1.col.releases.filter fun x => !(x.group == g && x.seq == q) } }
    (((s2.releaseHandles 11 handles).raiseCol 0x95 .uc (some F.COL_EVT_CANCELLED) c.home g q 0 0)).giveAll

/-- A TALLY element that lacks reports at its deadline (R222): TALLY_SHORT, and it fails. -/
def State.tallyShort (s : State) (g q : Nat) : State :=
  match s.coll g q with
  | none => s
  | some c => match c.find fun e => e.d.kind == 7 && !e.done with
    | none => s
    | some x => (s.raiseCol 0x94 .uc (some F.COL_EVT_TALLY_SHORT) x.2.d.hub g q 0 0).endElem g q x.1 true

/-- TALLY_SHORT of a collective, whose step does not commit (R222, R23). -/
def State.tallyMiss (s : State) (g q : Nat) : State :=
  let t := s.tallyShort g q
  let st := s.get F.UPD_STEP_STAT_STATE
  if decide (1 ≤ st ∧ st ≤ 4) then t.abandonStep else t

/-- A broadcast chunk is sent again (R223): BCAST_RESEND. -/
def State.resendChunk (s : State) (c : Coll) (i : Nat) (e : Elem) (dst : Nat) (mcast : Bool) (k : Nat) : State :=
  ((s.bump F.COL_CNT_C_RESENT).raiseCol 0x93 .ce none e.d.hub c.group c.seq 0 k).sendChunk c i e.d.hub 0x12 dst mcast 0 k

/-- An armed routing flip takes effect at the step boundary (R221). -/
def State.flipRoutes (s : State) : State :=
  if s.flag F.COL_STAT_FLIP_ARMED then
    (s.deviceChange fun t => t.selectVersion (1 - t.get F.RTE_SEL_SEL)).set F.COL_STAT_FLIP_ARMED 0
  else s

end Sys2Proof.Machine
end

