-- ==== Sys2Proof/Machine/Move.lean ====
section
/-! DEFINITION. Meanings of the MOVE commands (R65, R128, R141, R143–R145, R159). A move engine's bytes stand at their
destination when the descriptor has issued; it completes with DESCRIPTOR_COMPLETION. -/

namespace Sys2Proof.Machine

/-! MOVE body (Table IMG-8). -/

/-- OP. -/
def QEntry.moveOp (e : QEntry) : Nat := bits (e.at 24 1) 7 4
/-- Bytes of a transpose element. -/
def QEntry.moveElem (e : QEntry) : Nat := 2 ^ bits (e.at 24 1) 3 2
/-- ENGINE. -/
def QEntry.moveEngine (e : QEntry) : Nat := e.at 24 1 % 4
/-- LEN. -/
def QEntry.moveLen (e : QEntry) : Nat := e.at 48 4
/-- Rows. -/
def QEntry.moveRows (e : QEntry) : Nat := e.at 52 2 + 1
/-- Source pitch in bytes. -/
def QEntry.srcPitch (e : QEntry) : Nat := 64 * e.at 54 3
/-- Destination pitch in bytes. -/
def QEntry.dstPitch (e : QEntry) : Nat := 64 * e.at 57 3

/-- An address whose base select is non-zero is an offset added to that region base register (R128). -/
def QEntry.based (e : QEntry) (sel addr : Nat) : Nat :=
  if sel = 0 then addr else (addr + (e.bases[sel]?).getD 0) % 2 ^ 48

/-- The source address. -/
def QEntry.src (e : QEntry) : Nat := e.based (bits (e.at 25 1) 6 4) (e.at 32 6)
/-- The destination address. -/
def QEntry.dst (e : QEntry) : Nat := e.based (e.at 25 1 % 8) (e.at 40 6)

/-- The ranges that a MOVE reads (`src`) or writes. -/
def QEntry.moveRanges (e : QEntry) (src : Bool) : List (Nat × Nat) :=
  let a := if src then e.src else e.dst
  let p := if src then e.srcPitch else e.dstPitch
  match e.moveOp with
  | 1 => (List.range e.moveRows).map fun i => (a + i * p, e.moveLen)
  | 2 => (List.range 64).map fun i => (a + i * p, 64 * e.moveElem)
  | _ => [(a, e.moveLen)]

/-- Whether a range lies in a region's SRAM. -/
def inRegion (r : Nat) (x : Nat × Nat) : Bool :=
  decide (r * 0x1000000 ≤ x.1) && decide (x.1 + x.2 ≤ (r + 1) * 0x1000000)

/-- Whether a MOVE can issue on its region (R128, Table QRN-7, R136). -/
def moveOk (r : Nat) (e : QEntry) : Bool :=
  let own := fun src => (e.moveRanges src).all (inRegion r)
  decide (e.moveOp ≤ 3) && decide (bits (e.at 24 1) 3 2 ≤ 2) && decide (e.moveEngine ≤ 2) &&
    (match e.moveOp with
     | 0 => decide (e.moveLen ≤ 0x1000000) && (own true || own false)
     | 1 => e.moveLen % 64 == 0 && (own true || own false)
     | 2 => own true || own false
     | _ => own false)

/-- The engine a MOVE takes: the one it names, or the lower free one. -/
def State.pickEngine (s : State) (r : Nat) (e : QEntry) : Option Nat :=
  ([0, 1].filter fun k => e.moveEngine == 2 || e.moveEngine == k).find? fun k =>
    !(s.sched.flights.any fun f => f.queue == .move r && f.unit == k)

/-- Rows copied one after another. -/
def State.copyRows (s : State) (src dst sp dp len : Nat) : Nat → State
  | 0 => s
  | n + 1 => (s.deposit dst (s.fetch src len)).copyRows (src + sp) (dst + dp) sp dp len n

/-- Row j of a transpose: the elements of column j of the source (Table QRN-7). -/
def column (rows : List (List (Byte × Bool))) (j es : Nat) : List (Byte × Bool) :=
  (rows.map fun x => (x.drop (j * es)).take es).flatten

/-- Rows written one after another. -/
def State.putRows (s : State) (dst dp : Nat) : List (List (Byte × Bool)) → State
  | [] => s
  | x :: t => (s.deposit dst x).putRows (dst + dp) dp t

/-- The bytes a MOVE moves (Table QRN-7). -/
def State.moveBytes (s : State) (e : QEntry) : State :=
  match e.moveOp with
  | 0 => s.deposit e.dst (s.fetch e.src e.moveLen)
  | 1 => s.copyRows e.src e.dst e.srcPitch e.dstPitch e.moveLen e.moveRows
  | 2 =>
    let rows := (List.range 64).map fun i => s.fetch (e.src + i * e.srcPitch) (64 * e.moveElem)
    s.putRows e.dst e.dstPitch ((List.range 64).map fun j => column rows j e.moveElem)
  | _ => s.deposit e.dst (List.replicate e.moveLen (0#8, false))

/-- The part of a range within another. -/
def overlap (x y : Nat × Nat) : Nat × Nat := (max x.1 y.1, min (x.1 + x.2) (y.1 + y.2) - max x.1 y.1)

/-- θ and M of a non-finite matrix stay unchanged while its step runs (R86): what a move wrote there is undone, `old` being
the state before it. -/
def State.keepOwned (s old : State) : List (Nat × Nat) → State
  | [] => s
  | x :: t =>
    let kept := (old.step.nonfinite.flatMap old.tensorRanges).map (overlap x)
    ((kept.filter fun y => decide (0 < y.2)).foldl (fun u y => u.deposit y.1 (old.fetch y.1 y.2)) s).keepOwned old t

/-- Bytes of a list of ranges that lie in region SRAM. -/
def sramBytes (xs : List (Nat × Nat)) : Nat := (xs.map fun x => if x.1 < 0x40000000 then x.2 else 0).sum

/-- A MOVE runs on its engine: errors its reads meet, addresses of no store and links that are down, then its bytes and
the count of QRN_FILL. -/
def State.runMove (s : State) (r k : Nat) (e : QEntry) (errors : List ReadError) : State :=
  let s1 := s.readErrors e.id (errors ++ (if e.moveOp = 3 then [] else s.armedErrors e.src))
  let x := s1.rangeFaults e.id (if e.moveOp = 3 then [] else e.moveRanges true) (e.moveRanges false)
  let t := x.2.fly (.move r) e k true x.1
  let s2 := (t.moveBytes e).keepOwned t (if t.step.nonfinite.isEmpty then [] else e.moveRanges false)
  s2.add64 (F.QRN_FILL_LO_BYTES.reg r) (F.QRN_FILL_HI_BYTES.reg r) (sramBytes (e.moveRanges false))

/-- The issue of a MOVE of one OP. -/
def State.issueMove (s : State) (r op : Nat) (errors : List ReadError) : State :=
  s.issueIn (.move r) (fun e => e.typ == 2 && (e.moveOp == op || (op == 3 && decide (3 < e.moveOp))) &&
      (!moveOk r e || (s.pickEngine r e).isSome))
    (moveOk r) fun e t =>
      match t.pickEngine r e with
      | some k => t.runMove r k e errors
      | none => t

/-- MOVE_LINEAR (R128). -/
def execMoveLinear (region : Nat) (errors : List ReadError) (s : State) : Host.Outcome State Fault Refusal :=
  .next (s.issueMove region 0 errors)

/-- MOVE_TWO_DIMENSIONAL (R128). -/
def execMoveTwoDimensional (region : Nat) (errors : List ReadError) (s : State) : Host.Outcome State Fault Refusal :=
  .next (s.issueMove region 1 errors)

/-- MOVE_TRANSPOSE (R128). -/
def execMoveTranspose (region : Nat) (errors : List ReadError) (s : State) : Host.Outcome State Fault Refusal :=
  .next (s.issueMove region 2 errors)

/-- MOVE_ZERO_FILL (R128). An undefined OP is turned away with it (DESC_BAD). -/
def execMoveZeroFill (region : Nat) (s : State) : Host.Outcome State Fault Refusal :=
  .next (s.issueMove region 3 [])

end Sys2Proof.Machine
end

