-- ==== Sys2Proof/Machine/LineCode.lean ====
section
/-! DEFINITION. The code of an Odras line frame (R228–R234): a frame as 8,704 units of 16 bytes, its lanes, the 128
interleaved codewords of the BCH(8704, 8256) code over GF(2^14), the scrambler, the lane markers and the header. Since
128 bits make a unit, bit i of every unit (most significant first) is codeword i, one bit to a unit. -/

namespace Sys2Proof.Machine

/-! The field GF(2^14) of x^14 + x^5 + x^3 + x + 1 (R233). -/

/-- A field element times x. -/
def gfDouble (a : Nat) : Nat := if 0x2000 ≤ a then (2 * a) ^^^ 0x402B else 2 * a

/-- The product of two field elements, by the top `n` bits of the second. -/
def gfMulFrom (a b : Nat) : Nat → Nat
  | 0 => 0
  | n + 1 =>
    let r := gfMulFrom a b n
    gfDouble r ^^^ (if bit b (13 - n) then a else 0)

/-- The product of two field elements. -/
def gfMul (a b : Nat) : Nat := gfMulFrom a b 14

/-- a^(2^n). -/
def gfSquares (a : Nat) : Nat → Nat
  | 0 => a
  | n + 1 => let r := gfSquares a n; gfMul r r

/-- A power of a field element. -/
def gfPow (a n : Nat) : Nat :=
  (List.range 15).foldl (fun r i => if bit n i then gfMul r (gfSquares a i) else r) 1

/-- The inverse of a field element other than 0. -/
def gfInv (a : Nat) : Nat := gfPow a 16382

/-- α^n. -/
def alphaPow (n : Nat) : Nat := gfPow 2 (n % 16383)

/-- A polynomial over the field (lowest coefficient first) times (x + r). -/
def polyStep (r : Nat) (p : List Nat) : List Nat :=
  (List.zipWith (· ^^^ ·) (0 :: p) (p.map (gfMul r) ++ [0]))

/-- The generator: the product of the minimal polynomials of α^1, α^3, …, α^63 (R233), lowest coefficient first. -/
def bchGenerator : List Nat :=
  (List.range 32).foldl (fun p i =>
    (List.range 14).foldl (fun q j => polyStep (gfSquares (alphaPow (2 * i + 1)) j) q) p) [1]

/-- The coefficients of x^447 down to x^0 of the generator. -/
def bchTaps : List Bool := ((bchGenerator.take 448).reverse).map (· == 1)

/-! Coding (R233). -/

/-- One step of the division by the generator on 128 codewords at once: the cells hold the coefficients of x^447 down to
x^0 of the remainders. -/
def bchShift (taps : List Bool) (cells : List Nat) (unit : Nat) : List Nat :=
  match cells with
  | [] => []
  | c :: cs => List.zipWith (fun x t => if t then x ^^^ (c ^^^ unit) else x) (cs ++ [0]) taps

/-- The 448 parity units of data units: parity bit k of codeword i is the coefficient of x^(447 − k). -/
def bchParity (data : List Nat) : List Nat := data.foldl (bchShift bchTaps) (List.replicate 448 0)

/-- What is left of 8,704 received units: the difference between the parity received and the parity of the data. -/
def bchRemainder (units : List Nat) : List Nat :=
  List.zipWith (· ^^^ ·) (bchParity (units.take 8256)) (units.drop 8256)

/-- Bit i of a unit, most significant first. -/
def unitBit (u i : Nat) : Bool := bit u (127 - i)

/-- The value of a polynomial with binary coefficients, highest first, at a field element. -/
def binaryAt (x : Nat) (cs : List Bool) : Nat := cs.foldl (fun r c => gfMul r x ^^^ b2n c) 0

/-- The syndromes S_1 to S_64 of one codeword, from its remainder. -/
def syndromes (rem : List Bool) : List Nat := (List.range 64).map fun j => binaryAt (alphaPow (j + 1)) rem

/-- The state of the Berlekamp–Massey iteration: the locator, the one before its last change of length, the length, the
steps since, and the discrepancy then. -/
structure Locator where
  cur : List Nat
  old : List Nat
  len : Nat
  gap : Nat
  disc : Nat
deriving DecidableEq, Repr

/-- The sum of two polynomials. -/
def polyAdd : List Nat → List Nat → List Nat
  | [], q => q
  | p, [] => p
  | a :: p, b :: q => (a ^^^ b) :: polyAdd p q

/-- One step of the iteration at syndrome n. -/
def locatorStep (syn : List Nat) (l : Locator) (n : Nat) : Locator :=
  let s := fun (i : Nat) => (syn[i]?).getD 0
  let d := (List.range (l.len + 1)).foldl (fun r i => r ^^^ gfMul ((l.cur[i]?).getD 0) (s (n - i))) 0
  if d = 0 then { l with gap := l.gap + 1 }
  else
    let k := gfMul d (gfInv l.disc)
    let next := polyAdd l.cur (List.replicate l.gap 0 ++ l.old.map (gfMul k))
    if 2 * l.len ≤ n then ⟨next, l.cur, n + 1 - l.len, 1, d⟩
    else { l with cur := next, gap := l.gap + 1 }

/-- The error locator of 64 syndromes, and its length. -/
def locator (syn : List Nat) : List Nat × Nat :=
  let l := (List.range 64).foldl (locatorStep syn) ⟨[1], [1], 0, 1, 1⟩
  (l.cur, l.len)

/-- The value of a polynomial (lowest coefficient first) at a field element. -/
def polyAt (x : Nat) (p : List Nat) : Nat := p.foldr (fun c r => gfMul r x ^^^ c) 0

/-- The units in which one codeword is wrong: at most 32 (R233), or none where the errors exceed what the code
corrects. Unit u is the coefficient of x^(8703 − u). -/
def errorUnits (rem : List Bool) : Option (List Nat) :=
  let l := locator (syndromes rem)
  if 32 < l.2 then none
  else
    let roots := (List.range 8704).filter fun u => polyAt (alphaPow (16383 - (8703 - u))) l.1 == 0
    if roots.length = l.2 then some roots else none

/-- A frame's units corrected (R235): the units, the bits corrected and the codewords left as they are. -/
def bchCorrect (units : List Nat) : List Nat × Nat × Nat :=
  let rem := bchRemainder units
  if rem.all (· == 0) then (units, 0, 0)
  else
    (List.range 128).foldl (fun acc i =>
      let r := rem.map fun u => unitBit u i
      if r.all (!·) then acc
      else match errorUnits r with
        | none => (acc.1, acc.2.1, acc.2.2 + 1)
        | some us => (us.foldl (fun l u => l.modify u (· ^^^ 2 ^ (127 - i))) acc.1, acc.2.1 + us.length, acc.2.2))
      (units, 0, 0)

/-! The scrambler (R234). -/

/-- The next state of x^31 + x^28 + 1. -/
def prbsStep (s : Nat) : Nat := 2 * s % 2 ^ 31 + b2n (bit s 30 != bit s 27)

/-- A unit of 128 scrambler bits, the bit that leaves the last stage first, and the state after it. -/
def prbsUnit : Nat → Nat → Nat → Nat × Nat
  | 0, s, u => (u, s)
  | n + 1, s, u => prbsUnit n (prbsStep s) (2 * u + b2n (bit s 30))

/-- Units XORed with the scrambler from a state on. -/
def scrambleFrom : Nat → List Nat → List Nat
  | _, [] => []
  | s, u :: t => (u ^^^ (prbsUnit 128 s 0).1) :: scrambleFrom (prbsUnit 128 s 0).2 t

/-- The scrambler over a frame: bytes 128 on, the state all ones at their start. It undoes itself. -/
def scramble (units : List Nat) : List Nat := units.take 8 ++ scrambleFrom (2 ^ 31 - 1) (units.drop 8)

/-! Lanes and markers (R228, R230). -/

/-- The 16 units that bytes spell, and so on: bytes as units. -/
def toUnits (bs : List Byte) : List Nat := (List.range (bs.length / 16)).map fun u => beAt bs (16 * u) 16

/-- The bytes of units. -/
def fromUnits (us : List Nat) : List Byte := us.flatMap (beBytes 16)

/-- The 8 lanes of a frame: unit u travels on lane u mod 8. -/
def toLanes (us : List Nat) : List (List Nat) :=
  (List.range 8).map fun l => (us.zipIdx.filter fun x => x.2 % 8 == l).map Prod.fst

/-- The frame that 8 lanes carry. -/
def fromLanes (lanes : List (List Nat)) : List Nat :=
  (List.range 8704).map fun u => (((lanes[u % 8]?).getD [])[u / 8]?).getD 0

/-- The marker of lane L. -/
def laneMarker (l : Nat) : Nat := 0xF6F6F6F6F6F628282828282800005AA5 + l * 2 ^ 24 + (255 - l) * 2 ^ 16

/-- Whether a unit is a lane's marker within a tolerance of differing bits (R237). -/
def markerOk (tol l u : Nat) : Bool :=
  decide (((List.range 128).filter fun n => bit (u ^^^ laneMarker l) n).length ≤ tol)

/-! The header (Table LHL-2). -/

/-- The fields of a frame's header, with the contents of its MGMT and ACK slots. -/
structure FrameHead where
  port : Nat
  page : Nat
  rdi : Bool
  swapIn : Nat
  site : Nat
  gw : Nat
  fnum : Nat
  mepoch : Nat
  pscReq : Nat
  pscSig : Nat
  pscBridge : Nat
  pscMode : Nat
  reiUnc : Nat
  reiCorr : Nat
  mgmt : List Byte
  ack : List Byte
deriving DecidableEq, Repr

/-- Bytes cut or filled with zeros to a length. -/
def padTo (n : Nat) (bs : List Byte) : List Byte := (bs ++ List.replicate (n - bs.length) 0#8).take n

/-- The 1,024 bytes of a header, with its HCRC (R231). -/
def FrameHead.bytes (h : FrameHead) : List Byte :=
  let x := fromUnits ((List.range 8).map laneMarker) ++ beBytes 1 (32 + h.port % 4) ++
    beBytes 1 (h.page % 2 * 128 + b2n h.rdi * 64) ++ beBytes 2 (h.swapIn % 256 * 256) ++ beBytes 1 h.site ++
    beBytes 1 h.gw ++ beBytes 2 0 ++ beBytes 8 h.fnum ++ beBytes 4 h.mepoch ++
    beBytes 4 (h.pscReq % 16 * 2 ^ 28 + h.pscSig % 16 * 2 ^ 24 + h.pscBridge % 16 * 2 ^ 20 + h.pscMode % 16 * 2 ^ 16) ++
    beBytes 2 h.reiUnc ++ beBytes 2 h.reiCorr
  let y := padTo 256 x ++ padTo 256 h.mgmt ++ padTo 510 h.ack
  y ++ beBytes 2 (crc16 0xFFFF y)

/-- Whether a header's HCRC checks. -/
def hcrcOk (bs : List Byte) : Bool := crc16 0xFFFF (bs.take 1022) == beAt bs 1022 2

/-- The fields of a header. -/
def parseHead (bs : List Byte) : FrameHead :=
  let f := fun o n => beAt bs o n
  ⟨f 128 1 % 4, f 129 1 / 128, bit (f 129 1) 6, f 130 1, f 132 1, f 133 1, f 136 8, f 144 4, f 148 1 / 16, f 148 1 % 16,
    f 149 1 / 16, f 149 1 % 16, f 152 2, f 154 2, slice bs 256 256, slice bs 512 510⟩

/-- The messages of a slot (R232): TYPE and body, until a head of TYPE 0 or the end of the slot. -/
def parseSlot : Nat → List Byte → List (Nat × List Byte)
  | 0, _ => []
  | n + 1, bs =>
    let t := beAt bs 0 2 / 4096
    let len := beAt bs 0 2 % 4096
    if bs.length < 2 ∨ t = 0 ∨ bs.length < 2 + len then []
    else (t, slice bs 2 len) :: parseSlot n (bs.drop (2 + len))

/-- A message with its head. -/
def slotMsg (t : Nat) (body : List Byte) : List Byte := beBytes 2 (t * 4096 + body.length % 4096) ++ body

/-- A frame: its header and 64 slots of 2,048 bytes, with parity and scrambled (R229, R233, R234). -/
def frameUnits (head : FrameHead) (slots : List (List Byte)) : List Nat :=
  let data := toUnits (head.bytes ++ (slots.map (padTo 2048)).flatten)
  scramble (data ++ bchParity data)

end Sys2Proof.Machine
end

