-- ==== Sys2Proof/Machine/Cipher.lean ====
section
/-! DEFINITION. The cipher engine (R304–R311, R314, R315): keys, GCM as the line pipelines build it, and the meanings of
its commands. -/

namespace Sys2Proof.Machine

/-! GCM (R310, SP 800-38D). -/

/-- One step of the GHASH product: `v` moved by one bit of the field of x^128 + x^7 + x^2 + x + 1, most significant bit
first. -/
def ghashShift (v : Nat) : Nat := if v % 2 = 1 then (v / 2) ^^^ (0xE1 * 2 ^ 120) else v / 2

/-- The GHASH product over the bits of `x` from bit n − 1 down. -/
def ghashMulFrom (x : Nat) : Nat → Nat → Nat → Nat
  | 0, _, z => z
  | n + 1, v, z => ghashMulFrom x n (ghashShift v) (if bit x n then z ^^^ v else z)

/-- The GHASH product. -/
def ghashMul (x h : Nat) : Nat := ghashMulFrom x 128 h 0

/-- GHASH of 16-byte blocks. -/
def ghash (h : Nat) (blocks : List Nat) : Nat := blocks.foldl (fun y b => ghashMul (y ^^^ b) h) 0

/-- Bytes as 16-byte blocks, the last filled with zeros. -/
def blocks16 (bs : List Byte) : List Nat :=
  (List.range ((bs.length + 15) / 16)).map fun i =>
    let x := slice bs (16 * i) 16
    beNat x * 256 ^ (16 - x.length)

/-- The tag of additional data and encrypted bytes (R310). -/
def gcmTag (key iv aad ct : List Byte) : List Byte :=
  let h := beNat (aes256 key (List.replicate 16 0#8))
  let s := ghash h (blocks16 aad ++ blocks16 ct ++ [aad.length * 8 * 2 ^ 64 + ct.length * 8])
  beBytes 16 (beNat (aes256 key (iv ++ beBytes 4 1)) ^^^ s)

/-- Bytes XORed with the keystream of counters from 2 on (R310). -/
def gcmXor (key iv data : List Byte) : List Byte :=
  (List.range ((data.length + 15) / 16)).flatMap fun u =>
    List.zipWith (· ^^^ ·) (slice data (16 * u) 16) (aes256 key (iv ++ beBytes 4 (2 + u)))

/-- The IV of a segment (R310). -/
def segIv (kepoch flow seq : Nat) : List Byte := beBytes 2 kepoch ++ beBytes 1 flow ++ [0x4D#8] ++ beBytes 6 seq ++ beBytes 2 0

/-! Keys (R307). -/

/-- The bytes of a text in ASCII. -/
def ascii (t : String) : List Byte := t.toList.map fun c => BitVec.ofNat 8 c.toNat

/-- A key derived from a root and a label (R307). -/
def deriveKey (root label : List Byte) : List Byte := kmac256 root label 32 (ascii "QK-AB1 KDF")

/-- The data of the current generation of an OTP group, zeros when it has none (R410). -/
def State.otpData (s : State) (g n : Nat) : List Byte :=
  match Tab.find s.otp.groups g with
  | some x => if x.gen = 0 then List.replicate n 0#8 else x.data
  | none => List.replicate n 0#8

/-- The device root (Table CTL-5). -/
def State.deviceRoot (s : State) : List Byte := s.otpData 1 32

/-- The serial number's 8 bytes. -/
def State.serial (s : State) : List Byte := (s.otpData 0 48).take 8

/-- The key of the loader's slot 0 (R417). -/
def State.journalKey (s : State) : List Byte := deriveKey s.deviceRoot (ascii "QKAB-DEV-JRNL" ++ s.serial)

/-- The key of the attestation engine's slot 1 (R417). -/
def State.attestKey (s : State) : List Byte := deriveKey s.deviceRoot (ascii "QKAB-DEV-ATTR" ++ s.serial ++ s.gen.bootNonce)

/-- The root that ROOT names, if it is installed: 0 the device root, 1–8 link roots. -/
def State.rootOf (s : State) (root : Nat) : Option (List Byte) :=
  if root = 0 then some s.deviceRoot else Tab.find s.cry.roots (root - 1)

/-- The key of a LINE slot between a sender and a receiver (site, gateway) in a key epoch, none when the slot or its root
cannot be used (Table BC-6). -/
def State.lineKey (s : State) (img : List Byte) (slot : Nat) (sender receiver : Nat × Nat) (kepoch : Nat) :
    Option (List Byte) :=
  let root := s.get (F.CRY_KSLOT_CFG_ROOT.ix slot)
  if slot < 8 ∨ s.get (F.CRY_KSLOT_CFG_USE.ix slot) ≠ 1 ∨ root = 0 then none
  else (s.rootOf root).map fun r => deriveKey r (ascii "QKAB-LINE" ++ imgJob img ++
    beBytes 1 sender.1 ++ beBytes 1 sender.2 ++ beBytes 1 receiver.1 ++ beBytes 1 receiver.2 ++ beBytes 2 kepoch)

/-! Faults and counts (R312, R314). -/

/-- The first cipher fault since CRY_CNT_CLR is kept. -/
def State.firstCry (s : State) (source who slot flow : Nat) : State :=
  if s.get F.CRY_FE_SOURCE != 0 then s
  else s.setAll [(F.CRY_FE_SOURCE, source), (F.CRY_FE_REQUESTER, who), (F.CRY_FE_SLOT, slot), (F.CRY_FE_FLOW, flow)]

/-- KEY_ABSENT (R307). -/
def State.keyAbsent (s : State) (hub who slot flow : Nat) : State :=
  (((s.evt F.CRY_EVT_ABSENT).firstCry 0xC8 who slot flow).bump F.CRY_CNT_ABSENT).raise 0xC8 .uc (locChip (0x18 + hub)) 0
    slot

/-- KEY_REJECT (R309). -/
def State.keyReject (s : State) (hub slot flow : Nat) : State :=
  (((s.evt F.CRY_EVT_REJECT).firstCry 0xC9 0 slot flow).bump F.CRY_CNT_REJECT).raise 0xC9 .ce (locChip (0x18 + hub)) 0
    slot

/-- KEY_EXHAUSTED (R309). -/
def State.keyExhausted (s : State) (hub who slot flow : Nat) : State :=
  ((s.evt F.CRY_EVT_EXHAUSTED).firstCry 0xCA who slot flow).raise 0xCA .uc (locChip (0x18 + hub)) 0 slot

/-- Blocks that a hub's units complete (R304, R314). -/
def State.cryBlocks (s : State) (hub n : Nat) : State :=
  ({ s with cry := { s.cry with
    sinceSeed := Tab.put 0 s.cry.sinceSeed hub (Tab.get 0 s.cry.sinceSeed hub + n) } }).add64
    (F.CRY_HUB_BLK_LO_BLOCKS.ix hub) (F.CRY_HUB_BLK_HI_BLOCKS.ix hub) n

/-- Whether the engine is paused (R305). -/
def State.cryPaused (s : State) : Bool := s.flag F.CRY_STAT_PAUSED

/-! Commands. -/

/-- A health test fails (R305), `proportion` the adaptive proportion test and otherwise the repetition count test; the
engine pauses. -/
def State.entropyFails (s : State) (proportion : Bool) : State :=
  ((((s.setAll [(F.CRY_STAT_PAUSED, 1), (F.CRY_STAT_ENTROPY_OK, 0)]).bump
    (if proportion then F.CRY_ENT_APT_FAIL else F.CRY_ENT_RCT_FAIL)).evt F.CRY_EVT_ENTROPY).firstCry 0xCB 0 0 0).raise 0xCB
    .uc (locChip 0x18)

/-- ENTROPY_FAIL (R305). -/
def execEntropyFail (proportion : Bool) (s : State) : Host.Outcome State Fault Refusal := .next (s.entropyFails proportion)

/-- ENTROPY_RECOVERY (R305): the start-up tests pass again. -/
def execEntropyRecovery (s : State) : Host.Outcome State Fault Refusal :=
  .next (s.setAll [(F.CRY_STAT_PAUSED, 0), (F.CRY_STAT_ENTROPY_OK, 1)])

/-- MASK_RESEED (R304): after 65,536 blocks the mask generator of a hub draws 256 bits of entropy; not while the engine is
paused (R305). An armed ENTROPY_FAIL at the hub's draw fails its test (R372). -/
def execMaskReseed (hub : Nat) (s : State) : Host.Outcome State Fault Refusal :=
  .next (if s.cryPaused || decide (Tab.get 0 s.cry.sinceSeed hub < 65536) then s
    else if s.forcedAt 0xCB (locChip 0x18) then s.entropyFails false
    else { s with
      cry := { s.cry with sinceSeed := Tab.put 0 s.cry.sinceSeed hub (Tab.get 0 s.cry.sinceSeed hub - 65536) }
      gen := { s.gen with draws := s.gen.draws + 1 } })

/-- The queue written, with QUEUE_H0: host requests go to H0 (DESIGN CHOICE). -/
def State.setCryQueue (s : State) (q : List CryReq) : State :=
  ({ s with cry := { s.cry with queue := q } }).set F.CRY_STAT_QUEUE_H0 (min 255 q.length)

/-- CRY_HOUT as 64 words. -/
def State.setHout (s : State) (bs : List Byte) : State :=
  s.setAll ((List.range 64).map fun w => (F.CRY_HOUT_DATA.ix w, beAt (bs ++ List.replicate 256 0#8) (4 * w) 4))

/-- The host request ends: ERR and a zero CRY_HOUT on failure. -/
def State.endHost (s : State) (out : Option (List Byte)) : State :=
  (s.setAll [(F.CRY_HSTAT_BUSY, 0), (F.CRY_HSTAT_ERR, b2n out.isNone)]).setHout (out.getD [])

/-- The queued requests of a slot fail (R315). -/
def State.failRequests (s : State) (slot : Nat) : State :=
  if s.cry.queue.any (fun r => r.slot == slot) then
    (s.setCryQueue (s.cry.queue.filter fun r => r.slot != slot)).endHost none
  else s

/-- CIPHER_REQUEST (R306, R307): the oldest queued request of a hub is served: its key is derived, the keystream is
produced, and nothing of the key is kept; or it fails with KEY_ABSENT. -/
def execCipherRequest (hub : Nat) (s : State) : Host.Outcome State Fault Refusal :=
  .next (match s.cry.queue with
    | [] => s
    | r :: t =>
      if s.cryPaused || hub != 0 then s
      else
        let s1 := s.setCryQueue t
        match (if r.use = 2 then s.rootOf r.root else none) with
        | none => (s1.keyAbsent 0 4 r.slot 0).endHost none
        | some root =>
          if s.forcedAt 0xC8 (locChip 0x18) then (s1.keyAbsent 0 4 r.slot 0).endHost none
          else
            let key := deriveKey root (ascii "QKAB-HOST" ++ r.label)
            (s1.cryBlocks 0 r.blocks.length).endHost (some (r.blocks.flatMap (aes256 key))))

/-- INSTALL (R308, R309): CRY_LROOT_KEY becomes a link root and is zeroed; with RESET the epochs of every slot that uses
the root become 0. Ignored in SERVICE mode. -/
def execInstall (index : Nat) (reset : Bool) (s : State) : Host.Outcome State Fault Refusal :=
  .next (s.hostWrite 19 fun t0 =>
    let t := t0.setAll [(F.CRY_LROOT_CTL_INDEX, index), (F.CRY_LROOT_CTL_RESET, b2n reset)]
    if !t.maintenance then t
    else
      let i := index % 8
      let key := (List.range 8).flatMap fun w => beBytes 4 (t.get (F.CRY_LROOT_KEY_KEY.ix w))
      let t1 := (({ t with cry := { t.cry with roots := Tab.insert t.cry.roots i key } }).setBit F.CRY_STAT_LROOTS i
        true).clearAll ((List.range 8).map F.CRY_LROOT_KEY_KEY.ix)
      if reset then
        let mine := (List.range 64).filter fun n => decide (8 ≤ n) && t.get (F.CRY_KSLOT_CFG_ROOT.ix n) == i + 1
        ((({ t1 with cry := { t1.cry with exhausted := t1.cry.exhausted.filter fun x => !mine.contains x.1 } }).deviceChange
          fun u => u.clearAll (mine.flatMap fun n => [F.CRY_KSLOT_EPOCH_KEPOCH_TX.ix n,
            F.CRY_KSLOT_EPOCH_KEPOCH_MIN.ix n])).journal)
      else t1)

/-- ADVANCE (R309). -/
def execAdvance (slot : Nat) (s : State) : Host.Outcome State Fault Refusal :=
  .next (s.hostWrite 19 fun t =>
    let n := t.get (F.CRY_KSLOT_EPOCH_KEPOCH_TX.ix slot)
    if slot < 8 || 64 ≤ slot || t.get (F.CRY_KSLOT_CFG_USE.ix slot) != 1 then t
    else if n == 0xFFFF || t.forcedAt 0xCA (locChip 0x18) then t.keyExhausted 0 4 slot 0
    else (t.set (F.CRY_KSLOT_EPOCH_KEPOCH_TX.ix slot) (n + 1)).journal)

/-- A key slot becomes FREE (R315, Table CTL-13). -/
def State.freeSlotOf (s : State) (slot : Nat) : State :=
  s.setAll [(F.CRY_KSLOT_CFG_USE.ix slot, 0), (F.CRY_KSLOT_CFG_ROOT.ix slot, 0)]

/-- A HOST slot's lease ends. -/
def State.endLease (s : State) (slot : Nat) : State :=
  ({ s with cry := { s.cry with leased := s.cry.leased.del slot } }).set (F.CRY_KSLOT_LEASE_MS.ix slot) 0

/-- KSLOT_CLEAR (R314): the slot is FREE, and its queued requests fail. -/
def execKslotClear (slot : Nat) (s : State) : Host.Outcome State Fault Refusal :=
  .next (s.hostWrite 19 fun t =>
    if slot < 8 || 64 ≤ slot then t
    else ((t.deviceChange fun u => u.freeSlotOf slot).endLease slot).failRequests slot)

/-- KSLOT_OPEN (R315): a HOST slot's lease starts or is renewed. -/
def execKslotOpen (slot : Nat) (s : State) : Host.Outcome State Fault Refusal :=
  .next (s.hostWrite 19 fun t =>
    if slot < 8 || 64 ≤ slot || t.get (F.CRY_KSLOT_CFG_USE.ix slot) != 2 then t
    else ({ t with cry := { t.cry with leased := t.cry.leased.add slot } }).set (F.CRY_KSLOT_LEASE_MS.ix slot)
      (1000 * t.get F.CRY_LEASE_CFG_SEC))

/-- A lease expires (R315): the slot is FREE, its queued requests fail, and KSLOT_LEASE is raised. -/
def State.leaseLapses (s : State) (slot : Nat) : State :=
  (((((s.deviceChange fun u => u.freeSlotOf slot).endLease slot).failRequests slot).evt F.CRY_EVT_LEASE).firstCry 0xCC 4
    slot 0).raise 0xCC .ce (locChip 0x18) 0 slot

/-- KSLOT_LEASE (R315). -/
def execKslotLease (slot : Nat) (s : State) : Host.Outcome State Fault Refusal :=
  .next (if s.cry.leased.has slot then s.leaseLapses slot else s)

/-- HOST_REQUEST (R306, R314, R315): GO submits CRY_HIN under the slot's configuration of this moment; a full queue, or a
count of blocks outside 1–16, fails it with ERR; ignored while BUSY. An armed KSLOT_LEASE ends the slot's lease first (R372). -/
def execHostRequest (slot blocks : Nat) (s : State) : Host.Outcome State Fault Refusal :=
  .next (s.hostWrite 19 fun t0 =>
    if t0.flag F.CRY_HSTAT_BUSY then t0
    else
      let t1 := t0.setAll [(F.CRY_HCTL_SLOT, slot), (F.CRY_HCTL_BLOCKS, blocks)]
      let n := t1.get F.CRY_HCTL_BLOCKS
      let k := t1.get F.CRY_HCTL_SLOT
      let t := if t1.cry.leased.has k && t1.forcedAt 0xCC (locChip 0x18) then t1.leaseLapses k else t1
      if n = 0 || 16 < n || 256 ≤ t.cry.queue.length then t.endHost none
      else
        let bytes := (List.range 64).flatMap fun w => beBytes 4 (t.get (F.CRY_HIN_DATA.ix w))
        let label := (List.range 8).flatMap fun w => beBytes 4 (t.get (F.CRY_KSLOT_LABEL_LABEL.ix k w))
        let use := if t.cry.leased.has k then t.get (F.CRY_KSLOT_CFG_USE.ix k) else 0
        (t.setAll [(F.CRY_HSTAT_BUSY, 1), (F.CRY_HSTAT_ERR, 0)]).setCryQueue (t.cry.queue ++
          [⟨k, use, t.get (F.CRY_KSLOT_CFG_ROOT.ix k), label, (List.range n).map fun b => slice bytes (16 * b) 16⟩]))

/-- CRY_CNT_CLR (R314): CRY_CNT and CRY_ENT clear, CRY_FE is re-armed and the causes of CRY_EVT end. -/
def execCryCntClr (s : State) : Host.Outcome State Fault Refusal :=
  .next (s.hostWrite 19 fun t => (t.clearAll [F.CRY_CNT_REJECT, F.CRY_CNT_ABSENT, F.CRY_ENT_APT_FAIL, F.CRY_ENT_RCT_FAIL,
    F.CRY_FE_SOURCE, F.CRY_FE_REQUESTER, F.CRY_FE_SLOT, F.CRY_FE_FLOW]).evtEndAll
    [F.CRY_EVT_LEASE, F.CRY_EVT_ENTROPY, F.CRY_EVT_EXHAUSTED, F.CRY_EVT_REJECT, F.CRY_EVT_ABSENT])

end Sys2Proof.Machine
end

