-- ==== Sys2Proof/Machine/Segment.lean ====
section
/-! DEFINITION. Segments (R256–R260, R288, R294, R296, R300, R310): their header, how Tailrace makes one, and how
Headrace takes one apart. -/

namespace Sys2Proof.Machine

/-- The header of a segment (Table MLR-1), without SYNC, VER and HCRC. -/
structure SegHead where
  rawf : Bool
  blocks : Nat
  flow : Nat
  seq : Nat
  kepoch : Nat
  kind : Nat
  half : Bool
  stage : Nat
  obj : Nat
  blk : Nat
  sepoch : Nat
  blen : List Nat
  mask : Nat
deriving DecidableEq, Repr

/-- The 32 bytes of a header, with its HCRC. -/
def SegHead.bytes (h : SegHead) : List Byte :=
  let bl := fun i => (h.blen[i]?).getD 0
  let x := beBytes 2 0x4D52 ++ beBytes 1 (16 + 8 * b2n h.rawf + (h.blocks - 1) % 4) ++ beBytes 1 h.flow ++ beBytes 6 h.seq ++
    beBytes 2 h.kepoch ++ beBytes 1 h.kind ++ beBytes 1 (128 * b2n h.half + h.stage % 16) ++ beBytes 3 h.obj ++
    beBytes 3 h.blk ++ beBytes 4 h.sepoch ++
    beBytes 5 (bl 0 * 2 ^ 31 + bl 1 * 2 ^ 22 + bl 2 * 2 ^ 13 + bl 3 * 2 ^ 4) ++ beBytes 1 h.mask
  x ++ beBytes 2 (crc16 0xFFFF x)

/-- Whether a unit starts a segment: SYNC, and a good HCRC over the 32 bytes from it (R257). -/
def segStart (bs : List Byte) : Bool :=
  beAt bs 0 2 == 0x4D52 && decide (32 ≤ bs.length) && crc16 0xFFFF (bs.take 30) == beAt bs 30 2

/-- The header that 32 bytes spell. -/
def parseSeg (b : List Byte) : SegHead :=
  let n := beAt b 2 1 % 4 + 1
  let bl := beAt b 24 5
  ⟨bit (beAt b 2 1) 3, n, beAt b 3 1, beAt b 4 6, beAt b 10 2, beAt b 12 1, bit (beAt b 13 1) 7, beAt b 13 1 % 16,
    beAt b 14 3 % 2 ^ 20, beAt b 17 3, beAt b 20 4, ([bits bl 39 31, bits bl 30 22, bits bl 21 13, bits bl 12 4]).take n,
    beAt b 29 1⟩

/-- The bytes of a segment with this header. -/
def SegHead.length (h : SegHead) : Nat := 32 + 16 * h.blen.sum + 16

/-! Tailrace (R288, R293, R294, R300). -/

/-- The outer epoch that this gateway is building (R256). -/
def State.building (s : State) : Nat := (s.outerEpoch + 1) % 2 ^ 64

/-- The shard map digest of this gateway (R110, R260): the first 32 bytes of the SHAKE256 of the SHARD_MAP body. -/
def State.shardDigest (s : State) : List Byte := shake256 (imgBody s.image 0x8002 0) 32

/-- The data of a request: a STEP_CTL record (R260), this side's tokens and committed epoch in bytes 0–7 and 8–15 of a
merge record (R279; DESIGN CHOICE: the spec gives the record's size only), or the bytes at its address. -/
def State.segData (s : State) (r : SegReq) : List Byte :=
  if r.kind = 5 then s.shardDigest ++ List.replicate 32 0#8
  else if r.kind = 3 then
    beBytes 8 (s.get64 F.MBR_TOK_LO_TOKENS F.MBR_TOK_HI_TOKENS) ++ beBytes 8 s.outerEpoch ++ List.replicate 48 0#8
  else (s.fetch r.addr (min r.len 16384)).map Prod.fst

/-- Whether a kind's blocks are FP32 (R300). -/
def State.kindFp32 (s : State) (kind : Nat) : Bool := if kind = 1 then s.flag F.UPD_RULE_GATHER_FP32 else true

/-- The slot that Tailrace codes a format with. -/
def State.lineSlot (s : State) (fp32 : Bool) : Option (Nat × BTable) :=
  s.btables.find? fun x => x.2.line && x.2.fp32 == fp32

/-- One block of a segment coded (R293): the block, the table epoch it names, and the state with Bolter's counts. -/
def State.codeLine (s : State) (hub : Nat) (fp32 rawf : Bool) (data : List Byte) : List Byte × Option Nat × State :=
  let coded := if rawf || !s.flag F.CMP_CFG_LINE_EN then none
    else (s.lineSlot fp32).bind fun x => (codeBlock x.2 data).map fun b => (b, x.1, x.2.epoch)
  match coded with
  | some c => (c.1, some c.2.2, s.countBlock hub c.1.length (some c.2.1))
  | none => (rawBlock fp32 data, none, s.countBlock hub 4160 none)

/-- Blocks of a segment coded, each padded to whole units: the wire blocks, the epochs named, and the state. -/
def State.codeAll (s : State) (hub : Nat) (fp32 rawf : Bool) : List (List Byte) → List (List Byte) × List Nat × State
  | [] => ([], [], s)
  | d :: t =>
    let x := s.codeLine hub fp32 rawf (padTo' d)
    let r := x.2.2.codeAll hub fp32 rawf t
    (padUnit x.1 :: r.1, x.2.1.toList ++ r.2.1, r.2.2)
where
  padTo' (bs : List Byte) : List Byte := bs ++ List.replicate (4096 - bs.length) 0#8
  padUnit (bs : List Byte) : List Byte := bs ++ List.replicate ((16 - bs.length % 16) % 16) 0#8

/-- Data cut into blocks of 4,096 bytes. -/
def cutBlocks (bs : List Byte) : List (List Byte) :=
  (List.range (max 1 ((bs.length + 4095) / 4096))).map fun i => slice bs (4096 * i) 4096

/-- What keeps a flow from being encrypted (R307, R309): nothing, a fault, or an epoch that is not durable yet. -/
inductive KeyCheck where
  | key (k : List Byte) (kepoch : Nat)
  | absent
  | exhausted
  | waits
deriving DecidableEq, Repr

/-- This gateway as site and gateway index. -/
def State.self (s : State) : Nat × Nat := (s.site, imgGw s.image)

/-- The transmit key of a flow, under the KEPOCH_TX that the journal holds (R309, R418). -/
def State.txKey (s : State) (r : FlowRec) : KeyCheck :=
  if s.cry.exhausted.has r.kslot then .exhausted
  else if s.forcedAt 0xC8 (s.locFlow r.flow) then .absent
  else match Tab.find s.cry.durable r.kslot with
    | none => if (s.lineKey s.image r.kslot s.self (r.site, r.gw) 0).isSome then .waits else .absent
    | some ke => match s.lineKey s.image r.kslot s.self (r.site, r.gw) ke with
      | some k => .key k ke
      | none => .absent

/-- A segment made from a request (R256, R288, Table BC-1): compressed, encrypted and tagged under the next SEQ. -/
def State.makeSeg (s : State) (r : FlowRec) (q : SegReq) (key : List Byte) (kepoch : Nat) : Seg × State :=
  let data := cutBlocks (s.segData q)
  let x := s.codeAll r.hub (s.kindFp32 q.kind) q.rawf data
  let seq := s.txNextSeq q.flow
  let h : SegHead := ⟨q.rawf, data.length, q.flow, seq, kepoch, q.kind, q.half, q.stage, q.obj, q.blk, s.building % 2 ^ 32,
    x.1.map fun b => b.length / 16, s.commitMask⟩
  let iv := segIv kepoch q.flow seq
  let ct := gcmXor key iv x.1.flatten
  let wire := h.bytes ++ ct ++ gcmTag key iv h.bytes ct
  (⟨q.flow, seq, q, wire, s.mlr.ring, x.2.1.eraseDups, 0, 0⟩,
    (x.2.2.cryBlocks r.hub (ct.length / 16 + 2)).set64 (F.MLR_FLOW_TX_LO_SEQ.ix q.flow) (F.MLR_FLOW_TX_HI_SEQ.ix q.flow)
      (seq48 (seq + 1)))

/-! Headrace (R296, R309–R311). -/

/-- The blocks of a decrypted segment, by BLEN. -/
def segBlocks : List Nat → List Byte → List (List Byte)
  | [], _ => []
  | n :: t, bs => bs.take (16 * n) :: segBlocks t (bs.drop (16 * n))

/-- Every block decoded, or the cause of the first shape fault. -/
def decodeAll (tables : List BTable) : List (List Byte) → Except Nat (List (List Byte))
  | [] => .ok []
  | b :: t => match decodeBlock tables b with
    | .fault c => .error c
    | .good d => match decodeAll tables t with
      | .error c => .error c
      | .ok r => .ok (d :: r)

/-- The receive key of a flow in a key epoch. -/
def State.rxKey (s : State) (r : FlowRec) (kepoch : Nat) : Option (List Byte) :=
  if s.forcedAt 0xC8 (s.locFlow r.flow) then none else s.lineKey s.image r.kslot (r.site, r.gw) s.self kepoch

/-- Whether a key epoch is at or above the floor (R309). -/
def kepochOk (k floor : Nat) : Bool := decide ((k + 65536 - floor % 65536) % 65536 < 32768)

/-- Whether a SEQ has been received (R258). -/
def State.gotSeq (s : State) (f seq : Nat) : Bool := seqLess seq (s.rxCum f) || (s.rxFlow f).got.has seq

/-- CUM moved on over SEQ values received. -/
def cumFrom (got : Marks) : Nat → Nat → Nat
  | 0, c => c
  | k + 1, c => if got.has c then cumFrom got k (seq48 (c + 1)) else c

/-- A SEQ marked received (R258, R264): CUM rises over every SEQ received in order. -/
def State.markSeq (s : State) (f seq : Nat) : State :=
  if s.gotSeq f seq then s
  else
    let x := s.rxFlow f
    let got := x.got.add seq
    let cum := cumFrom got (got.length + 1) (s.rxCum f)
    (s.setRxFlow f { x with got := got.filter (fun y => !seqLess y.1 cum), news := x.news + 1 }).set64
      (F.MLR_FLOW_RX_LO_SEQ.ix f) (F.MLR_FLOW_RX_HI_SEQ.ix f) cum

/-- Whether a segment matches the step that this gateway is building (R272). -/
def State.matchesStep (s : State) (site : Nat) (h : SegHead) : Bool :=
  (h.sepoch : Int) == (s.building + s.eoff site) % 2 ^ 32 && h.mask == s.commitMask

/-- Whether a segment belongs to what this gateway is building (R29, R259): its step, for the Exchange and its STEP_CTL;
while a partition lasts, the side of the sender's site, for merge data, whose sides have other masks and epochs; and for a
fetch, an admission, a restore, or a partition's pin (DESIGN CHOICE: R259 states the match of the step alone). -/
def State.belongs (s : State) (site : Nat) (h : SegHead) : Bool :=
  let apart := s.get F.MBR_STAT_STATE == 2 || s.get F.MBR_STAT_STATE == 3
  match h.kind with
  | 1 => s.matchesStep site h
  | 5 => s.matchesStep site h
  | 4 => apart || s.mbr.admitting || !s.step.restore.isEmpty
  | k => (k == 2 || k == 3) && apart && (h.mask == (s.siteInfo site).commit || s.mbr.sides.contains h.mask) && bit h.mask site

/-- SHAPE_LINE (R296). -/
def State.shapeLine (s : State) (f seq cause : Nat) : State :=
  let hub := s.flowHub f
  let s1 := (((s.evt F.CMP_EVT_SHAPE_LINE).firstCmp 0xC1 cause hub f seq).bump (F.CMP_HUB_CNT_SHAPE.ix hub)).raise 0xC1 .uc
    (locChip (0x18 + hub)) 0 f seq
  let s2 := s1.markSeq f seq
  let x := s2.rxFlow f
  s2.setRxFlow f { x with raw := x.raw ++ [seq] }

/-- A discarded segment counted as STALE (R259). -/
def State.staleSeg (s : State) (f : Nat) : State := s.bump (F.MLR_FLOW_CNT_B_STALE.ix f)

/-- The number of blocks of an object. -/
def placeBlocks (p : SegPlace) : Nat := max 1 ((p.bytes + 4095) / 4096)

/-- Blocks written to their places (R259, R294): block BLK + i of the object, only the object's own bytes. A place that
reaches no store, or a far-tier link that is down, is a fault (R141, R159). -/
def State.putBlocks (s : State) (p : SegPlace) (k : Nat) (l : List (List Byte)) : State :=
  let data := (l.flatten).take (p.bytes - 4096 * k)
  (s.rangeFaults 0 [] [(p.addr + 4096 * k, data.length)]).2.deposit (p.addr + 4096 * k) (data.map fun b => (b, false))

/-- An object's completion signals its counter (R259). -/
def State.signalPlace (s : State) (p : SegPlace) : State :=
  match p.sig with
  | some c => s.addGlobal c p.inc false
  | none => s

/-- Blocks counted in their object, which completes when every block has been written (R259). -/
def State.countBlocks (s : State) (h : SegHead) (p : SegPlace) (n : Nat) : State :=
  let same := fun (o : RxObj) => o.flow == h.flow && o.sepoch == h.sepoch && o.kind == h.kind && o.half == h.half &&
    o.stage == h.stage && o.obj == h.obj
  let old := (s.mlr.objs.find? same).getD ⟨h.flow, h.sepoch, h.kind, h.half, h.stage, h.obj, []⟩
  let new : RxObj := { old with blocks := (List.range n).foldl (fun m i => m.add (h.blk + i)) old.blocks }
  let rest := s.mlr.objs.filter fun o => !same o
  if placeBlocks p ≤ new.blocks.length && decide (old.blocks.length < placeBlocks p) then
    ({ s with mlr := { s.mlr with objs := rest ++ [new] } }).signalPlace p
  else { s with mlr := { s.mlr with objs := rest ++ [new] } }

/-- What a segment whose blocks have decoded does (R259, R260, R279, R283): data goes to its place; a merge record tells a
side's tokens and epoch; a STEP_CTL record waits to be compared. -/
def State.takeBlocks (s : State) (r : FlowRec) (h : SegHead) (p : SegPlace) (data : List (List Byte)) : State :=
  let first := data.headD []
  if h.kind = 5 then { s with mlr := { s.mlr with ctl := s.mlr.ctl ++ [⟨h.flow, first.take 32⟩] } }
  else if h.kind = 3 then
    { s with mbr := { s.mbr with mergeIn := Tab.insert s.mbr.mergeIn r.site (beAt first 0 8, beAt first 8 8) } }
  else
    let s1 := (s.putBlocks p h.blk data).countBlocks h p data.length
    if h.kind != 4 then s1
    else if s1.mbr.admitting then
      { s1 with mbr := { s1.mbr with admitVersion :=
        (Tab.find s1.mbr.info r.site).map fun i => (s1.ownTerms r.site i.oepoch, i.commit) } }
    else s1.restored (p.addr + 4096 * h.blk) (min (4096 * data.length) (p.bytes - 4096 * h.blk))

/-- Zero stands in the place of an object that an absent peer would send (R282): once for each place in a step, and the
object is complete. -/
def State.zeroPlace (s : State) (f : Nat) (p : SegPlace) : State :=
  if s.mlr.zeroed.contains (f, p.addr) then s
  else
    let t := (s.rangeFaults 0 [] [(p.addr, p.bytes)]).2.deposit p.addr (List.replicate p.bytes (0#8, false))
    ({ t with mlr := { t.mlr with zeroed := (f, p.addr) :: t.mlr.zeroed } }).signalPlace p

/-- A whole segment received on its flow (R257, R259, R296, R309, R311). -/
def State.takeSeg (s : State) (r : FlowRec) (p : SegPlace) (wire : List Byte) : State :=
  let h := parseSeg wire
  let f := r.flow
  let ct := slice wire 32 (16 * h.blen.sum)
  let tag := slice wire (32 + 16 * h.blen.sum) 16
  let iv := segIv h.kepoch h.flow h.seq
  if !kepochOk h.kepoch (s.get (F.CRY_KSLOT_EPOCH_KEPOCH_MIN.ix r.kslot)) || s.forcedAt 0xC9 (s.locFlow f) then
    s.keyReject r.hub r.kslot f
  else match s.rxKey r h.kepoch with
    | none => s.keyAbsent r.hub 0 r.kslot f
    | some key =>
      let s1 := s.cryBlocks r.hub (ct.length / 16 + 2)
      if gcmTag key iv (wire.take 32) ct ≠ tag ∨ h.flow ≠ f then s1.bump (F.MLR_FLOW_CNT_A_TAG_FAIL.ix f)
      else if s1.gotSeq f h.seq then s1.staleSeg f
      else if !seqLess h.seq (seq48 (s1.rxCum f + r.win)) then s1
      else if !s1.belongs r.site h then (s1.markSeq f h.seq).staleSeg f
      else match decodeAll (s1.btables.map Prod.snd) (segBlocks h.blen (gcmXor key iv ct)) with
        | .error c => s1.shapeLine f h.seq c
        | .ok data =>
          if s1.forcedAt 0xC1 (s1.locFlow f) then s1.shapeLine f h.seq 3
          else (s1.takeBlocks r h p data).markSeq f h.seq

end Sys2Proof.Machine
end

