-- ==== Sys2Proof/Machine/Sluice.lean ====
section
/-! DEFINITION. Sluice (R329–R340) and the tributary slots (R241, R242): which flows hold slots, meters, queues, what is
eligible, and a dispatch. -/

namespace Sys2Proof.Machine

/-! Line ports and their slots (R241, R246). -/

/-- A line port that has done nothing. -/
def LineSt.idle : LineSt where
  txOn := false
  txNext := 0
  cands := []
  corr := 0
  unc := 0
  excClear := 0
  degUp := 0
  degDown := 0
  timBad := 0
  timGood := 0
  rdiSet := 0
  rdiClear := 0
  armed := none
  swapIn := none
  rxLast := 0
  reiUnc := 0
  reiCorr := 0
  secCorr := 0
  secUnc := 0
  secHcrc := 0
  secRei := 0
  secReiCorr := 0
  secUnready := 0
  secDefect := false
  secSf := false
  secRdi := false
  farCorr := 0
  tx := []
  rx := []
  lost := []
  out := []
  noticed := []
  rxBad := false
  accepted := true
  fenced := 0

/-- A line port. -/
def State.line (s : State) (p : Nat) : LineSt := Tab.get LineSt.idle s.lhl.ports p

/-- A line port written. -/
def State.setLine (s : State) (p : Nat) (x : LineSt) : State :=
  { s with lhl := { s.lhl with ports := Tab.put LineSt.idle s.lhl.ports p x } }

/-- A change of a line port. -/
def State.onLine (s : State) (p : Nat) (f : LineSt → LineSt) : State := s.setLine p (f (s.line p))

/-- The key of a connection memory entry: direction 0 transmits, 1 receives. -/
def pageKey (p dir page slot : Nat) : Nat := 256 * p + 128 * dir + 64 * page + slot

/-- An entry of a connection memory (R241). -/
def State.pageEntry (s : State) (p dir page slot : Nat) : Nat := Tab.get 0 s.lhl.pages (pageKey p dir page slot)

/-- The flow that an entry names, if it is valid. -/
def entryFlow (e : Nat) : Option Nat := if bit e 15 then some (e % 256) else none

/-- The active page of a port: transmit or receive. -/
def State.activePage (s : State) (p dir : Nat) : Nat :=
  if dir = 0 then b2n (s.getBit F.TSI_STAT_TX_PAGE p) else b2n (s.getBit F.TSI_STAT_RX_PAGE p)

/-- The slots a flow holds in a port's active page. -/
def State.slotCount (s : State) (p dir f : Nat) : Nat :=
  ((List.range 64).filter fun n => entryFlow (s.pageEntry p dir (s.activePage p dir) n) == some f).length

/-- TSI_FLOW follows the active pages. -/
def State.countFlows (s : State) : State :=
  s.setAll ((List.range 256).flatMap fun f =>
    [(F.TSI_FLOW_TX_SLOTS.ix f, ((List.range 4).map fun p => s.slotCount p 0 f).sum),
     (F.TSI_FLOW_RX_SLOTS.ix f, ((List.range 4).map fun p => s.slotCount p 1 f).sum)])

/-- The group of a line port: 0 for ports 0 and 2, 1 for ports 1 and 3. -/
def groupOf (p : Nat) : Nat := p % 2

/-- Whether a port is its group's protection port. -/
def isProtection (p : Nat) : Bool := decide (2 ≤ p)

/-- MODE of a port's group: 0 none, 1 1+1, 2 1:1. -/
def State.groupMode (s : State) (p : Nat) : Nat := s.get (F.LHL_PG_CFG_MODE.ix (groupOf p))

/-- Whether Sluice schedules on a port (R329). -/
def State.scheduled (s : State) (p : Nat) : Bool := s.groupMode p != 1 || !isProtection p

/-! Round trips of flows and the rate cap (R268). -/

/-- The port with the largest srtt among those that carry a flow's transmit slots. -/
def State.slowest (s : State) (f : Nat) : Option Nat :=
  ((List.range 4).filter fun p => s.scheduled p && decide (0 < s.slotCount p 0 f)).foldl (fun b p => match b with
    | none => some p
    | some q => if s.get (F.MLR_PORT_RTT_NS.ix q) < s.get (F.MLR_PORT_RTT_NS.ix p) then some p else some q) none

/-- RTT_F of a flow in ns. -/
def State.rttF (s : State) (f : Nat) : Nat := ((s.slowest f).map fun p => s.get (F.MLR_PORT_RTT_NS.ix p)).getD 0

/-- The cap and THROTTLED follow the round trips and the ports that carry the flows (R268). -/
def State.updateCap (s : State) : State :=
  let flows := (List.range 256).filter fun f => (s.slowest f).isSome
  let slots := (flows.map fun f => (((List.range 4).filter s.scheduled).map fun p => s.slotCount p 0 f).sum).sum
  let ns := (flows.map s.rttF).foldl max 0 + 1000 * s.get F.MLR_CFG_MARGIN_US
  let cap := if ns = 0 then 2 ^ 32 - 1 else min (2 ^ 32 - 1) (s.retainSize * 1000 / ns)
  let binds := decide (cap < 3125 * slots)
  let s1 := s.setAll [(F.MLR_STAT_THROTTLED, b2n binds), (F.MLR_RATE_CAP_MBS, if binds then cap else 2 ^ 32 - 1)]
  if binds && !s.flag F.MLR_STAT_THROTTLED then
    ({ s1 with slu := { s1.slu with cap := 262144 * 1024 } }).evt F.MLR_EVT_THROTTLE
  else s1

/-! Queues (R331). -/

/-- A queue of a port. -/
def State.sluQueue (s : State) (p q : Nat) : List QSeg := Tab.get [] s.slu.queues (32 * p + q)

/-- A queue written, with SLU_Q_DEPTH. -/
def State.setSluQueue (s : State) (p q : Nat) (l : List QSeg) : State :=
  ({ s with slu := { s.slu with queues := Tab.put [] s.slu.queues (32 * p + q) l } }).set (F.SLU_Q_DEPTH_BYTES.ix p q)
    (l.map fun (x : QSeg) => x.seg.wire.length).sum

/-- Bytes of a flow queued on a port. -/
def State.flowBytes (s : State) (p f : Nat) : Nat :=
  ((List.range 32).map fun q => ((s.sluQueue p q).map fun x => if x.seg.flow == f then x.seg.wire.length else 0).sum).sum

/-- The port with the smallest ratio of queued bytes to slots, ties to the lowest number (R331). -/
def State.pickPort (s : State) (f : Nat) : Option Nat :=
  ((List.range 4).filter fun p => s.scheduled p && decide (0 < s.slotCount p 0 f)).foldl (fun best p => match best with
    | none => some p
    | some b => if s.flowBytes p f * s.slotCount b 0 f < s.flowBytes b f * s.slotCount p 0 f then some p else some b) none

/-! Meters (R337). -/

/-- A rate in Mb/s over 640 ns, in 1/1,024 byte (R333). -/
def perRefill (mbs : Nat) : Nat := mbs * 8192 / 100

/-- The colours of R337. -/
inductive Colour where
  | green | yellow | red
deriving DecidableEq, Repr

/-- The precolour of a kind (R337, R260). -/
def State.precolour (s : State) (f kind : Nat) : Colour :=
  let k := if kind = 5 then 3 else kind
  if s.get (F.SLU_FLOW_CFG_MODE.ix f) != 2 then .green
  else match s.get (F.SLU_FLOW_CFG_PRECOL.ix f) / 4 ^ (k - 1) % 4 with
    | 1 => .yellow
    | 2 => .red
    | _ => .green

/-- A segment of `b` wire bytes is coloured (R337). -/
def State.meter (s : State) (f kind b : Nat) : Colour × State :=
  if s.get (F.SLU_FLOW_CFG_MODE.ix f) == 0 then (.green, s)
  else
    let pre := s.precolour f kind
    let tp := Tab.get 0 s.slu.tp f
    let tc := Tab.get 0 s.slu.tc f
    let n := 1024 * b
    let setTp := fun (t : State) => { t with slu := { t.slu with tp := Tab.put 0 t.slu.tp f (tp - n) } }
    if pre = .red ∨ tp < n then (.red, s)
    else if pre = .yellow ∨ tc < n then (.yellow, (setTp s).bump (F.SLU_FLOW_CNT_YELLOW.ix f))
    else
      let s1 := setTp s
      (.green, { s1 with slu := { s1.slu with tc := Tab.put 0 s1.slu.tc f (tc - n) } })

/-- A segment put into a queue of one of its flow's ports; kept at the admission while the flow has no slots. -/
def State.enqueue (s : State) (x : Seg) (resend : Bool) (q : Nat) : Option State :=
  (s.pickPort x.flow).map fun p => s.setSluQueue p q (s.sluQueue p q ++ [⟨x, resend, s.ns64⟩])

/-- The queue of a flow (Table LHL-8). -/
def State.flowQueue (s : State) (f : Nat) : Nat := ((imgFlow s.image f).map fun r => r.queue).getD 0

/-- A new segment metered (R337): into its queue, or none when it is red or has nowhere to go. -/
def State.admitOne (s : State) (x : Seg) : Option State :=
  if (s.pickPort x.flow).isNone then none
  else
    let m := s.meter x.flow x.req.kind x.wire.length
    match m.1 with
    | .red => none
    | .yellow => m.2.enqueue x false (s.get (F.SLU_FLOW_CFG_YQUEUE.ix x.flow))
    | .green => m.2.enqueue x false (s.flowQueue x.flow)

/-- The segments held at a flow's admission are metered in order until one is red (R337). -/
def State.admitHeld (s : State) (f : Nat) : List QSeg → State
  | [] => { s with slu := { s.slu with held := Tab.erase s.slu.held f } }
  | x :: t => match s.admitOne x.seg with
    | some s1 => s1.admitHeld f t
    | none => { s with slu := { s.slu with held := Tab.insert s.slu.held f (x :: t) } }

/-- A new segment handed to Sluice (R331): behind the flow's held segments, or metered at once. -/
def State.admitSeg (s : State) (x : Seg) : State :=
  let held := Tab.get [] s.slu.held x.flow
  if held.isEmpty then
    match s.admitOne x with
    | some s1 => s1
    | none => { s with slu := { s.slu with held := Tab.insert s.slu.held x.flow [⟨x, false, s.ns64⟩] } }
  else { s with slu := { s.slu with held := Tab.insert s.slu.held x.flow (held ++ [⟨x, false, s.ns64⟩]) } }

/-! Gate lists (R334). -/

/-- The entry in force at a place of the cycle: the last one stays until the cycle ends. -/
def entryIn : Nat → Nat → List (Nat × Nat) → Nat
  | _, e, [] => e
  | _, e, [_] => e
  | pos, e, x :: t => if pos < x.2 then e else entryIn (pos - x.2) (e + 1) t

/-- The entry of a list in force at a network time: cycle k begins at BASE + k × CYCLE. -/
def GateList.entryAt (g : GateList) (t : Nat) : Nat := entryIn (((t : Int) - (g.base : Int)) % (g.cycle : Int)).toNat 0 g.entries

/-- An entry of a port's list takes effect. -/
def State.showGate (s : State) (p e : Nat) (g : GateList) : State :=
  s.setAll [(F.SLU_GATE_STAT_ENTRY.ix p, e), (F.SLU_GATE_NOW_OPEN.ix p, ((g.entries[e]?).map Prod.fst).getD 0xFFFFFFFF)]

/-- Gate cycles follow a network time that has moved (R320). -/
def State.followGates (s : State) : State := s.slu.gates.foldl (fun t x => t.showGate x.1 (x.2.entryAt s.ns64) x.2) s

/-! Dispatch (R332, Table TIM-3). -/

/-- Whether a flow's stream buffer on a port has room (R330). -/
def State.streamRoom (s : State) (p f : Nat) : Bool := decide ((Tab.get [] (s.line p).tx f).length < 2)

/-- The shaper credit of a queue, in 1/1,024 byte. -/
def State.credit (s : State) (p q : Nat) : Int := Tab.get 0 s.slu.credit (32 * p + q)

/-- The shaper credit written, with SLU_Q_CREDIT (rounded down to whole bytes). -/
def State.setCredit (s : State) (p q : Nat) (c : Int) : State :=
  ({ s with slu := { s.slu with credit := Tab.put 0 s.slu.credit (32 * p + q) c } }).set (F.SLU_Q_CREDIT_C.ix p q)
    (unsigned 32 (c / 1024))

/-- The level of the pool that grants segment buffers to a line port (R340): the class that holds a whole segment. -/
def State.segLevel (s : State) (p : Nat) : Nat := s.get (F.HOP_POOL_STAT_LEVEL.ix (6 * (p / 2) + 4))

/-- Whether the Hopper level permits new segments of a queue (Table TIM-5). -/
def State.hopPermits (s : State) (p q : Nat) : Bool :=
  match s.segLevel p with
  | 0 => true
  | 1 => decide (s.get F.SLU_CFG_AMBER_Q ≤ q)
  | _ => false

/-- Whether a queue's gate is open. -/
def State.gateOpen (s : State) (p q : Nat) : Bool := s.getBit (F.SLU_GATE_NOW_OPEN.ix p) q

/-- Whether the rate cap has tokens for a segment (R339). -/
def State.capOk (s : State) (n : Nat) : Bool := !s.flag F.MLR_STAT_THROTTLED || decide (1024 * n ≤ s.slu.cap)

/-- Whether a queue may dispatch a new segment (Table TIM-3). -/
def State.mayNew (s : State) (p q n : Nat) : Bool :=
  (!s.flag (F.SLU_Q_SHAPE_EN.ix p q) || decide (0 ≤ s.credit p q)) && s.capOk n && s.hopPermits p q

/-- The segment that a port would dispatch now: queue and place (R332). A flow that has failed or lost its peer is stopped
(R263). -/
def State.eligible (s : State) (p : Nat) : Option (Nat × Nat × QSeg) :=
  let head := fun (resend : Bool) (q : Nat) =>
    if !s.gateOpen p q then none
    else match ((s.sluQueue p q).zipIdx).find? fun x => x.1.resend == resend && s.flowState x.1.seg.flow == 1 &&
        s.streamRoom p x.1.seg.flow with
      | none => none
      | some x => if resend || s.mayNew p q x.1.seg.wire.length then some (q, x.2, x.1) else none
  let qs := (List.range 32).reverse
  (qs.findSome? (head true)).or (qs.findSome? (head false))

/-- A segment's bytes put into its flow's stream buffer on a port. -/
def State.stream (s : State) (p : Nat) (x : Seg) : State :=
  s.onLine p fun l => { l with tx := Tab.insert l.tx x.flow (Tab.get [] l.tx x.flow ++ [x.wire]) }

/-- A segment has been sent again (R263, SEG_RESENT): counted, timed and reported. -/
def State.sentAgain (s : State) (x : Seg) : State :=
  let f := x.flow
  let s1 := s.setRetain (s.mlr.retain.map fun y => if y.flow == f && y.seq == x.seq then
    { y with sends := y.sends + 1, sentAt := s.ns64 } else y)
  ((s1.bump (F.MLR_FLOW_CNT_A_RESENT.ix f)).firstMlr 0xB0 f).raise 0xB0 .ce (s.locFlow f) 0 f x.seq

/-- What armed sources do to a segment just sent (R372): it is sent again, or the retain buffer loses its contents. -/
def State.forcedSend (s : State) (p : Nat) (x : Seg) : State :=
  let s1 := if s.forcedAt 0xB0 (s.locFlow x.flow) then (s.stream p x).sentAgain x else s
  let f := ((s1.mlr.retain.head?).map fun y => y.flow).getD 0
  if s1.forcedAt 0xB3 (s1.locFlow f) then s1.loseRetain else s1

/-- A segment is sent (R330, R263, R266): into its flow's stream buffer; a new one is written to the RETAIN area, and charged
to its shaper and the cap. -/
def State.dispatchSeg (s : State) (p q i : Nat) (x : QSeg) : State :=
  let s1 := (s.setSluQueue p q ((s.sluQueue p q).eraseIdx i)).stream p x.seg
  if x.resend then s1.sentAgain x.seg
  else
    let n := x.seg.wire.length
    let s2 := (s1.writeRetain x.seg).setRetain (s1.mlr.retain ++ [{ x.seg with sends := 1, sentAt := s.ns64 }])
    let low : Int := -((1024 * s.get (F.SLU_Q_LO_BYTES.ix p q) : Nat) : Int)
    let s3 := if s.flag (F.SLU_Q_SHAPE_EN.ix p q) then s2.setCredit p q (max low (s.credit p q - (1024 * n : Nat))) else s2
    (if s.flag F.MLR_STAT_THROTTLED then { s3 with slu := { s3.slu with cap := s3.slu.cap - 1024 * n } } else s3).forcedSend p
      x.seg

/-- Dispatches of a port while a segment is eligible. -/
def State.dispatchAll (s : State) (p : Nat) : Nat → State
  | 0 => s
  | k + 1 => match s.eligible p with
    | none => s
    | some x => (s.dispatchSeg p x.1 x.2.1 x.2.2).dispatchAll p k

/-- A retained segment is queued to be sent again (R263, R331), unless it already waits. -/
def State.resend (s : State) (x : Seg) : State :=
  let waits := s.slu.queues.any fun q => q.2.any fun y => y.seg.flow == x.flow && y.seg.seq == x.seq
  if waits then s else (s.enqueue x true (s.flowQueue x.flow)).getD s

/-- Bytes taken from a stream buffer (R242). -/
def takeBytes : Nat → List (List Byte) → List Byte × List (List Byte)
  | _, [] => ([], [])
  | n, b :: t =>
    if n = 0 then ([], b :: t)
    else if b.length ≤ n then
      let r := takeBytes (n - b.length) t
      (b ++ r.1, r.2)
    else (b.take n, b.drop n :: t)

/-- One slot of a frame filled from the flow that holds it: dispatches first, then the stream's bytes (R235, R241). -/
def State.fillSlot (s : State) (p page n : Nat) (send : Bool) : List Byte × State :=
  let s1 := if send && s.scheduled p then s.dispatchAll p 64 else s
  match entryFlow (s1.pageEntry p 0 page n) with
  | none => ([], s1)
  | some f =>
    if !send then ([], s1)
    else
      let r := takeBytes 2048 (Tab.get [] (s1.line p).tx f)
      (r.1, s1.onLine p fun l => { l with tx := Tab.put [] l.tx f r.2 })

/-- The 64 slots of a frame. -/
def State.fillSlots (s : State) (p page : Nat) (send : Bool) : List Nat → List (List Byte) × State
  | [] => ([], s)
  | n :: t =>
    let x := s.fillSlot p page n send
    let r := x.2.fillSlots p page send t
    (x.1 :: r.1, r.2)

end Sys2Proof.Machine
end

