-- ==== Sys2Proof/Machine/Line.lean ====
section
/-! DEFINITION. Line ports (R227–R252): defects, protection groups, swaps, a frame sent and a frame received. -/

namespace Sys2Proof.Machine

/-- The location code of a line port's faults (R253). -/
def locLine (p : Nat) : Nat := locChip (0x20 + p)

/-- A line fault. -/
def State.raiseLine (s : State) (source : Nat) (cls : FClass) (p : Nat) : State := s.raise source cls (locLine p) 0 p

/-! Protection groups (R246–R249). -/

/-- A group with no request. -/
def GroupSt.idle : GroupSt := ⟨false, false, false, false, false, false, 0, none, none⟩

/-- A group. -/
def State.group (s : State) (g : Nat) : GroupSt := Tab.get GroupSt.idle s.lhl.groups g

/-- A group written. -/
def State.setGroup (s : State) (g : Nat) (x : GroupSt) : State :=
  { s with lhl := { s.lhl with groups := Tab.put GroupSt.idle s.lhl.groups g x } }

/-- The highest local request of a group (Table LHL-6). -/
def State.localReq (s : State) (g : Nat) : Nat :=
  let x := s.group g
  let cmd := s.get (F.LHL_PG_CMD_CMD.ix g)
  if cmd = 1 then 9 else if x.sfP then 8 else if cmd = 2 then 7 else if x.sfW then 6 else if x.sdP then 5
  else if x.sdW then 4 else if cmd = 3 then 3 else if x.wtr then 2 else if x.dnr then 1 else 0

/-- The request in force: under 1:1 the far end's competes (R247). -/
def State.groupReq (s : State) (g : Nat) : Nat :=
  if s.get (F.LHL_PG_CFG_MODE.ix g) = 2 then max (s.localReq g) (s.get (F.LHL_PG_STAT_FAR_REQ.ix g)) else s.localReq g

/-- Whether a request takes the traffic from protection (Table LHL-6). -/
def toProtection (r : Nat) : Bool := r == 7 || r == 6 || r == 4 || (decide (1 ≤ r) && decide (r ≤ 3))

/-- The port that a group's traffic is taken from. -/
def State.selectedPort (s : State) (g : Nat) : Nat := if s.flag (F.LHL_PG_STAT_SELECTED.ix g) then g + 2 else g

/-- DOWN and PROT_DOWN follow the selected port's signal (R247), or an armed source (R372). -/
def State.groupDown (s : State) (g : Nat) : State :=
  let down := s.get (F.LHL_PG_CFG_MODE.ix g) != 0 && (s.getBit F.LHL_STAT_SF (s.selectedPort g) ||
    (!s.flag (F.LHL_PG_STAT_DOWN.ix g) && s.forcedAt 0xA3 (locLine (s.selectedPort g))))
  if down == s.flag (F.LHL_PG_STAT_DOWN.ix g) then s
  else
    let s1 := s.put (F.LHL_PG_STAT_DOWN.ix g) down
    if down then (s1.evtOf F.LHL_EVT_PROT_DOWN g).raiseLine 0xA3 .uc (s.selectedPort g)
    else s1.evtEndOf F.LHL_EVT_PROT_DOWN g

/-- A group's request follows its causes (R247, R248): a request above WTR ends WTR, one that takes traffic back to
working ends DNR. -/
def State.settleGroup (s : State) (g : Nat) : State :=
  if s.get (F.LHL_PG_CFG_MODE.ix g) = 0 then s
  else
    let r := s.groupReq g
    let x := s.group g
    let y : GroupSt := { x with
      wtr := x.wtr && decide (r ≤ 2)
      dnr := x.dnr && (decide (r ≤ 1) || toProtection r)
      asked := if r = s.get (F.LHL_PG_STAT_REQ.ix g) then x.asked else s.ns64 }
    let s1 := (s.setGroup g y).set (F.LHL_PG_STAT_REQ.ix g) r
    (if y.wtr then s1 else s1.set (F.LHL_PG_STAT_WTR_LEFT.ix g) 0).groupDown g

/-- A port's signal fail or degrade raised as its group's request (R247). -/
def GroupSt.raised (x : GroupSt) (p : Nat) (degrade b : Bool) : GroupSt :=
  match isProtection p, degrade with
  | false, false => { x with sfW := b }
  | false, true => { x with sdW := b }
  | true, false => { x with sfP := b }
  | true, true => { x with sdP := b }

/-- A defect's request is raised or withdrawn (R248). When the last request of the working port clears while protection is
selected, WTR or DNR follows. -/
def State.askGroup (s : State) (p : Nat) (degrade b : Bool) : State :=
  let g := groupOf p
  let x := s.group g
  let y := x.raised p degrade b
  let eased := (x.sfW || x.sdW) && !(y.sfW || y.sdW) && s.flag (F.LHL_PG_STAT_SELECTED.ix g)
  if eased then
    if s.flag (F.LHL_PG_CFG_REVERT.ix g) then
      ((s.setGroup g { y with wtr := true }).set (F.LHL_PG_STAT_WTR_LEFT.ix g) (s.get (F.LHL_PG_CFG_WTR_S.ix g))).settleGroup g
    else (s.setGroup g { y with dnr := true }).settleGroup g
  else (s.setGroup g y).settleGroup g

/-! Defects (R239). -/

/-- Whether a port has a defect of class SF. -/
def State.sigFail (s : State) (p : Nat) : Bool :=
  s.flag (F.LHL_PORT_STAT_LOS.ix p) || s.flag (F.LHL_PORT_STAT_LOA.ix p) || s.flag (F.LHL_PORT_STAT_EXC.ix p) ||
    (s.flag (F.LHL_PORT_STAT_TIM.ix p) && s.flag (F.LHL_EXPECT_TIM_SF.ix p))

/-- Whether a port has any defect. -/
def State.anyDefect (s : State) (p : Nat) : Bool :=
  s.sigFail p || s.flag (F.LHL_PORT_STAT_TIM.ix p) || s.flag (F.LHL_PORT_STAT_DEG.ix p) ||
    s.flag (F.LHL_PORT_STAT_RDI_RX.ix p)

/-- One of signal fail and signal degrade of a port follows its defects, with its event, its fault and its group's
request: at once, unless a hold-off delays the rising. An armed source acts as the port's entry, which the next look at
its defects ends (R372). -/
def State.followSignal (s : State) (p : Nat) (degrade bad : Bool) : State :=
  let f := if degrade then F.LHL_STAT_SD else F.LHL_STAT_SF
  let ev := if degrade then F.LHL_EVT_SD else F.LHL_EVT_SF
  let source := if degrade then 0xA1 else 0xA0
  let now := bad || (!s.getBit f p && s.forcedAt source (locLine p))
  if s.getBit f p == now then s
  else
    let s1 := s.setBit f p now
    if now then
      let s2 := (s1.evtOf ev p).raiseLine source (if degrade then .ce else .uc) p
      if s2.get (F.LHL_PG_CFG_HOLDOFF.ix (groupOf p)) = 0 then s2.askGroup p degrade true else s2
    else (s1.evtEndOf ev p).askGroup p degrade false

/-- Signal fail and signal degrade follow the defects, and the second keeps what it has seen (R239, R251). -/
def State.lineDefects (s : State) (p : Nat) : State :=
  let sf := s.sigFail p
  let s1 := ((s.followSignal p false sf).followSignal p true (!sf && s.flag (F.LHL_PORT_STAT_DEG.ix p))).groupDown
    (groupOf p)
  s1.onLine p fun l => { l with
    secDefect := l.secDefect || s1.anyDefect p
    secSf := l.secSf || sf
    secRdi := l.secRdi || s1.flag (F.LHL_PORT_STAT_RDI_RX.ix p) }

/-- The framer's state, with its ALIGNED bit (R236). -/
def State.setFramer (s : State) (p st : Nat) : State :=
  (s.set (F.LHL_ALIGN_STAT_STATE.ix p) st).setBit F.LHL_STAT_ALIGNED p (st == 3)

/-- The candidates written, with CANDS. -/
def State.setCands (s : State) (p : Nat) (l : List Cand) : State :=
  (s.onLine p fun x => { x with cands := l }).set (F.LHL_ALIGN_STAT_CANDS.ix p) l.length

/-- The framer leaves its alignment for HUNT or OFF: no candidates, and the windows of R239 start afresh. -/
def State.dropAlign (s : State) (p st : Nat) : State :=
  (((s.setFramer p st).setCands p []).set (F.LHL_ALIGN_STAT_MISSES.ix p) 0).onLine p fun l => { l with
    corr := 0, unc := 0, excClear := 0, degUp := 0, degDown := 0, timBad := 0, timGood := 0, rdiSet := 0, rdiClear := 0 }

/-- LOS of a port is declared (R236, R239, R442): the framer is OFF. LOA stands until the framer is ALIGNED. -/
def State.losDeclare (s : State) (p : Nat) : State :=
  ((s.dropAlign p 0).set (F.LHL_PORT_STAT_LOS.ix p) 1).lineDefects p

/-- LOS of a port clears, and its lanes are locked: from OFF to HUNT, and the transmitter runs (R235, R236). -/
def State.losClear (s : State) (p : Nat) : State :=
  let s1 := (s.set (F.LHL_PORT_STAT_LOS.ix p) 0).onLine p fun l => { l with txOn := true }
  (if s.get (F.LHL_ALIGN_STAT_STATE.ix p) = 0 then s1.setFramer p 1 else s1).lineDefects p

/-! Messages in a frame's slots (R232, R262, R267, R273, R325, R326). -/

/-- Whether a message goes in the ACK slot. -/
def LineMsg.inAck : LineMsg → Bool
  | .notice _ => false
  | .ptp _ _ _ _ => false
  | _ => true

/-- Whether a message goes before the others of its slot (R262, R325). -/
def LineMsg.first : LineMsg → Bool
  | .ack _ => true
  | .notice _ => true
  | _ => false

/-- Whether a message of IEEE 1588 is an event message that a transparent clock corrects: Sync or Delay_Req. -/
def ptpEvent (body : List Byte) : Bool := decide (beAt body 0 1 % 16 ≤ 1)

/-- A message's correctionField raised (R325). -/
def ptpCorrect (body : List Byte) (d : Int) : List Byte :=
  body.take 8 ++ beBytes 8 (unsigned 64 (signed 64 (beAt body 8 8) + d)) ++ body.drop 16

/-- A Sync's originTimestamp from the frame's stamp, the fraction cut off added to the correctionField (R326). -/
def ptpOneStep (body : List Byte) (stamp : Nat) : List Byte :=
  let b := ptpCorrect body (stamp % 65536 : Nat)
  let ns := stampNs stamp
  b.take 34 ++ beBytes 6 (ns / 1000000000) ++ beBytes 4 (ns % 1000000000) ++ b.drop 44

/-- A message as the frame with this stamp carries it: TYPE and body. -/
def LineMsg.at (stamp : Nat) : LineMsg → Nat × List Byte
  | .ack b => (1, b)
  | .echoReq => (2, beBytes 8 (stampNs stamp))
  | .echoReply t1 t2 => (3, beBytes 8 t1 ++ beBytes 8 t2 ++ beBytes 8 (stampNs stamp))
  | .notice b => (5, b)
  | .ptp b ingress host oneStep =>
    (4, if !ptpEvent b then b
      else match ingress with
        | some t => ptpCorrect b ((stamp : Int) - t)
        | none => if host && oneStep && beAt b 0 1 % 16 = 0 then ptpOneStep b stamp else b)

/-- The form 0 of an acknowledgement with a map (R262). -/
def shortAck (b : List Byte) : List Byte := beBytes 1 (beAt b 0 1) ++ [0#8] ++ slice b 2 6

/-- The messages that fit a slot of `n` bytes, in order; an acknowledgement with a map goes as form 0 when only that
fits. The bytes of the slot, the messages sent, and those left. -/
def packSlot (stamp : Nat) : Nat → List LineMsg → List Byte × List LineMsg × List LineMsg
  | _, [] => ([], [], [])
  | n, m :: t =>
    let x := m.at stamp
    let full := slotMsg x.1 x.2
    let short := match m with
      | .ack b => if beAt b 1 1 % 4 = 1 then slotMsg 1 (shortAck b) else full
      | _ => full
    let out := if full.length ≤ n then full else short
    if out.length ≤ n then
      let r := packSlot stamp (n - out.length) t
      (out ++ r.1, m :: r.2.1, r.2.2)
    else
      let r := packSlot stamp n t
      (r.1, r.2.1, m :: r.2.2)

/-- What follows the sending of a message: an echo request waits for its reply, and the host learns the stamp of its event
message (R326). -/
def State.msgSent (s : State) (p stamp : Nat) : LineMsg → State
  | .echoReq => { s with mlr := { s.mlr with
      echoes := Tab.insert s.mlr.echoes p (Tab.get [] s.mlr.echoes p ++ [stampNs stamp]) } }
  | .ptp b _ true _ =>
    let s1 := s.set F.TIM_PTP_TXSTAT_BUSY 0
    if ptpEvent b then
      (s1.set64 F.TIM_PTP_TXTS_LO_NS64 F.TIM_PTP_TXTS_HI_NS64 (stampNs stamp)).set F.TIM_PTP_TXSTAT_FRAC (stamp % 65536)
    else s1
  | _ => s

/-- Several messages sent. -/
def State.msgsSent (s : State) (p stamp : Nat) : List LineMsg → State
  | [] => s
  | m :: t => (s.msgSent p stamp m).msgsSent p stamp t

/-- A message put to wait for a port's frames. -/
def State.sayOn (s : State) (p : Nat) (m : LineMsg) : State := s.onLine p fun l => { l with out := l.out ++ [m] }

/-- A notice with the ages of this moment waits for a port's next frame (R273). -/
def State.sendNotice (s : State) (p : Nat) : State :=
  let s1 := s.growAges
  (s1.onLine p fun l => { l with noticed := s1.noticeBody false }).sayOn p (.notice (s1.noticeBody true))

/-! A frame sent (R235, R240, R243, R246). -/

/-- A transmit swap takes effect at its frame (R243). -/
def State.txSwap (s : State) (p : Nat) : State :=
  if (s.line p).armed = some (s.line p).txNext then
    (((((s.setBit F.TSI_STAT_TX_PAGE p (!s.getBit F.TSI_STAT_TX_PAGE p)).setBit F.TSI_STAT_ARMED p false).onLine p
      fun l => { l with armed := none }).countFlows).updateCap).evt F.TSI_EVT_SWAPPED
  else s

/-- SWAP_IN of the next frame (R243). -/
def State.swapIn (s : State) (p : Nat) : Nat :=
  match (s.line p).armed with
  | some n => if (s.line p).txNext < n ∧ n ≤ (s.line p).txNext + 16 then n - (s.line p).txNext else 0
  | none => 0

/-- Whether the working signal of a port's group leaves on its protection port too: in 1+1 always, in 1:1 while bridged
(R246, R247). -/
def State.bridged (s : State) (p : Nat) : Bool :=
  s.groupMode p == 1 || (s.groupMode p == 2 && s.flag (F.LHL_PG_STAT_BRIDGED.ix (groupOf p)))

/-- The header of a port's frame with a frame number. `w` is the port whose slots it carries. PSC_SIG tells whether the
group's traffic is taken from protection (DESIGN CHOICE: Table LHL-2 does not say at which end). -/
def State.frameHead (s : State) (p w n : Nat) (mgmt ack : List Byte) : FrameHead :=
  let g := groupOf p
  let mode := s.groupMode p
  ⟨p, s.activePage w 0, s.getBit F.LHL_STAT_SF p, s.swapIn w, s.site, imgGw s.image, n, s.epoch,
    if mode = 0 then 0 else s.localReq g, if mode = 0 then 0 else s.get (F.LHL_PG_STAT_SELECTED.ix g),
    b2n (s.bridged p), mode, (s.line p).reiUnc, (s.line p).reiCorr, mgmt, ack⟩

/-- A notice goes at once after a change of what it tells (R273): it waits for the port's next frame. -/
def State.noticeDue (s : State) (p : Nat) : State :=
  if (s.line p).noticed == s.noticeBody false then s else s.sendNotice p

/-- The code that an optical port's shadow markers carry. -/
def State.shadowCode (s : State) (k : Nat) : Nat := ((Tab.find s.opt.ports k).map fun x => x.code).getD 0x33

/-- The lanes of a frame with the ninth (R350): while the port's shadow lane carries a copy, it sends that lane's units, with
the code and its complement in bytes 14 and 15 of the marker. -/
def State.withShadow (s : State) (p : Nat) (lanes : List (List Nat)) : List (List Nat) :=
  let c := s.shadowCode (16 + p)
  match lanes[s.get (F.OPT_PORT_STAT_TX_SHADOW.ix (16 + p))]? with
  | some (m :: us) => lanes ++ [(m / 65536 * 65536 + c * 256 + (255 - c)) :: us]
  | _ => lanes

/-- A frame of a port with given slots and frame number goes out, with the messages that wait (R232). A fenced device
sends no acknowledgements (R271). -/
def State.sendFrame (s0 : State) (p w n : Nat) (slots : List (List Byte)) : State :=
  let s := s0.noticeDue p
  let stamp := s.lineTx p
  let out := (s.line p).out
  let ordered := fun (l : List LineMsg) => l.filter LineMsg.first ++ l.filter fun m => !m.first
  let mute := fun (m : LineMsg) => s.fenced && (match m with
    | .ack _ => true
    | _ => false)
  let acks := packSlot stamp 510 ((ordered (out.filter fun m => m.inAck)).filter fun m => !mute m)
  let mgmt := packSlot stamp 256 (ordered (out.filter fun m => !m.inAck))
  let units := frameUnits (s.frameHead p w n mgmt.1 acks.1) slots
  let s1 := (s.onLine p fun l => { l with out := acks.2.2 ++ mgmt.2.2 }).msgsSent p stamp (acks.2.1 ++ mgmt.2.1)
  (s1.set64 (F.LHL_TX_FNUM_LO_FNUM.ix p) (F.LHL_TX_FNUM_HI_FNUM.ix p) n).emit (.frame p (s.withShadow p (toLanes units)))

/-- The next frame number of a port. -/
def State.countFrame (s : State) (p n : Nat) : State := s.onLine p fun l => { l with txNext := n % 2 ^ 64 }

/-- Whether a port is a protection port whose frames carry its working port's slots. -/
def State.copied (s : State) (p : Nat) : Bool := isProtection p && s.bridged p

/-- The frame number of a protection port's copy of a frame `n`: the same in 1+1, the port's own under 1:1 (R235, R246). -/
def State.copyNum (s : State) (p n : Nat) : Nat := if s.groupMode p = 1 then n else (s.line p).txNext

/-- A copy of a working port's frame `n` leaves on the protection port `p` (R246). -/
def State.sendCopy (s : State) (p n : Nat) (slots : List (List Byte)) : State :=
  let m := s.copyNum p n
  (s.sendFrame p (p - 2) m slots).countFrame p (m + 1)

/-- A port builds and sends its next frame, and its copy where there is one (R235). -/
def State.transmit (s : State) (p : Nat) : State :=
  let s1 := s.txSwap p
  let x := s1.fillSlots p (s1.activePage p 0) (!s1.fenced) (List.range 64)
  let n := (s1.line p).txNext
  let s2 := x.2.sendFrame p p n x.1
  (if s1.bridged p && !isProtection p && (s1.line (p + 2)).txOn then s2.sendCopy (p + 2) n x.1 else s2).countFrame p (n + 1)

/-- A protection port sends its working port's slots while that port's own transmitter does not run (R235, R246); in 1+1 the
frame numbers of the two go on together. -/
def State.transmitCopy (s : State) (p : Nat) : State :=
  let w := p - 2
  let s1 := s.txSwap w
  let x := s1.fillSlots w (s1.activePage w 0) (!s1.fenced) (List.range 64)
  let n := (s1.line w).txNext
  let s2 := x.2.sendCopy p n x.1
  if s1.groupMode p = 1 then s2.countFrame w (n + 1) else s2

/-! A frame received (R235, R238, R242, R244, R271). -/

/-- A frame as the receiver has it: its units descrambled and corrected, the bits corrected, the codewords left, whether
the alignment word matches and whether HCRC checks. -/
structure RxFrame where
  units : List Nat
  corr : Nat
  unc : Nat
  word : Bool
  hcrc : Bool
deriving DecidableEq, Repr

/-- The lanes of a frame decoded (R233, R234). -/
def State.decodeFrame (s : State) (lanes : List (List Nat)) : RxFrame :=
  let raw := fromLanes lanes
  let c := bchCorrect (scramble raw)
  ⟨c.1, c.2.1, c.2.2, markerOk (s.get F.LHL_CFG_ALIGN_TOL) 0 ((raw[0]?).getD 0), hcrcOk (fromUnits (c.1.take 64))⟩

/-- The header of a decoded frame. -/
def RxFrame.head (x : RxFrame) : FrameHead := parseHead (fromUnits (x.units.take 64))

/-- Slot n of a decoded frame. -/
def RxFrame.slot (x : RxFrame) (n : Nat) : List Byte := fromUnits ((x.units.drop (64 + 128 * n)).take 128)

/-- TIM and RDI_RX follow their runs of frames (R239). -/
def State.runDefects (s : State) (p : Nat) : State :=
  let l := s.line p
  let hold := fun (t : State) (f : Fld) (up down : Nat) => if 3 ≤ up then t.set f 1 else if 3 ≤ down then t.set f 0 else t
  hold (hold s (F.LHL_PORT_STAT_TIM.ix p) l.timBad l.timGood) (F.LHL_PORT_STAT_RDI_RX.ix p) l.rdiSet l.rdiClear

/-- The messages of a frame with a good header: those of a type that their slot does not permit are counted, and
acknowledgements and notices are taken only when the frame is accepted (R232, R271). -/
def State.hear (s : State) (p stamp : Nat) (h : FrameHead) (ok : Bool) : State :=
  let mgmt := parseSlot 128 h.mgmt
  let ack := parseSlot 255 h.ack
  let good := mgmt.filter (fun m => m.1 == 4 || m.1 == 5) ++ ack.filter fun m => decide (1 ≤ m.1) && decide (m.1 ≤ 3)
  let bad := mgmt.length + ack.length - good.length
  let take := good.filter fun m => ok || (m.1 != 1 && m.1 != 5)
  ({ s with lhl := { s.lhl with heard := s.lhl.heard ++ take.map fun (m : Nat × List Byte) => Heard.mk p stamp m.1 m.2 } }).bump
    (F.LHL_CNT_MSG_BAD.ix p) bad

/-- What a good header brings (R230, R238–R240, R247, R250): frame number, sender, indications and requests. -/
def State.takeHead (s : State) (p : Nat) (h : FrameHead) : State :=
  let l := s.line p
  let jump := h.fnum != (l.rxLast + 1) % 2 ^ 64
  let match_ := h.site == s.get (F.LHL_EXPECT_SITE.ix p) && h.gw == s.get (F.LHL_EXPECT_GW.ix p)
  let s1 := if jump then s.bump (F.LHL_CNT_FNUM_JUMP.ix p) else s
  let s2 := (s1.setAll [(F.LHL_PORT_STAT_RX_SITE.ix p, h.site), (F.LHL_PORT_STAT_RX_GW.ix p, h.gw)]).set64
    (F.LHL_RX_FNUM_LO_FNUM.ix p) (F.LHL_RX_FNUM_HI_FNUM.ix p) h.fnum
  let s3 := s2.onLine p fun l => { l with
    rxLast := h.fnum
    swapIn := if h.swapIn = 0 then none else some h.swapIn
    secRei := l.secRei + h.reiUnc
    secReiCorr := l.secReiCorr + h.reiCorr
    timBad := if match_ then 0 else l.timBad + 1
    timGood := if match_ then l.timGood + 1 else 0
    rdiSet := if h.rdi then l.rdiSet + 1 else 0
    rdiClear := if h.rdi then 0 else l.rdiClear + 1 }
  let s4 := s3.runDefects p
  if s4.groupMode p != 0 && isProtection p then
    (s4.set (F.LHL_PG_STAT_FAR_REQ.ix (groupOf p)) h.pscReq).settleGroup (groupOf p)
  else s4

/-- The receive page that a frame of port `p` applies at the memory of port `w` (R244): the one its header names, or the one
predicted. -/
def State.framePage (s : State) (p w : Nat) (x : RxFrame) : Nat :=
  let cur := s.activePage w 1
  if x.hcrc then x.head.page
  else if (s.line p).swapIn = some 1 then 1 - cur else cur

/-- The applied receive page of a port's memory changes (R244). -/
def State.rxSwap (s : State) (p page : Nat) : State :=
  if page = s.activePage p 1 then s
  else
    let ready := s.getBit F.TSI_STAT_RX_READY p && !s.forcedAt 0xA5 (locLine p)
    let s1 := ((((s.setBit F.TSI_STAT_RX_PAGE p (page == 1)).setBit F.TSI_STAT_RX_READY p false).onLine p fun l =>
      { l with rxBad := !ready }).countFlows).evt F.TSI_EVT_SWAPPED
    if ready then s1 else (s1.evt F.TSI_EVT_RX_UNREADY).raiseLine 0xA5 .uc p

/-- The port whose connection memory a port's frames go through, if any (R246): in a protected group the selected port's
frames go through the working port's memory, and under 1:1 the protection port's extra traffic through its own while
working is selected. -/
def State.memoryOf (s : State) (p : Nat) : Option Nat :=
  if s.groupMode p = 0 then some p
  else if s.selectedPort (groupOf p) = p then some (groupOf p)
  else if s.groupMode p = 2 ∧ isProtection p then some p
  else none

/-- Whether a frame of port `p` belongs to its group's traffic: `w` is the memory it goes through. -/
def State.groupTraffic (s : State) (p w : Nat) : Bool := s.groupMode p != 0 && w == groupOf p

/-- Whether a frame is delivered (R247, R249): not while its group is down, and no frame of the group's traffic at or below
the last one delivered from the other port. -/
def State.delivers (s : State) (p w fnum : Nat) : Bool :=
  let x := s.group (groupOf p)
  let fresh := match if isProtection p then x.lastW else x.lastP with
    | none => true
    | some n => decide (n < fnum)
  s.groupMode p == 0 || (!s.flag (F.LHL_PG_STAT_DOWN.ix (groupOf p)) && (!s.groupTraffic p w || fresh))

/-- The frame number last delivered from a port of a group (R249). -/
def State.noteDelivered (s : State) (p w fnum : Nat) : State :=
  if s.groupTraffic p w then
    let x := s.group (groupOf p)
    s.setGroup (groupOf p) (if isProtection p then { x with lastP := some fnum } else { x with lastW := some fnum })
  else s

/-- The slots of a frame delivered to their flows' streams through a port's receive page (R241, R242). -/
def State.deliverSlots (s : State) (w : Nat) (x : RxFrame) : State :=
  let page := s.activePage w 1
  let rx := (List.range 64).foldl (fun (t : Tab (List Byte)) n => match entryFlow (s.pageEntry w 1 page n) with
    | some f => Tab.insert t f (Tab.get [] t f ++ x.slot n)
    | none => t) (s.line w).rx
  s.onLine w fun l => { l with rx := rx, secUnready := l.secUnready + b2n l.rxBad }

/-- A frame's alignment word and header check counted (R238, Table LHL-3): five misses in a row are a loss of alignment. -/
def State.countMiss (s : State) (p : Nat) (good : Bool) : State :=
  let misses := if good then 0 else s.get (F.LHL_ALIGN_STAT_MISSES.ix p) + 1
  if misses = 5 then
    (((s.dropAlign p 1).set (F.LHL_PORT_STAT_LOA.ix p) 1).bump (F.LHL_CNT_LOA.ix p)).lineDefects p
  else (s.set (F.LHL_ALIGN_STAT_MISSES.ix p) misses).lineDefects p

/-- An aligned frame received (R238): checked, its header taken, its page applied, and its slots delivered. -/
def State.receive (s : State) (p : Nat) (x : RxFrame) (skew : Nat) : State :=
  let h := x.head
  let fnum := if x.hcrc then h.fnum else ((s.line p).rxLast + 1) % 2 ^ 64
  let s1 := (s.onLine p fun l => { l with
    corr := l.corr + x.corr, unc := l.unc + x.unc, reiUnc := x.unc, reiCorr := x.corr
    secCorr := l.secCorr + x.corr, secUnc := l.secUnc + x.unc, secHcrc := l.secHcrc + b2n (!x.hcrc) }).set
    (F.LHL_ALIGN_STAT_SKEW_MAX.ix p) (max (s.get (F.LHL_ALIGN_STAT_SKEW_MAX.ix p)) (min skew 255))
  let w := s1.memoryOf p
  let page := w.map fun m => s1.framePage p m x
  let s2 := if x.hcrc then
      let t := (s1.takeHead p h).seeEpoch h.mepoch
      let ok := t.epochOk h.mepoch (t.memberGw h.site h.gw) && t.memberGw h.site h.gw
      (t.onLine p fun l => { l with accepted := ok }).hear p (s.lineRx p) h ok
    else s1.onLine p fun l => { l with
      rxLast := fnum, swapIn := l.swapIn.bind fun n => if n ≤ 1 then none else some (n - 1) }
  let s3 := if (s2.line p).accepted then s2 else s2.onLine p fun l => { l with fenced := l.fenced + 1 }
  let s4 := match w with
    | none => s3
    | some m =>
      let t := s3.rxSwap m (page.getD 0)
      if t.delivers p m fnum then
        let u := t.noteDelivered p m fnum
        if (u.line p).accepted then u.deliverSlots m x else u
      else t
  s4.countMiss p (x.word && x.hcrc)

end Sys2Proof.Machine
end

