-- ==== Sys2Proof/Machine/Mill.lean ====
section
/-! DEFINITION. Millrace (R256–R269, R286, R331): segments handed over and received, acknowledgements, resends and
replacements, echoes and the rate cap. -/

namespace Sys2Proof.Machine

/-! Handing over (R21, R29, R258, R260, R264, R266, R331). -/

/-- Work items whose data a failed flow carried fail (R263). -/
def State.failItem (s : State) (item : Nat) : State :=
  { s with sched := { s.sched with
    flights := s.sched.flights.map fun x => if x.entry.item == item then { x with failed := true } else x } }

/-- One segment made and handed to Sluice, and whether it was. A flow whose key cannot be used, or whose window is full,
sends nothing and waits, and so does one whose segment does not fit the retain buffer. A source that reaches no store, or a
far-tier link that is down, fails the work item (R141, R159). -/
def State.handOne (s : State) (r : FlowRec) (q : SegReq) : State × Bool :=
  if r.win ≤ seqAhead (s.txNextSeq q.flow) (s.ackCum q.flow) then (s, false)
  else match s.txKey r with
    | .absent => (s.keyAbsent r.hub 1 r.kslot q.flow, false)
    | .exhausted => (s.keyExhausted r.hub 1 r.kslot q.flow, false)
    | .waits => (s, false)
    | .key k ke =>
      let f := s.rangeFaults 0 (if q.kind = 3 ∨ q.kind = 5 then [] else [(q.addr, min q.len 16384)]) []
      if f.1 then (f.2.failItem q.item, true)
      else
        let x := f.2.makeSeg r q k ke
        let n := x.1.wire.length
        if !s.retainFits n then (s.set F.MLR_STAT_RETAIN_FULL 1, false)
        else
          let t := { x.2 with mlr := { x.2.mlr with ring := (s.mlr.ring + n) % s.retainSize } }
          (t.admitSeg x.1, true)

/-- Whether the peer of a flow has been sent the STEP_CTL of a step, on any flow (R260). -/
def State.ctlSent (s : State) (r : FlowRec) (step : Nat × Nat) : Bool :=
  (imgFlows s.image).any fun x => x.site == r.site && x.gw == r.gw && (s.txFlow x.flow).ctl == some step

/-- One segment handed over, and whether it was (R260): before the first EXCH segment of a step its peer gets a STEP_CTL on
the same flow. -/
def State.handCtl (s : State) (r : FlowRec) (q : SegReq) : State × Bool :=
  let step := (s.building % 2 ^ 32, s.commitMask)
  if q.kind = 1 ∧ !s.ctlSent r step then
    let x := s.handOne r ⟨q.flow, 5, false, 0, 0, 0, 0, 64, false, q.item⟩
    if x.2 then (x.1.setTxFlow q.flow { x.1.txFlow q.flow with ctl := some step }).handOne r q else x
  else s.handOne r q

/-- Whether a flow sends now. -/
def State.flowSends (s : State) (r : FlowRec) : Bool :=
  r.sends && s.flowState r.flow == 1 && !s.fatal && !s.fenced && !s.cryPaused

/-- What a flow owes is handed over in order, as far as it goes (R264). -/
def State.payOwed (s : State) (r : FlowRec) : Nat → State
  | 0 => s
  | k + 1 => match (s.txFlow r.flow).owed with
    | [] => s
    | q :: t =>
      let x := s.handCtl r q
      if x.2 then (x.1.setTxFlow r.flow { x.1.txFlow r.flow with owed := t }).payOwed r k else x.1

/-- What a flow owes is handed over if it sends now. -/
def State.settleOwed (s : State) (f : Nat) : State :=
  match imgFlow s.image f with
  | none => s
  | some r => if s.flowSends r then s.payOwed r (s.txFlow f).owed.length else s

/-- Data that a flow has to send again (R264). -/
def State.owe (s : State) (f : Nat) (l : List SegReq) : State :=
  (s.setTxFlow f { s.txFlow f with owed := (s.txFlow f).owed ++ l }).settleOwed f

/-- A segment handed over (R260, R264, R331), behind what its flow owes. -/
def State.handoff (s : State) (q : SegReq) : State :=
  match imgFlow s.image q.flow with
  | none => s
  | some r =>
    if !s.flowSends r then s
    else
      let t := s.settleOwed q.flow
      if (t.txFlow q.flow).owed.isEmpty then (t.handCtl r q).1 else t

/-- Whether the Exchange sends an object's half and stage to a site (R21): two sites swap whole; in a ring of three to eight
half 0 travels in rising order of site numbers and half 1 in falling order, in N − 1 stages of reduce-scatter and N − 1 of
all-gather. -/
def State.exchanges (s : State) (r : FlowRec) (q : SegReq) : Bool :=
  let l := siteList s.commitMask
  let ring := decide (q.stage < 2 * (l.length - 1)) && r.site == ringSite l s.site (!q.half)
  r.gw == imgGw s.image && r.site != s.site && bit s.commitMask r.site && bit s.commitMask s.site &&
    (if l.length = 2 then !q.half && q.stage == 0 else ring)

/-- Whether training data of a kind may cross the line to a flow's peer now (R29): EXCH in a step that is not a held side's
close step, merge data in MERGE, and anchor and momentum that a member fetches; STEP_CTL records are the device's own. -/
def State.mayCross (s : State) (r : FlowRec) (q : SegReq) : Bool :=
  let st := s.get F.UPD_STEP_STAT_STATE
  match q.kind with
  | 1 => decide (1 ≤ st) && decide (st ≤ 4) && !s.mbr.closing && s.exchanges r q
  | 2 => st == 7
  | 3 => st == 7
  | 4 => s.memberGw r.site r.gw
  | _ => false

/-! Acknowledgements (R261–R264). -/

/-- The oldest message heard that satisfies a test, and the state without it. -/
def State.takeHeard (s : State) (p : Heard → Bool) : Option (Heard × State) :=
  match s.lhl.heard.find? p with
  | none => none
  | some h => some (h, { s with lhl := { s.lhl with heard := s.lhl.heard.erase h } })

/-- An acknowledgement message of a form. -/
def isForm (k : Nat) (h : Heard) : Bool := h.typ == 1 && beAt h.body 1 1 % 4 == k

/-- A site is heard from (R275): its bit of the own reach mask is set. -/
def State.heardFrom (s : State) (site : Nat) : State := s.setBit F.MBR_STAT_REACH site true

/-- The SEQ values that a map reports received, from CUM on (Table MLR-3). -/
def mapSeqs (cum : Nat) (map : List Byte) : List Nat :=
  (((bytesBits map).zipIdx).filter fun x => x.1).map fun x => seq48 (cum + x.2)

/-- FLOW_FAIL (R263): the flow stops, and the work item that owns the segment's data fails. -/
def State.failFlow (s : State) (x : Seg) : State :=
  let f := x.flow
  ((((s.setFlowState f 2).evt F.MLR_EVT_FLOW_FAIL).firstMlr 0xB1 f).raise 0xB1 .uc (s.locFlow f) 0 f x.seq).failItem
    x.req.item

/-- A segment is sent again, or its flow fails at RETX_LIMIT (R263). -/
def State.sendAgain (s : State) (x : Seg) : State :=
  let limit := ((imgFlow s.image x.flow).map fun r => r.retx).getD 255
  if s.flowState x.flow != 1 then s
  else if limit ≤ x.sends || s.forcedAt 0xB1 (s.locFlow x.flow) then s.failFlow x else s.resend x

/-- Several segments sent again. -/
def State.sendAllAgain (s : State) : List Seg → State
  | [] => s
  | x :: t => (s.sendAgain x).sendAllAgain t

/-- Ranges voided that CUM has passed are done, and what they owe is sent as new segments (R264). -/
def State.settleVoids (s : State) (f : Nat) : State :=
  let x := s.txFlow f
  let done := fun (v : Voided) => !seqLess (s.ackCum f) (seq48 (v.first + v.count))
  ((s.setTxFlow f { x with voids := x.voids.filter fun v => !done v }).owe f
    ((x.voids.filter done).flatMap fun v => v.owed)).settleLost

/-- Whether two requests belong to one object. -/
def sameObject (a b : SegReq) : Bool := a.kind == b.kind && a.half == b.half && a.stage == b.stage && a.obj == b.obj

/-- The source buffers of the objects of which no segment is unacknowledged are released (R265). -/
def State.releaseSources (s : State) : State :=
  let open_ := (s.mlr.retain ++ s.unsent fun _ => true).map Seg.req ++ s.mlr.tx.flatMap fun x =>
    x.2.owed ++ x.2.voids.flatMap fun v => v.owed
  { s with mlr := { s.mlr with tx := Tab.change TxFlow.idle (fun x =>
    { x with sent := x.sent.filter fun y => open_.any (sameObject y.2) }) s.mlr.tx } }

/-- What an acknowledgement covers is released (R262, R265, R266): CUM takes the highest value, the map joins what is known.
The sources of an object that earlier acknowledgements covered whole go before it, since a form 2 message leaves its
receiver ahead of the acknowledgement that covers its SEQ values. -/
def State.ackTake (s0 : State) (f cum : Nat) (map : List Nat) : State :=
  let s := s0.releaseSources
  let x := s.txFlow f
  let top := if seqLess (s.ackCum f) cum then cum else s.ackCum f
  let acked := (map.foldl Marks.add x.acked).filter fun m => !seqLess m.1 top
  let covered := fun (y : Seg) => y.flow == f && (seqLess y.seq top || Marks.has acked y.seq)
  let gone := s.mlr.retain.filter covered
  let s1 := (s.setTxFlow f { x with acked := acked, sent := gone.foldl (fun t y => Tab.insert t y.seq y.req) x.sent }).set64
    (F.MLR_FLOW_ACK_LO_SEQ.ix f) (F.MLR_FLOW_ACK_HI_SEQ.ix f) top
  let s2 := s1.setRetain (s.mlr.retain.filter fun y => !covered y)
  ((if gone.isEmpty then s2 else s2.set F.MLR_STAT_RETAIN_FULL 0).settleVoids f).settleOwed f

/-- An acknowledgement of form 0 or 1 (R261–R263). -/
def State.takeAck (s : State) (h : Heard) (withMap : Bool) : State :=
  let f := beAt h.body 0 1
  match imgFlow s.image f with
  | none => s
  | some r =>
    if !r.sends then s
    else
      let cum := beAt h.body 2 6
      let map := if withMap then mapSeqs cum (slice h.body 8 128) else []
      let s1 := (s.heardFrom r.site).ackTake f cum map
      if withMap then
        let missing := fun (y : Seg) => y.flow == f && decide (seqAhead y.seq cum < 1024) && !map.contains y.seq &&
          notBefore s.ns64 (y.sentAt + s.rttF f + 128000)
        s1.sendAllAgain (s1.mlr.retain.filter missing)
      else s1

/-- ACK (R261): the oldest form 0 received. -/
def execAck (s : State) : Host.Outcome State Fault Refusal :=
  .next (match s.takeHeard (isForm 0) with
    | some x => x.2.takeAck x.1 false
    | none => s)

/-- ACK_MAP (R261, R263): the oldest form 1 received. -/
def execAckMap (s : State) : Host.Outcome State Fault Refusal :=
  .next (match s.takeHeard (isForm 1) with
    | some x => x.2.takeAck x.1 true
    | none => s)

/-- The request that a SEQ was made from, and the state that no longer keeps it. -/
def State.takeSource (s : State) (f seq : Nat) : Option (SegReq × State) :=
  let x := s.txFlow f
  match s.mlr.retain.find? fun y => y.flow == f && y.seq == seq with
  | some y => some (y.req, s.setRetain (s.mlr.retain.filter fun z => !(z.flow == f && z.seq == seq)))
  | none => (Tab.find x.sent seq).map fun q => (q, s.setTxFlow f { x with sent := Tab.erase x.sent seq })

/-- SEQ values that a form 2 message names are replaced by raw segments under fresh SEQ values (R264). -/
def State.replaceRaw (s : State) (f : Nat) : List Nat → State
  | [] => s
  | q :: t => match s.takeSource f q with
    | some x => ((x.2.bump (F.MLR_FLOW_CNT_B_REPLACED.ix f)).owe f [{ x.1 with rawf := true }]).replaceRaw f t
    | none => s.replaceRaw f t

/-- RAW_REQ (R264): the oldest form 2 received. -/
def execRawReq (s : State) : Host.Outcome State Fault Refusal :=
  .next (match s.takeHeard (isForm 2) with
    | some x =>
      let n := beAt x.1.body 1 1 / 16
      x.2.replaceRaw (beAt x.1.body 0 1) ((List.range (min n 8)).map fun i => beAt x.1.body (2 + 6 * i) 6)
    | none => s)

/-- VOID (R264): the oldest form 3 received; its range is marked received. -/
def execVoidRange (s : State) : Host.Outcome State Fault Refusal :=
  .next (match s.takeHeard (isForm 3) with
    | some x =>
      let f := beAt x.1.body 0 1
      let first := beAt x.1.body 2 6
      if ((imgFlow s.image f).map FlowRec.receives).getD false then
        (List.range (beAt x.1.body 8 2)).foldl (fun t i => t.markSeq f (seq48 (first + i))) x.2
      else x.2
    | none => s)

/-- The map of a receiver's acknowledgement (Table MLR-3). -/
def State.ackMap (s : State) (f : Nat) : List Byte :=
  bitsBytes 128 ((List.range 1024).map fun k => s.gotSeq f (seq48 (s.rxCum f + k)))

/-- A message on every port that carries a flow's slots in a direction (R262, R264). -/
def State.sayFlow (s : State) (f dir : Nat) (m : LineMsg) : State :=
  ((List.range 4).filter fun p => decide (0 < s.slotCount p dir f)).foldl (fun t p => t.sayOn p m) s

/-- Form 2 messages that name SEQ values, eight to a message. -/
def rawMsgs (f : Nat) (l : List Nat) : List LineMsg :=
  (groups 8 l.length l).map fun x => .ack (beBytes 1 f ++ beBytes 1 (x.length * 16 + 2) ++ x.flatMap (beBytes 6))

/-- A receiver's acknowledgement of a flow (R262, R264): the SEQ values to be replaced, then CUM and the map. -/
def State.sendAck (s : State) (f : Nat) : State :=
  let x := s.rxFlow f
  let s1 := (rawMsgs f x.raw).foldl (fun t m => t.sayFlow f 1 m) s
  (s1.sayFlow f 1 (.ack (beBytes 1 f ++ [1#8] ++ beBytes 6 (s.rxCum f) ++ s.ackMap f))).setRxFlow f
    { x with raw := [], news := 0 }

/-- ACK_TIMER (R262): 64 µs have passed, or 256 new segments have come. -/
def execAckTimer (flow : Nat) (s : State) : Host.Outcome State Fault Refusal :=
  .next (if ((imgFlow s.image flow).map FlowRec.receives).getD false && !s.fatal then s.sendAck flow else s)

/-- RTO_EXPIRY (R263): no acknowledgement has covered a segment within RTO_F of its last send. -/
def execRtoExpiry (flow seq : Nat) (s : State) : Host.Outcome State Fault Refusal :=
  .next (match s.mlr.retain.find? fun y => y.flow == flow && y.seq == seq with
    | some y => if s.fatal then s else s.sendAgain y
    | none => s)

/-- VOID_REPEAT (R264): the ranges of a running flow that CUM has not passed are named again. -/
def execVoidRepeat (flow : Nat) (s : State) : Host.Outcome State Fault Refusal :=
  .next (if s.flowState flow == 1 && !s.fatal then
      (s.txFlow flow).voids.foldl (fun t v => t.sayFlow flow 0
        (.ack (beBytes 1 flow ++ [3#8] ++ beBytes 6 v.first ++ beBytes 2 v.count))) s
    else s)

/-! Segments. -/

/-- SEGMENT_HANDOFF (R21, R29, R331): a segment of the Exchange, of a merge or of a fetch; one that the step or the
membership gives no reason to cross the line does not. -/
def execSegmentHandoff (req : SegReq) (s : State) : Host.Outcome State Fault Refusal :=
  .next (match imgFlow s.image req.flow with
    | none => s
    | some r => if s.mayCross r req then s.handoff req else s)

/-- Fill units skipped (R257). -/
def skipFill : Nat → List Byte → List Byte
  | 0, bs => bs
  | n + 1, bs => if 16 ≤ bs.length && (bs.take 16).all (· == 0#8) then skipFill n (bs.drop 16) else bs

/-- Units skipped to the next start of a segment (R257). -/
def scanSync : Nat → List Byte → List Byte
  | 0, bs => bs
  | n + 1, bs => if bs.length < 32 || segStart bs then bs else scanSync n (bs.drop 16)

/-- Whether Hopper can grant a line port's buffer for a segment (R340). -/
def State.lineBuffer (s : State) (p n : Nat) : Option Nat :=
  (poolFor (p / 2) n).bind fun k => if s.grants k && s.grantable k (8 + p % 2) then none else some k

/-! Echoes (R267). -/

/-- ECHO_TIMER (R267): an echo request waits for the port's next frame. Requests older than max(UNREACH_MS, 4 × srtt) are
lost (DESIGN CHOICE). -/
def execEchoTimer (port : Nat) (s : State) : Host.Outcome State Fault Refusal :=
  .next (if s.fatal || !(s.line port).txOn then s
    else
      let limit := max (1000000 * s.get F.MBR_CFG_UNREACH_MS) (4 * s.get (F.MLR_PORT_RTT_NS.ix port))
      let l := Tab.get [] s.mlr.echoes port
      let live := l.filter fun t => !notBefore s.ns64 (t + limit)
      (({ s with mlr := { s.mlr with echoes := Tab.put [] s.mlr.echoes port live } }).bump (F.MLR_PORT_ECHO_LOST.ix port)
        (l.length - live.length)).sayOn port .echoReq)

/-- ECHO_REQUEST (R267): the oldest request received is answered with T1 and T2; T3 is the stamp of the frame that carries
the reply. -/
def execEchoRequest (s : State) : Host.Outcome State Fault Refusal :=
  .next (match s.takeHeard fun h => h.typ == 2 with
    | some x => if s.fatal then s else x.2.sayOn x.1.port (.echoReply (beAt x.1.body 0 8) (stampNs x.1.stamp))
    | none => s)

/-- A round trip measured on a port (R267). -/
def State.takeRtt (s : State) (p m : Nat) : State :=
  let srtt := s.get (F.MLR_PORT_RTT_NS.ix p)
  let var := s.get (F.MLR_PORT_RTTVAR_NS.ix p)
  let step := 1000 * s.get F.MLR_CFG_PATH_US
  let side := if srtt + step < m then 1 else if m + step < srtt then 2 else 0
  let old := Tab.get 0 s.mlr.away p
  let s1 := { s with mlr := { s.mlr with away := Tab.put 0 s.mlr.away p side } }
  if (side ≠ 0 ∧ side = old) ∨ s.forcedAt 0xB2 (locChip 0x18) then
    let s2 := { s1 with mlr := { s1.mlr with away := Tab.put 0 s1.mlr.away p 0 } }
    ((((s2.setAll [(F.MLR_PORT_RTT_NS.ix p, m), (F.MLR_PORT_RTTVAR_NS.ix p, m / 8)]).bump (F.MLR_PORT_ECHO_PATH.ix p)).evt
      F.MLR_EVT_PATH_CHANGE).firstMlr 0xB2 0).raise 0xB2 .ce (locChip 0x18) 0 p
  else
    let d : Int := (m : Int) - srtt
    s1.setAll [(F.MLR_PORT_RTTVAR_NS.ix p, ((var : Int) + ((d.natAbs : Int) - var) / 4).toNat),
      (F.MLR_PORT_RTT_NS.ix p, ((srtt : Int) + d / 8).toNat)]

/-- ECHO_REPLY (R267, R268, R275): the oldest reply received; a reply to no request that waits is discarded (R320). -/
def execEchoReply (s : State) : Host.Outcome State Fault Refusal :=
  .next (match s.takeHeard fun h => h.typ == 3 with
    | none => s
    | some x =>
      let p := x.1.port
      let t1 := beAt x.1.body 0 8
      let l := Tab.get [] s.mlr.echoes p
      if l.contains t1 then
        let s1 := { x.2 with mlr := { x.2.mlr with echoes := Tab.put [] x.2.mlr.echoes p (l.erase t1) } }
        let m := signed 64 (unsigned 64 ((stampNs x.1.stamp : Int) - t1 - ((beAt x.1.body 16 8 : Int) - beAt x.1.body 8 8)))
        ((s1.takeRtt p m.toNat).heardFrom (s.get (F.LHL_PORT_STAT_RX_SITE.ix p))).updateCap
      else x.2)

/-- MLR_FLOW_CNT_CLR (R286). -/
def execMlrFlowCntClr (flow : Nat) (s : State) : Host.Outcome State Fault Refusal :=
  .next (s.hostWrite 17 fun t =>
    let t1 := t.clearAll [F.MLR_FLOW_CNT_A_RESENT.ix flow, F.MLR_FLOW_CNT_A_TAG_FAIL.ix flow,
      F.MLR_FLOW_CNT_B_REPLACED.ix flow, F.MLR_FLOW_CNT_B_STALE.ix flow, F.MLR_FLOW_STAT_DELIM_LOSS.ix flow]
    if flow = 0 then (t1.clearAll [F.MLR_FE_SOURCE, F.MLR_FE_FLOW]).evtEndAll
      [F.MLR_EVT_RETAIN_LOST, F.MLR_EVT_THROTTLE, F.MLR_EVT_PATH_CHANGE, F.MLR_EVT_FLOW_FAIL]
    else t1)

end Sys2Proof.Machine
end

