-- ==== Sys2Proof/Machine/SluiceCmd.lean ====
section
/-! DEFINITION. Meanings of the Sluice commands (R333–R341, R344): refills, gates and histograms. -/

namespace Sys2Proof.Machine

/-! Refills (R333, R337–R340). -/

/-- A flow's buckets rise and are clamped (R337). -/
def State.fillMeter (s : State) (f : Nat) : State :=
  let up := fun (v rate size : Nat) => min (v + perRefill rate) (1024 * size)
  let tc := up (Tab.get 0 s.slu.tc f) (s.get (F.SLU_FLOW_CIR_VALUE.ix f)) (s.get (F.SLU_FLOW_CBS_VALUE.ix f))
  let tp := up (Tab.get 0 s.slu.tp f) (s.get (F.SLU_FLOW_PIR_VALUE.ix f)) (s.get (F.SLU_FLOW_PBS_VALUE.ix f))
  { s with slu := { s.slu with tc := Tab.put 0 s.slu.tc f tc, tp := Tab.put 0 s.slu.tp f tp } }

/-- Whether a queue holds a new segment. -/
def State.holdsNew (s : State) (p q : Nat) : Bool := (s.sluQueue p q).any fun x => !x.resend

/-- A queue's shaper at a refill (R338): credit rises while a new segment waits or it is below 0, is 0 when none waits, and
is frozen while the gate is closed; after a write with COMPAT800 it takes 0 or HI instead. -/
def State.fillShaper (s : State) (p q : Nat) : State :=
  if !s.flag (F.SLU_Q_SHAPE_EN.ix p q) then s
  else
    let c := s.credit p q
    let hi : Int := (1024 * s.get (F.SLU_Q_HI_BYTES.ix p q) : Nat)
    let lo : Int := (1024 * s.get (F.SLU_Q_LO_BYTES.ix p q) : Nat)
    let clamp := fun (v : Int) => max (-lo) (min hi v)
    if s.flag (F.SLU_PORT_CFG_COMPAT800.ix p) && s.slu.written.has (32 * p + q) then
      s.setCredit p q (if s.flag (F.SLU_PORT_CFG_COMPAT_FILL.ix p) then hi else 0)
    else if !s.gateOpen p q then s
    else if s.holdsNew p q || decide (c < 0) then
      s.setCredit p q (clamp (c + (perRefill (s.get (F.SLU_Q_IDLE_MBS.ix p q)) : Nat)))
    else s.setCredit p q (if 0 < c then 0 else clamp c)

/-- The rate cap's bucket at a refill (R339): always full while the cap does not bind. -/
def State.fillCap (s : State) : State :=
  let full := 262144 * 1024
  let up := s.slu.cap + s.get F.MLR_RATE_CAP_MBS * 1024 * 640 / 1000
  { s with slu := { s.slu with cap := if s.flag F.MLR_STAT_THROTTLED then min full up else full } }

/-- The segments held at a flow's admission are metered again (R337); a red one that stays is counted. -/
def State.refillFlow (s : State) (f : Nat) : State :=
  let t := s.admitHeld f (Tab.get [] s.slu.held f)
  if (Tab.get [] t.slu.held f).isEmpty || (t.pickPort f).isNone then t else t.bump (F.SLU_FLOW_CNT_RED.ix f)

/-- Several flows. -/
def State.refillFlows (s : State) : List Nat → State
  | [] => s
  | f :: t => (s.refillFlow f).refillFlows t

/-- Ports and queues. -/
def portQueues : List (Nat × Nat) := (List.range 4).flatMap fun p => (List.range 32).map fun q => (p, q)

/-- Whether some new segment is held by the Hopper level, or by the cap alone (SLU_CNT). -/
def State.heldBy (s : State) (cap : Bool) : Bool :=
  portQueues.any fun x => (s.sluQueue x.1 x.2).any fun y => !y.resend &&
    (if cap then s.hopPermits x.1 x.2 && !s.capOk y.seg.wire.length else !s.hopPermits x.1 x.2)

/-- REFILL (R333). -/
def execRefill (s : State) : Host.Outcome State Fault Refusal :=
  .next (if !s.time.running then s
    else
      let s1 := (List.range 256).foldl State.fillMeter s
      let s2 := portQueues.foldl (fun t x => t.fillShaper x.1 x.2) s1
      let s3 := ({ s2 with slu := { s2.slu with written := [] } }).fillCap
      let s4 := s3.refillFlows (s3.slu.held.map Prod.fst)
      let s5 := if s4.heldBy false then s4.bump F.SLU_CNT_HOP_HOLD else s4
      if s5.heldBy true then s5.bump F.SLU_CNT_CAP_HOLD else s5)

/-! Gates (R334–R336). -/

/-- The list of a GATE_LIST body (Table TIM-4). -/
def parseGate (b : List Byte) : GateList :=
  ⟨beAt b 8 8, beAt b 16 4, (List.range (beAt b 0 2)).map fun e => (beAt b (32 + 8 * e) 4, beAt b (36 + 8 * e) 4)⟩

/-- The checks of R335: ranges, durations, and every queue that a flow record names open in some entry. -/
def gateOk (img : List Byte) (g : GateList) : Bool :=
  decide (1 ≤ g.entries.length) && decide (g.entries.length ≤ 256) && decide (1000 ≤ g.cycle) &&
    decide (g.cycle ≤ 1000000000) && g.entries.all (fun e => decide (656 ≤ e.2)) &&
    (imgFlows img).all fun r => g.entries.any fun e => bit e.1 r.queue

/-- A gate list takes effect on a port, with the entry in force. -/
def State.installGate (s : State) (p e : Nat) (g : GateList) : State :=
  let s1 := { s with slu := { s.slu with
    gates := Tab.insert s.slu.gates p g, armed := Tab.erase s.slu.armed p } }
  ((s1.setBit F.SLU_STAT_GCL p true).setBit F.SLU_STAT_ARMED p false).showGate p e g

/-- A gate list is armed on a port. -/
def State.armGate (s : State) (p : Nat) (g : GateList) : State :=
  ({ s with slu := { s.slu with armed := Tab.insert s.slu.armed p g } }).setBit F.SLU_STAT_ARMED p true

/-- The entry that follows one (R334): entries that begin at or beyond CYCLE are cut off. -/
def GateList.next (g : GateList) (e : Nat) : Nat :=
  if e + 1 < g.entries.length ∧ ((g.entries.take (e + 1)).map Prod.snd).sum < g.cycle then e + 1 else 0

/-- GATE_ENTRY_CHANGE (R334): the next entry's gate state takes effect. -/
def execGateEntryChange (port : Nat) (s : State) : Host.Outcome State Fault Refusal :=
  .next (match Tab.find s.slu.gates port with
    | none => s
    | some g =>
      s.showGate port (g.next (s.get (F.SLU_GATE_STAT_ENTRY.ix port))) g)

/-- GATE_LIST_SWITCH (R336): the armed list's switch instant, the start of a cycle of it. -/
def execGateListSwitch (port : Nat) (s : State) : Host.Outcome State Fault Refusal :=
  .next (match Tab.find s.slu.armed port with
    | none => s
    | some g => (s.installGate port 0 g).evt F.SLU_EVT_SWITCHED)

/-- The standby list of a port's registers (R336). -/
def State.standbyGate (s : State) (p : Nat) : GateList :=
  ⟨s.get64 (F.SLU_GBASE_LO_BASE.ix p) (F.SLU_GBASE_HI_BASE.ix p), s.get (F.SLU_GCYCLE_VALUE.ix p),
    (List.range (min 257 (s.get (F.SLU_GENTRIES_VALUE.ix p)))).map fun e =>
      (s.get (F.SLU_GCL_GATES_VALUE.ix p e), s.get (F.SLU_GCL_DUR_VALUE.ix p e))⟩

/-- GATE_ARM (R336): ARM ends the causes of SLU_EVT, and arms the standby list or refuses it. -/
def execGateArm (port : Nat) (s : State) : Host.Outcome State Fault Refusal :=
  .next (s.hostWrite 21 fun t0 =>
    let t := t0.evtEndAll [F.SLU_EVT_SWITCHED, F.SLU_EVT_GATE_REFUSED]
    let g := t.standbyGate port
    let loc := locChip (0x18 + port / 2)
    if gateOk t.image g ∧ ¬ t.forcedAt 0xD8 loc then t.armGate port g
    else (t.evt F.SLU_EVT_GATE_REFUSED).raise 0xD8 .ce loc)

/-- GATE_CANCEL (R336). -/
def execGateCancel (port : Nat) (s : State) : Host.Outcome State Fault Refusal :=
  .next (s.hostWrite 21 fun t =>
    ({ t with slu := { t.slu with armed := Tab.erase t.slu.armed port } }).setBit F.SLU_STAT_ARMED port false)

/-! Histograms (R341). -/

/-- The depth bin of a number of bytes (Table TIM-6). -/
def depthBin (n : Nat) : Nat := if n = 0 then 0 else if n < 1024 then 1 else min 15 (Nat.log2 n - 9)

/-- The delay bin of an age in nanoseconds. -/
def delayBin (ns : Nat) : Nat := if ns < 1000 then 0 else min 15 (Nat.log2 (ns / 1000) + 1)

/-- One queue sampled. -/
def State.sampleQueue (s : State) (p q : Nat) : State :=
  let l := s.sluQueue p q
  let age := match l with
    | [] => 0
    | x :: _ => (s.ns64 + 2 ^ 64 - x.since % 2 ^ 64) % 2 ^ 64
  (s.bump (F.SLU_HDEPTH_SAMPLES.ix p q (depthBin (s.get (F.SLU_Q_DEPTH_BYTES.ix p q))))).bump
    (F.SLU_HDELAY_SAMPLES.ix p q (delayBin age))

/-- HISTOGRAM_SAMPLE (R341). -/
def execHistogramSample (s : State) : Host.Outcome State Fault Refusal :=
  .next (if s.flag F.SLU_CFG_HIST_EN && s.time.running then
      portQueues.foldl (fun t x => t.sampleQueue x.1 x.2) s
    else s)

/-- SLU_HIST_CLR (R344): every bin reads 0. -/
def execSluHistClr (s : State) : Host.Outcome State Fault Refusal :=
  .next (s.hostWrite 21 fun t => { t with
    regs := t.regs.filter fun x => !(x.1 % 2 ^ 30 == F.SLU_HDEPTH_SAMPLES.key || x.1 % 2 ^ 30 == F.SLU_HDELAY_SAMPLES.key) })

end Sys2Proof.Machine
end

