-- ==== Sys2Proof/Machine/Spindle.lean ====
section
/-! DEFINITION. Meanings of the Spindle commands (R83, R94–R100, R129). Sources are FP32 vectors at their lines, in the
element order of the descriptor; results stand in region SRAM when the descriptor has issued, and it completes with
DESCRIPTOR_COMPLETION. Which operand stands at which line: S0 holds θ (or M, or M1), S1 holds M (or G), the third
array follows S1's on the next line, and MDLT accumulates at D0 (DESIGN CHOICE). -/

namespace Sys2Proof.Machine

/-! SPIN body (Table IMG-9). -/

/-- OPCODE. -/
def QEntry.opcode (e : QEntry) : Nat := e.at 24 1
/-- D0_BF16. -/
def QEntry.d0Bf16 (e : QEntry) : Bool := bit (e.at 25 1) 7
/-- D1_BF16. -/
def QEntry.d1Bf16 (e : QEntry) : Bool := bit (e.at 25 1) 6
/-- RED. -/
def QEntry.red (e : QEntry) : Nat := e.at 25 1 % 16
/-- The source code of scalar k. -/
def QEntry.kSrc (e : QEntry) (k : Nat) : Nat := e.at 26 1 / 4 ^ (3 - k) % 4
/-- The field of scalar k. -/
def QEntry.kField (e : QEntry) (k : Nat) : Nat := e.at (44 + 4 * k) 4
/-- NESTEROV_DIR. -/
def QEntry.nesterov (e : QEntry) : Bool := bit (e.at 27 1) 7
/-- QFMT. -/
def QEntry.qfmt (e : QEntry) : Nat := bits (e.at 27 1) 6 4
/-- N_ELEM. -/
def QEntry.nElem (e : QEntry) : Nat := e.at 28 4

/-- The address of a line field of a SPIN. -/
def spinLine (r : Nat) (e : QEntry) (o : Nat) : Nat := lineAddr r (e.at o 3)

/-- The operation codes of Table UPD-8. -/
def spinCodes : List Nat :=
  [0x00, 0x01, 0x02, 0x03, 0x04, 0x05, 0x06, 0x08, 0x09, 0x0A, 0x10, 0x11, 0x20, 0x21, 0x22, 0x23, 0x24, 0x25, 0x28]

/-- How many source arrays an operation reads. -/
def QEntry.nSrc (e : QEntry) : Nat :=
  match e.opcode with
  | 0x01 | 0x02 | 0x08 | 0x09 | 0x0A | 0x10 | 0x11 => 1
  | 0x03 | 0x04 | 0x05 | 0x20 | 0x23 | 0x28 => 2
  | 0x21 | 0x22 | 0x25 => 3
  | 0x24 => if e.nesterov then 2 else 1
  | _ => 0

/-- The ranges of the sources. The third array follows the second on the next line. -/
def spinReads (r : Nat) (e : QEntry) : List (Nat × Nat) :=
  let n := 4 * e.nElem
  let third := spinLine r e 35 + (n + 63) / 64 * 64
  ([(spinLine r e 32, n), (spinLine r e 35, n), (third, n)].take e.nSrc) ++
    (if e.opcode = 0x28 then [(spinLine r e 38, n)] else [])

/-- Bytes of the first destination. -/
def QEntry.d0Bytes (e : QEntry) : Nat :=
  let w := if e.d0Bf16 then 2 else 4
  match e.opcode with
  | 0x00 | 0x08 | 0x09 | 0x0A => 0
  | 0x10 => (e.nElem + 1) / 2
  | 0x11 => e.nElem
  | 0x24 => if e.qfmt = 1 then (e.nElem + 1) / 2 else if e.qfmt = 4 then 2 * e.nElem else e.nElem
  | _ => w * e.nElem

/-- Bytes of the second destination. -/
def QEntry.d1Bytes (e : QEntry) : Nat :=
  match e.opcode with
  | 0x10 | 0x11 => (e.nElem + 31) / 32
  | 0x24 => if e.qfmt = 4 then 0 else (e.nElem + 31) / 32
  | 0x21 | 0x22 | 0x25 => (if e.d1Bf16 then 2 else 4) * e.nElem
  | _ => 0

/-- The ranges of the destinations. -/
def spinWrites (r : Nat) (e : QEntry) : List (Nat × Nat) :=
  [(spinLine r e 38, e.d0Bytes), (spinLine r e 41, e.d1Bytes)]

/-- Whether a SPIN can issue (R129, R136): defined scalar sources and fields, and arrays within the region's SRAM. -/
def spinOk (r : Nat) (e : QEntry) : Bool :=
  let top := (r + 1) * 0x1000000
  decide (1 ≤ e.nElem ∧ e.nElem ≤ 4194304) && ([32, 35, 38, 41].all fun o => decide (e.at o 3 < 262144)) &&
    ([0, 1, 2].all fun k => decide (e.kSrc k ≤ 2) && (e.kSrc k != 2 || decide (e.kField k % 8 ≤ 5))) &&
    (e.opcode != 0x24 || decide (1 ≤ e.qfmt ∧ e.qfmt ≤ 4)) &&
    (spinReads r e ++ spinWrites r e).all fun x => decide (x.1 + x.2 ≤ top)

/-- A step-latched tuning value by its selector (R129). -/
def State.tuning (s : State) (n : Nat) : F32 :=
  let l := fun i => (s.step.latched[i]?).getD 0#32
  match n with
  | 4 => mul32 (l 0) (l 3)
  | 5 => BitVec.ofNat 32 (s.get F.UPD_EPS_VALUE)
  | k => l k

/-- Scalar k of a SPIN (R129). -/
def State.scalar (s : State) (e : QEntry) (k : Nat) : F32 :=
  match e.kSrc k with
  | 0 => BitVec.ofNat 32 (e.kField k)
  | 1 => BitVec.ofNat 32 (s.get (F.SEQ_SREG_VALUE.ix (e.kField k % 64)))
  | _ => s.tuning (e.kField k % 8)

/-- An FP32 vector at an address. -/
def State.vec (s : State) (a : Nat) : Nat → List F32
  | 0 => []
  | n + 1 => BitVec.ofNat 32 (beNat (s.readBytes a 4)) :: s.vec (a + 4) n

/-- Source array i of a SPIN. -/
def State.operand (s : State) (r : Nat) (e : QEntry) (i : Nat) : List F32 :=
  match (spinReads r e)[i]? with
  | some x => s.vec x.1 e.nElem
  | none => []

/-- Results in a destination's format (R96). -/
def floats (bf16 : Bool) (vs : List F32) : List Byte :=
  (vs.map fun v => if bf16 then beBytes 2 (rneBf16 (f32Val v)) else beBytes 4 (rne32 (f32Val v)).toNat).flatten

/-- A quantised row as element and scale bytes (R56, R97). -/
def quantBytes (f : ElemFmt) (vs : List F32) : List Byte × List Byte :=
  let q := quantRow f vs
  (if f = .e2m1 then packNibbles q.2 else q.2.map (BitVec.ofNat 8), q.1.map (BitVec.ofNat 8))

/-- What a Spindle operation produces: its destination bytes and its effect on the reduction registers. -/
structure SpinOut where
  d0 : List Byte
  d1 : List Byte
  red : RedSt

/-- The issue of one operation code: a SPIN with defined fields runs when Spindle is free (R131). `unit` is 0, or 1 more than
the tensor of an Apply. A poisoned source poisons the destinations and fails the descriptor, and with it the matrix it works
on (R64, R86). -/
def State.issueSpin (s : State) (r code unit : Nat) (f : QEntry → State → SpinOut) : State :=
  s.issueIn (.spin r) (fun e => e.typ == 3 && e.opcode == code &&
      (!spinOk r e || !(s.sched.flights.any fun x => x.queue == .spin r)))
    (spinOk r) fun e t =>
      let bad := (spinReads r e).any fun x => t.anyPoison x.1 x.2
      let t1 := t.fly (.spin r) e unit true bad
      if bad then ((t1.storePoison (spinLine r e 38) e.d0Bytes).storePoison (spinLine r e 41) e.d1Bytes).matFail r e.id
        (t.spinMatrix unit)
      else
        let x := f e t
        (({ t1 with red := x.red }).store (spinLine r e 38) x.d0).store (spinLine r e 41) x.d1

/-- A result for one destination. -/
def out0 (e : QEntry) (t : State) (vs : List F32) : SpinOut := ⟨floats e.d0Bf16 vs, [], t.red⟩

/-- Elementwise over two arrays. -/
def map2 (f : F32 → F32 → F32) (a b : List F32) : List F32 := (a.zip b).map fun x => f x.1 x.2

/-- Elementwise over three arrays. -/
def map3 (f : F32 → F32 → F32 → F32) (a b c : List F32) : List F32 :=
  (a.zip (b.zip c)).map fun x => f x.1 x.2.1 x.2.2

/-- SPIN_NOP. -/
def execSpinNop (region : Nat) (s : State) : Host.Outcome State Fault Refusal :=
  .next (s.issueSpin region 0x00 0 fun _ t => ⟨[], [], t.red⟩)

/-- MOV: d0 := s0, converted to d0's format. -/
def execMov (region : Nat) (s : State) : Host.Outcome State Fault Refusal :=
  .next (s.issueSpin region 0x01 0 fun e t => out0 e t (t.operand region e 0))

/-- SCL: d0 := rne32(k0 × s0). -/
def execScl (region : Nat) (s : State) : Host.Outcome State Fault Refusal :=
  .next (s.issueSpin region 0x02 0 fun e t => out0 e t ((t.operand region e 0).map (mul32 (t.scalar e 0))))

/-- FMA: d0 := fma(k0, s0, s1). -/
def execFma (region : Nat) (s : State) : Host.Outcome State Fault Refusal :=
  .next (s.issueSpin region 0x03 0 fun e t =>
    out0 e t (map2 (fma32 (t.scalar e 0)) (t.operand region e 0) (t.operand region e 1)))

/-- ADD: d0 := rne32(s0 + s1). -/
def execAdd (region : Nat) (s : State) : Host.Outcome State Fault Refusal :=
  .next (s.issueSpin region 0x04 0 fun e t =>
    out0 e t (map2 add32 (t.operand region e 0) (t.operand region e 1)))

/-- MUL: d0 := rne32(s0 × s1). -/
def execMul (region : Nat) (s : State) : Host.Outcome State Fault Refusal :=
  .next (s.issueSpin region 0x05 0 fun e t =>
    out0 e t (map2 mul32 (t.operand region e 0) (t.operand region e 1)))

/-- FIL: d0 := k0. -/
def execFil (region : Nat) (s : State) : Host.Outcome State Fault Refusal :=
  .next (s.issueSpin region 0x06 0 fun e t => out0 e t (List.replicate e.nElem (t.scalar e 0)))

/-! Reductions (R98). -/

/-- One level of the binary tree over lane partials, in lane order: lanes 2i and 2i + 1 are paired at each level (DESIGN CHOICE:
the spec says only that the tree is ordered by lane index). -/
def treeLevel : List F32 → List F32
  | a :: b :: t => add32 a b :: treeLevel t
  | l => l

/-- The binary tree over 256 lane partials. -/
def tree (l : List F32) : F32 := (((List.range 8).foldl (fun x _ => treeLevel x) l).head?).getD 0#32

/-- The partial of one piece: element e on lane e mod 256, each lane in increasing e, by fma (Table UPD-8). -/
def piecePartial (vs : List F32) : F32 :=
  tree ((List.range 256).map fun lane =>
    (List.range ((vs.length + 255 - lane) / 256)).foldl
      (fun acc k => let v := (vs[lane + 256 * k]?).getD 0#32; fma32 v v acc) 0#32)

/-- The partials of consecutive pieces of 65,536 elements. -/
def pieces (vs : List F32) : List F32 := (groups 65536 (vs.length / 65536 + 1) vs).map piecePartial

/-- The key of a region's partials of a reduction register. -/
def ssqKey (red r : Nat) : Nat := 64 * red + r

/-- Partials of SSQ join those of the register. -/
def RedSt.addSsq (x : RedSt) (red r : Nat) (ps : List F32) : RedSt :=
  { x with ssq := Tab.put [] x.ssq (ssqKey red r) (Tab.get [] x.ssq (ssqKey red r) ++ ps) }

/-- The value of an SSQ register: the piece partials combined in increasing piece number, which R90 deals to the
regions in order. -/
def RedSt.ssqValue (x : RedSt) (red : Nat) : F32 :=
  ((List.range 64).flatMap fun r => Tab.get [] x.ssq (ssqKey red r)).foldl add32 0#32

/-- A FIN flag joins, with the region that set it first. -/
def RedSt.addFin (x : RedSt) (red r : Nat) (vs : List F32) : RedSt :=
  if vs.any fun v => (f32Val v).bad then
    { x with
      flags := x.flags.add red
      finAt := if x.flags.has red then x.finAt else Tab.insert x.finAt red r }
  else x

/-- SSQ: r := r + s0² by fma, in shape order. -/
def execSsq (region : Nat) (s : State) : Host.Outcome State Fault Refusal :=
  .next (s.issueSpin region 0x08 0 fun e t => ⟨[], [], t.red.addSsq e.red region (pieces (t.operand region e 0))⟩)

/-- AMAX: r := max(r, |s0|), NaN dominant. -/
def execAmax (region : Nat) (s : State) : Host.Outcome State Fault Refusal :=
  .next (s.issueSpin region 0x09 0 fun e t =>
    let m := (t.operand region e 0).foldl (fun x v => Num.maxAbs x (f32Val v)) (f32Val (Tab.get 0#32 t.red.amax e.red))
    ⟨[], [], { t.red with amax := Tab.put 0#32 t.red.amax e.red (rne32 m) }⟩)

/-- FIN: flag := flag or (s0 is NaN or infinite). -/
def execFin (region : Nat) (s : State) : Host.Outcome State Fault Refusal :=
  .next (s.issueSpin region 0x0A 0 fun e t => ⟨[], [], t.red.addFin e.red region (t.operand region e 0)⟩)

/-! Quantisation (R97). -/

/-- QMX4: MXFP4 elements and E8M0 scales. -/
def execQmx4 (region : Nat) (s : State) : Host.Outcome State Fault Refusal :=
  .next (s.issueSpin region 0x10 0 fun e t =>
    let q := quantBytes .e2m1 (t.operand region e 0)
    ⟨q.1, q.2, t.red⟩)

/-- QMX8: k0 = +0 selects E4M3, any other value E5M2 (R129). -/
def execQmx8 (region : Nat) (s : State) : Host.Outcome State Fault Refusal :=
  .next (s.issueSpin region 0x11 0 fun e t =>
    let q := quantBytes (if t.scalar e 0 = 0#32 then .e4m3 else .e5m2) (t.operand region e 0)
    ⟨q.1, q.2, t.red⟩)

/-! The outer rules (R83). -/

/-- Whether Apply leaves a tensor as it was: a non-finite matrix under NONFINITE_ACT 0 (R86), or a step abandoned. -/
def leaves (tensor : Nat) (t : State) : Bool := t.step.nonfinite.contains tensor || t.step.abandoned

/-- Apply is held for the partner's confirmation of the committed version (R26), or for the copy of a pin (R277). -/
def State.applyHeld (s : State) : Bool := !s.step.partnerHeld || s.mbr.pinCopy.isSome

/-- Whether a STEP_CTL that matched has come from every gateway that sends this one EXCH segments in the step (R260); an
absent one sends none (R282), and the close step of a held side has no Exchange (R279). -/
def State.ctlMatched (s : State) : Bool :=
  let mask := s.mbr.stepMask.getD (s.get F.MBR_STAT_COMMIT)
  s.mbr.closing || (exchangeSites mask (imgSite s.image)).all fun i => s.absentPeer i || s.mbr.stepCtl.contains i

/-- PARTNER_WAIT while Apply is held (R26). -/
def State.waitPartner (s : State) : State := (s.set F.UPD_STEP_STAT_PARTNER_WAIT 1).evt F.UPD_EVT_PARTNER_WAIT

/-- Whether an operation code of Apply stands at the head of a region's SPIN queue, ready and well formed. -/
def State.applyNext (s : State) (r code : Nat) : Bool :=
  match s.head (.spin r) with
  | .ready e _ => headerOk (.spin r) e && e.opcode == code && spinOk r e
  | _ => false

/-- What an operation of Apply leaves of a tensor that stays as it was (R86): D0 takes θ, and D1 takes M, each as its source
holds it; OAPP has M1 and not M among its sources, so its D1 keeps what it held. -/
def kept (r code : Nat) (e : QEntry) (t : State) : SpinOut :=
  ⟨floats e.d0Bf16 (t.operand r e 0),
    if code = 0x21 ∨ code = 0x22 then floats e.d1Bf16 (t.operand r e 1) else [], t.red⟩

/-- An operation of Apply on one owned tensor: held while R26, R260 or R277 holds it, and otherwise issued; a tensor that
it has rewritten is remembered (R23). -/
def State.issueApply (s : State) (r code tensor : Nat) (f : QEntry → State → SpinOut) : State :=
  if s.applyNext r code && s.applyHeld then s.waitPartner
  else if s.applyNext r code && !s.ctlMatched then s
  else
    let t := s.issueSpin r code (tensor + 1) (if leaves tensor s then kept r code else f)
    if leaves tensor s || s.mbr.closing || t.sched.flights.length == s.sched.flights.length then t
    else { t with step := { t.step with
      rewritten := if t.step.rewritten.contains tensor then t.step.rewritten else tensor :: t.step.rewritten } }

/-- OAVG: averaging of R83. -/
def execOavg (region tensor : Nat) (s : State) : Host.Outcome State Fault Refusal :=
  .next (s.issueApply region 0x20 tensor fun e t =>
    out0 e t (map2 (fun th g => fma32 (neg32 (t.scalar e 0)) g th) (t.operand region e 0) (t.operand region e 1)))

/-- OMOM: momentum of R83; θ1 at D0 and M1 at D1. -/
def execOmom (region tensor : Nat) (s : State) : Host.Outcome State Fault Refusal :=
  .next (s.issueApply region 0x21 tensor fun e t =>
    let m1 := map2 (fma32 (t.scalar e 1)) (t.operand region e 1) (t.operand region e 2)
    ⟨floats e.d0Bf16 (map2 (fun th m => fma32 (neg32 (t.scalar e 0)) m th) (t.operand region e 0) m1),
      floats e.d1Bf16 m1, t.red⟩)

/-- ONES: Nesterov of R83; θ1 at D0 and M1 at D1. -/
def execOnes (region tensor : Nat) (s : State) : Host.Outcome State Fault Refusal :=
  .next (s.issueApply region 0x22 tensor fun e t =>
    let g := t.operand region e 2
    let m1 := map2 (fma32 (t.scalar e 1)) (t.operand region e 1) g
    let d := map2 (fma32 (t.scalar e 1)) m1 g
    ⟨floats e.d0Bf16 (map2 (fun th x => fma32 (neg32 (t.scalar e 0)) x th) (t.operand region e 0) d),
      floats e.d1Bf16 m1, t.red⟩)

/-- ODIR: pass 1 (R92): M1 at D0, the SSQ of D and the FIN of G. -/
def execOdir (region : Nat) (s : State) : Host.Outcome State Fault Refusal :=
  .next (s.issueSpin region 0x23 0 fun e t =>
    let g := t.operand region e 1
    let m1 := map2 (fma32 (t.scalar e 0)) (t.operand region e 0) g
    let d := if e.nesterov then map2 (fma32 (t.scalar e 0)) m1 g else m1
    ⟨floats e.d0Bf16 m1, [], (t.red.addSsq e.red region (pieces d)).addFin e.red region g⟩)

/-- OQX: pass 2 (R92): X0 := D × rinv, each element rounded once, in the format of the first rung. -/
def execOqx (region : Nat) (s : State) : Host.Outcome State Fault Refusal :=
  .next (s.issueSpin region 0x24 0 fun e t =>
    let m1 := t.operand region e 0
    let d := if e.nesterov then map2 (fma32 (t.scalar e 0)) m1 (t.operand region e 1) else m1
    let x := d.map fun v => mul32 v (t.scalar e 1)
    match e.qfmt with
    | 1 => let q := quantBytes .e2m1 x; ⟨q.1, q.2, t.red⟩
    | 2 => let q := quantBytes .e5m2 x; ⟨q.1, q.2, t.red⟩
    | 3 => let q := quantBytes .e4m3 x; ⟨q.1, q.2, t.red⟩
    | _ => ⟨floats true x, [], t.red⟩)

/-- OAPP: the orthogonalised Apply of R83; θ1 at D0 and M := M1 at D1. -/
def execOapp (region tensor : Nat) (s : State) : Host.Outcome State Fault Refusal :=
  .next (s.issueApply region 0x25 tensor fun e t =>
    let el := t.scalar e 1
    let th := t.operand region e 0
    let m1 := t.operand region e 1
    let tt := if (f32Val el).isZero then th else th.map fun x => fma32 (neg32 el) x x
    ⟨floats e.d0Bf16 (map2 (fun u x => fma32 (neg32 (t.scalar e 0)) u x) (t.operand region e 2) tt),
      floats e.d1Bf16 m1, t.red⟩)

/-- MDLT: acc := fma(w, rne32(s1 − s0), acc). -/
def execMdlt (region : Nat) (s : State) : Host.Outcome State Fault Refusal :=
  .next (s.issueSpin region 0x28 0 fun e t =>
    out0 e t (map3 (fun a b acc => fma32 (t.scalar e 0) (add32 b (neg32 a)) acc)
      (t.operand region e 0) (t.operand region e 1) (t.operand region e 2)))

/-- The tensor that UPD_FE_MATRIX names for a Spindle fault (R104): the one it works on; where that is none of Orthogonalise
or Apply, the next in Gather order that this step has to orthogonalise, or to apply (DESIGN CHOICE: no field of a descriptor
names its tensor). -/
def State.spinIndex (s : State) (unit : Nat) : Nat :=
  (s.spinMatrix unit).getD (min 0xFFFFF (if s.get F.UPD_RULE_RULE = 3 then s.step.orthDone else s.get F.UPD_STEP_STAT_APPLIED))

/-- SPN_OPCODE: a code that Table UPD-8 does not list stops the descriptor (R99). -/
def execSpnOpcode (region : Nat) (s : State) : Host.Outcome State Fault Refusal :=
  .next (s.issueIn (.spin region) (fun e => e.typ == 3 && (!spinCodes.contains e.opcode ||
      s.forcedAt 0x42 (locRegion region))) (fun _ => true) fun e t =>
    ((t.finish (.spin region) e true).firstUpd 0x42 (t.spinIndex 0) 0 0).raise 0x42 .uc (locRegion region) e.id)

/-- SPIN_BATCH (R100): a batch that failed its residue check runs again once; a second failure fails the descriptor and
the matrix (R86). -/
def execSpinBatch (region : Nat) (failed rerunFailed : Bool) (s : State) : Host.Outcome State Fault Refusal :=
  .next (
    let loc := locRegion region
    match s.sched.flights.find? fun f => f.queue == .spin region with
    | none => s
    | some f =>
      let m := s.spinIndex f.unit
      let it := if f.unit = 0 then s.get F.UPD_ORTH_POS_ITER else 0
      let pr := if f.unit = 0 then s.get F.UPD_ORTH_POS_PRODUCT else 0
      if (failed && rerunFailed) || s.forcedAt 0x41 loc then
        (((((s.firstUpd 0x41 m it pr).evt F.UPD_EVT_SPN_FAIL).raise 0x41 .uc loc f.entry.id).failFlight
          f.entry.sid).matFail region f.entry.id (s.spinMatrix f.unit))
      else if failed || s.forcedAt 0x40 loc then (s.firstUpd 0x40 m it pr).raise 0x40 .ce loc f.entry.id
      else s)

end Sys2Proof.Machine
end

