-- ==== Sys2Proof/Machine/ImageCheck.lean ====
section
/-! DEFINITION. The checks of Table IMG-4 (R114): the reject reason of an image and the section it concerns. Reserved
bytes of section bodies are not checked (R6); those of the header are (check 1). -/

namespace Sys2Proof.Machine

/-- Why an image is rejected: the reason and the section index of IMG_REJ_INFO (0 where none applies). -/
abbrev Reject := Option (Nat × Nat)

/-- The first of several checks that fails. -/
def firstReject : List Reject → Reject
  | [] => none
  | some r :: _ => some r
  | none :: t => firstReject t

/-- A check that concerns no section. -/
def rejectIf (b : Bool) (reason : Nat) (sec : Nat := 0) : Reject := if b then some (reason, sec) else none

/-- Whether bytes are all zero. -/
def zeros (bs : List Byte) : Bool := bs.all fun b => b == 0#8

/-! Header, key and signature: checks 1 to 6. -/

/-- TOTAL_LEN. -/
def imgTotal (img : List Byte) : Nat := beAt img 28 4
/-- KEY_INDEX. -/
def imgKeyIndex (img : List Byte) : Nat := beAt img 20 1
/-- DIGEST. -/
def imgDigest (img : List Byte) : List Byte := slice img 64 64
/-- The signer's public key (R107). -/
def imgKey (img : List Byte) : List Byte := slice img (beAt img 40 4) 64
/-- The signature (R107). -/
def imgSig (img : List Byte) : List Byte := slice img (beAt img 44 4) 29792

/-- Check 1 (Table IMG-1). -/
def headerBad (img : List Byte) : Bool :=
  beAt img 0 4 != 0x514B5349 || beAt img 4 2 != 2 || beAt img 6 2 != 256 || beAt img 32 4 != 256 ||
    !zeros (slice img 21 1 ++ slice img 25 3 ++ slice img 38 2 ++ slice img 56 8 ++ slice img 128 128) ||
    decide (img.length < 256)

/-- Check 3 (R105, Table IMG-1): `loaded` bytes have been loaded, from the first of the slot to the last written (DEDUCED). -/
def lengthBad (img : List Byte) (loaded : Nat) : Bool :=
  decide (67108864 < imgTotal img) || decide (loaded < imgTotal img) || decide (img.length < imgTotal img) ||
    beAt img 40 4 + 29856 != imgTotal img || beAt img 44 4 + 29792 != imgTotal img

/-- The 32 bytes of an operator key hash as the OTP registers show it (R412). -/
def State.keyHash (s : State) (i : Nat) : List Byte :=
  (List.range 8).flatMap fun w => beBytes 4 (s.get (F.OTP_KEY_HASH_HASH.ix i w))

/-- Check 4 (R107). -/
def State.keyBad (s : State) (img : List Byte) : Bool :=
  let i := imgKeyIndex img
  decide (3 < i) || bits (s.get F.OTP_KEY_STATE_STATE) (2 * i + 1) (2 * i) != 1 ||
    shake256 (imgKey img) 32 != s.keyHash i

/-- The ASCII bytes "QKSI". -/
def qksi : List Byte := [0x51#8, 0x4B#8, 0x53#8, 0x49#8]

/-- Check 6 (R107): pure SLH-DSA-SHAKE-256s over the header with the context string "QKSI". -/
def signatureBad (img : List Byte) : Bool := !slhVerify (imgKey img) (img.take 256) qksi (imgSig img)

/-! The section table: checks 7 to 10. -/

/-- Whether the bodies of a table stand in order from an offset, aligned, apart and with zero padding (R106). -/
def tableFrom (img : List Byte) (keyOff : Nat) : Nat → List Sec → Bool
  | pos, [] => decide (pos ≤ keyOff) && zeros (slice img pos (keyOff - pos))
  | pos, x :: t =>
    x.off % 64 == 0 && decide (1 ≤ x.len) && decide (pos ≤ x.off) && decide (x.off + x.len ≤ keyOff) &&
      zeros (slice img pos (x.off - pos)) && tableFrom img keyOff (x.off + x.len) t

/-- Check 7 (R105, R106). -/
def tableBad (img : List Byte) : Bool :=
  let n := imgSections img
  !(decide (1 ≤ n) && decide (n ≤ 1024) && decide (256 + 32 * n ≤ beAt img 40 4) &&
    tableFrom img (beAt img 40 4) (256 + 32 * n) (imgTable img))

/-- The index of the first section that a test finds bad, with a reason. -/
def badSection (img : List Byte) (reason : Nat) (bad : Sec → Bool) : Reject :=
  (((imgTable img).zipIdx).find? fun x => bad x.1).map fun x => (reason, x.2)

/-- Check 9. -/
def digestBad (img : List Byte) : Bool :=
  shake256 (slice img 256 (beAt img 40 4 - 256)) 64 != imgDigest img

/-- Count and INSTANCE of a section type (Table IMG-3): the least count, the greatest, and the greatest instance. -/
def secCount : Nat → Option (Nat × Nat × Nat)
  | 0x8001 | 0x8002 | 0x8003 | 0x8004 | 0x8005 | 0x8007 | 0x8009 | 0x800A | 0x800C | 0x800E | 0x8011 => some (1, 1, 0)
  | 0x8006 => some (0, 1, 0)
  | 0x8008 | 0x800B => some (0, 4, 3)
  | 0x800D => some (0, 16, 15)
  | 0x800F => some (1, 8, 7)
  | 0x8010 => some (1, 256, 255)
  | _ => none

/-- The section types of Table IMG-3, NOTE apart. -/
def secTypes : List Nat := (List.range 17).map (0x8001 + ·)

/-- Check 10 (R108): no unknown critical type, instances in range and distinct, counts as in Table IMG-3. -/
def sectionsBad (img : List Byte) : Reject :=
  let t := imgTable img
  let bad := fun (x : Sec × Nat) => match secCount x.1.typ with
    | none => decide (0x8000 ≤ x.1.typ)
    | some c => decide (c.2.2 < x.1.inst) || (t.take x.2).any fun y => y.typ == x.1.typ && y.inst == x.1.inst
  match t.zipIdx.find? bad with
  | some x => some (0x0A, x.2)
  | none => rejectIf (secTypes.any fun k => match secCount k with
      | some c => decide ((t.filter fun x => x.typ == k).length < c.1)
      | none => false) 0x0A

/-! Address windows (Table MEM-1). -/

/-- POND_MASK of an image (Table MEM-4). -/
def imgPondMask (img : List Byte) : Nat := beAt (imgBody img 0x8004 0) 1 1 % 16

/-- The implemented windows under a pond mask: base and length. -/
def windowsOf (mask : Nat) : List (Nat × Nat) :=
  (0, 0x40000000) :: ((List.range 4).map fun k => (0x100000000 + k * 0x40000000, 0x30000000)) ++
    ((List.range 2).map fun j => (0x200000000 + j * 0x10000000, 0x8000000)) ++
    [(0x10000000000, 0xF000000000), (0x20000000000, popcount 4 mask * 0x6000000000)]

/-- The near-tier window. -/
def nearWindow : Nat × Nat := (0x10000000000, 0xF000000000)
/-- The implemented far tier. -/
def farWindow (mask : Nat) : Nat × Nat := (0x20000000000, popcount 4 mask * 0x6000000000)

/-- Whether a range lies inside a window. -/
def insideOf (w : Nat × Nat) (base len : Nat) : Bool := decide (w.1 ≤ base) && decide (base + len ≤ w.1 + w.2)

/-- Whether two ranges overlap. -/
def overlaps (a b : Nat × Nat) : Bool := decide (a.1 < b.1 + b.2) && decide (b.1 < a.1 + a.2)

/-- Whether some two ranges of a list overlap. -/
def anyOverlap : List (Nat × Nat) → Bool
  | [] => false
  | x :: t => t.any (overlaps x) || anyOverlap t

/-- The loader area. -/
def loaderRange : Nat × Nat := (loaderBase, 0x18000000)

/-! Section bodies: check 11. -/

/-- A finite FP32 value of a record. -/
def finite32 (v : Nat) : Bool := !(f32Val (BitVec.ofNat 32 v)).bad

/-- Whether an FP32 value is at least +0, NaN apart. -/
def nonNeg32 (v : Nat) : Bool := finite32 v && !(f32Val (BitVec.ofNat 32 v)).lt Num.zero

/-- Whether an FP32 value is above 0. -/
def pos32 (v : Nat) : Bool := finite32 v && Num.zero.lt (f32Val (BitVec.ofNat 32 v))

/-- IDENT (R109): ranges, and PARTNER by GW_PER_SITE. A reserved endpoint ID (R179) is out of range. -/
def identOk (img b : List Byte) : Bool :=
  let ep := imgEndpoint img
  b.length == 32 && decide (beAt b 0 1 ≤ 7) && decide (1 ≤ beAt b 1 1) && decide (beAt b 1 1 ≤ 8) &&
    decide (beAt b 2 1 ≤ 127) && decide (1 ≤ beAt b 3 1) && decide (beAt b 3 1 ≤ 128) &&
    ((beAt b 4 1 == beAt b 2 1) == (beAt b 3 1 == 1)) && ep != 0 && decide (ep < 0xFFF00)

/-- SHARD_MAP (R110). -/
def shardMapOk (img b : List Byte) : Bool :=
  let n := beAt b 4 4
  decide (1 ≤ beAt b 0 1) && decide (beAt b 0 1 ≤ 128) && beAt b 0 1 == imgGwPerSite img && decide (1 ≤ n) &&
    decide (n ≤ 1048576) && b.length == 16 + 8 * n &&
    (List.range n).all fun i => decide (beAt b (17 + 8 * i) 1 ≤ 1) && (beAt b (17 + 8 * i) 1 == 0 || beAt b (20 + 8 * i) 2 == 1)

/-- One ladder entry (R89). -/
def rungOk (b : List Byte) (i : Nat) : Bool :=
  let o := 32 + 16 * i
  decide (1 ≤ beAt b o 1) && decide (beAt b o 1 ≤ 4) && pos32 (beAt b (o + 4) 4) && finite32 (beAt b (o + 8) 4) &&
    finite32 (beAt b (o + 12) 4)

/-- OUTER_RULE (R89, R101). -/
def outerRuleOk (b : List Byte) : Bool :=
  let rule := beAt b 0 1
  let n := beAt b 2 1
  b.length == 160 && decide (rule ≤ 3) && decide (beAt b 3 1 ≤ 2) && decide (1 ≤ beAt b 4 2) &&
    (if rule = 3 then decide (1 ≤ n) && decide (n ≤ 8) else n == 0) &&
    nonNeg32 (beAt b 8 4) && nonNeg32 (beAt b 12 4) && nonNeg32 (beAt b 16 4) &&
    (f32Val (BitVec.ofNat 32 (beAt b 16 4))).lt (f32Val one32) && nonNeg32 (beAt b 20 4) && pos32 (beAt b 24 4) &&
    !(f32Val (BitVec.ofNat 32 (beAt b 28 4))).bad && (beAt b 3 1 != 2 || pos32 (beAt b 28 4)) && (List.range n).all (rungOk b) &&
    (List.range (n - 1)).all (fun i => decide (beAt b (32 + 16 * i) 1 ≤ beAt b (48 + 16 * i) 1)) &&
    (n == 0 || beAt b (32 + 16 * (n - 1)) 1 == 4) && zeros (b.drop (32 + 16 * n))

/-- An area of a MEMORY body: kind, base and length. -/
structure Area where
  kind : Nat
  base : Nat
  len : Nat
deriving DecidableEq, Repr

/-- The areas of a MEMORY body (Table MEM-4). -/
def areasOf (b : List Byte) : List Area :=
  (List.range (beAt b 0 1)).map fun a => ⟨beAt b (64 + 32 * a) 1, beAt b (66 + 32 * a) 6, beAt b (72 + 32 * a) 8⟩

/-- Whether an area kind lies in the near tier, none when the kind is undefined (Table MEM-5). -/
def areaNear (k : Nat) : Option Bool :=
  if 1 ≤ k ∧ k ≤ 5 then some true else if 8 ≤ k ∧ k ≤ 12 then some false else none

/-- MEMORY (R148, R149): layout, kinds and counts. An area beyond its window, or beyond popcount(POND_MASK) × 384 GiB, is taken
as a breach of the layout, so as reason RECORD (DESIGN CHOICE: R149 names RECORD for layout and CAPACITY for capacity, and
does not say which this is). -/
def memoryOk (img b : List Byte) : Bool :=
  let l := areasOf b
  let count := fun k => (l.filter fun x => x.kind == k).length
  let carve := beAt (imgBody img 0x800C 0) 8 8
  b.length == 64 + 32 * beAt b 0 1 && decide (1 ≤ beAt b 0 1) && decide (beAt b 0 1 ≤ 64) && imgPondMask img != 0 &&
    decide (64 ≤ beAt b 2 2) && decide (beAt b 2 2 ≤ 256) &&
    (l.all fun x => x.base % 4096 == 0 && (match areaNear x.kind with
      | none => false
      | some near => insideOf (if near then nearWindow else farWindow (imgPondMask img)) x.base x.len &&
          !overlaps loaderRange (x.base, x.len))) &&
    !anyOverlap (l.map fun x => (x.base, x.len)) && decide (1 ≤ count 1) &&
    (if carve = 0 then decide (count 4 ≤ 1) else count 4 == 1) &&
    count 8 == (if imgGwPerSite img = 1 then 0 else 1) && count 9 == 1 && count 10 == 1

/-- Ring sizes of a PORTS body. -/
def ringSize (b : List Byte) (d : Nat) : Nat := beAt b d 1

/-- The torus ports of a direction. -/
def torusPorts (b : List Byte) (dir : Nat) : List Nat :=
  (List.range 16).filter fun p => bits (beAt b (32 + 32 * p) 1) 7 6 == 1 && bits (beAt b (32 + 32 * p) 1) 5 3 == dir

/-- PORTS (R173, R174). -/
def portsOk (img b : List Byte) : Bool :=
  let role := fun p => bits (beAt b (32 + 32 * p) 1) 7 6
  let dir := fun p => bits (beAt b (32 + 32 * p) 1) 5 3
  let cred := fun p => (List.range 8).map fun v => beAt b (36 + 32 * p + 2 * v) 2
  let wins := ((List.range 8).filter fun w => bits (beAt b (550 + 16 * w) 1) 7 6 != 0).map fun w =>
    (beAt b (544 + 16 * w) 6, beAt b (552 + 16 * w) 8)
  b.length == 672 &&
    ([0, 1, 2].all fun d => decide (1 ≤ ringSize b d) && decide (ringSize b d ≤ 32) && decide (beAt b (3 + d) 1 < ringSize b d)) &&
    decide (beAt b 8 2 ≤ 4095) && decide (beAt b 8 2 + beAt b 10 2 ≤ 4096) &&
    ((List.range 16).all fun p => role p != 3 && (if role p = 1 then decide (dir p ≤ 5) else dir p == 0) &&
      (role p == 0 || (decide ((cred p).sum ≤ 2048) && (cred p).all fun c => decide (17 ≤ c)))) &&
    ((List.range 6).all fun d => match torusPorts b d with
      | [] => ringSize b (d / 2) == 1
      | [x, y] => decide (2 ≤ ringSize b (d / 2)) && x / 4 != y / 4
      | _ => false) &&
    !anyOverlap wins && wins.all fun w => w.1 % 4096 == 0 && w.2 % 4096 == 0 &&
      ((windowsOf (imgPondMask img)).any fun v => insideOf v w.1 w.2) && !overlaps loaderRange w

/-- ROUTES (R181, R186, R200): lengths, and port numbers of valid entries. Dimension order is not checked (R183). -/
def routesOk (b : List Byte) : Bool :=
  let nu := beAt b 4 4
  let nm := beAt b 8 4
  b.length == 16 + 8 * (nu + nm) &&
    ((List.range nu).all fun i =>
      let e := beAt b (20 + 8 * i) 4
      !bit e 31 || bit e 30 || (candidates e).all fun c => decide (c ≤ 15)) &&
    (List.range nm).all fun i =>
      let e := beAt b (20 + 8 * (nu + i)) 4
      !bit e 31 || decide (bits e 28 24 ≤ 16)

/-- One element of a chain (Table COL-3). -/
def elemOk (e : ElemDef) : Bool :=
  decide (e.kind ≤ 7) && decide (e.peer < (if e.peerMc then 4096 else 2 ^ 20)) &&
    (e.kind != 2 || (decide (1 ≤ e.fanin) && decide (e.fanin ≤ 16) && (!e.keyed || e.fanin == 1))) &&
    decide (1 ≤ e.nch) && decide (e.nch ≤ 65536)

/-- COLL_CHAINS (R204). -/
def chainsOk (img b : List Byte) : Bool :=
  let nc := imgChains img
  let ne := beAt b 4 4
  let f32 := bit (beAt (imgBody img 0x8003 0) 1 1) 1
  decide (1 ≤ nc) && decide (nc ≤ 1024) && decide (1 ≤ ne) && decide (ne ≤ 65536) &&
    b.length == 16 + 16 * nc + 32 * ne &&
    ((List.range nc).all fun c =>
      let n := imgChain img c 4 1
      let fl := imgChain img c 5 1
      decide (1 ≤ n) && decide (n ≤ 64) && decide (imgChain img c 0 4 + n ≤ ne) &&
        (!bit fl 7 || bit fl 4 == f32) && (!bit fl 6 || bit fl 4)) &&
    (List.range ne).all fun i => elemOk (imgElem img i)

/-- LINE (R246, R252, R258, R307). -/
def lineOk (img b : List Byte) : Bool :=
  let n := beAt b 0 2
  let enabled := fun p => bit (beAt b (32 + 16 * p) 1) 7
  let flows := imgFlows img
  let win := fun hub => ((flows.filter fun r => r.receives && r.hub == hub).map fun r => r.win).sum
  decide (n ≤ 256) && b.length == 128 + 16 * n &&
    ([0, 1, 2, 3].all fun p => decide (beAt b (33 + 16 * p) 1 ≤ 7) && decide (beAt b (34 + 16 * p) 1 ≤ 127)) &&
    ([0, 1].all fun g =>
      let mode := bits (beAt b (96 + 16 * g) 1) 7 6
      decide (mode ≤ 2) && (mode == 0 || (enabled g && enabled (g + 2))) && decide (beAt b (97 + 16 * g) 1 ≤ 100) &&
        decide (1 ≤ beAt b (98 + 16 * g) 2) && decide (beAt b (98 + 16 * g) 2 ≤ 3600)) &&
    (flows.map fun r => r.flow).eraseDups.length == n &&
    (flows.all fun r => r.dir != 0 && decide (r.site ≤ 7) && decide (r.gw ≤ 127) && decide (1024 ≤ r.win) &&
      decide (r.win ≤ 4194304) && decide (2 ≤ r.retx) && decide (8 ≤ r.kslot)) &&
    decide (win 0 ≤ 67108864) && decide (win 1 ≤ 67108864)

/-- Whether an image uses an optical port (R347). -/
def portInUse (img : List Byte) (k : Nat) : Bool :=
  if k < 16 then bits (beAt (imgBody img 0x8005 0) (32 + 32 * k) 1) 7 6 != 0
  else if k < 20 then bit (beAt (imgBody img 0x8009 0) (32 + 16 * (k - 16)) 1) 7
  else bit (imgPondMask img) (k - 20)

/-- Whether an image enables an optical port (Table OPT-3). -/
def portEnabled (img : List Byte) (k : Nat) : Bool := bit (beAt (imgBody img 0x800A 0) (32 + 32 * k) 1) 7

/-- CHANNEL_PLAN (R347). -/
def channelPlanOk (img b : List Byte) : Bool :=
  b.length == 800 && (List.range 24).all fun k =>
    (!portInUse img k || portEnabled img k) && decide (-2000 ≤ signed 16 (beAt b (34 + 32 * k) 2)) &&
      decide (signed 16 (beAt b (34 + 32 * k) 2) ≤ -800) &&
      (List.range 9).all fun l => decide (beAt b (36 + 32 * k + 2 * l) 2 ≤ 400)

/-- The end of the last pool of each place (R160): the hub areas and the carve-out. -/
def poolEnds (img : List Byte) : Nat × Nat × Nat :=
  let b := imgBody img 0x800C 0
  let step := fun (a n : Nat) => (a + 256 * 4 ^ (n % 6) - 1) / (256 * 4 ^ (n % 6)) * (256 * 4 ^ (n % 6)) +
    imgPoolCount img n * (256 * 4 ^ (n % 6))
  (List.range 12).foldl (fun (x : Nat × Nat × Nat) n =>
    if bit (beAt b (32 + 80 * n) 1) 7 then (x.1, x.2.1, step x.2.2 n)
    else if n < 6 then (step x.1 n, x.2.1, x.2.2) else (x.1, step x.2.1 n, x.2.2))
    (0x2000000, 0x2000000, beAt b 0 6)

/-- HOPPER (R161). -/
def hopperOk (img b : List Byte) : Bool :=
  let carve := (beAt b 0 6, beAt b 8 8)
  let areas := ((areasOf (imgBody img 0x8004 0)).filter fun x => x.kind == 4).map fun x => (x.base, x.len)
  let count := imgPoolCount img
  let ends := poolEnds img
  b.length == 992 && carve.2 % 1048576 == 0 && decide (carve.2 ≤ 64 * 2 ^ 30) && (carve.2 != 0 || carve.1 == 0) &&
    areas == (if carve.2 = 0 then [] else [carve]) &&
    ((List.range 12).all fun n =>
      let mins := (List.range 15).map (imgPoolMin img n)
      decide (beAt b (35 + 80 * n) 1 < beAt b (34 + 80 * n) 1) && decide (beAt b (34 + 80 * n) 1 < beAt b (33 + 80 * n) 1) &&
        decide (mins.sum ≤ count n) && decide (count n ≤ 1048576)) &&
    decide (((List.range 6).map count).sum ≤ 2097152) && decide (((List.range 6).map fun n => count (6 + n)).sum ≤ 2097152) &&
    decide (ends.1 ≤ 0x6000000) && decide (ends.2.1 ≤ 0x6000000) && decide (ends.2.2 ≤ carve.1 + carve.2)

/-- Whether the lengths of a code can stand (R292): at most 15 bits, and the sum of 2^−length at most 1. -/
def codeOk (lens : List Nat) : Bool :=
  lens.all (fun l => decide (l ≤ 15)) &&
    decide ((lens.map fun l => if l = 0 then 0 else 2 ^ (15 - l)).sum ≤ 32768)

/-- The BOLTER_TABLE bodies of an image with their slots. -/
def imgTables (img : List Byte) : List (Nat × List Byte) :=
  ((imgTable img).filter fun x => x.typ == 0x800D).map fun x => (x.inst, secBody img x)

/-- The tables that slots other than one hold, have staged, or are given by an image (R298). -/
def State.otherTables (s : State) (img : List Byte) (slot : Nat) : List BTable :=
  let mine := imgTables img
  let kept := (s.cmp.slots ++ s.cmp.staged).filter fun x => !(mine.any fun y => y.1 == x.1)
  (((mine ++ kept).filter fun x => x.1 != slot).map fun x => parseTable x.2)

/-- BOLTER_TABLE (R298). -/
def State.bolterOk (s : State) (img b : List Byte) (slot : Nat) : Bool :=
  let t := parseTable b
  let others := s.otherTables img slot
  let far := farWindow (imgPondMask img)
  let retain := ((areasOf (imgBody img 0x8004 0)).filter fun x => x.kind == 10).map fun x => (x.base, x.len)
  let wins := t.windows.map fun w => (w.base, w.len)
  let foreign := others.flatMap fun o => o.windows.map fun w => (w.base, w.len)
  b.length == 556 && t.epoch != 0 && !(others.any fun o => o.epoch == t.epoch) && decide (bits (beAt b 2 1) 1 0 ≤ 1) &&
    decide (beAt b 4 1 ≤ 4) && codeOk t.elens && codeOk t.mlens &&
    !(t.line && others.any fun o => o.line && o.fp32 == t.fp32) && !anyOverlap wins &&
    (wins.all fun w => w.1 % 4096 == 0 && w.2 % 4096 == 0 && insideOf far w.1 w.2 &&
      !((retain ++ foreign).any (overlaps w))) &&
    t.windows.all fun w => w.map % 64 == 0 && insideOf nearWindow w.map (2 * (w.len / 4096)) &&
      !overlaps loaderRange (w.map, 2 * (w.len / 4096))

/-- The gate list of a GATE_LIST body (Table TIM-4). -/
def gateOf (b : List Byte) : GateList :=
  ⟨beAt b 8 8, beAt b 16 4, (List.range (beAt b 0 2)).map fun e => (beAt b (32 + 8 * e) 4, beAt b (36 + 8 * e) 4)⟩

/-- REGION (R111): every INIT_PHASE is a phase of the image, and some region is not excluded. -/
def regionOk (img b : List Byte) : Bool :=
  b.length == 128 && beAt b 64 8 != 2 ^ 64 - 1 && (List.range 64).all fun r => imgHasPhase img (imgInitPhase img r)

/-- Whether a list reference covers `n` descriptors that exist (R113). -/
def listOk (img : List Byte) (ref n : Nat) : Bool :=
  match imgFind img 0x8010 (ref / 2 ^ 24) with
  | none => false
  | some b => decide (64 * (ref % 2 ^ 24 + n) ≤ b.length)

/-- PHASE (R112): the STEP bit is set in exactly one phase. -/
def phaseOk (img b : List Byte) (inst : Nat) : Bool :=
  b.length == 1040 && beAt b 0 1 == inst && ((List.range 8).filter fun n => imgStepPhase img n).length == 1 &&
    (List.range 64).all fun r =>
      let m := imgPosMap img inst r
      let e := imgEntry img inst r
      decide (imgJoin img inst r ≤ 4) && m.eraseDups.length == 16 && (e == 0xFFFFFFFF || listOk img e 1) &&
        (!imgReserve img r || m[15]? == some (imgSpare img r))

/-- A descriptor of an image as an entry of a queue. -/
def rawEntry (raw : List Byte) : QEntry := ⟨0, raw, 0, 0, 0, none, false, []⟩

/-- The fields of a descriptor (R126–R130): those whose range does not depend on where it is dispatched. -/
def descOk (img raw : List Byte) : Bool :=
  let e := rawEntry raw
  let op := e.op
  decide (e.dlBase ≤ 2) && ctrDefined e.waitCtr && ctrDefined e.sigCtr &&
    (match e.typ with
     | 0 => true
     | 1 => tileFieldsOk e
     | 2 => decide (e.moveOp ≤ 3) && decide (bits (e.at 24 1) 3 2 ≤ 2) && decide (e.moveEngine ≤ 2) &&
         (e.moveOp != 0 || decide (e.moveLen ≤ 0x1000000)) && (e.moveOp != 1 || e.moveLen % 64 == 0)
     | 3 => decide (1 ≤ e.nElem ∧ e.nElem ≤ 4194304) && ([32, 35, 38, 41].all fun o => decide (e.at o 3 < 262144)) &&
         ([0, 1, 2].all fun k => decide (e.kSrc k ≤ 2) && (e.kSrc k != 2 || decide (e.kField k % 8 ≤ 5))) &&
         (e.opcode != 0x24 || decide (1 ≤ e.qfmt ∧ e.qfmt ≤ 4))
     | 4 => decide (op ≤ 1) && ctrDefined (e.at 26 2 % 8192)
     | 5 => decide (1 ≤ op) && decide (op ≤ 5) && decide (e.at 25 1 ≤ 15) && decide (e.at 26 1 ≤ if op = 3 then 56 else 63)
     | 6 => decide (1 ≤ op) && decide (op ≤ 3)
     | 7 => decide (e.at 24 1 ≤ 7)
     | 8 => decide (e.at 24 2 < imgChains img) && collFieldsOk e
     | 9 => listOk img (e.at 24 4) (e.at 28 2) && decide (1 ≤ e.at 30 2)
     | _ => false)

/-- DESC (R113): whole descriptors with defined fields. -/
def descsOk (img b : List Byte) : Bool :=
  b.length % 64 == 0 && (List.range (b.length / 64)).all fun i => descOk img (slice b (64 * i) 64)

/-- PROGRAM (R113): up to 256 entries, entry 0 among them, whose lists exist. -/
def programOk (img b : List Byte) : Bool :=
  b.length % 16 == 0 && decide (1 ≤ imgEntries img) && decide (imgEntries img ≤ 256) &&
    (List.range (imgEntries img)).all fun i => listOk img (imgProgList img i) (imgProgCount img i)

/-- Check 11 for one section. -/
def State.recordBad (s : State) (img : List Byte) (x : Sec) : Bool :=
  let b := secBody img x
  !(match x.typ with
    | 0x8001 => identOk img b
    | 0x8002 => shardMapOk img b
    | 0x8003 => outerRuleOk b
    | 0x8004 => memoryOk img b
    | 0x8005 => portsOk img b
    | 0x8006 => routesOk b
    | 0x8007 => chainsOk img b
    | 0x8008 => b.length == 256
    | 0x8009 => lineOk img b
    | 0x800A => channelPlanOk img b
    | 0x800B => b.length == 32 + 8 * beAt b 0 2 && gateOk img (gateOf b)
    | 0x800C => hopperOk img b
    | 0x800D => s.bolterOk img b x.inst
    | 0x800E => regionOk img b
    | 0x800F => phaseOk img b x.inst
    | 0x8010 => descsOk img b
    | 0x8011 => programOk img b
    | _ => true)

/-! Checks 12 to 16. -/

/-- The index of the first section of a type. -/
def secIndex (img : List Byte) (typ : Nat) : Nat := ((imgTable img).findIdx? fun x => x.typ == typ).getD 0

/-- Check 12 (R17). -/
def shardBad (img : List Byte) : Bool :=
  let g := beAt (imgBody img 0x8002 0) 0 1
  let dim := fun d => decide (64 ≤ d) && decide (d ≤ 32768) && d % 32 == 0
  decide (g ≤ imgGw img) || decide (g ≤ imgPartner img) || !((List.range (imgTensors img)).all fun i =>
    let t := imgTensor img i
    decide (t.owner < g) && (if t.matrix then dim t.rows && dim t.cols else decide (1 ≤ t.rows) && decide (t.rows ≤ 32768)))

/-- Parameters that a gateway owns. -/
def imgParams (img : List Byte) (gw : Nat) : Nat := ((imgOwned img gw).map fun t => t.rows * t.cols).sum

/-- Check 13 (R18, R149, Table OS-2, Table MEM-5): the owned state is counted through the OWNED areas that hold it. -/
def capacityBad (img : List Byte) : Bool :=
  let l := areasOf (imgBody img 0x8004 0)
  let sum := fun (p : Area → Bool) => ((l.filter p).map fun x => x.len).sum
  let bpp := if beAt (imgBody img 0x8003 0) 0 1 = 0 then 4 else 8
  let own := imgParams img (imgGw img)
  !(l.all fun x => x.len % 4096 == 0 && decide (4096 ≤ x.len)) || decide (sum (fun x => x.kind == 1) < bpp * own) ||
    (imgGwPerSite img != 1 && decide (sum (fun x => x.kind == 8) < bpp * imgParams img (imgPartner img))) ||
    decide (sum (fun x => x.kind == 9) < 4 * own) ||
    sum (fun x => x.kind == 10) != beAt (imgBody img 0x8004 0) 2 2 * 2 ^ 30 ||
    decide (960 * 2 ^ 30 - 0x18000000 < sum fun x => areaNear x.kind == some true)

/-- Check 14 (R72). -/
def spareJoinBad (img : List Byte) (x : Sec) : Bool :=
  x.typ == 0x800F && (List.range 64).any fun r => imgReserve img r && imgJoin img x.inst r == 4

/-- The class S section types (Table IMG-3). -/
def classS : List Nat := [0x8001, 0x8005, 0x8009, 0x800A, 0x800C]

/-- Whether a section differs between two images (R120): its SHAKE256, or that only one has it. -/
def differs (a b : List Byte) (typ inst : Nat) : Bool :=
  (imgFind a typ inst).map (shake256 · 64) != (imgFind b typ inst).map (shake256 · 64)

/-- Check 15 (R120). -/
def liveChangeBad (run img : List Byte) (x : Sec) : Bool := classS.contains x.typ && differs run img x.typ x.inst

/-- Whether the boundary that follows an outer epoch's commit has passed (R118): a later epoch is committed, or a step
after it is in progress. -/
def State.epochPassed (s : State) (at_ : Nat) : Bool :=
  let st := s.get F.UPD_STEP_STAT_STATE
  decide (at_ < s.outerEpoch) || (at_ == s.outerEpoch && decide (1 ≤ st) && decide (st ≤ 4))

/-- Checks 1 to 10 of Table IMG-4 in their order, on an image of which `loaded` bytes are there. -/
def State.firstChecks (s : State) (img : List Byte) (loaded : Nat) : List Reject :=
  [rejectIf (headerBad img) 0x01,
    rejectIf (beAt img 22 2 != 0x0AB1 || decide (s.get F.GEN_ID_STEPPING < beAt img 24 1)) 0x02,
    rejectIf (lengthBad img loaded) 0x03, rejectIf (s.keyBad img) 0x04,
    rejectIf (decide (imgArb img < s.get F.IMG_OTP_ARB_ARB)) 0x05, rejectIf (signatureBad img) 0x06,
    rejectIf (tableBad img) 0x07, badSection img 0x08 (fun x => crc32c (secBody img x) != x.crc),
    rejectIf (digestBad img) 0x09, sectionsBad img]

/-- The checks of Table IMG-4 in their order (R114); checks 15 and 16 hold only against a running image. -/
def State.imageReject (s : State) (img : List Byte) (loaded : Nat) (at_ : Option Nat) : Reject :=
  firstReject (s.firstChecks img loaded ++ [badSection img 0x0B (s.recordBad img),
    rejectIf (shardBad img) 0x0C (secIndex img 0x8002), rejectIf (capacityBad img) 0x0D (secIndex img 0x8004),
    badSection img 0x0E (spareJoinBad img),
    if s.img.first then badSection img 0x0F (liveChangeBad (s.img.running.getD []) img) else none,
    if s.img.first then rejectIf (match at_ with
      | some e => s.epochPassed e
      | none => false) 0x10 else none])

end Sys2Proof.Machine
end

