-- ==== Sys2Proof/Machine/LineCmd.lean ====
section
/-! DEFINITION. Meanings of the line commands (R228–R252, R254, R255): frames, alignment, defect windows, swaps,
protection and counters. -/

namespace Sys2Proof.Machine

/-- FRAME_TRANSMIT (R235): a port whose lanes have locked sends its next frame. The frames of a protection port that copies
its working port leave with the working port's, or alone while that port's transmitter does not run. -/
def execFrameTransmit (port : Nat) (s : State) : Host.Outcome State Fault Refusal :=
  .next (if (s.line port).txOn && !s.fatal && s.time.running then
      if !s.copied port then s.transmit port
      else if (s.line (port - 2)).txOn then s
      else s.transmitCopy port
    else s)

/-- FRAME_RECEIVE (R238): a frame at the expected position of an aligned port; `lanes` are the units of its 8 lanes and
`skew` the largest lane skew in units. -/
def execFrameReceive (port : Nat) (lanes : List (List Nat)) (skew : Nat) (s : State) : Host.Outcome State Fault Refusal :=
  .next (if s.get (F.LHL_ALIGN_STAT_STATE.ix port) == 3 then s.receive port (s.decodeFrame lanes) skew else s)

/-- Bytes of a frame. -/
def frameBytes : Nat := 139264

/-- ALIGNMENT_SIGHTING (R237): the alignment word seen in lane 0 at a byte position, with the units seen at the lane
markers and the largest skew in units. -/
def execAlignmentSighting (port pos : Nat) (markers : List Nat) (skew : Nat) (s : State) :
    Host.Outcome State Fault Refusal :=
  .next (
    let st := s.get (F.LHL_ALIGN_STAT_STATE.ix port)
    if st == 1 || st == 2 then
      let tol := s.get F.LHL_CFG_ALIGN_TOL
      let s1 := s.put (F.LHL_ALIGN_STAT_SKEW.ix port) (decide (128 < skew))
      let usable := (List.range 8).all (fun l => markerOk tol l ((markers[l]?).getD 0)) && decide (skew ≤ 128)
      let l := (s.line port).cands
      let expected := l.any fun c => decide (c.pos < pos) && (pos - c.pos) % frameBytes == 0
      if !usable || expected then s1
      else if 8 ≤ l.length || s.forcedAt 0xA6 (locLine port) then
        (s1.bump (F.LHL_CNT_CAND_FULL.ix port)).raiseLine 0xA6 .ce port
      else (s1.setCands port (l ++ [⟨pos, 0, 0⟩])).setFramer port 2
    else s)

/-- CANDIDATE_CHECK (R237): the frame at an expected position of a held candidate, its own position included. -/
def execCandidateCheck (port pos : Nat) (lanes : List (List Nat)) (s : State) : Host.Outcome State Fault Refusal :=
  .next (
    let l := (s.line port).cands
    let here := fun (c : Cand) => decide (c.pos ≤ pos) && (pos - c.pos) % frameBytes == 0
    if s.get (F.LHL_ALIGN_STAT_STATE.ix port) != 2 then s
    else match l.find? here with
      | none => s
      | some c =>
        let x := s.decodeFrame lanes
        let n := x.head.fnum
        if x.word && x.hcrc && (c.passes == 0 || n == (c.fnum + 1) % 2 ^ 64) then
          if 2 ≤ c.passes then
            let s1 := (s.setCands port []).setFramer port 3
            ((s1.setAll [(F.LHL_PORT_STAT_LOA.ix port, 0), (F.LHL_ALIGN_STAT_MISSES.ix port, 0)]).onLine port fun p =>
              { p with rxLast := n }).lineDefects port
          else s.setCands port (l.map fun d => if here d then { d with passes := d.passes + 1, fnum := n } else d)
        else
          let rest := l.filter fun d => !here d
          let s1 := s.setCands port rest
          if rest.isEmpty then s1.setFramer port 1 else s1)

/-- PRE_FEC_WINDOW (R239): a window of 256 frames ends; LOS and LOA suspend it. -/
def execPreFecWindow (port : Nat) (s : State) : Host.Outcome State Fault Refusal :=
  .next (if s.get (F.LHL_ALIGN_STAT_STATE.ix port) == 3 then
      let l := s.line port
      let exc := decide (s.get (F.LHL_THR_SF_SF_BITS.ix port) < l.corr) || decide (0 < l.unc)
      let deg := decide (s.get (F.LHL_THR_SD_SD_BITS.ix port) < l.corr)
      let m := s.get (F.LHL_THR_SD_DEG_M.ix port)
      let x : LineSt := { l with
        corr := 0, unc := 0
        excClear := if exc then 0 else l.excClear + 1
        degUp := if deg then l.degUp + 1 else 0
        degDown := if deg then 0 else l.degDown + 1 }
      let s1 := s.setLine port x
      let s2 := if exc then s1.set (F.LHL_PORT_STAT_EXC.ix port) 1
        else if 8 ≤ x.excClear then s1.set (F.LHL_PORT_STAT_EXC.ix port) 0 else s1
      let s3 := if m ≤ x.degUp then s2.set (F.LHL_PORT_STAT_DEG.ix port) 1
        else if m ≤ x.degDown then s2.set (F.LHL_PORT_STAT_DEG.ix port) 0 else s2
      (s3.runDefects port).lineDefects port
    else s)

/-- REHUNT (R236, R254): alignment is dropped, and the framer hunts. -/
def execRehunt (port : Nat) (s : State) : Host.Outcome State Fault Refusal :=
  .next (s.hostWrite 15 fun t => if t.get (F.LHL_ALIGN_STAT_STATE.ix port) == 0 then t else t.dropAlign port 1)

/-! Swaps (R243–R245). -/

/-- The frame number that a port is sending. -/
def State.txFnum (s : State) (p : Nat) : Nat := s.get64 (F.LHL_TX_FNUM_LO_FNUM.ix p) (F.LHL_TX_FNUM_HI_FNUM.ix p)

/-- SWAP_ARM (R243): ARM ends the causes of TSI_EVT, then arms the swap at TSI_SWAP_AT or refuses it. -/
def execSwapArm (port : Nat) (s : State) : Host.Outcome State Fault Refusal :=
  .next (s.hostWrite 16 fun t =>
    let t1 := t.evtEndAll [F.TSI_EVT_RX_UNREADY, F.TSI_EVT_LATE, F.TSI_EVT_WIN_REFUSED, F.TSI_EVT_SWAPPED]
    let n := t.get64 (F.TSI_SWAP_AT_LO_FNUM.ix port) (F.TSI_SWAP_AT_HI_FNUM.ix port)
    if n < t.txFnum port + 17 || t.forcedAt 0xA4 (locLine port) then (t1.evt F.TSI_EVT_LATE).raiseLine 0xA4 .ce port
    else (t1.onLine port fun l => { l with armed := some n }).setBit F.TSI_STAT_ARMED port true)

/-- SWAP_CANCEL (R243): withdraws an armed swap before frame N − 16. -/
def execSwapCancel (port : Nat) (s : State) : Host.Outcome State Fault Refusal :=
  .next (s.hostWrite 16 fun t =>
    match (t.line port).armed with
    | none => t
    | some n =>
      if t.txFnum port + 16 < n then
        (t.onLine port fun l => { l with armed := none }).setBit F.TSI_STAT_ARMED port false
      else t)

/-- RX_READY (R244): the receive standby page is ready. -/
def execRxReady (port : Nat) (s : State) : Host.Outcome State Fault Refusal :=
  .next (s.hostWrite 16 fun t => t.setBit F.TSI_STAT_RX_READY port true)

/-- TSI_WINDOW_WRITE (R241, R243, R255): the window addresses the standby page. -/
def execTsiWindowWrite (receive : Bool) (port slot entry : Nat) (s : State) : Host.Outcome State Fault Refusal :=
  .next (s.hostWrite 16 fun t =>
    let dir := b2n receive
    let k := pageKey port dir (1 - t.activePage port dir) slot
    { t with lhl := { t.lhl with pages := Tab.put 0 t.lhl.pages k (entry / 2 ^ 15 % 2 * 2 ^ 15 + entry % 256) } })

/-- The entries of a TSI_PAGES body written into a page of both directions (R245). -/
def State.loadPages (s : State) (p txPage rxPage : Nat) (body : List Byte) : State :=
  let put := fun (t : Tab Nat) (k e : Nat) => Tab.put 0 t k (e / 2 ^ 15 % 2 * 2 ^ 15 + e % 256)
  let pages := (List.range 64).foldl (fun t n =>
    put (put t (pageKey p 0 txPage n) (beAt body (2 * n) 2)) (pageKey p 1 rxPage n) (beAt body (128 + 2 * n) 2)) s.lhl.pages
  ((({ s with lhl := { s.lhl with pages := pages } }).setBit F.TSI_STAT_RX_READY p true).countFlows).updateCap

/-! Protection (R247–R249). -/

/-- HOLD_OFF_END (R248): a defect that is still present when its hold-off ends raises its group's request. -/
def execHoldOffEnd (port : Nat) (degrade : Bool) (s : State) : Host.Outcome State Fault Refusal :=
  .next (if s.getBit (if degrade then F.LHL_STAT_SD else F.LHL_STAT_SF) port then s.askGroup port degrade true else s)

/-- WTR_EXPIRY (R248). -/
def execWtrExpiry (group : Nat) (s : State) : Host.Outcome State Fault Refusal :=
  .next (if (s.group group).wtr then
      ((s.setGroup group { s.group group with wtr := false }).set (F.LHL_PG_STAT_WTR_LEFT.ix group) 0).settleGroup group
    else s)

/-- LHL_PG_CMD (R247). -/
def execLhlPgCmd (group cmd : Nat) (s : State) : Host.Outcome State Fault Refusal :=
  .next (s.hostWrite 15 fun t => ((t.set (F.LHL_PG_CMD_CMD.ix group) cmd).settleGroup group).coveredWrite)

/-- PROTECTION_SWITCH (R247, R249): at a frame boundary the selector follows the request in force, and under 1:1 the bridge
with it; `us` is the time from the request. An armed source changes the port against the request, until the next command
(R372). -/
def execProtectionSwitch (group us : Nat) (s : State) : Host.Outcome State Fault Refusal :=
  .next (
    let cur := s.flag (F.LHL_PG_STAT_SELECTED.ix group)
    let forced := s.forcedAt 0xA2 (locLine (if cur then group else group + 2))
    let want := if forced then !cur else toProtection (s.get (F.LHL_PG_STAT_REQ.ix group))
    if s.get (F.LHL_PG_CFG_MODE.ix group) = 0 || want == cur then s
    else
      let s1 := s.setAll [(F.LHL_PG_STAT_SELECTED.ix group, b2n want),
        (F.LHL_PG_STAT_BRIDGED.ix group, b2n (want && s.get (F.LHL_PG_CFG_MODE.ix group) == 2)),
        (F.LHL_PG_LAST_US.ix group, min us 65535)]
      let s2 := ((s1.bump (F.LHL_PG_LAST_SWITCHES.ix group)).evt F.LHL_EVT_PROT_SWITCH).raiseLine 0xA2 .ce
        (s1.selectedPort group)
      s2.groupDown group)

/-- LHL_CNT_CLR (R254): a port's LHL_CNT and second counts clear; for port 0 the causes PROT_SWITCH and PM_LATCH end. -/
def execLhlCntClr (port : Nat) (s : State) : Host.Outcome State Fault Refusal :=
  .next (s.hostWrite 15 fun t =>
    let t1 := t.clearAll [F.LHL_CNT_CAND_FULL.ix port, F.LHL_CNT_FNUM_JUMP.ix port, F.LHL_CNT_MSG_BAD.ix port,
      F.LHL_CNT_LOA.ix port, F.LHL_PM_SECS_FE_ES.ix port, F.LHL_PM_SECS_SES.ix port, F.LHL_PM_SECS_ES.ix port]
    if port = 0 then t1.evtEndAll [F.LHL_EVT_PROT_SWITCH, F.LHL_EVT_PM_LATCH] else t1)

/-! The second boundary (R250, R251, R441). -/

/-- One port's counts of the second latched and classified, and its running counts restarted (R250, R251). -/
def State.latchPort (s : State) (p : Nat) : State :=
  let l := s.line p
  let es := decide (0 < l.secUnc) || decide (0 < l.secHcrc) || l.secDefect
  let ses := l.secSf || decide (1953125 ≤ l.secUnc)
  let fe := decide (0 < l.secRei) || l.secRdi
  let count := fun (t : State) (f : Fld) (b : Bool) => if b then t.bump f else t
  let s1 := (s.set64 (F.LHL_PM_CORR_LO_BITS.ix p) (F.LHL_PM_CORR_HI_BITS.ix p) l.secCorr).setAll
    [(F.LHL_PM_UNC_COUNT.ix p, min l.secUnc (2 ^ 32 - 1)), (F.LHL_PM_HCRC_COUNT.ix p, min l.secHcrc (2 ^ 32 - 1)),
     (F.LHL_PM_FEUNC_COUNT.ix p, min l.secRei (2 ^ 32 - 1)), (F.LHL_PM_UNREADY_COUNT.ix p, min l.secUnready (2 ^ 32 - 1)),
     (F.LHL_PM_SECS_LAST_ES.ix p, b2n es), (F.LHL_PM_SECS_LAST_SES.ix p, b2n ses)]
  let s2 := count (count (count s1 (F.LHL_PM_SECS_ES.ix p) es) (F.LHL_PM_SECS_SES.ix p) ses) (F.LHL_PM_SECS_FE_ES.ix p) fe
  s2.onLine p fun x => { x with
    secCorr := 0, secUnc := 0, secHcrc := 0, secRei := 0, secReiCorr := 0, secUnready := 0, farCorr := l.secReiCorr
    secDefect := s.anyDefect p, secSf := s.sigFail p, secRdi := s.flag (F.LHL_PORT_STAT_RDI_RX.ix p) }

/-- What a second boundary does (R250, R371, R441): while time is valid the counts of every port are latched; the counts
that other units keep by the second restart. -/
def State.secondBoundary (s : State) : State :=
  let s1 := { s with
    fab := { s.fab with discards := [], discRaised := [] }
    flt := { s.flt with ucThisSecond := 0 }
    qrn := { s.qrn with retryOk := [] } }
  let s2 := s1.put F.LHL_PM_CTL_PM_VALID (s1.flag F.TIM_STAT_VALID)
  if s2.flag F.TIM_STAT_VALID then
    (((((((s2.latchPort 0).latchPort 1).latchPort 2).latchPort 3).set F.LHL_PM_SEC_SEC s.time.sec).set F.LHL_PM_CTL_PM_SEQ
      (s.get F.LHL_PM_CTL_PM_SEQ + 1)).evt F.LHL_EVT_PM_LATCH)
  else s2

end Sys2Proof.Machine
end

