-- ==== Sys2Proof/Machine/Partition.lean ====
section
/-! DEFINITION. Meanings of the membership, partition, merge and spare admission commands (R270–R283, R287). -/

namespace Sys2Proof.Machine

/-! Segments received (R257, R260, R282, R340). -/

/-- The stream of a flow on a port, read and not yet taken, with its delimitation (R257): a unit at a segment boundary that
starts no segment loses it, once, and the units are scanned for the next start. -/
def State.scanStream (s : State) (port flow : Nat) (bs : List Byte) : State :=
  let lost := (s.line port).lost.has flow
  let t := s.onLine port fun l => { l with rx := Tab.put [] l.rx flow (scanSync bs.length bs), lost := l.lost.add flow }
  if lost then t else t.bump (F.MLR_FLOW_STAT_DELIM_LOSS.ix flow)

/-- SEGMENT_RECEIVE (R257, R282, R340): the next segment of a flow's stream on a port; `place` is what the running
descriptors name for its object. Where the flow's peer is absent from the membership, and its site in the commit set, zero
stands in that place. -/
def execSegmentReceive (port flow : Nat) (place : SegPlace) (s : State) : Host.Outcome State Fault Refusal :=
  .next (match imgFlow s.image flow with
    | none => s
    | some r =>
      if !r.receives || s.fatal || s.cryPaused then s
      else if bit s.commitMask r.site && s.absentPeer r.site && r.gw == imgGw s.image then
        ((s.zeroPlace flow place).giveAll)
      else
        let put := fun (t : State) (bs : List Byte) => t.onLine port fun l => { l with rx := Tab.put [] l.rx flow bs }
        let bs := let x := Tab.get [] (s.line port).rx flow; skipFill x.length x
        if bs.length < 32 then put s bs
        else if !segStart bs then s.scanStream port flow bs
        else
          let n := (parseSeg bs).length
          if bs.length < n then put s bs
          else
            let s1 := (put s (bs.drop n)).onLine port fun l => { l with lost := l.lost.del flow }
            match s1.lineBuffer port n with
            | some k => s1.bump (F.HOP_CNT_REFUSED.ix k)
            | none =>
              let s2 := s1.takeSeg r place (bs.take n)
              (if 256 ≤ (s2.rxFlow flow).news then s2.sendAck flow else s2).giveAll)

/-- STEP_CTL (R260): the oldest record that has arrived is compared; a digest that differs abandons the step. -/
def execStepCtl (s : State) : Host.Outcome State Fault Refusal :=
  .next (match s.mlr.ctl with
    | [] => s
    | c :: t =>
      let s1 := { s with mlr := { s.mlr with ctl := t } }
      let site := ((imgFlow s.image c.flow).map fun r => r.site).getD 0
      if c.digest = s.shardDigest ∧ ¬ s.forcedAt 0xB4 (s.locFlow c.flow) then
        { s1 with mbr := { s1.mbr with stepCtl := (s1.mbr.stepCtl.filter (· != site)) ++ [site] } }
      else ((s1.firstMlr 0xB4 c.flow).raise 0xB4 .uc (s.locFlow c.flow) 0 site).abandonStep.giveAll)

/-! Reach and partitions (R273–R277). -/

/-- The freshest reach mask known for a site: its own for this one. -/
def State.reachOf (s : State) (i : Nat) : Nat :=
  if i = s.site then s.get F.MBR_STAT_REACH else s.get (F.MBR_REACH_MASK.ix i)

/-- The side that a set of sites leaves (R275): while some pair is not mutual, the site with the fewest mutual partners
goes, on a tie the highest number. -/
def sideOf (m : Nat → Nat) : Nat → List Nat → List Nat
  | 0, l => l
  | n + 1, l =>
    let both := fun i j => bit (m i) j && bit (m j) i
    let c := fun i => (l.filter fun j => j != i && both i j).length
    if l.all fun i => l.all fun j => i == j || both i j then l
    else
      let worst := l.foldl (fun b i => match b with
        | none => some i
        | some k => if c i ≤ c k then some i else some k) none
      match worst with
      | none => l
      | some k => sideOf m n (l.filter (· != k))

/-- A list of sites as a mask. -/
def siteMask (l : List Nat) : Nat := ((List.range 8).map fun i => b2n (l.contains i) * 2 ^ i).sum

/-- This site's side of a partition (R275): the loop again over the sites left out while it does not hold this one. -/
def State.side (s : State) : Nat → List Nat → List Nat
  | 0, l => l
  | n + 1, l =>
    let x := sideOf s.reachOf 8 l
    if x.contains s.site || x.isEmpty then x else s.side n (l.filter fun i => !x.contains i)

/-- Whether a side is the majority of the member sites (R276). -/
def majority (members side : Nat) : Bool :=
  let m := siteList members
  let k := (m.filter fun i => bit side i).length
  decide (m.length < 2 * k) || (2 * k == m.length && match m.head? with
    | some i => bit side i
    | none => false)

/-- A pin is begun unless one is held (R277). -/
def State.startPin (s : State) : State :=
  if s.flag F.MBR_STAT_PIN_HELD || s.mbr.pinCopy.isSome then s
  else ({ s with mbr := { s.mbr with pinCopy := some (s.outerEpoch, s.get F.UPD_ANCHOR_MASK_MASK) } }).set64
    F.MBR_TOK_LO_TOKENS F.MBR_TOK_HI_TOKENS 0

/-- Millrace flows to the sites that are lost stop (Table MLR-6). -/
def State.losePeers (s : State) (side : Nat) : State :=
  let gone := fun f => (s.flowState f == 1 || s.flowState f == 2) && !bit side (s.get (F.MLR_FLOW_STAT_PEER_SITE.ix f))
  (List.range 256).foldl (fun t f => if gone f then t.losePeer f else t) s

/-- A side that holds (R276, Table MLR-7): it commits nothing, and its step state is HELD, once a step whose Exchange was
complete has ended. -/
def State.becomeHeld (s : State) : State :=
  let st := s.get F.UPD_STEP_STAT_STATE
  if st = 3 ∨ st = 4 ∨ st = 5 then s else s.abandonStep.setStep 6

/-- The Exchange of a step starts again among the sites that are left (R22, R276): every partial sum is discarded. -/
def State.restartExchange (s : State) : State :=
  { s with
    step := { s.step with exchanged := 0, orthDone := 0 }
    mbr := { s.mbr with stepCtl := [] }
    mlr := { s.mlr with objs := s.mlr.objs.filter fun o => o.kind != 1, ctl := [], zeroed := [] } }

/-- A partition is declared (R275–R277). A step whose Exchange is complete commits under the mask it began with; on a side
that goes on, one in Gather or Exchange exchanges anew. -/
def State.declare (s : State) : State :=
  let side := siteMask (s.side 8 (siteList s.commitMask))
  let maj := majority s.sites side
  let st := s.get F.UPD_STEP_STAT_STATE
  let s0 := if (st == 3 || st == 4) && s.mbr.stepMask.isNone then
      { s with mbr := { s.mbr with stepMask := some s.commitMask } } else s
  let s1 := ((s0.setAll [(F.MBR_STAT_STATE, 2), (F.MBR_STAT_COMMIT, side), (F.MBR_STAT_OUTSIDE, b2n (!maj))]).evt
    F.MBR_EVT_PARTITION).raise 0xBA .uc (locChip 0x18) 0 side
  let s2 := (s1.losePeers side).startPin
  (if !maj && !s2.flag F.MBR_CFG_MINORITY then s2.becomeHeld
    else if st == 1 || st == 2 then s2.restartExchange else s2).holdGrants

/-- The pin is released (R277). -/
def State.releasePin (s : State) : State :=
  (({ s with mbr := { s.mbr with pinCopy := none } }).setAll [(F.MBR_STAT_PIN_HELD, 0), (F.MBR_PIN_LO_EPOCH, 0),
    (F.MBR_PIN_HI_EPOCH, 0), (F.MBR_PIN_MASK_MASK, 0), (F.MBR_TOK_LO_TOKENS, 0), (F.MBR_TOK_HI_TOKENS, 0)]).setBit
    F.PND_STAT_LOST 1 false

/-- At a step boundary the commit set is the member sites, or those of this side while a partition lasts (R25, R270). Once
all member sites are in one commit set again the partition is over and the pin is released (R277). -/
def State.takeCommitSet (s : State) : State :=
  let st := s.get F.MBR_STAT_STATE
  if st = 0 then s.set F.MBR_STAT_COMMIT s.sites
  else
    let mask := siteMask ((siteList s.commitMask).filter fun i => bit s.sites i)
    let s1 := s.set F.MBR_STAT_COMMIT mask
    if mask = s.sites ∧ (st = 2 ∨ st = 3) then
      (({ s1 with mbr := { s1.mbr with rejoinReady := false, sides := [] } }).setAll
        [(F.MBR_STAT_STATE, 0), (F.MBR_STAT_OUTSIDE, 0)]).releasePin
    else s1

/-! Commands. -/

/-- MBR_EPOCH (R270): a newer epoch installs the standby tables; any other is refused. The causes of MBR_EVT end at the
write. -/
def State.installEpoch (s : State) (e : Nat) : State :=
  let s0 := s.evtEndAll [F.MBR_EVT_HB_LAPSE, F.MBR_EVT_MERGED, F.MBR_EVT_PARTITION, F.MBR_EVT_REFUSED,
    F.MBR_EVT_FENCED]
  if newer e s.epoch && !s.forcedAt 0xB9 (locChip 0x18) then
    let words := fun (f : Fld) (n : Nat) => (List.range n).foldl (fun (t : Tab Nat) w =>
      Tab.put 0 t w (s.get (f.ix w))) []
    let s1 := { s0.coveredWrite with mbr := { s0.mbr with
      installed := true
      prevEpoch := some s.epoch
      prevSites := s.sites, prevGw := s.mbr.gw, prevFab := s.mbr.fab
      gw := words F.MBR_GW_MEM_MEMBERS 32
      fab := words F.MBR_FAB_MEM_MEMBERS 32768 } }
    let s2 := (s1.setAll [(F.MBR_EPOCH_EPOCH, e), (F.MBR_STAT_SITES, s.get F.MBR_NEXT_SITES_SITES)]).journal
    if s2.selfMember then
      let s3 := if s2.fenced then (s2.set F.MBR_STAT_STATE 0).holdGrants else s2
      (if s3.get F.UPD_STEP_STAT_STATE = 0 then s3.takeCommitSet else s3).giveAll
    else s2.fence
  else (s0.evt F.MBR_EVT_REFUSED).raise 0xB9 .ce (locChip 0x18)

/-- MBR_EPOCH (R270). -/
def execMbrEpoch (epoch : Nat) (s : State) : Host.Outcome State Fault Refusal :=
  .next (s.hostWrite 25 fun t => t.installEpoch (epoch % 2 ^ 32))

/-- Reach reports of a notice (R273): for each site the one with the smallest age is kept. -/
def State.takeReach (s : State) (i : Nat) : List (Nat × Nat) → State
  | [] => s
  | (mask, age) :: t =>
    let now := s.ns64 / 1000000
    let at_ := now - age
    let old := s.siteInfo i
    let known := s.get (F.MBR_REACH_AGE_MS.ix i) != 0xFFFF
    let s1 := if i = s.site ∨ age = 65535 ∨ 60000 < age ∨ (known ∧ at_ ≤ old.reachAt) then s
      else ({ s with mbr := { s.mbr with info := Tab.insert s.mbr.info i { old with reachAt := at_ } } }).setAll
        [(F.MBR_REACH_MASK.ix i, mask), (F.MBR_REACH_AGE_MS.ix i, age)]
    s1.takeReach (i + 1) t

/-- The reach list of a notice's body (Table MLR-5). -/
def noticeReach (b : List Byte) : List (Nat × Nat) :=
  (List.range 8).map fun i => (beAt b (32 + 4 * i) 1, beAt b (33 + 4 * i) 2)

/-! Rejoin (R279). -/

/-- Whether a site's pin agrees with this one's under R272, or is one commit apart (R280). -/
def State.pinAgrees (s : State) (site : Nat) : Bool :=
  let x := s.siteInfo site
  let d : Int := (x.pinEpoch : Int) - (s.get64 F.MBR_PIN_LO_EPOCH F.MBR_PIN_HI_EPOCH + s.eoff site)
  decide (d = 0 ∨ d = 1 ∨ d = -1) && (decide (d ≠ 0) || x.pinMask == s.get F.MBR_PIN_MASK_MASK)

/-- The other sides, by the commit masks that notices of the member sites outside this one's tell. -/
def State.farSides (s : State) : List Nat :=
  (((siteList s.sites).filter fun i => !bit s.commitMask i && bit (s.siteInfo i).commit i).map fun i =>
    (s.siteInfo i).commit).eraseDups

/-- Whether every site of a far side and every site of this one reach each other, with pins that agree (R279). -/
def State.rejoins (s : State) (side : Nat) : Bool :=
  (siteList side).all fun i => s.pinAgrees i &&
    (siteList s.commitMask).all fun j => bit (s.reachOf i) j && bit (s.reachOf j) i

/-- Whether the notices of every site of a side show REJOIN_READY. -/
def State.sideReady (s : State) (side : Nat) : Bool := (siteList side).all fun i => bit (s.siteInfo i).flags 2

/-- Once this side is ready, and every side that rejoins shows that it is, the merge runs at the next step boundary (R279):
a held side begins its close step (Table MLR-7). -/
def State.beginMerge (s : State) : State :=
  let far := s.farSides.filter s.rejoins
  if s.mbr.rejoinReady && s.mbr.sides.isEmpty && !far.isEmpty && far.all s.sideReady && !s.fenced then
    let low := fun (m : Nat) => (siteList m).headD 8
    let all := (List.range 8).filterMap fun i => (s.commitMask :: far).find? fun m => low m == i
    let s1 := { s with mbr := { s.mbr with sides := all } }
    if s1.get F.UPD_STEP_STAT_STATE == 6 then (({ s1 with
      mbr := { s1.mbr with closing := true }
      step := { s1.step with gathered := 0, exchanged := 0, orthDone := 0, abandoned := false, opened := false } }).setStep
        1).giveAll
    else s1
  else s

/-- REJOIN (R279): every site of this side and of another has reached each other for REJOIN, with pins that agree:
REJOIN_READY is set, and flows to them start again. -/
def execRejoin (s : State) : Host.Outcome State Fault Refusal :=
  .next (
    if s.get F.MBR_STAT_STATE == 2 && s.flag F.MBR_STAT_PIN_HELD && s.farSides.any s.rejoins then
      ((({ s with mbr := { s.mbr with rejoinReady := true } }).set F.MBR_STAT_STATE 3).regainPeers
        (s.get F.MBR_STAT_REACH)).beginMerge
    else s)

/-- MEMBERSHIP_NOTICE (R271, R273): the oldest notice heard. One that carries a newer epoch, or names this device absent,
fences it; any updates what is known of its site. -/
def execMembershipNotice (namesAbsent : Bool) (s : State) : Host.Outcome State Fault Refusal :=
  .next (match s.takeHeard fun h => h.typ == 5 with
    | none => s
    | some x =>
      let b := x.1.body
      let s1 := x.2.seeEpoch (beAt b 0 4)
      if namesAbsent then s1.fence
      else
        let site := beAt b 4 1 % 8
        let i : SiteInfo := ⟨beAt b 6 1, beAt b 7 1, beAt b 8 8, beAt b 16 8, beAt b 24 1, (s1.siteInfo site).reachAt⟩
        (({ s1 with mbr := { s1.mbr with info := Tab.insert s1.mbr.info site i } }).takeReach 0 (noticeReach b)).beginMerge)

/-- NOTICE_TIMER (R273): a notice waits for the line port's next frame. -/
def execNoticeTimer (port : Nat) (s : State) : Host.Outcome State Fault Refusal :=
  .next (s.sendNotice port)

/-- NOTICE_ENTRY_EXPIRY (R273): a reach entry older than 60 s is dropped. -/
def execNoticeEntryExpiry (site : Nat) (s : State) : Host.Outcome State Fault Refusal :=
  .next (s.setAll [(F.MBR_REACH_MASK.ix site, 0), (F.MBR_REACH_AGE_MS.ix site, 0xFFFF)])

/-- REACH_TIMEOUT (R275): the site's bit of the own reach mask clears; the own bit stays set. -/
def execReachTimeout (site : Nat) (s : State) : Host.Outcome State Fault Refusal :=
  .next (if site = s.site then s else s.setBit F.MBR_STAT_REACH site false)

/-- PARTITION (R275): a site of the commit set has been unreachable for PART_DL. -/
def execPartition (site : Nat) (s : State) : Host.Outcome State Fault Refusal :=
  .next (if bit s.commitMask site && !s.getBit F.MBR_STAT_REACH site && !s.fenced then s.declare else s)

/-- PIN_COMPLETE (R277): the anchor stands in the PINNED area, and PIN_HELD is set. -/
def execPinComplete (s : State) : Host.Outcome State Fault Refusal :=
  .next (match s.mbr.pinCopy with
    | none => s
    | some v =>
      let s1 := ({ s with mbr := { s.mbr with pinCopy := none } }).copyPin
      (((s1.set64 F.MBR_PIN_LO_EPOCH F.MBR_PIN_HI_EPOCH v.1).setAll [(F.MBR_PIN_MASK_MASK, v.2),
        (F.MBR_STAT_PIN_HELD, 1), (F.UPD_STEP_STAT_PARTNER_WAIT,
          if s.step.partnerHeld then 0 else s.get F.UPD_STEP_STAT_PARTNER_WAIT)]).setBit F.PND_STAT_LOST 1 false).journal)

/-- PIN_FETCH (R277, R280): a pin of a version has been fetched with KIND 4. -/
def execPinFetch (epoch mask : Nat) (s : State) : Host.Outcome State Fault Refusal :=
  .next (((((s.set64 F.MBR_PIN_LO_EPOCH F.MBR_PIN_HI_EPOCH epoch).setAll [(F.MBR_PIN_MASK_MASK, mask),
    (F.MBR_STAT_PIN_HELD, 1)]).setBit F.PND_STAT_LOST 1 false).journal).raise 0xBC .ce (locChip 0x18))

/-- MERGE_CLOSE (R279, R281): the side's close step has run: a committing side has committed it, a held side keeps its
anchor; the step's tally joins T, and the state exchange begins (MERGE). -/
def execMergeClose (s : State) : Host.Outcome State Fault Refusal :=
  .next (
    if s.get F.MBR_STAT_STATE == 3 && !s.mbr.sides.isEmpty then
      let s1 := if s.mbr.closing then s.addTokens else s
      (({ s1 with mbr := { s1.mbr with closing := false } }).setStep 7).holdGrants
    else s)

/-- The sides of a merge (R94, R279), by the lowest site each contains: those that were ready when it began. -/
def State.mergeSides (s : State) : List Nat := if s.mbr.sides.isEmpty then [s.commitMask] else s.mbr.sides

/-- T of a side: this one's own count, or what a merge segment brought. -/
def State.sideTokens (s : State) (side : Nat) : Nat :=
  if bit side s.site then s.get64 F.MBR_TOK_LO_TOKENS F.MBR_TOK_HI_TOKENS
  else match (siteList side).findSome? fun i => Tab.find s.mbr.mergeIn i with
    | some x => x.1
    | none => 0

/-- A merge weight (R94): the quotient in binary64, rounded once to FP32. -/
def mergeWeight (t tsum k : Nat) : F32 :=
  let q : Num := if tsum = 0 then (Num.fin false 1 0).div (.fin false k 0) else (Num.fin false t 0).div (.fin false tsum 0)
  rne32 (Fmt.f64.ieee (Fmt.f64.rne q))

/-- The weights of a merge, in side order. -/
def State.mergeWeights (s : State) : List F32 :=
  let ts := s.mergeSides.map s.sideTokens
  ts.map fun t => mergeWeight t ts.sum ts.length

/-- MERGE (R94): the state exchange is complete; UPD_MERGE_W reports the weights by site. The merged anchor itself is
formed by MDLT descriptors. -/
def execMerge (s : State) : Host.Outcome State Fault Refusal :=
  .next (
    if s.get F.UPD_STEP_STAT_STATE == 7 then
      let sides := s.mergeSides.zip s.mergeWeights
      let w := fun i => match sides.find? fun x => bit x.1 i with
        | some x => x.2.toNat
        | none => 0
      (s.setAll ((List.range 8).map fun i => (F.UPD_MERGE_W_W.ix i, w i)))
    else s)

/-- MERGE_COMMIT (R279): the commit of the merge under the union mask, the epoch offsets, the release of the pin when
no member site is outside, and MERGED. -/
def execMergeCommit (s : State) : Host.Outcome State Fault Refusal :=
  .next (
    if s.get F.UPD_STEP_STAT_STATE == 7 && !s.fatal && !s.fenced then
      let sides := s.mergeSides
      let union := (sides.foldl (fun m x => orBits8 m x) 0)
      let own := (s.outerEpoch : Int)
      let s1 := s.commitAs union
      let far := fun i => match Tab.find s.mbr.mergeIn i with
        | some x => x.2
        | none => (s.siteInfo i).oepoch
      let s2 := s1.setAll ((siteList union).map fun i =>
        (F.MBR_EOFF_OFFSET.ix i, if i = s.site then 0 else unsigned 32 ((far i : Int) - own)))
      let whole := union == s.sites
      let s3 := s2.setAll [(F.MBR_STAT_COMMIT, union), (F.MBR_STAT_STATE, if whole then 0 else 2),
        (F.MBR_STAT_OUTSIDE, b2n (!majority s.sites union))]
      let s4 := if whole then s3.releasePin else s3
      (((({ s4 with mbr := { s4.mbr with rejoinReady := false, mergeIn := [], sides := [] } }).evt F.MBR_EVT_MERGED).raise 0xBB .ce
        (locChip 0x18)).holdGrants).releaseAll.giveAll
    else s)
where
  orBits8 (a b : Nat) : Nat := ((List.range 8).map fun n => b2n (bit a n || bit b n) * 2 ^ n).sum

/-- MBR_ADMIT (R283): GO starts spare admission; the step state is ADMIT. -/
def execMbrAdmit (site : Nat) (fromRemote : Bool) (s : State) : Host.Outcome State Fault Refusal :=
  .next (s.hostWrite 25 fun t =>
    let t1 := t.setAll [(F.MBR_ADMIT_SITE, site), (F.MBR_ADMIT_FROM_REMOTE, b2n fromRemote)]
    ({ t1 with mbr := { t1.mbr with admitting := true, admitVersion := none } }).setStep 8)

/-- The version of the corresponding gateways that an admitted spare must match: what the notices of a member site tell
(R272, R283). -/
def State.peerVersion (s : State) : Option (Nat × Nat) :=
  ((siteList s.sites).find? fun i => i != s.site && (Tab.find s.mbr.info i).isSome).map fun i =>
    (s.ownTerms i (s.siteInfo i).oepoch, (s.siteInfo i).commit)

/-- Admission at a step boundary (R283): with a matching version the spare takes the committed anchor version and is
INNER; a source whose version does not match is ADMIT_FAIL. -/
def State.admitAtBoundary (s : State) : State :=
  if !s.mbr.admitting then s
  else
    let done := { s with
      mbr := { s.mbr with admitting := false, admitVersion := none }
      step := { s.step with fullStream := true, restore := [], back := [] } }
    match s.mbr.admitVersion with
    | none => s
    | some v =>
      let ok := match s.peerVersion with
        | some p => decide (p = v)
        | none => true
      if ok && !s.forcedAt 0xBE (locChip 0x18) then
        (((done.setOuterEpoch v.1).set F.UPD_ANCHOR_MASK_MASK v.2).setStep 0).journal
      else (done.setStep 0).raise 0xBE .uc (locChip 0x18)

end Sys2Proof.Machine
end

