-- ==== Sys2Proof/Machine/Loader.lean ====
section
/-! DEFINITION. The loader (R117–R123): slots, refusals, the image in NEXT, taking effect, and meanings of its commands. -/

namespace Sys2Proof.Machine

/-! IMG_STAT. -/

/-- STATE and IMG_HELD_ID follow what the loader does (R137): an image being applied comes before one being checked, and
that before one held. -/
def State.showLoader (s : State) (applying : Bool) : State :=
  let st := if applying then 4 else if s.img.checking.isSome then 2 else if s.img.next.isSome then 3
    else if s.img.first then 1 else 0
  (s.set F.IMG_STAT_STATE st).set64 F.IMG_HELD_ID_LO_ID F.IMG_HELD_ID_HI_ID
    (if st = 3 then imgId (s.img.next.getD []) else 0)

/-- An image is refused or rejected (R114): the reason and the section, and REJECTED. -/
def State.reject (s : State) (reason sec : Nat) : State :=
  (s.setAll [(F.IMG_STAT_REASON, reason), (F.IMG_REJ_INFO_REASON, reason), (F.IMG_REJ_INFO_SECTION, sec)]).evt
    F.IMG_EVT_REJECTED

/-! Slots (R118). -/

/-- Bytes of a slot. -/
def slotBytes : Nat := 0x4000000

/-- The device address of a slot. -/
def slotBase (n : Nat) : Nat := loaderBase + n * slotBytes

/-- Whether a slot is open. -/
def State.slotOpen (s : State) (n : Nat) : Bool := s.getBit F.IMG_STAT_SLOT_OPEN n

/-- A slot is closed and zeroed. -/
def State.closeSlot (s : State) (n : Nat) (expired : Bool) : State :=
  let s1 := { s with img := { s.img with leased := s.img.leased.to n expired, extent := Tab.erase s.img.extent n } }
  ((s1.zeroLines (slotBase n) slotBytes).setBit F.IMG_STAT_SLOT_OPEN n false).set (F.IMG_SLOT_LEASE_MS.ix n) 0

/-- A slot is opened and zeroed under a new lease. -/
def State.openSlot (s : State) (n : Nat) : State :=
  if s.slotOpen n then s
  else ((s.closeSlot n false).setBit F.IMG_STAT_SLOT_OPEN n true).set (F.IMG_SLOT_LEASE_MS.ix n)
    (1000 * s.get F.IMG_LEASE_CFG_SEC)

/-- The slots that a mask names. -/
def maskSlots (mask : Nat) : List Nat := (List.range 4).filter fun n => bit mask n

/-- SLOT_OPEN (R118). -/
def execSlotOpen (mask : Nat) (s : State) : Host.Outcome State Fault Refusal :=
  .next (s.hostWrite 2 fun t => (maskSlots mask).foldl State.openSlot t)

/-- SLOT_CLOSE (R118). -/
def execSlotClose (mask : Nat) (s : State) : Host.Outcome State Fault Refusal :=
  .next (s.hostWrite 2 fun t => (maskSlots mask).foldl (fun u n => u.closeSlot n false) t)

/-- The lease of an open slot expires (R118). -/
def State.expireLease (s : State) (slot : Nat) : State :=
  ((s.closeSlot slot true).evt F.IMG_EVT_LEASE_EXPIRED).keepSeq 0x54 none 0 0 |>.raise 0x54 .ce (locChip 0x18)

/-- SLOT_LEASE (R118): the lease of a slot not yet loaded expires. -/
def execSlotLease (slot : Nat) (s : State) : Host.Outcome State Fault Refusal :=
  .next (if s.slotOpen slot && s.img.slot != some slot then s.expireLease slot else s)

/-- How far a slot has been written. -/
def State.extend (s : State) (n top : Nat) : State :=
  { s with img := { s.img with extent := Tab.insert s.img.extent n (max top (Tab.get 0 s.img.extent n)) } }

/-- Bytes written through BAR2: each reaches its slot while that is open. -/
def State.slotWrite (s : State) (offset : Nat) : List Byte → State
  | [] => s
  | b :: t =>
    (if s.slotOpen (offset / slotBytes) then
      (s.writeByte (loaderBase + offset) b).extend (offset / slotBytes) (offset % slotBytes + 1)
    else s).slotWrite (offset + 1) t

/-- BAR2_SLOT_WRITE (R118): a line of an open slot that is written whole loses its mark (R145). In FATAL a host write is
ignored (R376). -/
def execBar2SlotWrite (offset : Nat) (data : List Byte) (s : State) : Host.Outcome State Fault Refusal :=
  .next (if s.fatal then s
    else
      let t := s.slotWrite offset data
      t.markUnits false ((s.wholeUnits (loaderBase + offset) data.length).filter fun u =>
        s.slotOpen ((u - loaderBase) / slotBytes)))

/-- LOADER_DMA (R118, R399): GO starts the DMA into an open slot; one that names a closed slot, or that finds Bus Master
Enable clear, ends at once with ERR. -/
def execLoaderDma (slot : Nat) (s : State) : Host.Outcome State Fault Refusal :=
  .next (s.hostWrite 2 fun t =>
    let t1 := t.set F.IMG_DMA_CTL_SLOT slot
    if t.flag F.IMG_DMA_STAT_BUSY then t
    else if t.slotOpen slot && t.pcie.busMaster then
      ({ t1 with img := { t1.img with dmaSlot := some slot } }).setAll [(F.IMG_DMA_STAT_BUSY, 1), (F.IMG_DMA_STAT_ERR, 0),
        (F.IMG_DMA_STAT_DONE, 0)]
    else t1.setAll [(F.IMG_DMA_STAT_ERR, 1), (F.IMG_DMA_STAT_DONE, 0)])

/-- LOADER_DMA_DONE (R118): the DMA has filled the slot; with a PCIe error or a closed slot it ends with ERR after an
amount that the spec leaves open, of which a slot still open holds the bytes. -/
def execLoaderDmaDone (error : Bool) (s : State) : Host.Outcome State Fault Refusal :=
  .next (match s.img.dmaSlot with
    | none => s
    | some n =>
      let len := min slotBytes (s.get F.IMG_DMA_LEN_LEN)
      let bad := error || !s.slotOpen n
      let x := s.free
      let kib := if bad then x.1 % (len / 1024 + 1) else len / 1024
      let data := Config.hostRead s.img.dmaReads (s.get64 F.IMG_DMA_ADDR_LO_ADDR F.IMG_DMA_ADDR_HI_ADDR) len
      let t := if bad then x.2 else s
      let got := data.take (if bad then 1024 * kib else len)
      let t1 := if t.slotOpen n then (t.store (slotBase n) got).extend n got.length else t
      ({ t1 with img := { t1.img with dmaSlot := none, dmaReads := t1.img.dmaReads + 1 } }).setAll
        [(F.IMG_DMA_STAT_BUSY, 0), (F.IMG_DMA_STAT_ERR, b2n bad), (F.IMG_DMA_STAT_DONE, kib)])

/-- The image in a slot: as many bytes as its TOTAL_LEN says, the header at least. -/
def State.slotImage (s : State) (n : Nat) : List Byte :=
  s.readBytes (slotBase n) (max 256 (min slotBytes (beNat (s.readBytes (slotBase n + 28) 4))))

/-- Why a LOAD is refused without checking (Table IMG-4). -/
def State.loadRefusal (s : State) (slot : Nat) : Option Nat :=
  if s.flag F.MBR_STAT_UNATTENDED then some 0x11
  else if s.get F.IMG_STAT_STATE == 2 || s.img.checking.isSome || s.applying then some 0x12
  else if s.slotOpen slot then none
  else if s.img.leased.has slot then some 0x13 else some 0x15

/-- LOAD (R118, R119): the causes of IMG_EVT end; the slot's image is copied and its checks start, or the LOAD is
refused. An armed SLOT_LEASE expires the lease first (R136, R372). -/
def execLoad (slot : Nat) (applyAtEn : Bool) (s : State) : Host.Outcome State Fault Refusal :=
  .next (s.hostWrite 2 fun t0 =>
    let t1 := (t0.evtEndAll [F.IMG_EVT_BOOT_FALLBACK, F.IMG_EVT_LEASE_EXPIRED, F.IMG_EVT_HELD, F.IMG_EVT_APPLIED,
      F.IMG_EVT_REJECTED]).setAll [(F.IMG_LOAD_SLOT, slot), (F.IMG_LOAD_APPLY_AT_EN, b2n applyAtEn)]
    let t := if t1.slotOpen slot && t1.img.slot != some slot && t1.forcedAt 0x54 (locChip 0x18) then t1.expireLease slot
      else t1
    match t.loadRefusal slot with
    | some r => t.reject r 0
    | none =>
      let at_ := if applyAtEn then some (t.get64 F.IMG_APPLY_AT_LO_EPOCH F.IMG_APPLY_AT_HI_EPOCH) else none
      let img1 : LoaderSt := { t.img with
        checking := some (t.slotImage slot), applyAt := at_, slot := some slot, checkLen := Tab.get 0 t.img.extent slot }
      ({ t with img := img1 }).showLoader false)

/-- The check of an image ends; its slot is closed (R118). -/
def State.endCheck (s : State) : State :=
  let s1 := match s.img.slot with
    | some n => s.closeSlot n false
    | none => s
  { s1 with img := { s1.img with checking := none, applyAt := none, slot := none } }

/-- A HELD image is discarded. -/
def State.discardHeld (s : State) (reason : Nat) : State :=
  (({ s with img := { s.img with next := none, heldAt := none } }).showLoader false).reject reason 0

/-- ABORT (R114): the image that STATE shows is discarded, VERIFYING before HELD. -/
def execAbort (s : State) : Host.Outcome State Fault Refusal :=
  .next (s.hostWrite 2 fun t =>
    if t.applying then t
    else if t.img.checking.isSome then (t.endCheck.showLoader false).reject 0x14 0
    else if t.img.next.isSome then t.discardHeld 0x14
    else t)

/-! Taking effect (R120–R122). -/

/-- The digest is not compared from the start of APPLYING (R122). -/
def State.suspendDigest (s : State) : State :=
  if s.digestState == 5 then s
  else { (s.set F.GEN_DIGEST_STAT_STATE 4) with gen := { s.gen with refWritten := false } }

/-- The outer rule, the tuning values, what this gateway owns and the shard map digest are installed (R102, R104, R121). -/
def State.installRule (s : State) (img : List Byte) : State :=
  let b := imgBody img 0x8003 0
  let fl := beAt b 1 1
  let owned := imgOwned img (imgGw img)
  let dig := shake256 (imgBody img 0x8002 0) 32
  (s.setAll ([(F.UPD_RULE_RULE, beAt b 0 1), (F.UPD_RULE_LADDER_LEN, beAt b 2 1), (F.UPD_RULE_SHAPE_RULE, beAt b 3 1),
    (F.UPD_RULE_NESTEROV_DIR, fl), (F.UPD_RULE_GATHER_FP32, fl / 2), (F.UPD_RULE_NONFINITE_ACT, fl / 4),
    (F.UPD_RULE_MOM_MERGE, fl / 8), (F.UPD_RULE_REPLICAS, beAt b 4 2), (F.UPD_ETA_VALUE, beAt b 8 4),
    (F.UPD_ETA_VEC_VALUE, beAt b 12 4), (F.UPD_MU_VALUE, beAt b 16 4), (F.UPD_WD_VALUE, beAt b 20 4),
    (F.UPD_EPS_VALUE, beAt b 24 4), (F.UPD_SHAPE_K_VALUE, beAt b 28 4),
    (F.UPD_OWNED_MATRICES, (owned.filter fun t => t.matrix).length),
    (F.UPD_OWNED_VEC_VECTORS, (owned.filter fun t => !t.matrix).length)] ++
    ((List.range 8).flatMap fun i => [(F.UPD_LADDER_FMT_VALUE.ix i, beAt b (32 + 16 * i) 1),
      (F.UPD_LADDER_A_VALUE.ix i, beAt b (36 + 16 * i) 4), (F.UPD_LADDER_B_VALUE.ix i, beAt b (40 + 16 * i) 4),
      (F.UPD_LADDER_C_VALUE.ix i, beAt b (44 + 16 * i) 4)]))).setAll
    ((List.range 8).map fun w => (F.IMG_SHARD_DIGEST_D.ix w, beAt dig (4 * w) 4))

/-- A pond link leaves POND_MASK: DOWN, without PL_DOWN (R150); an exit from ACTIVE is counted (R170). -/
def State.pondLeave (s : State) (l : Nat) : State :=
  let p := s.pondLink l
  let s1 := if s.pondState l == 4 then s.bump (F.PND_CNT_B_DOWN.ix l) else s
  ((s1.failReads p.reads).setPondState l 0).setPondLink l p.kept

/-- POND_MASK changes (R150): every far-tier area counts as lost. -/
def State.changeMask (s : State) (mask : Nat) : State :=
  let old := s.pondMask
  if old = mask then s
  else
    let gone := (List.range 4).filter fun l => bit old l && !bit mask l
    let s1 := (gone.foldl State.pondLeave s).set F.PND_STAT_MASK mask
    s1.areasLost (((List.range 4).find? fun l => bit old l != bit mask l).getD 0)

/-- The class L sections that an image carries are staged for their owners' switches (R121, R185, R245, R299, R336). -/
def State.stageLive (s : State) (img : List Byte) : State :=
  let s1 := match imgFind img 0x8006 0 with
    | some b => { s with fab := { s.fab with staging := some b } }
    | none => s
  let s2 := (List.range 4).foldl (fun t p => match imgFind img 0x8008 p with
    | some b => t.loadPages p (1 - t.activePage p 0) (1 - t.activePage p 1) b
    | none => t) s1
  let s3 := (List.range 4).foldl (fun t p => match imgFind img 0x800B p with
    | some b => t.armGate p (gateOf b)
    | none => t) s2
  (List.range 16).foldl (fun t n => match imgFind img 0x800D n with
    | some b => t.stageTable n b
    | none => t) s3

/-- Whether no step is in progress. -/
def State.between (s : State) : Bool := s.get F.UPD_STEP_STAT_STATE == 0 || s.get F.UPD_STEP_STAT_STATE == 6

/-- A region is asked to switch to the new image (R121): a STOPPED or RETIRED one switches at once; one that runs the STEP
phase waits for the step boundary. -/
def State.askImage (s : State) (r : Nat) : State :=
  let n := imgInitPhase (s.img.next.getD []) r
  let asked := (s.drains r).any fun q => (match q with
    | .image _ => true
    | _ => false)
  if !s.img.switching.has r || asked then s
  else if s.regionState r == 4 || s.regionState r == 5 then s.switchStopped r n
  else if imgStepPhase (s.img.running.getD []) (s.get (F.SEQ_REG_PHASE_PHASE.ix r)) && !s.between then s
  else s.askDrain r (.image n)

/-- Every region that has still to switch is asked, if it can be. -/
def State.askImages (s : State) : State := (List.range 64).foldl State.askImage s

/-- APPLYING starts (R121): class B sections and tuning values at once, class L staged, every region switched. -/
def State.startApply (s : State) (img : List Byte) : State :=
  let s1 := { s with img := { s.img with
    switching := (List.range 64).foldl (fun (m : Marks) r => m.add r) [] } }
  let s2 := ((s1.suspendDigest.showLoader true).put F.SEQ_STAT_APPLY_WAIT s.between).holdGrants
  (((s2.installRule img).changeMask (imgPondMask img)).stageLive img).askImages

/-- The DESC bodies that a set of bodies names in its DISPATCH descriptors. -/
def dispatched (img : List Byte) (l : List Nat) : List Nat :=
  l.flatMap fun n =>
    let b := imgBody img 0x8010 n
    ((List.range (b.length / 64)).filter fun i => beAt b (64 * i) 1 == 9).map fun i => beAt b (64 * i + 24) 1

/-- The DESC bodies that PROGRAM names, followed through DISPATCH (R108). -/
def programBodies (img : List Byte) : List Nat :=
  (List.range 256).foldl (fun acc _ => (acc ++ dispatched img acc).eraseDups)
    (((List.range (imgEntries img)).map fun i => imgProgList img i / 2 ^ 24).eraseDups)

/-- The class B section types (Table IMG-3). -/
def classB : List Nat := [0x8002, 0x8003, 0x8004, 0x8007, 0x8011]

/-- Whether any class B section differs (R25, R108, R120): a DESC body has the class of the section that names it. -/
def classBDiffers (old img : List Byte) : Bool :=
  classB.any (fun t => differs old img t 0) ||
    (programBodies old ++ programBodies img).any fun n => differs old img 0x8010 n

/-- A HELD image whose point has come starts APPLYING (R118, R120). -/
def State.applyDue (s : State) : State :=
  match s.img.next with
  | none => s
  | some img =>
    let atOk := match s.img.heldAt with
      | none => true
      | some e => decide (e ≤ s.outerEpoch) && s.between
    if !s.fatal && !s.applying && atOk && (s.between || !classBDiffers (s.img.running.getD []) img) then s.startApply img
    else s

/-- The registers that name the running image (R137). The change is queued to the journal (R105), whose snapshot has no place
for IMAGE_ID (Table CTL-9). -/
def State.showImage (s : State) (img : List Byte) : State :=
  (((s.set64 F.IMG_RUN_ID_LO_ID F.IMG_RUN_ID_HI_ID (imgId img)).setAll ([(F.IMG_RUN_ARB_ARB, imgArb img),
    (F.IMG_GEN_GEN, s.get F.IMG_GEN_GEN + 1)] ++
    ((List.range 16).map fun w => (F.IMG_RUN_DIGEST_D.ix w, beAt (imgDigest img) (4 * w) 4)))).journal).evt F.IMG_EVT_APPLIED

/-- APPLYING ends (R121). LOST bit 3 clears (Table MEM-11), unless this image has changed POND_MASK (R150). -/
def State.endApply (s : State) (img : List Byte) : State :=
  let same := imgPondMask (s.img.running.getD []) == imgPondMask img
  let s1 := { s with img := { s.img with running := some img, next := none, heldAt := none } }
  let s2 := ((s1.showLoader false).showImage img).set F.SEQ_STAT_APPLY_WAIT 0
  (((if same then s2.lostClear 3 else s2).holdGrants).runProgram 0).giveAll

/-- APPLYING (R121): a HELD image reaches its boundary. -/
def execApplying (s : State) : Host.Outcome State Fault Refusal := .next s.applyDue

/-- APPLIED (R121): the last region has switched. -/
def execApplied (s : State) : Host.Outcome State Fault Refusal :=
  .next (match s.img.next with
    | none => s
    | some img => if s.applying && s.img.switching.isEmpty && !s.fatal then s.endApply img else s)

/-! The first image (R120, R392). -/

/-- PORTS (R173). -/
def State.installPorts (s : State) (img : List Byte) : State :=
  let b := imgBody img 0x8005 0
  s.setAll ([(F.FAB_POS_DXM1, beAt b 0 1 - 1), (F.FAB_POS_DYM1, beAt b 1 1 - 1), (F.FAB_POS_DZM1, beAt b 2 1 - 1),
    (F.FAB_POS_X, beAt b 3 1), (F.FAB_POS_Y, beAt b 4 1), (F.FAB_POS_Z, beAt b 5 1),
    (F.FAB_ENDPOINT_ID, imgEndpoint img)] ++ (List.range 16).flatMap fun p =>
      let x := beAt b (32 + 32 * p) 1
      [(F.FAB_PORT_STAT_ROLE.ix p, bits x 7 6), (F.FAB_PORT_STAT_DIR.ix p, bits x 5 3),
       (F.FAB_PORT_STAT_DATELINE.ix p, bits x 2 2)] ++
        (List.range 8).map fun v => (F.FAB_CRED_RX_CFG.ix p v, beAt b (36 + 32 * p + 2 * v) 2))

/-- LINE (R252, R258): ports, groups, and flows that run from SEQ 0. -/
def State.installLine (s : State) (img : List Byte) : State :=
  let b := imgBody img 0x8009 0
  let on := (List.range 4).map fun p => b2n (bit (beAt b (32 + 16 * p) 1) 7) * 2 ^ p
  (imgFlows img).foldl (fun t r => t.setFlowState r.flow 1) (s.setAll ([(F.LHL_STAT_ENABLED, on.sum)] ++ ((List.range 4).flatMap fun p =>
      [(F.LHL_EXPECT_TIM_SF.ix p, bits (beAt b (32 + 16 * p) 1) 6 6), (F.LHL_EXPECT_SITE.ix p, beAt b (33 + 16 * p) 1),
       (F.LHL_EXPECT_GW.ix p, beAt b (34 + 16 * p) 1)]) ++
    ((List.range 2).flatMap fun g =>
      [(F.LHL_PG_CFG_MODE.ix g, bits (beAt b (96 + 16 * g) 1) 7 6), (F.LHL_PG_CFG_REVERT.ix g, bits (beAt b (96 + 16 * g) 1) 5 5),
       (F.LHL_PG_CFG_HOLDOFF.ix g, beAt b (97 + 16 * g) 1), (F.LHL_PG_CFG_WTR_S.ix g, beAt b (98 + 16 * g) 2)]) ++
    (imgFlows img).flatMap fun r =>
      [(F.MLR_FLOW_STAT_TX.ix r.flow, b2n r.sends), (F.MLR_FLOW_STAT_RX.ix r.flow, b2n r.receives),
       (F.MLR_FLOW_STAT_PEER_SITE.ix r.flow, r.site), (F.MLR_FLOW_STAT_PEER_GW.ix r.flow, r.gw)]))

/-- CHANNEL_PLAN (R347, R392): the lasers of enabled ports are enabled and lit, those retired apart. -/
def State.installPlan (s : State) (img : List Byte) : State :=
  let ports := (List.range 24).filter (portEnabled img)
  let lasers := ports.flatMap fun k => (List.range 9).map (laserOf k)
  let s1 := lasers.foldl (fun t n => t.setBit (F.OPT_LASER_EN_EN.ix (n / 32)) (n % 32)
    (!t.getBit (F.OPT_LASER_RETIRED_RETIRED.ix (n / 32)) (n % 32))) s
  ports.foldl State.lightPort (s1.setAll (ports.map fun k => (F.OPT_PORT_STAT_ENABLED.ix k, 1)))

/-- The class L sections of the first image go into their places directly (R200, R245, R299, R336). -/
def State.installLive (s : State) (img : List Byte) : State :=
  let s1 := match imgFind img 0x8006 0 with
    | some b => (s.stageRoutes 0 b).set F.RTE_SEL_SEL 0
    | none => s.set F.RTE_SEL_SEL 0
  let s2 := (List.range 4).foldl (fun t p => match imgFind img 0x8008 p with
    | some b => t.loadPages p 0 0 b
    | none => t) s1
  let s3 := (List.range 4).foldl (fun t p => match imgFind img 0x800B p with
    | some b => t.installGate p ((gateOf b).entryAt t.ns64) (gateOf b)
    | none => t) s2
  (imgTables img).foldl (fun t x => t.putTable x.1 x.2) s3

/-- Every site of the installation is a member until tables are installed; this gateway's own bit of its reach mask is set
(R275). -/
def State.firstMembers (s : State) (img : List Byte) : State :=
  if s.mbr.installed then s.setBit F.MBR_STAT_REACH (imgSite img) true
  else
    let all := 2 ^ imgSites img - 1
    ((s.set F.MBR_STAT_SITES all).set F.MBR_STAT_COMMIT (if s.commitMask = 0 then all else s.commitMask)).setBit
      F.MBR_STAT_REACH (imgSite img) true

/-- A region takes its INIT_PHASE and, unless it is RETIRED, is IDLE and receives ENTRY. -/
def State.firstPhase (s : State) (img : List Byte) (r : Nat) : State :=
  let n := imgInitPhase img r
  let s1 := s.loadPhase r n img (s.get F.IMG_GEN_GEN)
  let ref := imgEntry img n r
  if s1.regionState r == 5 then
    if ref = 0xFFFFFFFF then s1
    else { s1 with sched := { s1.sched with entryDue := Tab.insert s1.sched.entryDue r ref } }
  else (s1.setRegionState r 0).enter r ref

/-- The first verified image takes effect whole (R120, R392): READY. -/
def State.firstImage (s : State) (img : List Byte) : State :=
  let s1 := { s with img := { s.img with running := some img, first := true } }
  let s3 := ((s1.suspendDigest.showLoader false).showImage img).installRule img
  let s4 := (((s3.set F.PND_STAT_MASK (imgPondMask img)).makePools img).installPorts img).installLine img
  let s5 := ((s4.installPlan img).installLive img).firstMembers img
  let s6 := ((List.range 64).foldl (fun t r => t.firstPhase img r) s5).runProgram 0
  (s6.set F.PWR_STAT_STAGE 6).holdGrants.countSlots

/-- IMAGE_VERIFIED (R114, R119, R120, R123): the checks end: the image is rejected, takes effect as the first, starts
APPLYING, or is HELD; unattended, it is discarded in place of being held. While another image is being applied its store
is not free and the check goes on. -/
def execImageVerified (s : State) : Host.Outcome State Fault Refusal :=
  .next (match s.img.checking with
    | none => s
    | some img =>
      if s.applying || s.fatal then s
      else
        let t := s.endCheck
        match s.imageReject img s.img.checkLen s.img.applyAt with
        | some r => (t.showLoader false).reject r.1 r.2
        | none =>
          if !s.img.first then t.firstImage img
          else
            let u := { t with img := { t.img with next := some img, heldAt := s.img.applyAt } }.applyDue
            if u.applying then u
            else if u.flag F.MBR_STAT_UNATTENDED then u.discardHeld 0x11
            else (u.showLoader false).evt F.IMG_EVT_HELD)

end Sys2Proof.Machine
end

