-- ==== Sys2Proof/Machine/BootStore.lean ====
section
/-! DEFINITION. The boot store (R415–R419): a journal snapshot as its 8,192 bytes (Table CTL-9), the places that hold a valid
one, and a boot store operation that fails or is cut off by a dip of VIO (R44). -/

namespace Sys2Proof.Machine

/-! Table CTL-9. Byte 48 is given to two fields, the pinned anchor's mask and the first byte of T: the model keeps the mask
there, and T modulo 2^56 in bytes 49–55 (DESIGN CHOICE, log 25). -/

/-- A set of numbers as a map of `n` bytes, bit b for number b. -/
def markBytes (n : Nat) (m : Marks) : List Byte := beBytes n (m.map fun x => 2 ^ x.1).sum

/-- The numbers below `n` whose bit is set. -/
def marksAt (v n : Nat) : Marks := ((List.range n).filter fun i => bit v i).map fun i => (i, ())

/-- Two bytes for each of `n` keys from `first` on. -/
def halfBytes (t : Tab Nat) (first n : Nat) : List Byte := (List.range n).flatMap fun i => beBytes 2 (Tab.get 0 t (first + i))

/-- What two bytes each give for `n` keys from `first` on. -/
def halvesAt (b : List Byte) (off first n : Nat) : Tab Nat :=
  (List.range n).foldl (fun t i => Tab.put 0 t (first + i) (beAt b (off + 2 * i) 2)) []

/-- The fault record that 32 bytes hold (Table FLT-1); none in a place of zeros. -/
def FaultRec.parse (b : List Byte) : Option FaultRec :=
  if beAt b 0 4 = 0 then none
  else
    let c := beAt b 5 1
    some ⟨beAt b 0 4, beAt b 4 1, if c / 64 = 0 then .ce else if c / 64 = 1 then .uc else .fa, bit c 5, bit c 4,
      beAt b 6 2, beAt b 8 4, beAt b 12 4, beAt b 16 8, beAt b 24 8⟩

/-- Bytes 0–8,167 of a snapshot; every byte that no field takes is zero. -/
def Snapshot.fields (x : Snapshot) : List Byte :=
  let zeros := fun n => List.replicate n (0#8 : Byte)
  beBytes 4 0x514B4A52 ++ beBytes 2 1 ++ zeros 2 ++ beBytes 8 x.seq ++
    beBytes 4 x.mbrEpoch ++ beBytes 1 x.activeBank ++ beBytes 1 (b2n x.pinHeld) ++ zeros 2 ++ beBytes 8 x.outerEpoch ++
    beBytes 1 x.anchorMask ++ beBytes 1 x.commitMask ++ zeros 6 ++ beBytes 8 x.pinEpoch ++ beBytes 1 x.pinMask ++
    beBytes 7 x.tokens ++ ((List.range 8).flatMap fun i => beBytes 4 ((x.eoff[i]?).getD 0)) ++ zeros 8 ++
    halfBytes x.kepochTx 8 56 ++ halfBytes x.kepochMin 8 56 ++ markBytes 128 x.retiredBlocks ++
    markBytes 28 x.retiredLasers ++ zeros 36 ++ halfBytes x.commPowers 0 864 ++ beBytes 3 x.commPorts ++ zeros 61 ++
    (x.history.reverse.flatMap FaultRec.bytes ++ zeros 4096).take 4096 ++
    beBytes 8 x.lifeUc ++ beBytes 8 x.lifeFa ++ beBytes 8 x.lifeDrop ++ zeros 1744

/-- The TAG of a snapshot's bytes (R417): the GCM tag over bytes 0–8,167 with SEQ and 0x4A52_4E4C as its IV. -/
def snapshotTag (key b : List Byte) : List Byte := gcmTag key (slice b 8 8 ++ beBytes 4 0x4A524E4C) (b.take 8168) []

/-- The 8,192 bytes of a snapshot. -/
def Snapshot.bytes (x : Snapshot) (key : List Byte) : List Byte :=
  let b := x.fields ++ snapshotTag key x.fields ++ [0#8, 0#8, 0#8, 0#8]
  b ++ beBytes 4 (crc32c b)

/-- Whether bytes are a valid snapshot (R417). -/
def snapshotOk (key b : List Byte) : Bool :=
  b.length == 8192 && beAt b 0 4 == 0x514B4A52 && beAt b 4 2 == 1 && crc32c (b.take 8188) == beAt b 8188 4 &&
    snapshotTag key b == slice b 8168 16

/-- What a snapshot's bytes say. -/
def Snapshot.parse (b : List Byte) : Snapshot where
  seq := beAt b 8 8
  mbrEpoch := beAt b 16 4
  activeBank := beAt b 20 1
  pinHeld := bit (beAt b 21 1) 0
  outerEpoch := beAt b 24 8
  anchorMask := beAt b 32 1
  commitMask := beAt b 33 1
  pinEpoch := beAt b 40 8
  pinMask := beAt b 48 1
  tokens := beAt b 49 7
  eoff := (List.range 8).map fun i => beAt b (56 + 4 * i) 4
  kepochTx := halvesAt b 96 8 56
  kepochMin := halvesAt b 208 8 56
  retiredBlocks := marksAt (beAt b 320 128) 1024
  retiredLasers := marksAt (beAt b 448 28) 216
  commPowers := halvesAt b 512 0 864
  commPorts := beAt b 2240 3
  history := ((List.range 128).filterMap fun i => FaultRec.parse (slice b (2304 + 32 * i) 32)).reverse
  lifeUc := beAt b 6400 8
  lifeFa := beAt b 6408 8
  lifeDrop := beAt b 6416 8

/-! The places of the journal banks. -/

/-- The valid snapshot that a place holds. -/
def Place.snapshot (key : List Byte) : Place → Option Snapshot
  | .bad => none
  | .data b => if snapshotOk key b then some (Snapshot.parse b) else none

/-- The valid snapshot with the highest SEQ of a bank's places. -/
def newest (key : List Byte) : Tab Place → Option Snapshot
  | [] => none
  | (_, p) :: t => match p.snapshot key, newest key t with
    | some x, some y => some (if x.seq < y.seq then y else x)
    | some x, none => some x
    | none, r => r

/-- The bank that holds the newest valid snapshot, and that snapshot (R419). -/
def State.newestSnapshot (s : State) : Option (Nat × Snapshot) :=
  match newest s.journalKey s.boot.j0, newest s.journalKey s.boot.j1 with
  | none, none => none
  | some x, none => some (0, x)
  | none, some y => some (1, y)
  | some x, some y => if x.seq < y.seq then some (1, y) else some (0, x)

/-- The places of a journal bank. -/
def State.jrnBank (s : State) (b : Nat) : Tab Place := if b = 0 then s.boot.j0 else s.boot.j1

/-- A journal bank written. -/
def State.setJrnBank (s : State) (b : Nat) (t : Tab Place) : State :=
  { s with boot := { s.boot with j0 := if b = 0 then t else s.boot.j0, j1 := if b = 0 then s.boot.j1 else t } }

/-- The lowest free place of a bank. -/
def freePlace (t : Tab Place) : Option Nat := (List.range 128).find? fun n => (Tab.find t n).isNone

/-- FREE: the free places of the bank due for the next snapshot (R418). -/
def State.showFree (s : State) : State :=
  let c := s.boot.current
  let b := if (freePlace (s.jrnBank c)).isSome then c else 1 - c
  s.set F.PST_STAT_FREE (128 - (s.jrnBank b).length)

/-- Whether a bank holds a durable snapshot. -/
def State.durableIn (s : State) (b : Nat) : Bool := (s.jrnBank b).any fun p => (p.2.snapshot s.journalKey).isSome

/-- The erase of the other bank starts when it holds a written place and the current bank a durable snapshot (R418). -/
def State.startErase (s : State) : State :=
  let c := s.boot.current
  if s.boot.erasing.isNone && !(s.jrnBank (1 - c)).isEmpty && s.durableIn c then
    { s with boot := { s.boot with erasing := some (1 - c) } }
  else s

/-! Operations (R416). -/

/-- PERSIST_FAIL (R423). -/
def State.persistFail (s : State) : State := (s.evt F.PST_EVT_FAIL).raise 0xFC .uc (locChip 0x61)

/-- VALID of a bank. -/
def validFld (b : Nat) : Fld := if b = 0 then F.PST_STAT_VALID_A else F.PST_STAT_VALID_B

/-- Whether the head of the certificate area is valid (R414). -/
def certHead (c : List Byte) : Bool :=
  c.take 4 == ascii "QKCA" && decide (16 ≤ beAt c 8 4) && decide (beAt c 8 4 ≤ c.length)

/-- A bank of the boot store written. -/
def State.setBank (s : State) (b : Nat) (bytes : List Byte) : State :=
  { s with boot := { s.boot with bankA := if b = 0 then bytes else s.boot.bankA, bankB := if b = 0 then s.boot.bankB else bytes } }

/-- What an operation that fails leaves: a bank or certificate area that was being written holds a number of bytes that the
spec leaves open. -/
def State.failedOp (s : State) : BootOp → State
  | .writeRunning b =>
    let img := s.img.running.getD []
    let x := s.free
    (x.2.setBank b (img.take (x.1 % (img.length + 1)))).set (validFld b) 0
  | .writeCert d =>
    let x := s.free
    let part := d.take (x.1 % (d.length + 1))
    ({ x.2 with boot := { x.2.boot with cert := part } }).put F.PST_STAT_CERT_OK (certHead part)
  | .activate _ => s
  | .verify b => s.set (validFld b) 0

/-- No operation runs any more. -/
def State.endBoot (s : State) : State :=
  ({ s with boot := { s.boot with op := none, opTries := 0 } }).setAll [(F.PST_STAT_BUSY, 0), (F.PST_STAT_OP, 0)]

/-- A dip of VIO (R44, Table DIE-7): the operation in progress fails and starts again, up to 3 times as R418 has it of the
journal, and then ends as a failed one. A journal place is written within its command, and an erase starts again by itself. -/
def State.bootDip (s : State) : State :=
  match s.boot.op with
  | none => s
  | some op =>
    if s.boot.opTries < 3 then { s with boot := { s.boot with opTries := s.boot.opTries + 1 } }
    else (s.endBoot.failedOp op).persistFail

end Sys2Proof.Machine
end

