-- ==== Sys2Proof/Machine/Ports.lean ====
section
/-! DEFINITION. The link-fault path (R442): what the causes of Table DIE-2, DIE-7, FLT-4 and FLT-5 and the loss of REFCLK_T
do to the optical ports of a photonic die. -/

namespace Sys2Proof.Machine

/-- A fabric port goes down through the link-fault path. -/
def State.faultFabric (s : State) (c : LinkCause) (p : Nat) : State :=
  let st := s.fabState p
  if st == 1 || st == 2 || st == 3 || st == 4 then s.fabFail p (if c = .hubLink then 7 else 2) else s

/-- The four fabric ports of a die. -/
def State.faultFabrics (s : State) (c : LinkCause) (die : Nat) : State :=
  (((s.faultFabric c (4 * die)).faultFabric c (4 * die + 1)).faultFabric c (4 * die + 2)).faultFabric c (4 * die + 3)

/-- A pond link. -/
def State.faultPond (s : State) (l : Nat) : State :=
  let st := s.pondState l
  if st == 1 || st == 2 || st == 3 || st == 4 then s.pondFail l 4 else s

/-- A line port loses its signal. -/
def State.faultLine (s : State) (p : Nat) : State := if s.flag (F.LHL_PORT_STAT_LOS.ix p) then s else s.losDeclare p

/-- A cause takes the ports of a photonic die down (R442). -/
def State.linkFault (s : State) (c : LinkCause) (die : Nat) : State :=
  if s.pwr.causes.contains (c, die) then s
  else
    let s1 := { s with pwr := { s.pwr with causes := s.pwr.causes ++ [(c, die)] } }
    (((s1.faultFabrics c die).faultPond die).faultLine die)

/-- A cause takes the ports of several dies down. -/
def State.linkFaults (s : State) (c : LinkCause) : List Nat → State
  | [] => s
  | d :: t => (s.linkFault c d).linkFaults c t

/-- A cause clears (R442); the ports train again by themselves or on RETRAIN. -/
def State.linkClear (s : State) (c : LinkCause) (die : Nat) : State :=
  { s with pwr := { s.pwr with causes := s.pwr.causes.filter fun x => !(x.1 == c && x.2 == die) } }

/-- A cause clears on several dies. -/
def State.linkClears (s : State) (c : LinkCause) : List Nat → State
  | [] => s
  | d :: t => (s.linkClear c d).linkClears c t

/-- The photonic dies of a laser die (R345). -/
def diesOfLaser (l : Nat) : List Nat := [2 * l, 2 * l + 1]

end Sys2Proof.Machine
end

