-- ==== Sys2Proof/Machine/Light.lean ====
section
/-! DEFINITION. Shared operations of the optical lanes (R345–R364): lane state, faults, the shadow lane's uses
(Table OPT-11), retirement, and the calibration pass. -/

namespace Sys2Proof.Machine

/-! Ports and lanes. -/

/-- The optical side of a port before anything is known of it. -/
def OptPort.idle : OptPort := ⟨0x33, none, false, none, none, false, 0, 0, 0, false, none, false, false, 0⟩

/-- A ring that has never been swept. -/
def Ring.idle : Ring := ⟨0, 0, [], 0⟩

/-- A lane of which nothing has been measured. -/
def OptLane.idle : OptLane := ⟨Ring.idle, Ring.idle, ⟨0, 0, 0, 0⟩, 0, [], false, false, 0⟩

/-- The optical side of a port. -/
def State.optPort (s : State) (k : Nat) : OptPort := Tab.get OptPort.idle s.opt.ports k

/-- The optical side of a port changed. -/
def State.onOpt (s : State) (k : Nat) (f : OptPort → OptPort) : State :=
  { s with opt := { s.opt with ports := Tab.put OptPort.idle s.opt.ports k (f (s.optPort k)) } }

/-- The optical side of a lane. -/
def State.optLane (s : State) (k l : Nat) : OptLane := Tab.get OptLane.idle s.opt.lanes (16 * k + l)

/-- The optical side of a lane changed. -/
def State.onLane (s : State) (k l : Nat) (f : OptLane → OptLane) : State :=
  { s with opt := { s.opt with lanes := Tab.put OptLane.idle s.opt.lanes (16 * k + l) (f (s.optLane k l)) } }

/-- One of a lane's two rings changed. -/
def State.onRing (s : State) (k l : Nat) (transmit : Bool) (f : Ring → Ring) : State :=
  s.onLane k l fun x => if transmit then { x with tx := f x.tx } else { x with rx := f x.rx }

/-- One of a lane's two rings. -/
def State.ring (s : State) (k l : Nat) (transmit : Bool) : Ring :=
  if transmit then (s.optLane k l).tx else (s.optLane k l).rx

/-- The field of a ring's state. -/
def ringFld (k l : Nat) (transmit : Bool) : Fld :=
  if transmit then F.OPT_LANE_STAT_TX_RING.ix k l else F.OPT_LANE_STAT_RX_RING.ix k l

/-- The location code of a port's photonic die (R366). -/
def locDie (k : Nat) : Nat := locChip (0x20 + dieOfPort k)

/-- The port that a laser serves (R345). -/
def portOfLaser (n : Nat) : Nat :=
  let die := n / 54
  let x := n % 54 / 9
  if x < 4 then 4 * die + x else if x = 4 then 16 + die else 20 + die

/-- Whether a port is ACTIVE, or ALIGNED for a line port (R357, R364). -/
def State.portUp (s : State) (k : Nat) : Bool :=
  if k < 16 then s.fabActive k
  else if k < 20 then s.get (F.LHL_ALIGN_STAT_STATE.ix (k - 16)) == 3
  else s.pondState (k - 20) == 4

/-- Whether a port is DOWN or FAILED (R361): for a line port, the framer is OFF. -/
def State.portStill (s : State) (k : Nat) : Bool :=
  if k < 16 then s.fabState k == 0 || s.fabState k == 5
  else if k < 20 then s.get (F.LHL_ALIGN_STAT_STATE.ix (k - 16)) == 0
  else s.pondState (k - 20) == 0 || s.pondState (k - 20) == 5

/-- The lane that the transmit shadow carries; 15 none. -/
def State.txShadow (s : State) (k : Nat) : Nat := s.get (F.OPT_PORT_STAT_TX_SHADOW.ix k)

/-- The use of the transmit shadow. -/
def State.txUse (s : State) (k : Nat) : Nat := s.get (F.OPT_PORT_STAT_TX_USE.ix k)

/-- The lane taken from the receive shadow; 15 none. -/
def State.rxShadow (s : State) (k : Nat) : Nat := s.get (F.OPT_PORT_STAT_RX_SHADOW.ix k)

/-- The use of the receive shadow. -/
def State.rxUse (s : State) (k : Nat) : Nat := s.get (F.OPT_PORT_STAT_RX_USE.ix k)

/-! Faults (R366). -/

/-- The event bit of an optical source. -/
def optEvt (source : Nat) : List Fld :=
  if source = 0xE0 ∨ source = 0xE1 ∨ source = 0xE7 then [F.OPT_EVT_FADE]
  else if source = 0xE2 then [F.OPT_EVT_HANDOVER]
  else if source = 0xE3 then [F.OPT_EVT_RETIRED]
  else if source = 0xE4 then [F.OPT_EVT_WRONG_LOCK]
  else if source = 0xE5 then [F.OPT_EVT_RELOCK_FAIL]
  else if source = 0xE6 then [F.OPT_EVT_LANE_LOSS]
  else []

/-- An optical fault: its event, the first-error register, and its record, whose INFO has the layout of OPT_FE. -/
def State.raiseOpt (s : State) (source : Nat) (cls : FClass) (k l : Nat) : State :=
  let n := laserOf k l
  let s1 := (optEvt source).foldl State.evt s
  let s2 := if s1.get F.OPT_FE_SOURCE = 0 then
      s1.setAll [(F.OPT_FE_SOURCE, source), (F.OPT_FE_PORT, k), (F.OPT_FE_LANE, l), (F.OPT_FE_LASER, n)]
    else s1
  s2.raise source cls (if source = 0xE3 then locLaser n else locDie k) 0 (k * 2 ^ 19 + l * 2 ^ 15 + n) 0
    (retirement := source = 0xE3)

/-! The transmit shadow (R350, R359, R363). -/

/-- A mirror of lane l starts with a code. -/
def State.startMirror (s : State) (k l use code : Nat) : State :=
  let s1 := (s.setAll [(F.OPT_PORT_STAT_TX_SHADOW.ix k, l), (F.OPT_PORT_STAT_TX_USE.ix k, use)]).onOpt k fun p =>
    { p with code := code, next := none }
  if use = 1 then s1.raiseOpt 0xE1 .ce k l else s1

/-- A mirror stops: the need that an aborted calibration kept waiting takes the shadow, which otherwise is idle, or
unavailable (USE 6). -/
def State.stopMirror (s : State) (k : Nat) : State :=
  let p := s.optPort k
  match p.next with
  | some (l, use, code) => if p.shadowBad then s.setAll [(F.OPT_PORT_STAT_TX_SHADOW.ix k, 15),
      (F.OPT_PORT_STAT_TX_USE.ix k, 6)] else s.startMirror k l use code
  | none => s.setAll [(F.OPT_PORT_STAT_TX_SHADOW.ix k, 15), (F.OPT_PORT_STAT_TX_USE.ix k, if p.shadowBad then 6 else 0)]

/-- A calibration pass of the transmit direction ends before its time: the ring of the lane under calibration takes its
last locked settings, and the far receiver is asked to return it. -/
def State.endCal (s : State) (k : Nat) : State :=
  let l := s.get (F.OPT_PORT_CAL_LANE.ix k)
  let s1 := s.set (F.OPT_PORT_CAL_LANE.ix k) 15
  let s2 := if s.txUse k = 3 then s1.set (ringFld k l true) 3 else s1
  s2.onOpt k fun p => { p with calStep := 0, calDue := false, code := if s.txUse k = 3 then 0x99 else p.code }

/-- A calibration gives way to a need of a lane (Table OPT-11). -/
def State.abortCal (s : State) (k l use code : Nat) : State :=
  ((s.endCal k).onOpt k fun p => { p with next := some (l, use, code) }).raiseOpt 0xE8 .ce k (s.txShadow k)

/-- A need of lane l meets the transmit shadow (Table OPT-11): it is met at once, by the mirror that runs, or after a
calibration has given way; otherwise it is not. -/
def State.need (s : State) (k l use code : Nat) : State :=
  let cur := s.txUse k
  if cur = 0 then (if (s.optPort k).shadowBad then s else s.startMirror k l use code)
  else if cur = 3 then
    if s.txShadow k = l then
      (((s.endCal k).setAll [(F.OPT_PORT_STAT_TX_USE.ix k, use)]).onOpt k fun p => { p with code := code }).raiseOpt
        0xE8 .ce k l
    else if use = 1 ∨ use = 2 then s.abortCal k l use code
    else s
  else if s.txShadow k = l ∧ cur ≠ 4 ∧ code = 0x66 then s.onOpt k fun p => { p with code := 0x66 }
  else s

/-- Whether the transmit shadow carries lane l, or will once a calibration has given way. -/
def State.coveredTx (s : State) (k l : Nat) : Bool :=
  s.txShadow k == l || (match (s.optPort k).next with
    | some x => x.1 == l
    | none => false)

/-- A laser is retired (R361): it goes dark, its lane rides the shadow for good with code 0x33, and the journal records
it. -/
def State.retireLaser (s : State) (k l : Nat) : State :=
  let n := laserOf k l
  let s1 := ({ s with lit := s.lit.del n }).setBit (F.OPT_LASER_RETIRED_RETIRED.ix (n / 32)) (n % 32) true
  let s2 := s1.setAll [(F.OPT_LANE_STAT_RETIRED.ix k l, 1), (F.OPT_PORT_STAT_TX_SHADOW.ix k, l),
    (F.OPT_PORT_STAT_TX_USE.ix k, 4)]
  ((s2.onOpt k fun p => { p with code := 0x33, next := none }).journal).raiseOpt 0xE3 .ce k l

/-! Handover and loss (R360, R362). -/

/-- A switch of lane l to the receive shadow, or its return: HANDOVER. -/
def State.handover (s : State) (k l : Nat) : State := (s.bump (F.OPT_LANE_CNT_HANDOVER.ix k l)).raiseOpt 0xE2 .ce k l

/-- Lane l is taken from the shadow; a ring that waits for this is swept. -/
def State.takeRx (s : State) (k l use : Nat) : State :=
  let s1 := s.setAll [(F.OPT_PORT_STAT_RX_SHADOW.ix k, l), (F.OPT_PORT_STAT_RX_USE.ix k, use)]
  (if use = 2 ∨ use = 3 then s1.set (ringFld k l false) 1 else s1).handover k l

/-- Lane l returns to its own channel: the request for it is withdrawn, and a calibration of the receive rings moves on. -/
def State.returnRx (s : State) (k l : Nat) : State :=
  let s1 := (s.setAll [(F.OPT_PORT_STAT_RX_SHADOW.ix k, 15), (F.OPT_PORT_STAT_RX_USE.ix k, 0)]).onOpt k fun p =>
    if p.req = some l then
      if p.reqCal && decide (l < 7) then { p with req := some (l + 1) } else { p with req := none, reqCal := false }
    else p
  (s1.onLane k l fun x => { x with wants := false }).handover k l

/-- A port goes down for a lane that is lost beyond the spare (R362). -/
def State.lanePortDown (s : State) (k : Nat) : State :=
  if k < 16 then s.faultFabric .laser k else if k < 20 then s.faultLine (k - 16) else s.faultPond (k - 20)

/-- A data lane in loss of signal, or wrongly locked without cover, is lost (R362). -/
def State.laneLost (s : State) (k l : Nat) : State := (s.raiseOpt 0xE6 .uc k l).lanePortDown k

/-- Whether lane l is taken from the shadow, or an aligned mirror of it stands ready. -/
def State.mirrored (s : State) (k l : Nat) : Bool :=
  s.rxShadow k == l || (s.rxShadow k == 15 && (s.optPort k).runLane == l && decide (4 ≤ (s.optPort k).run))

/-! Calibration (R364). -/

/-- A pass starts, or takes its next lane, when the port is up, its transmit shadow idle and its reports arrive. The
receive rings follow through REQ_MIRROR. -/
def State.calTry (s : State) (k : Nat) : State :=
  let p := s.optPort k
  let l := s.get (F.OPT_PORT_CAL_LANE.ix k)
  if s.portUp k && s.txUse k == 0 && s.txShadow k == 15 && s.flag (F.OPT_PORT_STAT_REPORTS_OK.ix k) && p.calStep == 0 &&
      ((p.calDue && l != 8) || decide (l < 8)) then
    let j := if l < 8 then l else 0
    ((s.set (F.OPT_PORT_CAL_LANE.ix k) j).startMirror k j 3 0x33).onOpt k fun p => { p with
      calStep := 1
      calDue := if l < 8 then p.calDue else false
      req := if l < 8 ∨ p.req ≠ none then p.req else some 0
      reqCal := if l < 8 ∨ p.req ≠ none then p.reqCal else true }
  else s

end Sys2Proof.Machine
end

