-- ==== Sys2Proof/Machine/LightCmd.lean ====
section
/-! DEFINITION. Meanings of the commands of the optical lanes (R236, R345–R367). -/

namespace Sys2Proof.Machine

/-! Rings (R353, R354). -/

/-- What the failure of a ring after its third sweep brings. -/
def State.ringFailed (s : State) (k l : Nat) (transmit : Bool) : State :=
  let s1 := (s.set (ringFld k l transmit) 5).raiseOpt 0xE5 .uc k l
  if l = 8 then
    if transmit then
      let s2 := s1.onOpt k fun p => { p with shadowBad := true }
      if s2.txUse k = 0 then s2.set (F.OPT_PORT_STAT_TX_USE.ix k) 6 else s2
    else s1
  else if transmit then
    if s1.txShadow k = l then (if s1.txUse k = 3 then (s1.endCal k).set (ringFld k l true) 5 else s1).retireLaser k l
    else s1
  else if s1.rxShadow k = l then s1.set (F.OPT_PORT_STAT_RX_USE.ix k) 4
  else s1

/-- RING_SWEEP_DONE (R353, R354): the ring settles on the resonance with its lane's tone (8: light and no tone), skipping
excluded lines; a sweep that finds none is retried twice, and the third failure leaves the ring FAILED. `lines` are the
resonances found, each with its tone. -/
def execRingSweepDone (port lane : Nat) (transmit : Bool) (lines : List (Nat × Nat)) (s : State) :
    Host.Outcome State Fault Refusal :=
  .next (
    let r := s.ring port lane transmit
    if 1 < s.get (ringFld port lane transmit) then s
    else
      let found := lines.find? fun x => x.2 == lane && !r.excluded.contains x.1
      let forced := s.forcedAt 0xE5 (locDie port)
      match found, forced with
      | some x, false =>
        (s.set (ringFld port lane transmit) 2).onRing port lane transmit fun r => { r with place := x.1, fails := 0 }
      | _, _ =>
        let s1 := (s.set (ringFld port lane transmit) 1).onRing port lane transmit fun r => { r with fails := r.fails + 1 }
        if forced || decide (2 ≤ r.fails) then s1.ringFailed port lane transmit else s1)

/-- A ring has been locked: what waited for it. -/
def State.ringLocked (s : State) (k l : Nat) (transmit : Bool) : State :=
  let s1 := (s.set (ringFld k l transmit) 3).onRing k l transmit fun r => { r with excluded := [], wrong := 0, fails := 0 }
  if !transmit then s1
  else if l = 8 then
    let s2 := s1.onOpt k fun p => { p with shadowBad := false }
    if s2.txUse k = 6 then s2.set (F.OPT_PORT_STAT_TX_USE.ix k) 0 else s2
  else if s1.txShadow k = l then
    if s1.txUse k = 2 then s1.onOpt k fun p => { p with code := 0x99 }
    else if s1.txUse k = 3 ∧ (s1.optPort k).calStep = 3 then s1.onOpt k fun p => { p with code := 0x99, calStep := 4 }
    else s1
  else s1

/-- A wrong lock is confirmed (R354): the transmitter mirrors its lane with code 0x66, the receiver asks for a mirror;
a lane that gets no cover is relocked at once, and is lost where Table OPT-11 says so. -/
def State.ringWrong (s : State) (k l : Nat) (transmit : Bool) : State :=
  let s0 := (s.set (ringFld k l transmit) 4).onRing k l transmit fun r =>
    { r with wrong := 0, excluded := r.place :: r.excluded }
  let s1 := (s0.bump (F.OPT_LANE_CNT_WRONG_LOCK.ix k l)).raiseOpt 0xE4 .ce k l
  let sweep := fun (t : State) => t.set (ringFld k l transmit) 1
  if l = 8 then
    if transmit then
      let s2 := s1.onOpt k fun p => { p with shadowBad := true }
      sweep (if s2.txUse k = 0 then s2.set (F.OPT_PORT_STAT_TX_USE.ix k) 6 else s2)
    else sweep s1
  else if transmit then
    let s2 := s1.need k l 2 0x66
    if s2.coveredTx k l then s2
    else if s2.txUse k = 1 ∨ s2.txUse k = 2 then (sweep s2).laneLost k l
    else sweep s2
  else if s1.rxShadow k = l then sweep s1
  else
    let p := s1.optPort k
    if s1.rxShadow k = 15 ∧ (p.req = none ∨ p.req = some l ∨ p.reqCal) then
      s1.onOpt k fun p => { p with req := some l, reqCal := false }
    else (sweep s1).laneLost k l

/-- TONE_WINDOW (R353, R354): a ring that settles is confirmed or sweeps again with the line excluded; a locked ring that
shows a wrong tone in two consecutive windows is wrongly locked. -/
def execToneWindow (port lane : Nat) (transmit : Bool) (tone : Nat) (s : State) : Host.Outcome State Fault Refusal :=
  .next (
    let st := s.get (ringFld port lane transmit)
    let s1 := s.set (if transmit then F.OPT_LANE_STAT_TX_TONE.ix port lane else F.OPT_LANE_STAT_RX_TONE.ix port lane) tone
    if st = 2 then
      if tone = lane then s1.ringLocked port lane transmit
      else (s1.set (ringFld port lane transmit) 1).onRing port lane transmit fun r =>
        { r with excluded := r.place :: r.excluded }
    else if st = 3 then
      let wrong := decide (tone < 8) && tone != lane
      let forced := s.forcedAt 0xE4 (locDie port)
      if forced || (wrong && decide (1 ≤ (s.ring port lane transmit).wrong)) then s1.ringWrong port lane transmit
      else s1.onRing port lane transmit fun r => { r with wrong := b2n wrong }
    else s1)

/-! Monitors and fades (R355–R359). -/

/-- Powers added. -/
def addPower (a b : LanePower) : LanePower := ⟨a.s1 + b.s1, a.s2 + b.s2, a.s3 + b.s3, a.s4 + b.s4⟩

/-! Reports sent (R351). -/

/-- The value of a report item about what a port receives (Table OPT-7). -/
def State.reportValue (s : State) (k l kind : Nat) : Nat :=
  if kind = 1 then s.get (F.OPT_LANE_PWR_B_LOW.ix k l)
  else if kind = 2 then
    if s.flag (F.OPT_PORT_STAT_COMMISSIONED.ix k) then s.get (F.OPT_LANE_FADE_RX.ix k l) else 0x8000
  else s.get (F.OPT_LANE_CNT_CORR.ix k l)

/-- A report unit (Table OPT-7). -/
def State.reportUnit (s : State) (k l kind rseq : Nat) : List Byte :=
  let p := s.optPort k
  let b := [0x69#8, 0x96#8] ++ beBytes 1 (16 * l + kind) ++ beBytes 1 rseq ++ beBytes 2 (s.reportValue k l kind) ++
    beBytes 1 (16 * s.rxShadow k + 8 * b2n (decide (4 ≤ p.run)) + 4 * b2n p.req.isSome) ++ beBytes 1 (p.req.getD 0) ++
    List.replicate 6 0#8
  b ++ beBytes 2 (crc16 0 b)

/-- The report units of items sent one after the other. -/
def State.sendReports (s : State) (k : Nat) : List (Nat × Nat) → State
  | [] => s
  | x :: t =>
    let r := (s.optPort k).rseq
    ((s.emit (.report k (s.reportUnit k x.1 x.2 r))).onOpt k fun p => { p with rseq := (r + 1) % 256 }).sendReports k t

/-- Every item of lanes 0–8 and KIND 1–3 (R351). -/
def reportItems : List (Nat × Nat) := (List.range 9).flatMap fun l => [(l, 1), (l, 2), (l, 3)]

/-- MONITOR_SAMPLE (R351, R355): one sample of every stage of the lanes given, from lane 0 on. Every 100 µs, as it comes, the
items that an idle shadow lane reports are refreshed. -/
def execMonitorSample (port : Nat) (powers : List LanePower) (s : State) : Host.Outcome State Fault Refusal :=
  .next (
    let s1 := (powers.take 9).zipIdx.foldl (fun t x => t.onLane port x.2 fun y =>
      { y with sum := addPower y.sum x.1, samples := y.samples + 1 }) s
    if s.txShadow port = 15 ∧ s.lit.has (laserOf port 8) = true then s1.sendReports port reportItems else s1)

/-- A reading of 16 bits as a signed number; 0x8000 is none. -/
def reading (v : Nat) : Option Int := if v = 0x8000 then none else some (signed 16 v)

/-- The drop of a stage below its commissioning value, never below 0. -/
def dropOf (comm now : Option Int) : Nat :=
  match comm, now with
  | some c, some v => (c - v).toNat
  | _, _ => 0

/-- The drops of stages 1 to 3 of a lane and what the far receiver reports of its stage 4. -/
def State.drops (s : State) (k l : Nat) : Nat × Nat × Nat × Nat :=
  (dropOf (reading (s.get (F.OPT_LANE_COMM_A_HIGH.ix k l))) (reading (s.get (F.OPT_LANE_PWR_A_HIGH.ix k l))),
   dropOf (reading (s.get (F.OPT_LANE_COMM_A_LOW.ix k l))) (reading (s.get (F.OPT_LANE_PWR_A_LOW.ix k l))),
   dropOf (reading (s.get (F.OPT_LANE_COMM_B_HIGH.ix k l))) (reading (s.get (F.OPT_LANE_PWR_B_HIGH.ix k l))),
   dropOf (reading (s.get (F.OPT_LANE_FAR_FAR_FADE.ix k l))) (some 0))

/-- The stage-4 drops of the lanes of a direction whose stages 1 to 3 do not drop (Table OPT-9). -/
def State.farDrops (s : State) (k : Nat) : List Nat :=
  (List.range 9).filterMap fun l =>
    let d := s.drops k l
    if d.1 < 100 ∧ d.2.1 < 100 ∧ d.2.2.1 < 100 ∧ 100 ≤ d.2.2.2 then some d.2.2.2 else none

/-- The loss location of a lane (Table OPT-9). -/
def State.lossOf (s : State) (k l : Nat) : Nat :=
  let d := s.drops k l
  if 100 ≤ d.1 then 1
  else if 100 ≤ d.2.1 then 2
  else if 100 ≤ d.2.2.1 then 3
  else if 100 ≤ d.2.2.2 then
    let all := s.farDrops k
    if all.any fun v => decide (v ≤ d.2.2.2) && decide (d.2.2.2 ≤ v + 50) &&
        decide (3 ≤ (all.filter fun w => decide (v ≤ w) && decide (w ≤ v + 50)).length) then 5
    else 4
  else 0

/-- Each of the last 4 windows has more corrected errors than the one before it, and the last exceeds TREND_MIN (R358). -/
def State.rising (s : State) (k l : Nat) : Bool :=
  match (s.optLane k l).errs with
  | a :: b :: c :: d :: e :: _ =>
    decide (e < d) && decide (d < c) && decide (c < b) && decide (b < a) && decide (s.get F.OPT_CFG_TREND_MIN < a)
  | _ => false

/-- The threshold of loss of signal of a port (Table OPT-3). -/
def State.losLevel (s : State) (k : Nat) : Int := signed 16 (beAt (imgBody s.image 0x800A 0) (34 + 32 * k) 2)

/-- The averages of a window take their registers, and a window of its own starts; a lane whose receive power is back at
its threshold is no longer in loss of signal. -/
def State.averageLane (s : State) (k l errors : Nat) : State :=
  let x := s.optLane k l
  let s1 := (s.onLane k l fun y => { y with
    sum := ⟨0, 0, 0, 0⟩, samples := 0, errs := (errors :: y.errs).take 5 }).set (F.OPT_LANE_CNT_CORR.ix k l)
      (min errors 65535)
  if x.samples = 0 then s1
  else
    let avg := fun (v : Int) => v / (x.samples : Int)
    let s2 := s1.setAll [(F.OPT_LANE_PWR_A_HIGH.ix k l, unsigned 16 (avg x.sum.s1)),
      (F.OPT_LANE_PWR_A_LOW.ix k l, unsigned 16 (avg x.sum.s2)),
      (F.OPT_LANE_PWR_B_HIGH.ix k l, unsigned 16 (avg x.sum.s3)),
      (F.OPT_LANE_PWR_B_LOW.ix k l, unsigned 16 (avg x.sum.s4))]
    if s.losLevel k ≤ avg x.sum.s4 then s2.set (F.OPT_LANE_STAT_RX_LOS.ix k l) 0 else s2

/-- The fades and the loss location of a lane of a commissioned port. -/
def State.fadeLane (s : State) (k l : Nat) : State :=
  let d := s.drops k l
  let rx := dropOf (reading (s.get (F.OPT_LANE_COMM_B_LOW.ix k l))) (reading (s.get (F.OPT_LANE_PWR_B_LOW.ix k l)))
  let far := match reading (s.get (F.OPT_LANE_FAR_FAR_FADE.ix k l)) with
    | some v => v.toNat
    | none => 0
  s.setAll [(F.OPT_LANE_FADE_TX.ix k l, max d.2.2.1 far), (F.OPT_LANE_FADE_RX.ix k l, rx),
    (F.OPT_LANE_STAT_LOC.ix k l, s.lossOf k l)]

/-- The actions on a lane's fades (Table OPT-10). -/
def State.actLane (s : State) (k l : Nat) : State :=
  let tx := s.get (F.OPT_LANE_FADE_TX.ix k l)
  let rx := s.get (F.OPT_LANE_FADE_RX.ix k l)
  let x := s.optLane k l
  let warn := (decide (100 ≤ max tx rx) && !x.warned) || s.forcedAt 0xE0 (locDie k)
  let s1 := if warn then (s.onLane k l fun y => { y with warned := true }).raiseOpt 0xE0 .ce k l
    else if max tx rx < 70 then s.onLane k l fun y => { y with warned := false }
    else s
  let s2 := s1.onLane k l fun y => { y with
    wants := decide (300 ≤ rx) || (decide (200 ≤ rx) && s.rising k l) || s.flag (F.OPT_LANE_STAT_RX_LOS.ix k l) }
  if l = 8 then
    if 300 ≤ tx then
      let s3 := s2.onOpt k fun p => { p with shadowBad := true }
      if s3.txUse k = 0 then s3.set (F.OPT_PORT_STAT_TX_USE.ix k) 6 else s3
    else if s2.txUse k = 6 ∧ s2.get (ringFld k 8 true) = 3 then
      (s2.onOpt k fun p => { p with shadowBad := false }).set (F.OPT_PORT_STAT_TX_USE.ix k) 0
    else s2
  else if s2.flag F.OPT_CFG_AUTO_MIRROR && ((decide (200 ≤ tx) && s2.get (F.OPT_LANE_STAT_LOC.ix k l) != 5) ||
      s2.forcedAt 0xE1 (locDie k)) then
    s2.need k l 1 (if 300 ≤ tx then 0x66 else 0x33)
  else s2

/-- FIBRE_FADE follows the loss locations of a port (R356). -/
def State.fibre (s : State) (k : Nat) : State :=
  let now := (List.range 9).any (fun l => s.get (F.OPT_LANE_STAT_LOC.ix k l) == 5)
  let s1 := s.put (F.OPT_PORT_STAT_FIBRE_FADE.ix k) now
  if (now && !s.flag (F.OPT_PORT_STAT_FIBRE_FADE.ix k)) || s.forcedAt 0xE7 (locDie k) then
    s1.raiseOpt 0xE7 .ce k (((List.range 9).find? fun l => s.get (F.OPT_LANE_STAT_LOC.ix k l) == 5).getD 0)
  else s1

/-- AVERAGING_WINDOW (R355–R359): the averages of the window, and on a commissioned port its fades and what they bring. A
port without commissioning values evaluates no fade. `errors` are the corrected errors of the window by lane. -/
def execAveragingWindow (port : Nat) (errors : List Nat) (s : State) : Host.Outcome State Fault Refusal :=
  .next (
    let lanes := List.range 9
    let s1 := lanes.foldl (fun t l => t.averageLane port l ((errors[l]?).getD 0)) s
    let s2 := if s1.flag (F.OPT_PORT_STAT_COMMISSIONED.ix port) then
        lanes.foldl (fun t l => t.fadeLane port l) s1
      else s1
    let s3 := s2.fibre port
    lanes.foldl (fun t l => t.actLane port l) s3)

/-! The shadow lane on the way in (R350, R351, R360). -/

/-- SHADOW_MARKER (R350, R360): a marker of the shadow lane for a lane; `equal` says that bytes 0 to 13 equal those of
the lane's own marker, `skew` is in lane bytes. After 4 aligned markers the receiver may take the lane at a marker;
it returns at a marker with 0x99, or once a ring that it relocked is locked. -/
def execShadowMarker (port lane code inverse : Nat) (equal : Bool) (skew : Nat) (s : State) :
    Host.Outcome State Fault Refusal :=
  .next (
    let valid := inverse + code == 255 && (code == 0x33 || code == 0x66 || code == 0x99) && decide (lane < 8)
    let p := s.optPort port
    let run := if valid && equal && decide (skew ≤ 2048) then
        (if p.runLane = lane then min 4 (p.run + 1) else 1) else 0
    let s1 := s.onOpt port fun p => { p with run := run, runLane := lane }
    let locked := s1.get (ringFld port lane false) == 3 && !s1.flag (F.OPT_LANE_STAT_RX_LOS.ix port lane)
    let x := s1.optLane port lane
    if !valid then s1
    else if s1.rxShadow port = lane then
      if s1.rxUse port ≠ 4 ∧ locked = true ∧
          (code = 0x99 ∨ (run = 4 ∧ (s1.rxUse port = 2 ∨ s1.rxUse port = 3))) then s1.returnRx port lane
      else s1
    else if s1.rxShadow port ≠ 15 ∨ run < 4 ∨ code = 0x99 then s1
    else if x.wants then s1.takeRx port lane 1
    else if p.req = some lane then s1.takeRx port lane (if p.reqCal then 3 else 2)
    else if code = 0x66 ∨ s1.forcedAt 0xE2 (locDie port) = true then s1.takeRx port lane 5
    else s1)

/-- What a report changes on the transmit shadow (R354, R361, R363, R364). -/
def State.actReport (s : State) (k : Nat) : State :=
  let p := s.optPort k
  let on := s.txShadow k
  let use := s.txUse k
  if on = 15 then
    match p.farReq with
    | some l => s.need k l 5 0x33
    | none => s
  else if p.farOn = some on then
    if use = 2 ∧ s.get (ringFld k on true) = 4 then s.set (ringFld k on true) 1
    else if use = 3 ∧ p.calStep = 2 then (s.set (ringFld k on true) 1).onOpt k fun p => { p with calStep := 3 }
    else if use = 1 ∧ (s.flag F.OPT_CFG_AUTO_RETIRE || s.forcedAt 0xE3 (locLaser (laserOf k on))) = true ∧
        s.get (F.OPT_LANE_STAT_LOC.ix k on) ≠ 5 then s.retireLaser k on
    else s
  else if use ≠ 4 ∧ (p.code = 0x99 ∨ p.shadowBad = true ∨ (use = 5 ∧ p.farReq ≠ some on)) then
    (s.stopMirror k).onOpt k fun p => { p with calStep := if p.calStep = 4 then 5 else p.calStep }
  else if use = 3 ∧ p.calStep = 1 ∧ p.farAligned = true then s.onOpt k fun p => { p with calStep := 2, code := 0x66 }
  else s

/-- REPORT_UNIT (R351): a unit of 16 bytes with its SYNC and a good CRC brings one item, and what the far receiver takes,
finds aligned and asks for. -/
def execReportUnit (port : Nat) (unit : List Byte) (s : State) : Host.Outcome State Fault Refusal :=
  .next (if unit.length = 16 ∧ beAt unit 0 2 = 0x6996 ∧ crc16 0 (unit.take 14) = beAt unit 14 2 then
      let l := beAt unit 2 1 / 16
      let kind := beAt unit 2 1 % 16
      let v := beAt unit 4 2
      let b := beAt unit 6 1
      let on := b / 16
      let s1 := if 8 < l then s
        else if kind = 1 then s.set (F.OPT_LANE_FAR_FAR_PWR.ix port l) v
        else if kind = 2 then s.set (F.OPT_LANE_FAR_FAR_FADE.ix port l) v
        else if kind = 3 then s.onLane port l fun x => { x with farErrs := v }
        else s
      let s2 := (s1.set (F.OPT_PORT_STAT_REPORTS_OK.ix port) 1).onOpt port fun p => { p with
        farOn := if on = 15 then none else some on
        farAligned := bit b 3
        farReq := if bit b 2 then some (beAt unit 7 1 % 16) else none }
      (s2.actReport port).calTry port
    else s)

/-- REPORTS_OK_LAPSE (R351, R363): no good unit for 1 ms. -/
def execReportsOkLapse (port : Nat) (s : State) : Host.Outcome State Fault Refusal :=
  .next (s.set (F.OPT_PORT_STAT_REPORTS_OK.ix port) 0)

/-- LANE_LOSS (R362): 10 µs of loss of signal on a receive lane. A lane that an aligned mirror covers is taken from it at
the next marker; any other data lane takes its port down. -/
def execLaneLoss (port lane : Nat) (s : State) : Host.Outcome State Fault Refusal :=
  .next (
    let s1 := s.set (F.OPT_LANE_STAT_RX_LOS.ix port lane) 1
    if lane = 8 then s1
    else if s1.mirrored port lane && !s1.forcedAt 0xE6 (locDie port) then
      s1.onLane port lane fun x => { x with wants := true }
    else s1.laneLost port lane)

/-- MIRROR_RELEASE (Table OPT-10): the transmit fade has stayed below 1.5 dB for 60 s, with the receiver not switched. -/
def execMirrorRelease (port : Nat) (s : State) : Host.Outcome State Fault Refusal :=
  .next (
    let l := s.txShadow port
    if s.txUse port = 1 ∧ (s.optPort port).farOn ≠ some l ∧ s.get (F.OPT_LANE_FADE_TX.ix port l) < 150 then
      s.stopMirror port
    else s)

/-! Calibration (R364). -/

/-- CALIBRATION_TIMER (R364): CAL_S has passed. -/
def execCalibrationTimer (port : Nat) (s : State) : Host.Outcome State Fault Refusal :=
  .next (if s.flag F.OPT_CFG_AUTO_CAL && s.get F.OPT_CAL_CFG_CAL_S != 0 && !s.fatal then
      (s.onOpt port fun p => { p with calDue := true }).calTry port
    else s)

/-- CAL_NOW (R364): a pass is due at once, and starts when its conditions hold. -/
def execCalNow (port : Nat) (s : State) : Host.Outcome State Fault Refusal :=
  .next (s.hostWrite 22 fun t => (t.onOpt port fun p => { p with calDue := true }).calTry port)

/-- CAL_CANCEL (R364): a pass is aborted without a fault. -/
def execCalCancel (port : Nat) (s : State) : Host.Outcome State Fault Refusal :=
  .next (s.hostWrite 22 fun t => (t.endCal port).onOpt port fun p =>
    if p.reqCal then { p with req := if t.rxUse port = 3 then p.req else none, reqCal := false } else p)

/-- CALIBRATION_LANE_DONE (R364): the pass moves to its next lane; after lanes 0 to 7 it calibrates the shadow lane
itself, and with that it ends. -/
def execCalibrationLaneDone (port : Nat) (s : State) : Host.Outcome State Fault Refusal :=
  .next (
    let l := s.get (F.OPT_PORT_CAL_LANE.ix port)
    if l = 8 then (s.setAll [(F.OPT_PORT_CAL_LANE.ix port, 15), (F.OPT_PORT_CAL_SINCE_S.ix port, 0)]).onOpt port fun p =>
      { p with calStep := 0 }
    else if l < 8 ∧ (s.optPort port).calStep = 5 then
      if s.forcedAt 0xE8 (locDie port) then (s.endCal port).raiseOpt 0xE8 .ce port l
      else ((s.set (F.OPT_PORT_CAL_LANE.ix port) (l + 1)).onOpt port fun p => { p with calStep := 0 }).calTry port
    else s)

/-! Commissioning (R357). -/

/-- OPT_COMMISSION (R357): GO starts the averaging in MAINTENANCE mode, on a port that is up, while no shadow carries a
copy. -/
def execOptCommission (port : Nat) (s : State) : Host.Outcome State Fault Refusal :=
  .next (s.hostWrite 22 fun t =>
    let t1 := t.set F.OPT_COMMISSION_PORT port
    if t.maintenance && t.portUp port && t.txShadow port == 15 && t.rxShadow port == 15 then
      t1.onOpt port fun p => { p with commissioning := true }
    else t1)

/-- The commissioning values of a lane. -/
def State.commissionLane (s : State) (k : Nat) (x : LanePower × Nat) : State :=
  s.setAll [(F.OPT_LANE_COMM_A_HIGH.ix k x.2, unsigned 16 x.1.s1), (F.OPT_LANE_COMM_A_LOW.ix k x.2, unsigned 16 x.1.s2),
    (F.OPT_LANE_COMM_B_HIGH.ix k x.2, unsigned 16 x.1.s3), (F.OPT_LANE_COMM_B_LOW.ix k x.2, unsigned 16 x.1.s4)]

/-- COMMISSIONING_DONE (R357): the averages of 1 s, by lane, become the commissioning values, and the journal records
them. -/
def execCommissioningDone (port : Nat) (powers : List LanePower) (s : State) : Host.Outcome State Fault Refusal :=
  .next (if (s.optPort port).commissioning then
      let s1 := ((powers.take 9).zipIdx).foldl (fun t x => t.commissionLane port x) s
      (((s1.set (F.OPT_PORT_STAT_COMMISSIONED.ix port) 1).setBit F.OPT_STAT_COMMISSIONED port true).onOpt port fun p =>
        { p with commissioning := false }).journal
    else s)

/-! Lasers (R361, R367). -/

/-- OPT_LASER_RESTORE (R361): in MAINTENANCE mode, while its port is DOWN or FAILED, a retired laser returns to
service. -/
def execOptLaserRestore (laser : Nat) (s : State) : Host.Outcome State Fault Refusal :=
  .next (s.hostWrite 22 fun t =>
    let t1 := t.set F.OPT_LASER_RESTORE_LASER laser
    let k := portOfLaser laser
    let l := laser % 9
    if t.maintenance && t.portStill k && t.getBit (F.OPT_LASER_RETIRED_RETIRED.ix (laser / 32)) (laser % 32) then
      let t2 := ((t1.setBit (F.OPT_LASER_RETIRED_RETIRED.ix (laser / 32)) (laser % 32) false).set
        (F.OPT_LANE_STAT_RETIRED.ix k l) 0).journal
      if t2.txUse k = 4 ∧ t2.txShadow k = l then t2.stopMirror k else t2
    else t1)

/-- One laser follows its bit of a write: a 1 for a retired laser is ignored, and the lasers of a disabled port stay
dark. -/
def State.writeLaser (s : State) (n : Nat) (on : Bool) : State :=
  let retired := s.getBit (F.OPT_LASER_RETIRED_RETIRED.ix (n / 32)) (n % 32)
  if on && retired then s
  else
    let s1 := s.setBit (F.OPT_LASER_EN_EN.ix (n / 32)) (n % 32) on
    { s1 with lit := s1.lit.to n (on && !s.fatal && !s.laserCold (n / 108) && s.flag (F.OPT_PORT_STAT_ENABLED.ix (portOfLaser n))) }

/-- OPT_LASER_EN (R367): lasers are lit or darkened; a dark lane in use shows in its powers as a failed laser does. -/
def execOptLaserEn (word value : Nat) (s : State) : Host.Outcome State Fault Refusal :=
  .next (s.hostWrite 22 fun t =>
    ((List.range 32).foldl (fun u b => if 32 * word + b < 216 then u.writeLaser (32 * word + b) (bit value b) else u)
      t).coveredWrite)

/-- OPT_CNT_CLR (R367): clears the lane counters, re-arms OPT_FE and ends the causes of OPT_EVT. -/
def execOptCntClr (s : State) : Host.Outcome State Fault Refusal :=
  .next (s.hostWrite 22 fun t =>
    let t1 := t.evtEndAll [F.OPT_EVT_LANE_LOSS, F.OPT_EVT_RELOCK_FAIL, F.OPT_EVT_RETIRED, F.OPT_EVT_HANDOVER,
      F.OPT_EVT_WRONG_LOCK, F.OPT_EVT_FADE]
    t1.clearAll ([F.OPT_FE_SOURCE, F.OPT_FE_PORT, F.OPT_FE_LANE, F.OPT_FE_LASER] ++
      (List.range 24).flatMap fun k => (List.range 9).flatMap fun l =>
        [F.OPT_LANE_CNT_WRONG_LOCK.ix k l, F.OPT_LANE_CNT_HANDOVER.ix k l]))

/-- LINE_LANES_LOCKED (R236, R353, R432): the lanes of an enabled line port lock: LOS clears, the framer leaves OFF and frames
are sent. -/
def execLineLanesLocked (port : Nat) (s : State) : Host.Outcome State Fault Refusal :=
  .next (if bit (beAt (imgBody s.image 0x8009 0) (32 + 16 * port) 1) 7 && s.img.first && !s.causeOn port && !s.portCold (16 + port) &&
      !s.fatal then
      let s1 := s.clearAll ((List.range 8).map fun l => F.OPT_LANE_STAT_RX_LOS.ix (16 + port) l)
      (s1.lightPort (16 + port)).losClear port
    else s)

end Sys2Proof.Machine
end

