-- ==== Sys2Proof/Machine/Quern.lean ====
section
/-! DEFINITION. Meanings of the Quern commands (R41–R43, R47–R81, R127, R134): tiles, their attempts, results and drains,
retirement and restoring of blocks, the spare check, scoreboard parity, router flits and Tempo. -/

namespace Sys2Proof.Machine

/-! Retirement (R71–R77). -/

/-- A region that has become RETIRED: NO_BLOCKS, its work fails, and the requests that wait for it to drain are answered:
a phase switch is refused, a new image's phase is loaded at once, a self-test finds it drained (R77, R121, R124). -/
def State.answerDrains (s : State) (r : Nat) : List DrainReq → State
  | [] => s
  | .phase _ (some sid) :: t =>
    ((((s.setDrains r t).phaseRefused r (s.flightId sid) (s.flightItem sid)).failFlight sid).phaseDone
      (some sid)).answerDrains r t
  | .phase _ none :: t => ((s.setDrains r t).phaseRefused r).answerDrains r t
  | .image n :: t => ((s.setDrains r t).switchStopped r n).answerDrains r t
  | .test :: _ => s

/-- The outputs that wait to drain are stored, those of a failed tile as poisoned (R64, R70). -/
def State.flushOuts (s : State) : List TileOut → State
  | [] => s
  | o :: t => (if o.poison then s.poisonRowsAt o.rows else s.storeRows o.rows).flushOuts t

/-- A region whose last working block is gone (R77, R134). Its tiles that have ended still drain, the failed ones as
poisoned (R70). -/
def State.regionRetired (s : State) (r : Nat) : State :=
  let s0 := s.flushOuts ((List.range 32).flatMap fun x => Tab.get [] s.qrn.outs (runKey r x))
  let s1 := (s0.setRegionState r 5).dropAll r
  let s2 := ((s1.answerDrains r (s1.drains r)).regionEvents r).raiseQrn r 0x27 .uc (locRegion r)
  s2.matFails r (s.regionMatrices r)

/-- A block leaves service (R71): its position takes the free spare or becomes vacant (R73, R75), and a region without a
working block is RETIRED. -/
def State.takeOut (s : State) (g : Nat) : State :=
  let r := g / 16
  let b := g % 16
  let free := s.flag (F.QRN_BLK_MAP_SPARE_VALID.reg r)
  let spare := s.get (F.QRN_BLK_MAP_SPARE_PHYS.reg r)
  let map := s.posMap r
  let s1 := (({ s with qrn := { s.qrn with retired := s.qrn.retired.add g, tested := s.qrn.tested.del g } }).setBit
    (F.QRN_BLK_RETIRED_RETIRED.reg r) b true)
  let s2 := s1.set (F.QRN_REG_STAT_WORKING.reg r) (s1.working r).length
  let s3 := match map.findIdx? (· == some b) with
    | some p =>
      let s4 := { s2 with qrn := { s2.qrn with
        pos := Tab.put identityMap s2.qrn.pos r (map.set p (if free then some spare else none)) } }
      if free then s4.setSpare r spare none (some (p, b))
      else if s4.flag (F.QRN_BLK_MAP_REPL_VALID.reg r) && spare == b then s4.setSpare r spare none none
      else s4
    | none => if free && spare == b then s2.set (F.QRN_BLK_MAP_SPARE_VALID.reg r) 0 else s2
  let s5 := s3.regionEvents r
  if (s5.working r).isEmpty then s5.regionRetired r else s5

/-- A retirement takes effect with its record (R71, R371): CE_RETIRE, SPARE_FAIL or SW_RETIRE. -/
def State.retireNow (s : State) (g source : Nat) (force : Bool := false) : State :=
  if s.retiredBlock g then s
  else ((s.raiseQrn (g / 16) source .ce (locBlock g) 0 0 0 true force)).takeOut g

/-- Whether the array that holds a block's position accumulates a tile. -/
def State.blockBusy (s : State) (g : Nat) : Bool :=
  (List.range 32).any fun x =>
    (Tab.find s.qrn.runs (runKey (g / 16) x)).isSome && (s.unitBlocks (g / 16) x).contains (g % 16)

/-- A block is to be retired: at once, or when the tile its own array runs ends (R71). -/
def State.retire (s : State) (g source : Nat) (force : Bool := false) : State :=
  if s.retiredBlock g || (s.qrn.due.any fun d => d.block == g) then s
  else if s.blockBusy g then { s with qrn := { s.qrn with due := s.qrn.due ++ [⟨g, source, force, 0, 0, 0⟩] } }
  else s.retireNow g source force

/-- A retirement that waited takes effect, with its record; TILE_FAIL has the tile's (R70, R71). -/
def State.retireOne (s : State) (d : DueBlock) : State :=
  if d.source = 0x12 then
    (s.raiseQrn (d.block / 16) 0x12 .uc (locBlock d.block) d.desc d.tile d.info2 true d.force).takeOut d.block
  else s.retireNow d.block d.source d.force

/-- Retirements that waited for the tile of their array take effect, in order of detection (R71, R76). -/
def State.retireDue (s : State) : List DueBlock → State
  | [] => s
  | d :: t =>
    if s.blockBusy d.block then s.retireDue t
    else (({ s with qrn := { s.qrn with due := s.qrn.due.filter (· != d) } }).retireOne d).retireDue t

/-! Tiles (R51–R53, R64, R69, R70, R75, R127). -/

/-- The sources armed for the blocks of an array that starts a tile, each with the failure it makes on the lowest block that
its location names (R372). A cell source forced at a coarser location acts at row 0, column 0. -/
def State.armedTile (s : State) (r x : Nat) : List BlockFail :=
  let loc := s.get F.FLT_FORCE_LOC_LOC
  let cell := locLevel loc == 0
  let blocks := (List.range 16).filter fun b => (s.unitBlocks r x).contains b
  [0x01, 0x02, 0x03, 0x10, 0x11, 0x12, 0x13, 0x15].filterMap fun k =>
    (blocks.find? fun b => s.forcedAt k (locBlock (16 * r + b))).map fun b =>
      ⟨b, k, if cell then bits loc 19 14 else 0, if cell then bits loc 13 8 else 0⟩

/-- Sources disarmed. -/
def State.disarmAll (s : State) : List BlockFail → State
  | [] => s
  | f :: t => (s.disarm f.source).disarmAll t

/-- Retirements that armed sources cause. -/
def State.retireArmed (s : State) (r : Nat) : List BlockFail → State
  | [] => s
  | f :: t => (s.retire (16 * r + f.block) f.source true).retireArmed r t

/-- The detection of a failed check (R80): source in [39:32] and the location code of the cell, or of the block for
LATCH_PAR; nothing for a forced block record, which no detection precedes. -/
def failInfo (r : Nat) (f : BlockFail) : Nat :=
  if f.source = 0x11 ∨ f.source = 0x12 then 0
  else f.source * 2 ^ 32 +
    (if f.source = 0x10 then locBlock (16 * r + f.block) else locCell (16 * r + f.block) f.row f.col)

/-- A tile has read a poisoned word (R64): POISON_USED, its descriptor fails, and the matrix in Orthogonalise with it (R86). -/
def State.poisonUsed (s : State) (r sid tile : Nat) : State :=
  let desc := s.flightId sid
  ((s.raiseQrn r 0x25 .uc (locRegion r) desc tile).failFlight sid).matFail r desc
    (if s.excluded r then none else s.orthMatrix)

/-- A tile or subtile starts on an array (R51, R52, R64): the format in QRN_REG_STAT, the preload taken in, the sources armed
for its blocks, and POISON_USED when it reads a poisoned word. -/
def State.startTile (s : State) (r x sid tile : Nat) (part : Option (Nat × Nat)) (e : QEntry) : State :=
  let p := partPlace r e tile part
  let s1 := (s.set (F.QRN_REG_STAT_FMT.reg r) e.fmt).readErrors e.id (s.armedErrors p.a)
  let arms := s1.armedTile r x
  let s2 := s1.disarmAll arms
  let bad := s2.poisonedAny (tileReads e p ++ preReads e p) || s2.forcedAt 0x25 (locRegion r)
  let s3 := if bad then s2.poisonUsed r sid tile else s2
  let now := fun (f : BlockFail) => f.source == 0x13 || f.source == 0x15
  let run : ArrayRun := ⟨sid, tile, part, 1, [], bad, arms.filter (!now ·),
    (arms.filter (!now ·)).foldl (fun m f => Marks.add m f.block) [], s.preRows e p⟩
  ({ s3 with qrn := { s3.qrn with runs := Tab.insert s3.qrn.runs (runKey r x) run } }).retireArmed r (arms.filter now)

/-- The outputs that wait to drain from an array. -/
def State.outsOf (s : State) (r x : Nat) : List TileOut := Tab.get [] s.qrn.outs (runKey r x)

/-- Whether an array of array `a`, or `a` itself, can start a tile (R52): none of its blocks accumulates one, and one of its
two accumulators is free. -/
def State.unitFree (s : State) (r a x : Nat) : Bool :=
  (Tab.find s.qrn.runs (runKey r x)).isNone && (Tab.find s.qrn.runs (runKey r a)).isNone &&
    (x != a || ((s.units r a true).all fun y => (Tab.find s.qrn.runs (runKey r y)).isNone && (s.outsOf r y).isEmpty)) &&
    decide ((s.outsOf r x).length + (if x = a then 0 else (s.outsOf r a).length) < 2)

/-- The next tiles of a descriptor start on array `a` while it can take them: whole ones one by one, or the 64 × 64 subtiles
of a divided array, row by row, each on the lowest of its arrays that is free (R52, R75; DESIGN CHOICE: the spec gives no
dealing of the subtiles). A descriptor whose array has lost its last block fails, its remaining tiles not run (DESIGN CHOICE:
the spec is silent). Tiles after one that has failed run (DESIGN CHOICE: R70 is silent), and so do those of a descriptor that
was in progress when its region began to drain, which R124 lets finish (DESIGN CHOICE: Table QRN-11 says that no new tiles
start). -/
def State.startNext (s : State) (r a sid : Nat) (e : QEntry) : Nat → State
  | 0 => s
  | n + 1 =>
    let w := Tab.get ⟨0, 0, false⟩ s.qrn.work sid
    if e.ntiles ≤ w.tile ∨ 4 ≤ s.regionState r then s
    else if (s.arrayBlocks r a).isEmpty then
      ({ s with qrn := { s.qrn with work := Tab.insert s.qrn.work sid ⟨e.ntiles, 0, false⟩ } }).failFlight sid
    else
      let split := if w.sub = 0 then s.divided r a else w.split
      match (s.units r a split).find? (s.unitFree r a) with
      | none => s
      | some x =>
        let part := if split then some (w.sub / e.subCols, w.sub % e.subCols) else none
        let next : TileWork := if split && decide (w.sub + 1 < e.subs) then ⟨w.tile, w.sub + 1, true⟩ else ⟨w.tile + 1, 0, false⟩
        (({ s with qrn := { s.qrn with work := Tab.insert s.qrn.work sid next } }).startTile r x sid w.tile part
          e).startNext r a sid e n

/-- A TILE whose tiles have all drained is done. -/
def State.tilesDone (s : State) (sid : Nat) (e : QEntry) : State :=
  let w := Tab.get ⟨0, 0, false⟩ s.qrn.work sid
  if decide (e.ntiles ≤ w.tile) && (s.qrn.runs.all fun x => x.2.sid != sid) &&
      s.qrn.outs.all fun x => x.2.all fun o => o.sid != sid then
    ({ s with qrn := { s.qrn with work := Tab.erase s.qrn.work sid } }).onFlight sid fun f => { f with done := true }
  else s

/-- The tiles of a descriptor in progress go on. -/
def State.goOn (s : State) (r sid : Nat) : State :=
  match s.flight sid with
  | none => s
  | some f => (s.startNext r f.unit sid f.entry 17).tilesDone sid f.entry

/-- TILE (R127): the descriptor takes its array and its first tile starts. `errors` are those that its reads meet. -/
def execTile (region : Nat) (errors : List ReadError) (s : State) : Host.Outcome State Fault Refusal :=
  .next (s.issueIn (.tile region) (fun e => e.typ == 1 && (!s.tileOk region e || (s.pickArray region e).isSome))
    (fun e => s.tileOk region e)
    fun e t =>
      match t.pickArray region e with
      | some a => ((t.fly (.tile region) e a false false).readErrors e.id errors).goOn region e.sid
      | none => t)

/-- RETRY_OK (R70, R71): the record, its count, and CE_RETIRE beyond CE_LIMIT. -/
def State.retryOk (s : State) (r desc tile : Nat) (run : ArrayRun) (f : BlockFail) : State :=
  let g := 16 * r + f.block
  let n := Tab.get 0 s.qrn.retryOk g + 1
  let s1 := (s.raiseQrn r 0x11 .ce (locBlock g) desc tile (failInfo r f) false (run.marked.has f.block))
  let s2 := { s1 with qrn := { s1.qrn with retryOk := Tab.insert s1.qrn.retryOk g n } }
  let lim := s.get (F.QRN_RETIRE_CFG_CE_LIMIT.ix (r / 16))
  if lim != 0 && decide (lim < n) then s2.retire g 0x13 else s2

/-- RETRY_OK of several blocks. -/
def State.retryOks (s : State) (r desc tile : Nat) (run : ArrayRun) : List BlockFail → State
  | [] => s
  | f :: t => (s.retryOk r desc tile run f).retryOks r desc tile run t

/-- Detections of a tile count at the cell level (R369). -/
def State.countCells (s : State) (passed : Bool) : Nat → State
  | 0 => s
  | n + 1 => (s.countCell passed).countCells passed n

/-- The first Quern fault of a region is the detection, at its own level (R80). -/
def State.firstDetections (s : State) (r tile : Nat) : List BlockFail → State
  | [] => s
  | f :: _ => if f.source = 0x11 ∨ f.source = 0x12 then s
    else s.firstQrn r f.source (failInfo r f % 2 ^ 32) tile

/-- An array's run written. -/
def State.setRun (s : State) (r x : Nat) (run : ArrayRun) : State :=
  { s with qrn := { s.qrn with runs := Tab.insert s.qrn.runs (runKey r x) run } }

/-- A tile ends (R52, R71): its result waits in its accumulators to drain, the retirements that waited for it take effect,
and the next tile starts if an accumulator is free. -/
def State.endTile (s : State) (r x : Nat) (run : ArrayRun) (e : QEntry) (poison : Bool) : State :=
  let p := partPlace r e run.tile run.part
  let out : TileOut := ⟨run.sid, run.tile, poison, if poison then poisonRows e p else s.tileRows e p run.pre⟩
  let s1 := { s with qrn := { s.qrn with
    runs := Tab.erase s.qrn.runs (runKey r x)
    outs := Tab.put [] s.qrn.outs (runKey r x) (s.outsOf r x ++ [out]) } }
  (s1.retireDue s1.qrn.due).goOn r run.sid

/-- The retirements that a second failed attempt makes due, with those of CE_RETIRE detected at the same instant, in order of
physical block (R76): they join the `old` ones that were detected before. -/
def State.joinDue (s : State) (r old : Nat) (fails : List DueBlock) : State :=
  let new := s.qrn.due.drop old ++ fails
  { s with qrn := { s.qrn with
    due := s.qrn.due.take old ++ (List.range 16).filterMap fun b => new.find? fun d => d.block == 16 * r + b } }

/-- One attempt of a tile ends with the given failed checks (R70). -/
def State.attemptEnd (s : State) (r x : Nat) (run : ArrayRun) (e : QEntry) (given : List BlockFail) : State :=
  let fails := given ++ run.forced
  let s0 := s.firstDetections r run.tile fails
  let desc := s0.flightId run.sid
  let read := !run.poison && s0.poisonedAny (tileReads e (partPlace r e run.tile run.part))
  if run.poison then s0.endTile r x run e true
  else if read then (s0.poisonUsed r run.sid run.tile).endTile r x run e true
  else if run.attempt = 1 then
    if fails.isEmpty then s0.endTile r x run e false
    else
      (s0.bump (F.QRN_CNT_A_RETRY.reg r)).setRun r x { run with
        attempt := 2
        fails := fails
        forced := run.forced.filter fun f => f.source == 0x12 }
  else
    let first := run.fails
    let one := (first.filter fun f => !(fails.any fun g => g.block == f.block)) ++
      (fails.filter fun f => !(first.any fun g => g.block == f.block))
    let oneBlocks := (List.range 16).filterMap fun b => one.find? fun f => f.block == b
    let both := (List.range 16).filter fun b =>
      (first.any fun f => f.block == b) && fails.any fun f => f.block == b
    let passed := fails.isEmpty
    let s1 := s0.countCells passed (first.length + fails.length)
    let s2 := s1.retryOks r desc run.tile run oneBlocks
    if passed then s2.endTile r x run e false
    else
      let info2 := match first.head? with
        | some f => failInfo r f
        | none => 0
      let due := both.map fun b => (⟨16 * r + b, 0x12, run.marked.has b, desc, run.tile, info2⟩ : DueBlock)
      let s3 := if both.isEmpty then
          match (List.range 16).find? fun b => fails.any fun f => f.block == b with
          | some b => s2.raiseQrn r 0x12 .uc (locBlock (16 * r + b)) desc run.tile info2 false (run.marked.has b)
          | none => s2
        else s2.joinDue r s1.qrn.due.length (due.filter fun d => !(s1.qrn.due.any fun o => o.block == d.block))
      let early := fun (d : DueBlock) => s1.qrn.due.any fun o => o.block == d.block
      let s4 := (due.filter early).foldl (fun t d =>
        t.raiseQrn r 0x12 .uc (locBlock d.block) desc run.tile info2 true d.force) s3
      ((s4.failFlight run.sid).matFail r desc (if s.excluded r then none else s.orthMatrix)).endTile r x run e true

/-- TILE_ATTEMPT_END (R70): the attempt on an array ends. Arrays from 16 on are the 64 × 64 arrays that a divided array runs
as (R75), 16 + position. -/
def execTileAttemptEnd (region array : Nat) (fails : List BlockFail) (s : State) : Host.Outcome State Fault Refusal :=
  .next (match Tab.find s.qrn.runs (runKey region array) with
    | some run => match s.flight run.sid with
      | some f => s.attemptEnd region array run f.entry fails
      | none => s.clearTiles (· == run.sid)
    | none => s)

/-- The output of a tile drains to region SRAM (R52, R53, R59, R64): its rows, or poison marks; tiles with a NaN and
tiles with an infinity count, and either makes the matrix in Orthogonalise non-finite (R86). -/
def State.drainTile (s : State) (r : Nat) (e : QEntry) (o : TileOut) : State :=
  let s1 := s.add64 (F.QRN_TILES_LO_TILES.reg r) (F.QRN_TILES_HI_TILES.reg r) 1
  if o.poison then s1.poisonRowsAt o.rows
  else
    let w := e.outBytes
    let has := fun nan => o.rows.any fun x =>
      (List.range (x.2.length / w)).any fun j => drainedIs nan (slice x.2 (j * w) w)
    let nan := has true
    let inf := has false
    let s2 := s1.storeRows o.rows
    let s3 := if nan then s2.bump (F.QRN_CNT_C_NAN.reg r) else s2
    let s4 := if inf then s3.bump (F.QRN_CNT_C_INF.reg r) else s3
    match if (nan || inf) && !s.excluded r then s.orthMatrix else none with
    | some m => (s4.nonFinite r e.id m (s.get F.UPD_ORTH_POS_ITER) (s.get F.UPD_ORTH_POS_PRODUCT)).giveAll
    | none => s4

/-- TILE_DRAIN (R52): the oldest result that an array's accumulators hold stands in region SRAM; the next tile that waited
for an accumulator starts, or the descriptor is done. `errors` are those that the reads of the tiles at work meet. -/
def execTileDrain (region array : Nat) (errors : List ReadError) (s : State) : Host.Outcome State Fault Refusal :=
  .next (match s.outsOf region array with
    | [] => s
    | o :: rest => match s.flight o.sid with
      | none => s.clearTiles (· == o.sid)
      | some f =>
        let s1 := (s.drainTile region f.entry o).readErrors f.entry.id errors
        ({ s1 with qrn := { s1.qrn with outs := Tab.put [] s1.qrn.outs (runKey region array) rest } }).goOn region o.sid)

/-- SW_RETIRE of several blocks, lowest first. -/
def State.swRetire (s : State) (r mask : Nat) : List Nat → State
  | [] => s
  | b :: t => (if bit mask b then s.retire (16 * r + b) 0x15 else s).swRetire r mask t

/-- SW_RETIRE (R71): bits written to QRN_BLK_RETIRE. -/
def execSwRetire (region mask : Nat) (s : State) : Host.Outcome State Fault Refusal :=
  .next (s.hostWrite (4 + region / 16) fun t => t.swRetire region mask (List.range 16))

/-- A block returns to service (R78): it takes the lowest vacant position; else it becomes the spare, where the image
reserves one that is consumed; else it stays idle. -/
def State.restoreBlock (s : State) (r b : Nat) : State :=
  let g := 16 * r + b
  if !s.retiredBlock g || !s.qrn.tested.has g then s
  else
    let s1 := (({ s with qrn := { s.qrn with retired := s.qrn.retired.del g } }).setBit
      (F.QRN_BLK_RETIRED_RETIRED.reg r) b false).journal
    let s2 := s1.set (F.QRN_REG_STAT_WORKING.reg r) (s1.working r).length
    let map := s2.posMap r
    let vacant := (List.range 16).find? fun p => (map[p]?).getD none == none && !(p == 15 && s2.spareRes r)
    let s3 := match vacant with
      | some p => { s2 with qrn := { s2.qrn with pos := Tab.put identityMap s2.qrn.pos r (map.set p (some b)) } }
      | none =>
        if s2.spareRes r && !s2.flag (F.QRN_BLK_MAP_SPARE_VALID.reg r) then
          (s2.set (F.QRN_BLK_MAP_SPARE_PHYS.reg r) b).set (F.QRN_BLK_MAP_SPARE_VALID.reg r) 1
        else s2
    if s3.regionState r == 5 then ((s3.setRegionState r 0).regionEvents r).enterDue r else s3.regionEvents r

/-- Several blocks return to service, lowest first. -/
def State.restoreBlocks (s : State) (r mask : Nat) : List Nat → State
  | [] => s
  | b :: t => (if bit mask b then s.restoreBlock r b else s).restoreBlocks r mask t

/-- QRN_BLK_RESTORE (R78): ignored outside MAINTENANCE mode and for a block that is not retired and tested since. -/
def execQrnBlkRestore (region mask : Nat) (s : State) : Host.Outcome State Fault Refusal :=
  .next (s.hostWrite (4 + region / 16) fun t =>
    if t.maintenance then t.restoreBlocks region mask (List.range 16) else t)

/-- SPARE_CHECK (R74): a reserved, unused spare that fails its check tile is retired. -/
def execSpareCheck (region : Nat) (passed : Bool) (s : State) : Host.Outcome State Fault Refusal :=
  .next (
    let g := 16 * region + s.get (F.QRN_BLK_MAP_SPARE_PHYS.reg region)
    if s.flag (F.QRN_BLK_MAP_SPARE_VALID.reg region) && s.flag (F.QRN_RETIRE_CFG_SPARE_CHECK.ix (region / 16)) &&
        (!passed || s.forcedAt 0x14 (locBlock g)) then s.retireNow g 0x14
    else s)

/-- A region stops with scoreboard parity (R34, Table QRN-11): its tiles end, and its descriptors in progress fail. -/
def State.stopRegion (s : State) (r : Nat) : State :=
  let mine := fun (f : Flight) => qRegion f.queue == some r
  let stop := fun (f : Flight) => if mine f then { f with failed := true, done := true } else f
  let s1 := ((s.setRegionState r 4).clearTiles fun sid => s.sched.flights.any fun f => mine f && f.entry.sid == sid)
  { s1 with sched := { s1.sched with flights := s1.sched.flights.map stop } }

/-- The tiles of a descriptor stop, and the retirements that waited for them take effect (R71, R132). -/
def State.endTiles (s : State) (sid : Nat) : State :=
  let s1 := s.clearTiles (· == sid)
  s1.retireDue s1.qrn.due

/-- SCB_PAR (R34): the region stops with a UC fault; the chip scheduler restarts it when AUTO_RESTART is 1 (R134). One that
stays STOPPED switches at once to an image being applied (R121). -/
def execScbPar (region : Nat) (s : State) : Host.Outcome State Fault Refusal :=
  .next (
    if s.regionState region == 4 || s.regionState region == 5 then s
    else
      let s0 := ((s.stopRegion region).regionEvents region).raiseQrn region 0x24 .uc (locRegion region)
      let s1 := (s0.matFails region (s.regionMatrices region)).retireDue s0.qrn.due
      if s1.flag F.SEQ_CFG_AUTO_RESTART && !s1.fatal then s1.restart region
      else if s1.regionState region == 4 then s1.switchDue region
      else s1)

/-- SEQ_RESTART (R134): GO restarts REGION if it is STOPPED. -/
def execSeqRestart (region : Nat) (s : State) : Host.Outcome State Fault Refusal :=
  .next (s.hostWrite 3 fun t => (t.set F.SEQ_RESTART_REGION region).restart region)

/-- FLIT_RESENT (R34): a router flit is resent (CE); a second failure fails its descriptor (UC). -/
def execFlitResent (queue : QueueId) (sid : Nat) (second : Bool) (s : State) : Host.Outcome State Fault Refusal :=
  .next (match qRegion queue with
    | none => s
    | some r =>
      let desc := s.flightId sid
      let s1 := (s.bump (F.QRN_CNT_B_FLIT.reg r)).raiseQrn r 0x22 .ce (locRegion r) desc
      if second || s1.forcedAt 0x23 (locRegion r) then (s1.raiseQrn r 0x23 .uc (locRegion r) desc).failFlight sid
      else s1)

/-- QRN_CNT_CLR (R81): counters clear, and the first-error registers are re-armed. -/
def execQrnCntClr (region : Nat) (s : State) : Host.Outcome State Fault Refusal :=
  .next (s.hostWrite (4 + region / 16) fun t => t.clearAll
    [F.QRN_CNT_A_RETRY.reg region, F.QRN_CNT_A_SRAM_CE.reg region, F.QRN_CNT_B_SRAM_UC.reg region,
     F.QRN_CNT_B_FLIT.reg region, F.QRN_CNT_C_NAN.reg region, F.QRN_CNT_C_INF.reg region,
     F.QRN_FE_LOC_LOC.reg region, F.QRN_FE_SRC_SOURCE.reg region, F.QRN_FE_SRC_TILE.reg region])

/-! Tempo (R41–R43). -/

/-- The low-rate condition of a region after one more window (R43). -/
def State.lowRate (s : State) (r rate : Nat) : State :=
  let low := decide (rate < s.get (F.QRN_TEMPO_CFG_LOW_MTS.ix (r / 16)))
  let lo := if low then min 3 (Tab.get 0 s.qrn.lowRun r + 1) else 0
  let hi := if low then 0 else min 3 (Tab.get 0 s.qrn.highRun r + 1)
  let s1 := { s with qrn := { s.qrn with
    lowRun := Tab.put 0 s.qrn.lowRun r lo
    highRun := Tab.put 0 s.qrn.highRun r hi } }
  if (lo == 3 && !s1.qrn.lowRaised.has r) || s1.forcedAt 0x26 (locRegion r) then
    (({ s1 with qrn := { s1.qrn with lowRaised := s1.qrn.lowRaised.add r } }).evt
      (F.QRN_EVT_LOW_RATE.reg r)).raiseQrn r 0x26 .ce (locRegion r) 0 0 0
  else if hi == 3 && s1.qrn.lowRaised.has r then
    ({ s1 with qrn := { s1.qrn with lowRaised := s1.qrn.lowRaised.del r } }).evtEnd (F.QRN_EVT_LOW_RATE.reg r)
  else s1

/-- The reports of a window, region by region (R42). -/
def State.tempo (s : State) (r : Nat) : List TempoReport → State
  | [] => s
  | x :: t =>
    let rate := min 65535 (x.completions / 10)
    ((s.setAll [(F.QRN_TEMPO_RATE_SEQ.reg r, s.get (F.QRN_TEMPO_RATE_SEQ.reg r) + 1),
      (F.QRN_TEMPO_RATE_BUSY.reg r, min 255 x.busy), (F.QRN_TEMPO_RATE_RATE_MTS.reg r, rate)]).lowRate r rate).tempo
      (r + 1) t

/-- QRN_SLOWEST of a die: the region with the lowest rate, the lowest number on a tie. -/
def State.slowestRegion (s : State) (d : Nat) : State :=
  let rate := fun l => s.get (F.QRN_TEMPO_RATE_RATE_MTS.ix d l)
  let best := (List.range 16).foldl (fun b l => if rate l < rate b then l else b) 0
  s.setAll [(F.QRN_SLOWEST_REGION.ix d, 16 * d + best), (F.QRN_SLOWEST_RATE_MTS.ix d, rate best)]

/-- TEMPO_WINDOW (R42): a window of 10 µs ends; reports begin once the time unit runs (R41). -/
def execTempoWindow (reports : List TempoReport) (s : State) : Host.Outcome State Fault Refusal :=
  .next (if s.time.running then
      (((((s.tempo 0 (reports.take 64)).slowestRegion 0).slowestRegion 1).slowestRegion 2).slowestRegion 3)
    else s)

end Sys2Proof.Machine
end

