-- ==== Sys2Proof/Machine/TimeCmd.lean ====
section
/-! DEFINITION. Meanings of the time commands (R316–R326, R342, R343): increment, set, step and slew, what a step moves, the
loss of REFCLK_T, PPS, and IEEE 1588. -/

namespace Sys2Proof.Machine

/-- The location code of a time unit (R342). -/
def locTime (hub : Nat) : Nat := locChip (0x62 + hub)

/-! Ticks (R316, R319). -/

/-- One nanosecond in units of the accumulator's fraction. -/
def nsUnit : Nat := 2 ^ 32

/-- The effective increment of a tick in 2^−32 ns and what is left of the slew: 1,000 ppm of the increment in the direction
of the offset, until it has been added or removed (Table TIM-1). -/
def slewTick (inc : Nat) (left : Int) : Int × Int :=
  let step : Int := (inc / 1000 : Nat)
  if left = 0 then ((inc : Int), 0)
  else if 0 < left then
    let d := min left step
    ((inc : Int) + d, left - d)
  else
    let d := min (-left) step
    ((inc : Int) - d, left + d)

/-- The causes of TIM_EVT that last until the next write of TIM_ADJ_CTL or TIM_SET_CTL. -/
def State.timWrite (s : State) : State :=
  s.evtEndAll [F.TIM_EVT_PPS_IN_LOST, F.TIM_EVT_REFUSED, F.TIM_EVT_TU_SKEW, F.TIM_EVT_TIME_STEP]

/-- What waits for the next tick besides a set and a step is taken. -/
def State.takeRates (s : State) : State :=
  let t := s.time
  let s1 := { s with time := { t with
    inc := t.nextInc.getD t.inc, nextInc := none
    slewLeft := t.nextSlew.getD t.slewLeft, nextSlew := none } }
  if t.nextSlew.isSome then s1.put F.TIM_STAT_SLEWING (t.nextSlew != some 0) else s1

/-! A set or step (R319, R320). -/

/-- A network time moved by a number of nanoseconds. -/
def moved (d : Int) (t : Nat) : Nat := unsigned 64 ((t : Int) + d)

/-- A time stamp in 2^−16 ns moved. -/
def movedStamp (d : Int) (t : Nat) : Nat := unsigned 80 ((t : Int) + d * 65536)

/-- A descriptor's times moved. -/
def QEntry.move (d : Int) (e : QEntry) : QEntry := { e with disp := moved d e.disp, deadline := e.deadline.map (moved d) }

/-- A queued segment's times moved. -/
def QSeg.move (d : Int) (x : QSeg) : QSeg :=
  { x with since := moved d x.since, seg := { x.seg with sentAt := moved d x.seg.sentAt } }

/-- A waiting message's times moved. -/
def LineMsg.move (d : Int) : LineMsg → LineMsg
  | .echoReply t1 t2 => .echoReply t1 (moved d t2)
  | .ptp b i h o => .ptp b (i.map (movedStamp d)) h o
  | m => m

/-- Every armed deadline, lease, timer and measurement is moved with the time, and the echoes in flight are discarded
(R320). -/
def State.moveIntervals (s : State) (d : Int) : State :=
  { s with
    sched := { s.sched with
      queues := Tab.change [] (List.map (QEntry.move d)) s.sched.queues
      flights := s.sched.flights.map fun f => { f with entry := f.entry.move d }
      items := s.sched.items.map fun x => (x.1, moved d x.2)
      stepOpen := s.sched.stepOpen.map (moved d) }
    step := { s.step with orthSince := moved d s.step.orthSince }
    late := s.late.map fun x => (x.1, moved d x.2)
    mbr := { s.mbr with info := s.mbr.info.map fun x => (x.1, { x.2 with
      reachAt := (((x.2.reachAt : Int) * 1000000 + d) / 1000000).toNat }) }
    fab := { s.fab with lastSel := s.fab.lastSel.map (moved d) }
    lhl := { s.lhl with
      groups := Tab.change GroupSt.idle (fun g => if g = GroupSt.idle then g else { g with asked := moved d g.asked })
        s.lhl.groups
      ports := Tab.change LineSt.idle (fun l => { l with out := l.out.map (LineMsg.move d) }) s.lhl.ports
      heard := s.lhl.heard.map fun h => { h with stamp := movedStamp d h.stamp } }
    mlr := { s.mlr with
      retain := s.mlr.retain.map fun x => { x with sentAt := moved d x.sentAt }
      echoes := [] }
    slu := { s.slu with
      queues := Tab.change [] (List.map (QSeg.move d)) s.slu.queues
      held := Tab.change [] (List.map (QSeg.move d)) s.slu.held } }

/-- H0's time written: seconds, and nanoseconds below 10^9. -/
def State.setTime (s : State) (total : Int) : State :=
  let t := unsigned 80 total
  { s with time := { s.time with sec := t / 1000000000 % 2 ^ 48, ns := t % 1000000000 } }

/-- H0's time in nanoseconds. -/
def State.totalNs (s : State) : Nat := s.time.sec * 1000000000 + s.time.ns

/-- A set or step takes effect at a tick (R320): intervals move, gate cycles follow the new time, TIME_STEP is raised, and a
step forward across second boundaries restarts the counts of the second (R441) and, while time is valid, gives one latch. -/
def State.stepTo (s : State) (total : Int) : State :=
  let sec := s.time.sec
  let s1 := ((s.setTime total).moveIntervals (total - s.totalNs)).followGates
  let s2 := (s1.evt F.TIM_EVT_TIME_STEP).raise 0xD2 .ce (locTime 0)
  if sec < s2.time.sec then s2.secondBoundary else s2

/-- A pending set is applied; time is valid from then on (R318). -/
def State.applySet (s : State) : State :=
  match s.time.nextSet with
  | none => s
  | some x =>
    let s1 := { s with time := { s.time with nextSet := none, frac := 0 } }
    (s1.stepTo ((x.1 * 1000000000 + x.2 : Nat) : Int)).set F.TIM_STAT_VALID 1

/-- A pending step is applied. -/
def State.applyStep (s : State) : State :=
  match s.time.nextStep with
  | none => s
  | some d => ({ s with time := { s.time with nextStep := none } }).stepTo (s.totalNs + d)

/-- The time left in a register after some of it has passed. An interval ends with the command of its expiry, so one that
runs still shows 1 (DESIGN CHOICE). -/
def timeLeft (left passed : Nat) : Nat := if left = 0 then 0 else max 1 (left - passed)

/-- The registers that show a time left in ms: the heartbeat lease (R284), the loader slots' leases and the HOST key slots'
leases (R315). -/
def leaseFlds : List Fld :=
  F.MBR_HB_LEFT_MS :: ((List.range 4).map F.IMG_SLOT_LEASE_MS.ix ++ (List.range 64).map F.CRY_KSLOT_LEASE_MS.ix)

/-- Milliseconds of network time have passed: leases run down, and reach reports age (R273). -/
def State.passMs (s : State) (n : Nat) : State :=
  if n = 0 then s else (s.setAll (leaseFlds.map fun f => (f, timeLeft (s.get f) n))).growAges

/-- A second of network time has passed: each running WTR falls (R248), and the time since the last calibration of each
optical port grows. -/
def State.passSecond (s : State) : State :=
  (List.range 24).foldl (fun t k => t.bump (F.OPT_PORT_CAL_SINCE_S.ix k))
    (s.setAll ((List.range 2).map fun g => (F.LHL_PG_STAT_WTR_LEFT.ix g, timeLeft (s.get (F.LHL_PG_STAT_WTR_LEFT.ix g)) 1)))

/-- Network time runs over a second boundary (R316, R441). -/
def State.crossSecond (s : State) : State :=
  (({ s with time := { s.time with sec := (s.time.sec + 1) % 2 ^ 48 } }).passSecond).secondBoundary

/-- Network time runs over a number of second boundaries, one after the other. -/
def State.crossSeconds (s : State) (k : Nat) : State := (List.range k).foldl (fun t _ => t.crossSecond) s

/-- Network time runs on to a number of 2^−32 ns after the start of the current second: what is counted by ms and by second
follows (R316, R441). -/
def State.runTo (s : State) (n : Nat) : State :=
  let ns := n / nsUnit
  let s1 := { s with time := { s.time with ns := ns % 1000000000, frac := n % nsUnit } }
  (s1.passMs (ns / 1000000 - s.time.ns / 1000000)).crossSeconds (ns / 1000000000)

/-- REFCLK_T is lost (R322): time holds and is invalid, and every optical port goes down. -/
def State.loseRefclk (s : State) : State :=
  if s.causes.has F.TIM_EVT_REFCLK_LOSS.key then s
  else
    let s1 := ({ s with time := { s.time with running := false } }).setAll [(F.TIM_STAT_VALID, 0), (F.TIM_STAT_REFCLK_OK, 0),
      (F.LHL_PM_CTL_PM_VALID, 0)]
    ((s1.evt F.TIM_EVT_REFCLK_LOSS).raise 0xD0 .uc (locTime 0)).linkFaults .refclk [0, 1, 2, 3]

/-- One tick of REFCLK_T (R316, R319), at which an armed REFCLK_LOSS acts (R372): what waits takes effect, the increment is
added to the accumulator, and at 10^9 ns it carries into seconds. -/
def State.tick (s : State) : State :=
  if !s.time.running then s
  else if s.forcedAt 0xD0 (locTime 0) then s.loseRefclk
  else
    let s1 := (s.takeRates.applySet).applyStep
    let x := slewTick s1.time.inc s1.time.slewLeft
    let total := (s1.time.ns * nsUnit + s1.time.frac : Int) + x.1
    let s2 := { s1 with time := { s1.time with slewLeft := x.2 } }
    (if x.2 = 0 then s2.set F.TIM_STAT_SLEWING 0 else s2).runTo total.toNat

/-- SECOND_BOUNDARY (R250, R441): network time reaches its next second, and what is tied to it happens. A unit that does
not count reaches none (R322). -/
def execSecondBoundary (s : State) : Host.Outcome State Fault Refusal :=
  .next (if s.time.running then s.runTo (1000000000 * nsUnit) else s)

/-! Registers. -/

/-- TIM_INC (R316, R318): the HI write commits the increment; one outside 6.000–6.800 ns is ignored whole. -/
def execTimInc (hi : Nat) (s : State) : Host.Outcome State Fault Refusal :=
  .next (s.hostWrite 20 fun t0 =>
    let lo := (Tab.find t0.heldLo F.TIM_INC_LO_INC.base).getD (t0.get F.TIM_INC_LO_INC)
    let t := { t0 with heldLo := Tab.erase t0.heldLo F.TIM_INC_LO_INC.base }
    let inc := hi % 256 * nsUnit + lo % nsUnit
    if 6 * nsUnit ≤ inc ∧ 10 * inc ≤ 68 * nsUnit then
      ({ t with time := { t.time with nextInc := some inc } }).setAll [(F.TIM_INC_LO_INC, lo), (F.TIM_INC_HI_INC, hi % 256),
        (F.TIM_STAT_HOLDOVER, 0)]
    else t)

/-- SET (R319): permitted in any mode while time is not valid, afterwards in MAINTENANCE mode; NS of 10^9 or more is
ignored. -/
def execTimSet (s : State) : Host.Outcome State Fault Refusal :=
  .next (s.hostWrite 20 fun t0 =>
    let t := t0.timWrite
    let ns := t.get F.TIM_SET_NS_VALUE
    let sec := t.get F.TIM_SET_SEC_LO_VALUE + t.get F.TIM_SET_SEC_HI_VALUE % 65536 * 2 ^ 32
    if 1000000000 ≤ ns then t
    else if t.flag F.TIM_STAT_VALID && !t.maintenance then t.evt F.TIM_EVT_REFUSED
    else { t with time := { t.time with nextSet := some (sec, ns) } })

/-- TIM_ADJ as a signed number of nanoseconds. -/
def State.adj (s : State) : Int := signed 32 (s.get F.TIM_ADJ_NS)

/-- STEP (R319): MAINTENANCE mode only. -/
def execTimStep (s : State) : Host.Outcome State Fault Refusal :=
  .next (s.hostWrite 20 fun t0 =>
    let t := t0.timWrite
    if t.maintenance then { t with time := { t.time with nextStep := some t.adj } } else t.evt F.TIM_EVT_REFUSED)

/-- SLEW (R319): any mode; a new slew replaces the rest of the old one. -/
def execTimSlew (s : State) : Host.Outcome State Fault Refusal :=
  .next (s.hostWrite 20 fun t0 =>
    let t := t0.timWrite
    { t with time := { t.time with nextSlew := some (t.adj * nsUnit) } })

/-- SLEW_END (R319): all of TIM_ADJ has been added or removed, and SLEWING reads 0. What is still to be added runs over the
second boundaries that it reaches (R250, R441); what is still to be removed is taken away. -/
def execSlewEnd (s : State) : Host.Outcome State Fault Refusal :=
  .next (if s.flag F.TIM_STAT_SLEWING && s.time.running then
      let s1 := ({ s with time := { s.time with slewLeft := 0 } }).set F.TIM_STAT_SLEWING 0
      if 0 ≤ s.time.slewLeft then s1.runTo (s.time.ns * nsUnit + s.time.frac + s.time.slewLeft.toNat)
      else
        let n := (((s.totalNs * nsUnit + s.time.frac : Nat) : Int) + s.time.slewLeft).toNat
        let s2 := s1.setTime ((n / nsUnit : Nat) : Int)
        { s2 with time := { s2.time with frac := n % nsUnit } }
    else s)

/-- TIME_STEP (R319, R320): the set and the step that wait take effect at a tick. -/
def execTimeStep (s : State) : Host.Outcome State Fault Refusal :=
  .next (if s.time.running then s.applySet.applyStep else s)

/-- TIM_SNAP (R343): H0's network time is copied. -/
def execTimSnap (s : State) : Host.Outcome State Fault Refusal :=
  .next (s.hostWrite 20 fun t => t.setAll [(F.TIM_SNAP_SEC_LO_VALUE, t.time.sec),
    (F.TIM_SNAP_SEC_HI_VALUE, t.time.frac / 65536 * 65536 + t.time.sec / 2 ^ 32 % 65536), (F.TIM_SNAP_NS_VALUE, t.time.ns)])

/-! REFCLK_T and the units (R318, R321, R322). -/

/-- REFCLK_LOSS (R322). -/
def execRefclkLoss (s : State) : Host.Outcome State Fault Refusal := .next s.loseRefclk

/-- REFCLK_RETURN (R322): counting resumes from the held value; time stays invalid until it is set. -/
def execRefclkReturn (s : State) : Host.Outcome State Fault Refusal :=
  .next (if s.causes.has F.TIM_EVT_REFCLK_LOSS.key then
      let s1 := (({ s with time := { s.time with running := true } }).set F.TIM_STAT_REFCLK_OK 1).evtEnd F.TIM_EVT_REFCLK_LOSS
      s1.linkClears .refclk [0, 1, 2, 3]
    else s)

/-- TIME_UNIT_SYNC (R321): H1 is found to differ from H0 by a number of nanoseconds. More than 4 ns, and it takes H0's time
at once with TU_SKEW; otherwise it keeps within 1 ns. -/
def execTimeUnitSync (diff : Int) (s : State) : Host.Outcome State Fault Refusal :=
  .next (if !s.time.running then s
    else if 4 < diff ∨ diff < -4 ∨ s.forcedAt 0xD1 (locTime 1) then
      (({ s with time := { s.time with skew := 0 } }).evt F.TIM_EVT_TU_SKEW).raise 0xD1 .ce (locTime 1)
    else { s with time := { s.time with skew := max (-1) (min 1 diff) } })

/-- HOLDOVER (R318): no increment has been written for HOLD_S seconds. -/
def execHoldover (s : State) : Host.Outcome State Fault Refusal :=
  .next (if s.time.running then s.set F.TIM_STAT_HOLDOVER 1 else s)

/-! PPS (R342, R343). -/

/-- PPS_IN_EDGE (R343): stamped and counted. -/
def execPpsInEdge (s : State) : Host.Outcome State Fault Refusal :=
  .next (((s.set64 F.TIM_PPS_IN_LO_NS64 F.TIM_PPS_IN_HI_NS64 s.ns64).bump F.TIM_PPS_IN_CNT_EDGES).set F.TIM_STAT_PPS_IN_SEEN
    1)

/-- PPS_IN_LOST (R342, R372): no edge for 1.5 s after one was seen, or the source is armed. -/
def execPpsInLost (s : State) : Host.Outcome State Fault Refusal :=
  .next (if (s.flag F.TIM_STAT_PPS_IN_SEEN || s.forcedAt 0xD3 (locTime 0)) && s.time.running then
      ((s.set F.TIM_STAT_PPS_IN_SEEN 0).evt F.TIM_EVT_PPS_IN_LOST).raise 0xD3 .ce (locTime 0)
    else s)

/-- PPS_OUT_EDGE (R343): PPS_OUT rises while it is enabled and time is valid. -/
def execPpsOutEdge (s : State) : Host.Outcome State Fault Refusal :=
  .next (if s.flag F.TIM_PPS_CFG_OUT_EN && s.flag F.TIM_STAT_VALID then
      ({ s with time := { s.time with ppsOut := true } }).emit (.ppsOut true)
    else s)

/-- PPS_OUT_END (R343): the pulse has lasted W_MS. -/
def execPpsOutEnd (s : State) : Host.Outcome State Fault Refusal :=
  .next (if s.time.ppsOut then ({ s with time := { s.time with ppsOut := false } }).emit (.ppsOut false) else s)

/-! IEEE 1588 (R325, R326). -/

/-- The head of the host's receive queue shown in the registers. -/
def State.showPtp (s : State) : State :=
  let q := s.time.ptp
  let s1 := s.set F.TIM_PTP_RXINFO_DEPTH q.length
  match q with
  | [] => s1.setAll ([(F.TIM_PTP_RXINFO_VALID, 0), (F.TIM_PTP_RXINFO_PORT, 0), (F.TIM_PTP_RXINFO_LEN, 0),
      (F.TIM_PTP_RXINFO_FRAC, 0), (F.TIM_PTP_RXTS_LO_NS64, 0), (F.TIM_PTP_RXTS_HI_NS64, 0)] ++
      (List.range 64).map fun w => (F.TIM_PTP_RXBUF_DATA.ix w, 0))
  | x :: _ =>
    (s1.set64 F.TIM_PTP_RXTS_LO_NS64 F.TIM_PTP_RXTS_HI_NS64 (stampNs x.stamp)).setAll ([(F.TIM_PTP_RXINFO_VALID, 1),
      (F.TIM_PTP_RXINFO_PORT, x.port), (F.TIM_PTP_RXINFO_LEN, x.body.length), (F.TIM_PTP_RXINFO_FRAC, x.stamp % 65536)] ++
      (List.range 64).map fun w => (F.TIM_PTP_RXBUF_DATA.ix w, beNat (slice (x.body ++ List.replicate 256 0#8) (4 * w) 4)))

/-- A message for the host: queued, or dropped and counted when the queue is full. -/
def State.ptpHost (s : State) (x : PtpRx) : State :=
  if 16 ≤ s.time.ptp.length then s.bump F.TIM_PTP_CNT_HOST_DROP
  else ({ s with time := { s.time with ptp := s.time.ptp ++ [x] } }).showPtp

/-- IEEE_1588_MESSAGE (R325): the oldest message received in a MGMT slot is checked and forwarded; its correction is made
as it leaves. -/
def execIeee1588Message (s : State) : Host.Outcome State Fault Refusal :=
  .next (match s.takeHeard fun h => h.typ == 4 with
    | none => s
    | some x =>
      let p := x.1.port
      let b := x.1.body
      if beAt b 1 1 % 16 ≠ 2 ∨ beAt b 2 2 ≠ b.length ∨ 254 < b.length then x.2.bump F.TIM_PTP_CNT_BAD
      else
        let ports := s.get (F.TIM_PTP_FWD_PORTS.ix p)
        let s1 := ((List.range 4).filter fun j => j != p && bit ports j).foldl (fun t j =>
          t.sayOn j (.ptp b (some x.1.stamp) false false)) x.2
        if s.flag (F.TIM_PTP_FWD_HOST.ix p) then s1.ptpHost ⟨p, x.1.stamp, b⟩ else s1)

/-- PTP_SEND (R326): GO sends the host's message; ignored while BUSY, refused for a LEN outside 34–254. -/
def execPtpSend (port len : Nat) (oneStep : Bool) (s : State) : Host.Outcome State Fault Refusal :=
  .next (s.hostWrite 20 fun t0 =>
    if t0.flag F.TIM_PTP_TXSTAT_BUSY then t0
    else
      let t := t0.setAll [(F.TIM_PTP_TXCTL_PORT, port), (F.TIM_PTP_TXCTL_LEN, len), (F.TIM_PTP_TXCTL_ONE_STEP, b2n oneStep)]
      if len < 34 ∨ 254 < len then t.set F.TIM_PTP_TXSTAT_ERR 1
      else
        let body := ((List.range 64).flatMap fun w => beBytes 4 (t.get (F.TIM_PTP_TXBUF_DATA.ix w))).take len
        (t.setAll [(F.TIM_PTP_TXSTAT_ERR, 0), (F.TIM_PTP_TXSTAT_BUSY, 1)]).sayOn (port % 4) (.ptp body none true oneStep))

/-- POP (R326): the head of the receive queue is removed. -/
def execPop (s : State) : Host.Outcome State Fault Refusal :=
  .next (s.hostWrite 20 fun t => ({ t with time := { t.time with ptp := t.time.ptp.drop 1 } }).showPtp)

end Sys2Proof.Machine
end

