-- ==== Sys2Proof/Machine/Power.lean ====
section
/-! DEFINITION. Meanings of the commands of supplies, temperatures, ERR_N, fault injection and self-tests (R372, R373,
R379–R387, R393–R396). -/

namespace Sys2Proof.Machine

/-! Admission (R135, R383, R387). -/

/-- Every region takes more of its ENTRY list. -/
def State.feedAll (s : State) : State := (List.range 64).foldl State.feed s

/-- ADMIT_HOLD holds while a VQ dip or a HOT level does; when it ends, dispatch goes on. -/
def State.holdAdmission (s : State) : State :=
  let hold := s.flag F.PWR_STAT_DIP || s.flag F.PWR_STAT_HOT
  let s1 := s.put F.SEQ_STAT_ADMIT_HOLD hold
  if hold then s1 else s1.runWaiting.feedAll

/-! Readings (R398). -/

/-- A supply reading shown. -/
def State.showMv (s : State) (now min' : Fld) (mv : Nat) : State :=
  (s.set now mv).set min' (min (s.get min') (mv % 65536))

/-- A reading of a VQ monitor. -/
def State.showVq (s : State) (m mv : Nat) : State := s.showMv (F.PWR_VQ_NOW_MV.ix m) (F.PWR_VQ_MIN_MV.ix m) mv

/-- A reading of a rail. -/
def State.showRail (s : State) (r mv : Nat) : State := s.showMv (F.PWR_RAIL_NOW_MV.ix r) (F.PWR_RAIL_MIN_MV.ix r) mv

/-! VQ (R383–R385). -/

/-- The location code of a VQ monitor (R369). -/
def locVq (m : Nat) : Nat := locChip (0x40 + m)

/-- A reading below 0.56 V (R383): admission is held, and the dip's lowest reading is kept. -/
def State.dip (s : State) (m mv : Nat) : State :=
  let fresh := s.pwr.vqBelow.isEmpty
  let lower := fresh || decide (mv < s.pwr.dipLow)
  let s1 := { s.showVq m mv with pwr := { s.pwr with
    vqBelow := s.pwr.vqBelow.add m
    dipLow := if lower then mv else s.pwr.dipLow
    dipDie := if lower then m else s.pwr.dipDie
    dipFloor := !fresh && s.pwr.dipFloor
    vqTimer := false } }
  ((s1.set F.PWR_STAT_DIP 1).evt F.PWR_EVT_DIP).holdAdmission

/-- VQ_FLOOR (R384). -/
def State.floorFault (s : State) (m mv : Nat) : State :=
  ({ s with pwr := { s.pwr with dipFloor := true } }).raiseFa 0xF3 .fa (locVq m) 0 mv

/-- What a VQ reset clears (Table FLT-6): the compute dies and the base SRAM. -/
def State.vqReset (s : State) : State :=
  let lost := fun (a : Nat) => decide (a < 0x40000000) || (decide (0x100000000 ≤ a) && decide (a < 0x200000000))
  { s with
    regs := s.regs.filter fun x => keyBlock x.1 != 4 ||
      (Tab.find resetRegs x.1).isSome
    mem := s.mem.filter fun x => !lost x.1
    poison := s.poison.filter fun x => !lost x.1
    qrn := State.reset.qrn
    sched := { s.sched with
      queues := s.sched.queues.filter fun x => decide (256 ≤ x.1)
      flights := s.sched.flights.filter fun f => (qRegion f.queue).isNone
      rctr := [], rpoison := [], bases := [], drains := [], entryDue := [], feeds := [] } }

/-- VQ_POR (R384): the dies reset, and the fault is recorded from the hubs. -/
def State.porFault (s : State) (m mv : Nat) : State :=
  ({ s with pwr := { s.pwr with dipFloor := true } }.raiseFa 0xF4 .fa (locVq m) 0 mv).vqReset

/-- What armed VQ sources do at a reading of a monitor (R372). -/
def State.forcedVq (s : State) (m mv : Nat) : State :=
  let s1 := if s.forcedAt 0xF3 (locVq m) then s.floorFault m mv else s
  if s1.forcedAt 0xF4 (locVq m) then s1.porFault m mv else s1

/-- VQ_BELOW_WARNING (R383). -/
def execVqBelowWarning (monitor mv : Nat) (s : State) : Host.Outcome State Fault Refusal :=
  .next ((s.dip monitor mv).forcedVq monitor mv)

/-- VQ_RECOVERY (R383): every monitor is back above 0.56 V; a dip that never crossed the floor is recorded, and 1 ms
follows. `readings` are those of the four monitors. -/
def execVqRecovery (readings : List Nat) (s : State) : Host.Outcome State Fault Refusal :=
  .next (
    let s1 := (List.range 4).foldl (fun t m => match readings[m]? with
      | some mv => (t.showVq m mv).forcedVq m mv
      | none => t) s
    if s1.pwr.vqBelow.isEmpty then s1
    else
      let s2 := { s1 with pwr := { s1.pwr with vqBelow := [], vqTimer := true } }
      if s1.pwr.dipFloor && !s1.forcedAt 0xF2 (locVq s1.pwr.dipDie) then s2
      else (s2.bump F.PWR_DIP_CNT_DIPS).raise 0xF2 .ce (locVq s1.pwr.dipDie) 0 s1.pwr.dipLow)

/-- ADMIT_HOLD_RELEASE (R383, R387): 1 ms above 0.56 V has passed. -/
def execAdmitHoldRelease (s : State) : Host.Outcome State Fault Refusal :=
  .next (if s.pwr.vqTimer then
      ((({ s with pwr := { s.pwr with vqTimer := false } }).set F.PWR_STAT_DIP 0).evtEnd F.PWR_EVT_DIP).holdAdmission
    else s)

/-- VQ_FLOOR (R384): below 0.52 V and above 0.50 V. -/
def execVqFloor (monitor mv : Nat) (s : State) : Host.Outcome State Fault Refusal :=
  .next (
    let s1 := s.dip monitor mv
    if s1.pwr.dipFloor then s1 else s1.floorFault monitor mv)

/-- VQ_POR (R384): below 0.50 V. -/
def execVqPor (monitor mv : Nat) (s : State) : Host.Outcome State Fault Refusal :=
  .next ((s.dip monitor mv).porFault monitor mv)

/-- INFO of a record of RAIL or RAIL_WARN (R381). -/
def railInfo (r mv : Nat) : Nat := mv % 65536 * 65536 + r

/-- VQ_OVERVOLTAGE_WARN (R385): raised once, until VQ has stayed at or below 0.92 V for 1 ms. -/
def execVqOvervoltageWarn (monitor mv : Nat) (s : State) : Host.Outcome State Fault Refusal :=
  .next (
    let s1 := s.showVq monitor mv
    if s.pwr.vqOver.has monitor && !s.forcedAt 0xF6 (locVq monitor) then s1
    else ({ s1 with pwr := { s1.pwr with vqOver := s1.pwr.vqOver.add monitor } }).raise 0xF6 .ce (locVq monitor) 0
      (railInfo 15 mv))

/-- VQ_OVERVOLTAGE_CLEAR (R385): the warning is armed again. -/
def execVqOvervoltageClear (monitor : Nat) (s : State) : Host.Outcome State Fault Refusal :=
  .next { s with pwr := { s.pwr with vqOver := s.pwr.vqOver.del monitor } }

/-! Other rails (R381, R382, R442). -/

/-- The unit code of a rail's monitor (Table FLT-8); rails in the order of PWR_RAIL. -/
def railUnit (r m : Nat) : Nat :=
  if r = 0 then (([0x18, 0x19, 0x60, 0x62, 0x63] : List Nat)[m]?).getD 0x18
  else if r ≤ 2 then m
  else if r = 3 then 0x64 + m
  else if r = 4 then 0x20 + m
  else if r = 5 then 0x28 + m
  else if r = 6 then 0x61
  else 0x60

/-- The rail bits of PWR_STAT and their events follow the monitors. -/
def State.railBits (s : State) (r : Nat) : State :=
  let any := fun (m : Marks) => m.any fun x => x.1 / 16 == r
  let s1 := (s.setBit F.PWR_STAT_RAIL_WARN r (any s.pwr.railWarned)).setBit F.PWR_STAT_RAIL_BAD r (any s.pwr.railBad)
  (s1.evtIs F.PWR_EVT_RAIL_WARN (!s.pwr.railWarned.isEmpty)).evtIs F.PWR_EVT_RAIL_BAD (!s.pwr.railBad.isEmpty)

/-- A rail's monitor reads below its warning level (R382). -/
def State.railLow (s : State) (r m mv : Nat) : State :=
  let k := 16 * r + m
  let s1 := s.showRail r mv
  if s.pwr.railWarned.has k && !s.forcedAt 0xF6 (locChip (railUnit r m)) then s1
  else (({ s1 with pwr := { s1.pwr with railWarned := s1.pwr.railWarned.add k } }).railBits r).raise 0xF6 .ce
    (locChip (railUnit r m)) 0 (railInfo r mv)

/-- The lasers of a laser die go dark. -/
def State.darken (s : State) (l : Nat) : State := { s with lit := s.lit.filter fun x => x.1 / 108 != l }

/-- The PCIe link goes down. -/
def State.pcieDown (s : State) : State := { s with pcie := { s.pcie with ready := false } }

/-- What a rail's fault does (Table FLT-4, Table DIE-7). -/
def State.railReact (s : State) (r m : Nat) : State :=
  if r = 0 then (if m = 2 then s.pcieDown else if m = 3 ∨ m = 4 then s.loseRefclk else s)
  else if r = 3 then s.linkFault .laneRail m
  else if r = 4 then s.linkFault .vp18 m
  else if r = 5 then (s.darken m).linkFaults .laser (diesOfLaser m)
  else if r = 6 then s.bootDip
  else if r = 7 then s.pcieDown
  else s

/-- A rail's fault with its record; a VH fault makes none (R372). -/
def State.railFault (s : State) (r m mv : Nat) : State :=
  if r = 0 then s.railReact r m
  else (s.raiseFa 0xF5 (if r ≤ 2 then .fa else .uc) (locChip (railUnit r m)) 0 (railInfo r mv)).railReact r m

/-- What an armed RAIL does at a reading of a monitor (R372). -/
def State.forcedRail (s : State) (r m mv : Nat) : State :=
  if r ≠ 0 ∧ r ≠ 2 ∧ s.forcedAt 0xF5 (locChip (railUnit r m)) then s.railFault r m mv else s

/-- RAIL_WARN (R382). -/
def execRailWarn (rail monitor mv : Nat) (s : State) : Host.Outcome State Fault Refusal :=
  .next ((s.railLow rail monitor mv).forcedRail rail monitor mv)

/-- RAIL_RECOVERY (R382, R442): above the warning level for 1 ms. -/
def execRailRecovery (rail monitor mv : Nat) (s : State) : Host.Outcome State Fault Refusal :=
  .next (
    let k := 16 * rail + monitor
    let s0 := (s.showRail rail mv).forcedRail rail monitor mv
    let s1 := ({ s0 with pwr := { s0.pwr with
      railWarned := s0.pwr.railWarned.del k, railBad := s0.pwr.railBad.del k } }).railBits rail
    if rail = 3 then s1.linkClear .laneRail monitor
    else if rail = 4 then s1.linkClear .vp18 monitor
    else if rail = 5 then s1.linkClears .laser (diesOfLaser monitor)
    else if rail = 7 ∨ (rail = 0 ∧ monitor = 2) then { s1 with pcie := { s1.pcie with ready := !s1.pcie.perst } }
    else s1)

/-! Resets (R388, R389). -/

/-- The far tier, which lies in the pond modules. -/
def isFar (a : Nat) : Bool := decide (0x20000000000 ≤ a)

/-- The near tier and the far tier, whose contents a device reset keeps (Table FLT-6). -/
def isKept (a : Nat) : Bool := decide (0x10000000000 ≤ a)

/-- Whether a unit code is a hub-to-photonic link, whose failure is UC (Table DIE-2). -/
def photonicLink (unit : Nat) : Bool := decide (0x39 ≤ unit) && decide (unit ≤ 0x3C)

/-- What every reset keeps: commands that wait, what has been sent, the model's own counts, OTP and the boot store. -/
def State.afterReset (s : State) : State :=
  { State.reset with
    pending := s.pending
    out := s.out
    freeCount := s.freeCount
    flt := { State.reset.flt with sent := s.flt.sent }
    otp := { State.reset.otp with groups := s.otp.groups, arb := s.otp.arb, arbUsed := s.otp.arbUsed }
    boot := { State.reset.boot with
      bankA := s.boot.bankA, bankB := s.boot.bankB, cert := s.boot.cert, j0 := s.boot.j0, j1 := s.boot.j1 }
    gen := { State.reset.gen with draws := s.gen.draws, quotes := s.gen.quotes }
    img := { State.reset.img with dmaReads := s.img.dmaReads } }

/-- A power cycle (Table FLT-6): everything else is lost, the far tier only as its modules lose it. -/
def State.powerCycled (s : State) : State :=
  { s.afterReset with mem := s.mem.filter fun x => isFar x.1, poison := s.poison.filter fun x => isFar x.1 }

/-- What a device reset leaves of a pond link: the last accepted BOOT_ID, kept until power-off (R158). -/
def PondLink.bootOnly (p : PondLink) : PondLink := ⟨0, 0, [], 0, [], [], 0, 0, p.boot, false⟩

/-- A device reset (Table FLT-6): FATAL, the level of ERR_N and the near tier are kept, and so are a failed hub-to-photonic
link, which does not clear until the next power cycle (R442), and the last accepted BOOT_IDs (R158). -/
def State.deviceReset (s : State) (cause : Nat) : State :=
  let t := s.afterReset
  ({ t with
    mem := s.mem.filter fun x => isKept x.1
    poison := s.poison.filter fun x => isKept x.1
    stackPoison := s.stackPoison
    cleaned := s.cleaned
    flt := { t.flt with errnMin := s.flt.errnMin, errnRelease := s.flt.errnRelease }
    links := { t.links with failed := s.links.failed.filter fun u => photonicLink u.1 }
    pond := (s.pond.filter fun (x : Nat × PondLink) => x.2.boot.isSome).map fun (x : Nat × PondLink) => (x.1, x.2.bootOnly)
    pwr := { t.pwr with causes := s.pwr.causes.filter fun c => c.1 == LinkCause.hubLink }
    pcie := { t.pcie with perst := s.pcie.perst } }).setAll [(F.FLT_STAT_FATAL, s.get F.FLT_STAT_FATAL),
      (F.FLT_STAT_ERRN_LOW, s.get F.FLT_STAT_ERRN_LOW), (F.PWR_RESET_CAUSE_CAUSE, cause),
      (F.PND_MOD_BOOT_BOOT_ID.ix 0, s.get (F.PND_MOD_BOOT_BOOT_ID.ix 0)), (F.PND_MOD_BOOT_BOOT_ID.ix 1, s.get (F.PND_MOD_BOOT_BOOT_ID.ix 1)),
      (F.PND_MOD_BOOT_BOOT_ID.ix 2, s.get (F.PND_MOD_BOOT_BOOT_ID.ix 2)), (F.PND_MOD_BOOT_BOOT_ID.ix 3, s.get (F.PND_MOD_BOOT_BOOT_ID.ix 3))]

/-- POWER_CYCLE (R388). -/
def execPowerCycle (s : State) : Host.Outcome State Fault Refusal := .next s.powerCycled

/-- DEVICE_RESET (R388): RST_N low for at least 10 µs. -/
def execDeviceReset (s : State) : Host.Outcome State Fault Refusal := .next (s.deviceReset 1)

/-- PWR_RESET (R388): GO with KEY 0xB0B0 in MAINTENANCE mode. -/
def execPwrReset (key : Nat) (go : Bool) (s : State) : Host.Outcome State Fault Refusal :=
  .next (s.hostWrite 24 fun t => if go && key == 0xB0B0 && t.maintenance then t.deviceReset 2 else t)

/-- The PEND field of a block that holds a posted write. -/
def State.dropPosted (s : State) : State :=
  ({ s with posted := [], heldLo := [] }).clearAll (s.posted.map fun (p : Posted) => pendFld p.block)

/-- PCIE_RESET (R388, R389): PERST_N goes low. -/
def execPcieReset (s : State) : Host.Outcome State Fault Refusal :=
  .next (({ s.dropPosted with pcie := { State.reset.pcie with perst := true, smbWord := s.pcie.smbWord } }).bump
    F.PWR_RESET_CAUSE_PERST)

/-- PCIE_CONTROLLER_READY (R392): PERST_N has risen and the controller is ready. -/
def execPcieControllerReady (s : State) : Host.Outcome State Fault Refusal :=
  .next { s with pcie := { s.pcie with perst := false, ready := true } }

/-- RAIL (R381, Table FLT-4): a monitor below its fault level for 1 µs; VH at a hub is a power cycle. -/
def execRail (rail monitor mv : Nat) (s : State) : Host.Outcome State Fault Refusal :=
  .next (
    let k := 16 * rail + monitor
    if rail = 0 ∧ monitor < 2 then s.powerCycled
    else
      let s1 := s.showRail rail mv
      if s.pwr.railBad.has k then s1.forcedRail rail monitor mv
      else (({ s1 with pwr := { s1.pwr with railBad := s1.pwr.railBad.add k } }).railBits rail).railFault rail monitor mv)

/-! Temperature (R386, R387). -/

/-- The unit code of a sensor, in the order of PWR_TEMP (R369, R398). -/
def sensorUnit (u : Nat) : Nat :=
  if u < 4 then 0x40 + u else if u < 6 then 0x18 + (u - 4) else if u < 18 then u - 6
  else if u < 22 then 0x20 + (u - 18) else 0x28 + (u - 22)

/-- The threshold of a sensor at a level (0 warning, 1 HOT, 2 trip), in 0.1 °C (Table FLT-5). -/
def thermLevel (u lvl : Nat) : Int :=
  if u < 6 ∨ (18 ≤ u ∧ u < 22) then (if lvl = 0 then 900 else if lvl = 1 then 950 else 1050)
  else if u < 18 then (if lvl = 0 then 800 else if lvl = 1 then 850 else 950)
  else (if lvl = 0 then 700 else if lvl = 1 then 750 else 800)

/-- Whether a sensor's HOT level holds admission, and its trip is fatal: compute, hub and DRAM dies. -/
def thermCore (u : Nat) : Bool := decide (u < 18)

/-- The sensors at a level. -/
def State.thermAt (s : State) (lvl : Nat) : Marks :=
  if lvl = 0 then s.pwr.thermWarn else if lvl = 1 then s.pwr.thermHot else s.pwr.thermTrip

/-- A sensor's mark at a level. -/
def State.setTherm (s : State) (lvl u : Nat) (b : Bool) : State :=
  { s with pwr := { s.pwr with
    thermWarn := if lvl = 0 then s.pwr.thermWarn.to u b else s.pwr.thermWarn
    thermHot := if lvl = 1 then s.pwr.thermHot.to u b else s.pwr.thermHot
    thermTrip := if 2 ≤ lvl then s.pwr.thermTrip.to u b else s.pwr.thermTrip } }

/-- A sensor's trip takes ports down (Table FLT-5). -/
def State.tripPorts (s : State) (u : Nat) : State :=
  if u < 18 then s
  else if u < 22 then s.linkFault .trip (u - 18)
  else (s.darken (u - 22)).linkFaults .trip (diesOfLaser (u - 22))

/-- A trip has cleared (R442). -/
def State.tripClear (s : State) (u : Nat) : State :=
  if u < 18 then s
  else if u < 22 then s.linkClear .trip (u - 18)
  else s.linkClears .trip (diesOfLaser (u - 22))

/-- A sensor enters a level with its record and reaction. -/
def State.thermEnter (s : State) (lvl u : Nat) (v : Int) : State :=
  let s1 := (s.setTherm lvl u true).raiseFa (0xF7 + lvl) (if lvl = 2 then (if thermCore u then .fa else .uc) else .ce)
    (locChip (sensorUnit u)) 0 (unsigned 16 v)
  if lvl = 1 then s1.bump F.PWR_DIP_CNT_HOT else if lvl = 2 then s1.tripPorts u else s1

/-- One level of one sensor judged: entered at its threshold, cleared 3 °C below it (R386). -/
def State.judge (s : State) (readings : List Int) (lvl u : Nat) : State :=
  match readings[u]? with
  | none => s
  | some v =>
    let at_ := (s.thermAt lvl).has u
    let forced := s.forcedAt (0xF7 + lvl) (locChip (sensorUnit u))
    if (!at_ && decide (thermLevel u lvl ≤ v)) || forced then s.thermEnter lvl u v
    else if at_ && decide (v ≤ thermLevel u lvl - 30) then
      let s1 := s.setTherm lvl u false
      if lvl = 2 then s1.tripClear u else s1
    else s

/-- The sensors in increasing order of their location code (R370). -/
def sensorsByLoc : List Nat :=
  (List.range 12).map (· + 6) ++ [4, 5, 18, 19, 20, 21, 22, 23, 0, 1, 2, 3]

/-- A reading shown (R398). -/
def State.showTemp (s : State) (u : Nat) (v : Int) : State :=
  let old := s.get (F.PWR_TEMP_MAX.ix u)
  (s.set (F.PWR_TEMP_NOW.ix u) (unsigned 16 v)).set (F.PWR_TEMP_MAX.ix u)
    (if old = 0x8000 ∨ signed 16 old < v then unsigned 16 v else old)

/-- The lasers of a laser die after a reading (R432): they go dark below 10 °C, and the enabled ports of a die that has
reached 10 °C are lit again. -/
def State.laserTemp (s : State) (was : Bool) (d : Nat) : State :=
  if s.laserCold d then s.darken d
  else if was then ((List.range 24).filter fun k => laserOf k 0 / 108 == d && s.flag (F.OPT_PORT_STAT_ENABLED.ix k) &&
    !s.causeOn (dieOfPort k)).foldl State.lightPort s
  else s

/-- TEMPERATURE_SAMPLE (R146, R386, R387, R432): the readings of all sensors in 0.1 °C. Records of one instant are made in
increasing SOURCE and then LOC (R370). -/
def execTemperatureSample (readings : List Int) (s : State) : Host.Outcome State Fault Refusal :=
  .next (
    let s1 := (readings.take 24).zipIdx.foldl (fun t x => t.showTemp x.2 x.1) s
    let s1 := (s1.laserTemp (s.laserCold 0) 0).laserTemp (s.laserCold 1) 1
    let s2 := [0, 1, 2].foldl (fun t lvl => sensorsByLoc.foldl (fun t u => t.judge readings lvl u) t) s1
    let hot := s2.pwr.thermHot.any fun x => thermCore x.1
    let dram := (List.range 12).any fun i => match readings[i + 6]? with
      | some v => decide (750 ≤ v)
      | none => false
    let s3 := ((s2.put F.PWR_STAT_HOT hot).evtIs F.PWR_EVT_THERM (!s2.pwr.thermHot.isEmpty)).put F.MEM_STAT_HOT dram
    if hot == s.flag F.PWR_STAT_HOT then s3 else s3.holdAdmission)

/-- PWR_MIN_CLR (R398): the lowest and highest readings and PWR_DIP_CNT are cleared. -/
def execPwrMinClr (s : State) : Host.Outcome State Fault Refusal :=
  .next (s.hostWrite 24 fun t => t.clearAll ([F.PWR_DIP_CNT_HOT, F.PWR_DIP_CNT_DIPS] ++
    (List.range 4).map (fun m => F.PWR_VQ_MIN_MV.ix m) ++ (List.range 8).map (fun r => F.PWR_RAIL_MIN_MV.ix r) ++
    (List.range 24).map (fun u => F.PWR_TEMP_MAX.ix u)))

/-! ERR_N (R379). -/

/-- ERR_N is released. -/
def State.releaseErrn (s : State) : State :=
  ({ s with flt := { s.flt with errnMin := false, errnRelease := false } }).set F.FLT_STAT_ERRN_LOW 0

/-- ERR_N_MIN_LOW_END (R379): the 20 µs end. -/
def execErrNMinLowEnd (s : State) : Host.Outcome State Fault Refusal :=
  .next (if !s.flt.errnMin then s
    else if s.flt.errnRelease || (!s.flag F.FLT_ERRN_CTL_ERRN_HOLD && !s.fatal) then s.releaseErrn
    else { s with flt := { s.flt with errnMin := false } })

/-- ERRN_RELEASE (R379): at once, or when the 20 µs end. -/
def execErrnRelease (s : State) : Host.Outcome State Fault Refusal :=
  .next (s.hostWrite 23 (fun t =>
    if !t.flag F.FLT_STAT_ERRN_LOW then t
    else if t.flt.errnMin then { t with flt := { t.flt with errnRelease := true } }
    else t.releaseErrn) true)

/-! Injection (R372, R373). -/

/-- Sources whose class can be FA. -/
def canBeFatal (source : Nat) : Bool := [0xF1, 0xF3, 0xF4, 0xF5, 0xF9, 0xFB, 0xFE].contains source

/-- A source is armed. -/
def State.arm (s : State) (source : Nat) : State :=
  ({ s with flt := { s.flt with armed := s.flt.armed.add source } }).setBit (F.FLT_FORCE_ARMED_ARMED.ix (source / 32))
    (source % 32) true

/-- FLT_FORCE (R372, R373): a source that can be FA is armed in MAINTENANCE mode only. -/
def execFltForce (word mask : Nat) (s : State) : Host.Outcome State Fault Refusal :=
  .next (s.hostWrite 23 fun t => (List.range 32).foldl (fun u b =>
    let source := 32 * word + b
    if bit mask b && (t.maintenance || !canBeFatal source) && decide (word < 8) then u.arm source else u) t)

/-- FLT_FORCE_CLR (R372). -/
def execFltForceClr (s : State) : Host.Outcome State Fault Refusal :=
  .next (s.hostWrite 23 fun t => ({ t with flt := { t.flt with armed := [] } }).clearAll
    ((List.range 8).map fun w => F.FLT_FORCE_ARMED_ARMED.ix w))

/-- FLT_CNT_CLR (R370, R397). -/
def execFltCntClr (s : State) : Host.Outcome State Fault Refusal :=
  .next (s.hostWrite 23 (fun t =>
    let t1 := ({ t with flt := { t.flt with first := [], levelFirst := [] } }).clearAll ([F.FLT_BAR_CNT_COUNT,
      F.FLT_STAT_JRN_DROP] ++ (List.range 4).flatMap fun v => [F.FLT_LVL_CNT_CE.ix v, F.FLT_LVL_CNT_UC.ix v])
    t1.evtEndAll [F.FLT_EVT_UC, F.FLT_EVT_CE]) true)

/-! Self-tests (R393–R396). -/

/-- The INFO of ST_FAIL: the row of Table FLT-7, counted from 0. -/
def testRegion : Nat := 4

/-- A failing block found by a self-test is retired with ST_FAIL (R371). -/
def State.testRetire (s : State) (g : Nat) : State :=
  if s.retiredBlock g then s else (s.raise 0xFB .ce (locBlock g) 0 testRegion 0 true).takeOut g

/-- Several blocks. -/
def State.testRetires (s : State) : List Nat → State
  | [] => s
  | g :: t => (s.testRetire g).testRetires t

/-- A request for a self-test is refused. -/
def State.refuseTest (s : State) : State := s.set F.FLT_ST_STAT_REFUSED 1

/-- What every GO does first: its fields are kept, and a test in progress refuses it (R395). -/
def State.testGo (s : State) (kind target : Nat) (f : State → State) : State :=
  s.hostWrite 23 fun t =>
    let t1 := t.setAll [(F.FLT_ST_CTL_KIND, kind), (F.FLT_ST_CTL_TARGET, target)]
    if t1.flag F.FLT_ST_STAT_BUSY then t1.refuseTest else f (t1.set F.FLT_ST_STAT_REFUSED 0)

/-- A test is asked for and waits. -/
def State.awaitTest (s : State) (kind target : Nat) : State :=
  ({ s with flt := { s.flt with test := some ⟨kind, target, false⟩ } }).set F.FLT_ST_STAT_BUSY 1

/-- REGION_SELF_TEST (R395): a drain requester, refused for a STOPPED region and while the loader is APPLYING. -/
def execRegionSelfTest (region : Nat) (s : State) : Host.Outcome State Fault Refusal :=
  .next (s.testGo 1 region fun t =>
    if t.regionState region == 4 || t.applying then t.refuseTest
    else if t.regionState region == 5 then (t.setDrains region (t.drains region ++ [.test])).awaitTest 1 region
    else (t.askDrain region .test).awaitTest 1 region)

/-- DRAM_STACK_TEST (R396): MAINTENANCE mode, between steps, with DESTROY. -/
def execDramStackTest (stack : Nat) (destroy : Bool) (s : State) : Host.Outcome State Fault Refusal :=
  .next (s.testGo 2 stack fun t =>
    let t1 := t.put F.FLT_ST_CTL_DESTROY destroy
    if t.maintenance && t.get F.UPD_STEP_STAT_STATE == 0 && destroy then t1.awaitTest 2 stack else t1.refuseTest)

/-- HUB_TEST_REQUEST (R394): always refused. -/
def execHubTestRequest (s : State) : Host.Outcome State Fault Refusal :=
  .next (s.testGo 3 (s.get F.FLT_ST_CTL_TARGET) State.refuseTest)

/-- SELF_TEST_START (R395, R396): the region is DRAINED, or the stack's share is quiet. -/
def execSelfTestStart (s : State) : Host.Outcome State Fault Refusal :=
  .next (match s.flt.test with
    | none => s
    | some x =>
      let ready := x.kind == 2 || ((s.drains x.target).head? == some .test &&
        (s.regionState x.target == 3 || s.regionState x.target == 5))
      if ready then { s with flt := { s.flt with test := some { x with running := true } } } else s)

/-- The self-test's request leaves a region's drain; the next request drains it, or it runs on. -/
def State.dropTest (s : State) (r : Nat) : State :=
  let l := s.drains r
  let rest := l.filter fun q => q != .test
  let s1 := s.setDrains r rest
  if s.regionState r == 5 || s.regionState r == 4 then s1
  else if rest == [] then s1.settleRegion r
  else if l.head? == some .test then s1.setRegionState r 2
  else s1

/-- SELF_TEST_DRAIN_DEADLINE (R395, R396): the wait ends in a refusal. -/
def execSelfTestDrainDeadline (s : State) : Host.Outcome State Fault Refusal :=
  .next (match s.flt.test with
    | none => s
    | some x =>
      if x.running then s
      else
        let s1 := (({ s with flt := { s.flt with test := none } }).set F.FLT_ST_STAT_BUSY 0).refuseTest
        if x.kind = 1 then s1.dropTest x.target else s1)

/-- A region's self-test ends: it becomes IDLE and its held work goes on, unless another request drains it. -/
def State.endTest (s : State) (r : Nat) : State :=
  let rest := (s.drains r).filter fun q => q != .test
  if s.regionState r == 5 then (s.setDrains r rest).answerDrains r rest
  else
    let s1 := (s.setDrains r rest).setRegionState r (if rest == [] then 0 else 2)
    if rest == [] then s1.enterDue r else s1

/-- REGION_SELF_TEST_DONE (R395): `failed` has bit b set for a failing physical block b. -/
def execRegionSelfTestDone (failed : Nat) (s : State) : Host.Outcome State Fault Refusal :=
  .next (match s.flt.test with
    | none => s
    | some x =>
      if !x.running || x.kind != 1 then s
      else
        let r := x.target
        let bad := (List.range 16).filter fun b => bit failed b || s.forcedAt 0xFB (locBlock (16 * r + b))
        let mask := (bad.map fun b => 2 ^ b).sum
        let good := (List.range 16).filter fun b => !bad.contains b && s.retiredBlock (16 * r + b)
        let s1 := ({ s with flt := { s.flt with test := none } }).setAll [(F.FLT_ST_STAT_BUSY, 0),
          (F.FLT_ST_STAT_BLOCKS, mask), (F.FLT_ST_STAT_FAILED, b2n (bad != []))]
        let s2 := { s1 with qrn := { s1.qrn with tested := good.foldl (fun m b => m.add (16 * r + b)) s1.qrn.tested } }
        ((s2.testRetires (bad.map fun b => 16 * r + b)).regionEvents r).endTest r)

/-- DRAM_STACK_TEST_DONE (R396): every line of the stack is marked poisoned. -/
def execDramStackTestDone (failed : Bool) (s : State) : Host.Outcome State Fault Refusal :=
  .next (match s.flt.test with
    | none => s
    | some x =>
      if !x.running || x.kind != 2 then s
      else
        let st := x.target
        let bad := failed || s.forcedAt 0xFB (locChip st)
        let s1 := ({ s with
          flt := { s.flt with test := none }
          stackPoison := s.stackPoison.add st
          cleaned := s.cleaned.filter fun u => stackOf u.1 != st }).setAll [(F.FLT_ST_STAT_BUSY, 0),
            (F.FLT_ST_STAT_BLOCKS, 0), (F.FLT_ST_STAT_FAILED, b2n bad)]
        if bad then (s1.setBit F.MEM_STAT_STACK_OK st false).raise 0xFB .uc (locChip st) 0 3 else s1)

/-! Die-to-die links (R32). -/

/-- The class of a link's failure (Table DIE-2). -/
def linkClass (unit : Nat) : FClass := if photonicLink unit then .uc else .fa

/-- A link has failed: the ports behind a hub-to-photonic link go down (R442). -/
def State.linkFailed (s : State) (source unit info : Nat) : State :=
  let s1 := ({ s with links := { s.links with failed := s.links.failed.add unit } }).raiseFa source (linkClass unit)
    (locChip unit) 0 info
  if photonicLink unit then s1.linkFault .hubLink (unit - 0x39) else s1

/-- LINK_REPLAY (R32): a flit is replayed; `again` says that its last replay failed too. After 8 failed replays the link
is declared failed. -/
def execLinkReplay (link : Nat) (again : Bool) (s : State) : Host.Outcome State Fault Refusal :=
  .next (if s.links.failed.has link then s
    else
      let c := Tab.get 0 s.links.replays link
      if (again && decide (8 ≤ c)) || s.forcedAt 0xF1 (locChip link) then
        ({ s with links := { s.links with replays := Tab.put 0 s.links.replays link 0 } }).linkFailed 0xF1 link 0
      else ({ s with links := { s.links with replays := Tab.put 0 s.links.replays link (if again then c + 1 else 1) }
        }).raise 0xF0 .ce (locChip link))

/-- A read of the HI half of a capture (R324) empties its side. -/
def State.readCapture (s : State) (addr : Nat) : State :=
  let p := (addr - 0x01401000) / 32
  let o := (addr - 0x01401000) % 32
  if 0x01401000 ≤ addr ∧ p < 16 ∧ (o = 8 ∨ o = 16) then
    { s with time := { s.time with fcap := s.time.fcap.del (2 * p + b2n (o == 16)) } }
  else s

/-- A read of a word of the fault record windows is answered with it (R370). -/
def State.readFault (s : State) (addr : Nat) : State :=
  match s.fltWord addr with
  | some v => s.emit (.completion v)
  | none => s

/-- BAR_ACCESS (R7): an access of a size other than 4 or that is not aligned is answered with a completion that reads zero,
and counted. A read of 4 bytes has no effect, except that reading the HI half of a capture of IEEE 1588 empties that side;
of the words that a read gives, those of the fault records are formed here. -/
def execBarAccess (addr size : Nat) (s : State) : Host.Outcome State Fault Refusal :=
  .next (if size != 4 || addr % 4 != 0 || s.forcedAt 0xFA (locChip 0x18) then
      ((s.bump F.FLT_BAR_CNT_COUNT).raise 0xFA .ce (locChip 0x18)).emit (.completion 0)
    else (s.readCapture addr).readFault addr)

end Sys2Proof.Machine
end

