-- ==== Sys2Proof/Machine/Startup.lean ====
section
/-! DEFINITION. Start-up (R391–R393): the end of the internal reset with what OTP holds, the self-tests, the journal, and the
base image. -/

namespace Sys2Proof.Machine

/-! OTP as the registers show it (R410, R411, R425). -/

/-- The bytes of an OTP group's data (Table CTL-5). -/
def otpBytes (g : Nat) : Nat :=
  if g = 0 then 48 else if g = 1 then 32 else if g < 6 then 36 else if g = 6 then 128 else 16

/-- The current generation number of a group, 0 when it has no good one (OTP_STAT.GEN). -/
def State.otpGen (s : State) (g : Nat) : Nat :=
  if g = 6 then (s.otp.arbUsed - 1) / 16
  else match Tab.find s.otp.groups g with
    | some x => x.gen - 1
    | none => 0

/-- STATE of an operator key (Table CTL-5). -/
def State.keyState (s : State) (i : Nat) : Nat := beAt (s.otpData (2 + i) 36) 0 1

/-- The OTP image anti-rollback counter: the last valid entry, or 0 (R411). -/
def State.otpArb (s : State) : Nat := s.otp.arb.getLast?.getD 0

/-- The registers that show OTP. -/
def State.showOtp (s : State) : State :=
  let ident := s.otpData 0 48
  s.setAll ([(F.GEN_ID_ES, beAt ident 11 1), (F.GEN_SERIAL_LO_SERIAL, beAt ident 4 4), (F.GEN_SERIAL_HI_SERIAL, beAt ident 0 4),
    (F.OTP_STAT_GEN, ((List.range 8).map fun g => s.otpGen g * 4 ^ g).sum),
    (F.OTP_KEY_STATE_STATE, ((List.range 4).map fun i => s.keyState i % 4 * 4 ^ i).sum),
    (F.OTP_ARB_LEFT, 64 - s.otp.arbUsed), (F.IMG_OTP_ARB_ARB, s.otpArb)] ++
    ((List.range 4).flatMap fun i => (List.range 8).map fun w =>
      (F.OTP_KEY_HASH_HASH.ix i w, beAt (s.otpData (2 + i) 36) (4 + 4 * w) 4)) ++
    (List.range 4).map fun w => (F.OTP_FUSE_FUSE.ix w, beAt (s.otpData 7 16) (4 * w) 4))

/-! Identity (R413, R417). -/

/-- The seeds of the identity key: SK.seed, SK.prf and PK.seed (R413). -/
def State.identitySeeds (s : State) : List Byte :=
  shake256 (ascii "QK-AB1 IDENTITY" ++ slice (s.otpData 0 48) 16 32) 48

/-- BOOT_NONCE is drawn, and then the identity key is generated. -/
def State.makeIdentity (s : State) : State :=
  let seeds := s.identitySeeds
  let pk := slhKeyGen seeds
  ({ s with gen := { s.gen with
    bootNonce := Config.entropy s.gen.draws 16, draws := s.gen.draws + 1, idSeed := seeds } }).setAll
    ((F.ATT_STAT_ID_READY, 1) :: (List.range 8).map fun w => (F.ATT_IDKEY_KEY.ix w, beAt pk (4 * w) 4))

/-- INTERNAL_RESET_END (R391, R392): the time unit counts from zero, stage 1 loads OTP, the first heartbeat lease runs, and
the identity key is made. -/
def execInternalResetEnd (s : State) : Host.Outcome State Fault Refusal :=
  .next (if s.get F.PWR_STAT_STAGE ≠ 0 then s
    else
      let s1 := { s with
        time := { s.time with sec := 0, ns := 0, frac := 0, running := true }
        otp := { s.otp with loaded := true } }
      let s2 := s1.showOtp.makeIdentity
      s2.setAll [(F.PWR_STAT_STAGE, 1), (F.TIM_STAT_REFCLK_OK, 1), (F.CRY_STAT_ENTROPY_OK, 1),
        (F.MBR_HB_LEFT_MS, 1000 * s.get F.MBR_HB_CFG_HB_S)])

/-! Self-tests (R33, R393). -/

/-- ST_FAIL of a test of Table FLT-7, rows counted from 0. -/
def State.testFail (s : State) (cls : FClass) (unit test : Nat) : State := s.raiseFa 0xFB cls (locChip unit) 0 test

/-- One die-to-die link's test (R33): the spare wires it took, and its failure when they do not cover the failed wires. -/
def State.linkTest (s : State) (x : LinkTest) : State :=
  let s1 := { s with links := { s.links with spares := Tab.put 0 s.links.spares x.unit x.spares } }
  if !x.covered || s1.forcedAt 0xFB (locChip x.unit) then s1.linkFailed 0xFB x.unit 1 else s1

/-- HUB_SELF_TEST (R392, R393): the hubs, then the links; the memory stage begins. -/
def execHubSelfTest (badHubs : List Nat) (links : List LinkTest) (s : State) : Host.Outcome State Fault Refusal :=
  .next (if s.get F.PWR_STAT_STAGE ≠ 1 ∧ s.get F.PWR_STAT_STAGE ≠ 2 then s
    else
      let bad := [0, 1].filter fun j => badHubs.contains j || s.forcedAt 0xFB (locChip (0x18 + j))
      let s1 := bad.foldl (fun t j => t.testFail .fa (0x18 + j) 0) s
      (links.foldl State.linkTest s1).set F.PWR_STAT_STAGE 3)

/-- MEMORY_SELF_TEST (R392, R393): base SRAM, stacks and regions. After a device reset a line of the near tier that fails
its transparent test is poisoned. -/
def execMemorySelfTest (badBase badStacks badLines badBlocks : List Nat) (s : State) : Host.Outcome State Fault Refusal :=
  .next (if s.get F.PWR_STAT_STAGE ≠ 3 then s
    else
      let base := (List.range 4).filter fun k => badBase.contains k || s.forcedAt 0xFB (locChip (0x10 + k))
      let failed := (List.range 12).filter fun k => badStacks.contains k || s.forcedAt 0xFB (locChip k)
      let blocks := (List.range 1024).filter fun g => badBlocks.contains g || s.forcedAt 0xFB (locBlock g)
      let s1 := base.foldl (fun t k => t.testFail .fa (0x10 + k) 2) s
      let s2 := (failed.foldl (fun t k => t.testFail .fa k 3) s1).set F.MEM_STAT_STACK_OK
        (((List.range 12).filter fun k => !failed.contains k).map fun k => 2 ^ k).sum
      let s3 := if s.get F.PWR_RESET_CAUSE_CAUSE = 0 then s2 else s2.markUnits true badLines
      (s3.testRetires blocks).set F.PWR_STAT_STAGE 4)

/-! The journal (R419). -/

/-- Blocks that the journal lists retire again, without a record of their own (R78). -/
def State.retireListed (s : State) : List (Nat × Unit) → State
  | [] => s
  | (g, _) :: t => (if s.retiredBlock g then s else s.takeOut g).retireListed t

/-- A laser that the journal lists retires again; the lane it carried starts on the shadow (R361). -/
def State.retireLaserAgain (s : State) (n : Nat) : State :=
  let k := portOfLaser n
  let l := n % 9
  let s1 := s.setBit (F.OPT_LASER_RETIRED_RETIRED.ix (n / 32)) (n % 32) true
  if l = 8 then s1
  else s1.setAll [(F.OPT_LANE_STAT_RETIRED.ix k l, 1), (F.OPT_PORT_STAT_TX_SHADOW.ix k, l), (F.OPT_PORT_STAT_TX_USE.ix k, 4)]

/-- The commissioning powers of a lane, four stages from key 36k + 4l on (R357, Table CTL-9). -/
def State.restorePowers (s : State) (p : Tab Nat) (k l : Nat) : State :=
  let v := fun i => Tab.get 0 p (36 * k + 4 * l + i)
  s.setAll [(F.OPT_LANE_COMM_A_HIGH.ix k l, v 0), (F.OPT_LANE_COMM_A_LOW.ix k l, v 1), (F.OPT_LANE_COMM_B_HIGH.ix k l, v 2),
    (F.OPT_LANE_COMM_B_LOW.ix k l, v 3)]

/-- Every port's commissioning. -/
def State.restoreCommissioning (s : State) (x : Snapshot) : State :=
  ((List.range 24).filter fun k => bit x.commPorts k).foldl (fun t k =>
    (List.range 9).foldl (fun u l => u.restorePowers x.commPowers k l) (t.set (F.OPT_PORT_STAT_COMMISSIONED.ix k) 1))
    (s.set F.OPT_STAT_COMMISSIONED x.commPorts)

/-- The key epochs of a LINE slot (R309): KEPOCH_TX advances by 1, except at 0xFFFF, where the slot is exhausted and
KEY_EXHAUSTED is raised, with Tailrace as the requester (DESIGN CHOICE). -/
def State.restoreSlot (s : State) (x : Snapshot) (n : Nat) : State :=
  let tx := Tab.get 0 x.kepochTx n
  let s1 := s.setAll [(F.CRY_KSLOT_EPOCH_KEPOCH_TX.ix n, min 0xFFFF (tx + 1)),
    (F.CRY_KSLOT_EPOCH_KEPOCH_MIN.ix n, Tab.get 0 x.kepochMin n)]
  if 0xFFFF ≤ tx then ({ s1 with cry := { s1.cry with exhausted := s1.cry.exhausted.add n } }).keyExhausted 0 1 n 0 else s1

/-- A journal that holds nothing: every value zero. -/
def Snapshot.blank : Snapshot := ⟨0, 0, 0, false, 0, 0, 0, 0, 0, 0, [], [], [], [], [], [], 0, [], 0, 0, 0⟩

/-- What a snapshot restores (R419, Table CTL-9). Records made in this start-up stay in the history. -/
def State.restore (s : State) (x : Snapshot) : State :=
  let s1 := s.setAll ([(F.MBR_EPOCH_EPOCH, x.mbrEpoch), (F.PST_STAT_ACTIVE, x.activeBank),
    (F.MBR_STAT_PIN_HELD, b2n x.pinHeld), (F.UPD_ANCHOR_MASK_MASK, x.anchorMask), (F.MBR_STAT_COMMIT, x.commitMask),
    (F.MBR_PIN_MASK_MASK, x.pinMask)] ++
    (List.range 8).map fun i => (F.MBR_EOFF_OFFSET.ix i, (x.eoff[i]?).getD 0))
  let s2 := ((s1.setOuterEpoch x.outerEpoch).set64 F.MBR_PIN_LO_EPOCH F.MBR_PIN_HI_EPOCH x.pinEpoch).set64
    F.MBR_TOK_LO_TOKENS F.MBR_TOK_HI_TOKENS x.tokens
  let s3 := { s2 with boot := { s2.boot with
    history := (s2.boot.history ++ x.history).take 128
    lifeUc := s2.boot.lifeUc + x.lifeUc, lifeFa := s2.boot.lifeFa + x.lifeFa, lifeDrop := s2.boot.lifeDrop + x.lifeDrop } }
  let s4 := x.retiredLasers.foldl (fun t n => t.retireLaserAgain n.1) (s3.retireListed x.retiredBlocks)
  let s5 := { s4 with cry := { s4.cry with durable := [] } }
  (((List.range 56).foldl (fun t i => t.restoreSlot x (8 + i)) s5).restoreCommissioning x).journal

/-- JOURNAL_RESTORE (R309, R392, R419): the newest valid snapshot is restored, and the image stage begins. -/
def execJournalRestore (s : State) : Host.Outcome State Fault Refusal :=
  .next (if s.get F.PWR_STAT_STAGE ≠ 4 then s
    else
      let s1 := match s.newestSnapshot with
        | some (b, x) =>
          let t := { s with boot := { s.boot with current := b, nextSeq := x.seq + 1 } }
          (t.set64 F.PST_JRN_SEQ_LO_SEQ F.PST_JRN_SEQ_HI_SEQ x.seq).restore x
        | none => ({ s with boot := { s.boot with current := 0, nextSeq := 0 } }.set F.PST_STAT_JRN_EMPTY 1).restore .blank
      let s2 := (s1.startErase.showFree).setAll [(F.PST_STAT_CERT_OK, b2n (certHead s.boot.cert)), (F.PWR_STAT_STAGE, 5)]
      if s2.fatal then s2 else s2.set F.IMG_STAT_STATE 2)

/-! The base image (R117). -/

/-- The bytes of a boot store bank. -/
def State.bank (s : State) (b : Nat) : List Byte := if b = 0 then s.boot.bankA else s.boot.bankB

/-- The image at the start of a bank. -/
def State.bankImage (s : State) (b : Nat) : List Byte :=
  (s.bank b).take (max 256 (min slotBytes (beAt (s.bank b) 28 4)))

/-- What the checks say of a bank's image. -/
def State.bankReject (s : State) (b : Nat) : Reject := s.imageReject (s.bankImage b) (s.bank b).length none

/-- A bank's image takes effect as the first. -/
def State.bootBank (s : State) (b : Nat) : State := (s.set F.IMG_STAT_BOOT_BANK b).firstImage (s.bankImage b)

/-- A bank's image fails a check. -/
def State.bankFails (s : State) (b : Nat) : State :=
  match s.bankReject b with
  | some r => s.reject r.1 r.2
  | none => s

/-- BASE_IMAGE_VERIFY (R117): the active bank, then the other with BOOT_FALLBACK; with neither the device stays in
NO_IMAGE. -/
def execBaseImageVerify (s : State) : Host.Outcome State Fault Refusal :=
  .next (if s.get F.PWR_STAT_STAGE ≠ 5 ∨ s.get F.IMG_STAT_STATE ≠ 2 ∨ s.img.first ∨ s.img.checking.isSome ∨ s.fatal then s
    else
      let a := s.get F.PST_STAT_ACTIVE
      if (s.bankReject a).isNone && !s.forcedAt 0x55 (locChip 0x18) then s.bootBank a
      else
        let s1 := (((s.bankFails a).set F.IMG_STAT_BOOT_FALLBACK 1).evt F.IMG_EVT_BOOT_FALLBACK).keepSeq 0x55 none 0 0 |>.raise 0x55 .ce (locChip 0x18)
        if (s1.bankReject (1 - a)).isNone && !s1.forcedAt 0x56 (locChip 0x18) then s1.bootBank (1 - a)
        else (((s1.bankFails (1 - a)).set F.IMG_STAT_STATE 0).keepSeq 0x56 none 0 0).raise 0x56 .uc (locChip 0x18))

end Sys2Proof.Machine
end

