-- ==== Sys2Proof/Machine/Attest.lean ====
section
/-! DEFINITION. Meanings of the commands of attestation (R420–R422) and of the SMBus target (R435): quotes, DOE objects, the
quote queue, and the words of Table ELE-7. -/

namespace Sys2Proof.Machine

/-! The quote (R420, Table CTL-10). -/

/-- An OTP group's data as the OTP digest takes it: the identity seed and the device root replaced by zeros. -/
def State.otpShown (s : State) (g : Nat) : List Byte :=
  if g = 0 then (s.otpData 0 48).take 16 ++ List.replicate 32 0#8
  else if g = 1 then List.replicate 32 0#8
  else if g = 6 then
    let n := s.otp.arbUsed - s.otpGen 6 * 16
    let l := s.otp.arb.drop (s.otp.arb.length - n)
    (l.flatMap fun v => beBytes 4 v ++ beBytes 4 (2 ^ 32 - 1 - v)) ++ List.replicate (128 - 8 * l.length) 0#8
  else s.otpData g (otpBytes g)

/-- The OTP digest. -/
def State.otpDigest (s : State) : List Byte :=
  shake256 ((List.range 8).flatMap fun g => beBytes 1 (s.otpGen g) ++ s.otpShown g) 32

/-- The registers of an array of words as bytes (R7). -/
def State.regBytes (s : State) (f : Fld) (n : Nat) : List Byte := (List.range n).flatMap fun w => beBytes 4 (s.get (f.ix w))

/-- FLAGS of a quote. -/
def State.quoteFlags (s : State) : Nat :=
  s.get F.GEN_ID_ES + 2 * b2n s.fatal + 4 * b2n s.maintenance + 8 * s.get F.MBR_STAT_UNATTENDED + 16 * b2n (!s.img.first)

/-- The ns64 of a quote, with bit 63 set while network time is not valid. -/
def State.quoteTime (s : State) : Nat := if s.flag F.TIM_STAT_VALID then s.ns64 else s.ns64 % 2 ^ 63 + 2 ^ 63

/-- A quote body over a nonce: every field of one instant. The sequence number is that of the next quote. -/
def State.quoteBody (s : State) (nonce : List Byte) : List Byte :=
  let z := fun n => List.replicate n 0#8
  ascii "QKAQ" ++ beBytes 2 1 ++ beBytes 2 s.quoteFlags ++ s.serial ++ (nonce ++ z 32).take 32 ++ beBytes 8 s.quoteTime ++
    beBytes 8 s.gen.quoteSeq ++ s.regBytes F.IMG_RUN_DIGEST_D 16 ++ beBytes 8 (s.get64 F.IMG_RUN_ID_LO_ID F.IMG_RUN_ID_HI_ID) ++
    beBytes 4 (s.get F.IMG_RUN_ARB_ARB) ++ beBytes 4 s.otpArb ++ s.otpDigest ++ beBytes 4 (s.get F.GEN_DIGEST_NOW_CRC) ++
    beBytes 4 (s.get F.GEN_DIGEST_REF_CRC) ++ beBytes 1 s.digestState ++ z 3 ++ beBytes 4 (s.get F.MBR_EPOCH_EPOCH) ++
    beBytes 8 s.outerEpoch ++ beBytes 1 (s.get F.UPD_ANCHOR_MASK_MASK) ++ z 7 ++ s.regBytes F.IMG_SHARD_DIGEST_D 8 ++ z 16

/-- opt_rand of the next quote (R420). -/
def State.optRand (s : State) : List Byte :=
  (aes256 s.attestKey (beBytes 8 s.gen.quoteSeq ++ List.replicate 8 0#8)).take 16

/-- A quote: the body and its signature with the identity key. -/
def State.quote (s : State) (nonce : List Byte) : List Byte :=
  let b := s.quoteBody nonce
  b ++ slhSign s.gen.idSeed b (ascii "QKAQ") s.optRand

/-- A quote has been signed: the sequence number and ATT_CNT rise, and one block of the cipher engine is used. -/
def State.quoteSigned (s : State) : State :=
  (({ s with gen := { s.gen with quoteSeq := s.gen.quoteSeq + 1 } }).add64 F.ATT_CNT_LO_QUOTES F.ATT_CNT_HI_QUOTES 1).cryBlocks 0 1

/-! DOE (R421). -/

/-- A DOE object is answered, with the DOE interrupt (R400). -/
def State.doeReply (s : State) (answer : List Byte) : State := ({ s with pcie := { s.pcie with doeAnswer := answer } }).send 3

/-- The head of an attestation response. -/
def doeHead (code status : Nat) : List Byte := beBytes 1 (code + 0x80) ++ beBytes 1 status ++ [0#8, 0#8]

/-- DOE_DISCOVERY (R421): type 0 of the PCI-SIG, then Quevar's type 1: vendor ID, type and next index. -/
def execDoeDiscovery (index : Nat) (s : State) : Host.Outcome State Fault Refusal :=
  .next (s.doeReply (if index = 0 then [0x01#8, 0x00#8, 0x00#8, 0x01#8]
    else if index = 1 then [0x4D#8, 0x1F#8, 0x01#8, 0x00#8] else [0xFF#8, 0xFF#8, 0xFF#8, 0x00#8]))

/-- GET_CERTS (R421): the certificate area, or CERT_ABSENT. -/
def execGetCerts (s : State) : Host.Outcome State Fault Refusal :=
  .next (if certHead s.boot.cert then s.doeReply (doeHead 1 0 ++ s.boot.cert.take (beAt s.boot.cert 8 4))
    else s.doeReply (doeHead 1 2))

/-- GET_QUOTE (R420, R421): a quote; BUSY while the cipher engine, which makes opt_rand, is paused (R305). -/
def execGetQuote (nonce : List Byte) (s : State) : Host.Outcome State Fault Refusal :=
  .next (if s.cryPaused then s.doeReply (doeHead 2 3) else (s.doeReply (doeHead 2 0 ++ s.quote nonce)).quoteSigned)

/-- GET_BODY (R421): an unsigned body with a zero nonce. -/
def execGetBody (s : State) : Host.Outcome State Fault Refusal :=
  .next (s.doeReply (doeHead 3 0 ++ s.quoteBody (List.replicate 32 0#8)))

/-- DOE_ABORT (R421): the object in progress, with the answer that waits to be read, is discarded. -/
def execDoeAbort (s : State) : Host.Outcome State Fault Refusal :=
  .next { s with pcie := { s.pcie with doeAnswer := [] } }

/-! The quote queue (R422). -/

/-- ATT_Q_TAIL (R422, R427): not posted; ignored in FATAL. -/
def execAttQTail (index : Nat) (s : State) : Host.Outcome State Fault Refusal :=
  .next (s.hostWrite 26 (fun t => t.set F.ATT_Q_TAIL_INDEX index) false true)

/-- HEAD passes an entry, with Q_ERR; the queue vector ends a batch. -/
def State.passEntry (s : State) (bad last : Bool) : State :=
  let size := max 1 (s.get F.ATT_Q_CFG_SIZE)
  let s1 := s.setAll [(F.ATT_Q_HEAD_INDEX, (s.get F.ATT_Q_HEAD_INDEX + 1) % size), (F.ATT_STAT_Q_ERR, b2n bad)]
  if last then s1.send (s.get F.ATT_Q_CFG_VEC) else s1

/-- The bytes written to host memory, newest first. -/
def State.toHost (s : State) (addr : Nat) (bs : List Byte) : State :=
  { s with gen := { s.gen with quotes := (addr, bs) :: s.gen.quotes } }

/-- QUOTE_QUEUE_ENTRY (R422): the next entry is read, its quote and STATUS are written, and HEAD advances; `last` says that
it ends a batch. With Bus Master Enable clear nothing reaches host memory (R399). While the cipher engine is paused the
entry waits. -/
def execQuoteQueueEntry (dmaError last : Bool) (s : State) : Host.Outcome State Fault Refusal :=
  .next (
    let head := s.get F.ATT_Q_HEAD_INDEX
    if !s.flag F.ATT_Q_CFG_EN || s.fatal || s.cryPaused || head == s.get F.ATT_Q_TAIL_INDEX then s
    else if !s.pcie.busMaster then s.passEntry true last
    else
      let at_ := s.get64 F.ATT_Q_BASE_LO_ADDR F.ATT_Q_BASE_HI_ADDR + 64 * head
      let e := Config.hostRead s.img.dmaReads at_ 64
      let s1 := { s with img := { s.img with dmaReads := s.img.dmaReads + 1 } }
      let s2 := if dmaError then s1 else s1.toHost (beAt e 32 8) (s.quote (slice e 0 32))
      ((s2.quoteSigned).toHost (at_ + 48) [if dmaError then 2#8 else 1#8]).passEntry dmaError last)

/-! SMBus (R435, Table ELE-7). -/

/-- SMB_ALERT_N is asserted (R435): a rail below its warning or fault level, or a die at its HOT level. -/
def State.smbAlert (s : State) : Bool :=
  s.get F.PWR_STAT_RAIL_WARN != 0 || s.get F.PWR_STAT_RAIL_BAD != 0 || !s.pwr.thermHot.isEmpty

/-- The bytes of the word answered, low byte first (R435). -/
def State.smbBytes (s : State) : List Byte :=
  [BitVec.ofNat 8 s.pcie.smbWord, BitVec.ofNat 8 (s.pcie.smbWord / 256)]

/-- A word answered to a Read Word. -/
def State.smbWordIs (s : State) (w : Nat) : State := { s with pcie := { s.pcie with smbWord := w % 65536 } }

/-- SMB_PART. -/
def execSmbPart (s : State) : Host.Outcome State Fault Refusal := .next (s.smbWordIs 0x0AB1)

/-- SMB_STATUS. -/
def execSmbStatus (s : State) : Host.Outcome State Fault Refusal :=
  .next (s.smbWordIs (0xA100 + 16 * s.get F.PWR_STAT_STAGE + 2 * s.get F.FLT_STAT_ERRN_LOW + s.get F.FLT_STAT_FATAL))

/-- SMB_TEMP: commands 0x10–0x27. -/
def execSmbTemp (command : Nat) (s : State) : Host.Outcome State Fault Refusal :=
  .next (s.smbWordIs (s.get (F.PWR_TEMP_NOW.ix (command - 0x10))))

/-- SMB_VQ: commands 0x30–0x33. -/
def execSmbVq (command : Nat) (s : State) : Host.Outcome State Fault Refusal :=
  .next (s.smbWordIs (s.get (F.PWR_VQ_NOW_MV.ix (command - 0x30))))

/-- SMB_RAIL: commands 0x38–0x3F. -/
def execSmbRail (command : Nat) (s : State) : Host.Outcome State Fault Refusal :=
  .next (s.smbWordIs (s.get (F.PWR_RAIL_NOW_MV.ix (command - 0x38))))

/-- SMB_PWR_STAT: PWR_STAT bits [23:8]. -/
def execSmbPwrStat (s : State) : Host.Outcome State Fault Refusal :=
  .next (s.smbWordIs (256 * s.get F.PWR_STAT_RAIL_BAD + s.get F.PWR_STAT_RAIL_WARN))

/-- SMB_OTHER. -/
def execSmbOther (_code : Nat) (s : State) : Host.Outcome State Fault Refusal := .next (s.smbWordIs 0xFFFF)

end Sys2Proof.Machine
end

