-- ==== Sys2Proof/Machine/Chip.lean ====
section
/-! DEFINITION. Meanings of the chip scheduler's commands (R86, R87, R94, R113, R124–R138, R201): descriptors of types
NOP, SYNC, SCALAR, STEP, PHASE, COLL and DISPATCH, completions, deadlines, phase switches and the replica. -/

namespace Sys2Proof.Machine

/-! NOP and SYNC (Table IMG-6). -/

/-- Every descriptor is well formed for a command that takes it as it is. -/
def always (_ : QEntry) : Bool := true

/-- NOP: waits and signals only. -/
def execNop (queue : QueueId) (s : State) : Host.Outcome State Fault Refusal :=
  .next (s.issueIn queue (fun e => e.typ == 0) always fun e t => t.fly queue e 0 true false)

/-- The counter that a SYNC names. -/
def QEntry.syncCtr (e : QEntry) : Nat := e.at 26 2 % 8192
/-- VALUE of a SYNC, and K of a SCALAR. -/
def QEntry.value (e : QEntry) : Nat := e.at 28 4

/-- SYNC_SET: the counter is VALUE and its poison is cleared; an OP or counter that is not defined is DESC_BAD. -/
def execSyncSet (queue : QueueId) (s : State) : Host.Outcome State Fault Refusal :=
  .next (s.issueIn queue (fun e => e.typ == 4 && e.op != 1) (fun e => e.op == 0 && ctrOk queue e.syncCtr) fun e t =>
    ((t.setCtr queue e.syncCtr e.value).setCtrPoison queue e.syncCtr false).fly queue e 0 true false)

/-- SYNC_ADD: VALUE is added to the counter. -/
def execSyncAdd (queue : QueueId) (s : State) : Host.Outcome State Fault Refusal :=
  .next (s.issueIn queue (fun e => e.typ == 4 && e.op == 1) (fun e => ctrOk queue e.syncCtr) fun e t =>
    (t.addCtr queue e.syncCtr e.value).fly queue e 0 true false)

/-! SCALAR (Table IMG-6). -/

/-- SRC. -/
def QEntry.src5 (e : QEntry) : Nat := e.at 25 1
/-- DST. -/
def QEntry.dst5 (e : QEntry) : Nat := e.at 26 1

/-- Whether the register fields of a SCALAR are defined. -/
def scalarOk (e : QEntry) : Bool := decide (e.src5 ≤ 15) && decide (e.dst5 ≤ 63)

/-- A SCALAR descriptor of an operation; `codes` are the operation codes that the command takes. -/
def State.scalarIssue (s : State) (mine ok : QEntry → Bool) (f : QEntry → State → State) : State :=
  s.issueIn .chip (fun e => e.typ == 5 && mine e) (fun e => scalarOk e && ok e) fun e t =>
    (f e t).fly .chip e 0 true false

/-- A scalar register written. -/
def State.setSreg (s : State) (n : Nat) (v : F32) : State := s.set (F.SEQ_SREG_VALUE.ix n) v.toNat

/-- NORM_INV (R87): rinv of the SSQ in SRC, with ε = K, or UPD_EPS when K is 0; UPD_ORTH_NORM. An operation code that is
not defined is DESC_BAD. -/
def execNormInv (s : State) : Host.Outcome State Fault Refusal :=
  .next (s.scalarIssue (fun e => e.op == 1 || e.op == 0 || decide (6 ≤ e.op)) (fun e => e.op == 1) fun e t =>
    let norm := sqrt32 (t.red.ssqValue e.src5)
    let eps : F32 := BitVec.ofNat 32 (if e.value = 0 then t.get F.UPD_EPS_VALUE else e.value)
    (t.setSreg e.dst5 (div32 one32 (add32 norm eps))).set F.UPD_ORTH_NORM_NORM norm.toNat)

/-- RECIP (R82): rne32(1/K). -/
def execRecip (s : State) : Host.Outcome State Fault Refusal :=
  .next (s.scalarIssue (fun e => e.op == 2) always fun e t =>
    t.setSreg e.dst5 (div32 one32 (BitVec.ofNat 32 e.value)))

/-- MERGE_W (R94): the weights of the sides, in side order, into DST to DST + 7; a register beyond the sides takes +0. -/
def execMergeW (s : State) : Host.Outcome State Fault Refusal :=
  .next (s.scalarIssue (fun e => e.op == 3) (fun e => decide (e.dst5 ≤ 56)) fun e t =>
    (List.range 8).foldl (fun u i => u.setSreg (e.dst5 + i) ((t.mergeWeights[i]?).getD 0#32)) t)

/-- FIN_VERDICT (R86): 1.0 when the flag of SRC is set, else +0; a set flag is the non-finite verdict of the matrix, reported
at the region that set it. An armed NONFINITE or MAT_FAIL acts here at any region of the step (R103). -/
def execFinVerdict (matrix iter product : Nat) (s : State) : Host.Outcome State Fault Refusal :=
  .next (s.scalarIssue (fun e => e.op == 4) always fun e t =>
    let flag := t.red.flags.has e.src5
    let forced := t.forcedRegion 0x48
    let set := flag || forced.isSome
    let r := if flag then (Tab.find t.red.finAt e.src5).getD t.lowestRegion else forced.getD 0
    let t1 := t.setSreg e.dst5 (if set then one32 else 0#32)
    let t2 := if set then t1.nonFinite r e.id matrix iter product else t1
    (match t2.forcedRegion 0x49 with
      | some q => t2.matFail q e.id (some matrix)
      | none => t2).giveAll)

/-- CLEAR: the reduction register SRC. -/
def execClear (s : State) : Host.Outcome State Fault Refusal :=
  .next (s.scalarIssue (fun e => e.op == 5) always fun e t =>
    { t with red := { t.red with
      ssq := t.red.ssq.filter fun x => x.1 / 64 != e.src5
      amax := Tab.erase t.red.amax e.src5
      flags := t.red.flags.del e.src5
      finAt := Tab.erase t.red.finAt e.src5 } })

/-! STEP (Table IMG-6, R23, R24, R102). -/

/-- A STEP descriptor of an operation. -/
def State.stepIssue (s : State) (mine ok : QEntry → Bool) (f : QEntry → State → State × Bool) : State :=
  s.issueIn .chip (fun e => e.typ == 6 && mine e) ok fun e t =>
    let x := f e t
    x.1.fly .chip e 0 true x.2

/-- OPEN (R102, R132): the tuning values and the step-open time are latched. An operation code that is not defined is
DESC_BAD. -/
def execOpenStep (s : State) : Host.Outcome State Fault Refusal :=
  .next (s.stepIssue (fun e => e.op == 1 || e.op == 0 || decide (4 ≤ e.op)) (fun e => e.op == 1) fun _ t =>
    let v := fun (f : Fld) => BitVec.ofNat 32 (t.get f)
    (({ t with
      step := { t.step with latched := [v F.UPD_ETA_VALUE, v F.UPD_ETA_VEC_VALUE, v F.UPD_MU_VALUE, v F.UPD_WD_VALUE] }
      sched := { t.sched with stepOpen := some t.ns64 } }).set F.UPD_STEP_STAT_HELD_TUNE 0, false))

/-- Whether this side commits no step: it holds, merges, is being admitted, or runs its close step (Table MLR-7). -/
def State.commitsNothing (s : State) : Bool :=
  let st := s.get F.UPD_STEP_STAT_STATE
  s.mbr.closing || st == 6 || st == 7 || st == 8

/-- COMMIT (R23): the step commits under its mask, its tally joins T, and releases go out; a step with a failed matrix or
one abandoned does not commit, and the descriptor fails (R86). -/
def execCommit (s : State) : Host.Outcome State Fault Refusal :=
  .next (s.stepIssue (fun e => e.op == 2) always fun _ t =>
    if t.step.abandoned || !t.step.failed.isEmpty then (t.abandonStep.giveAll, true)
    else if t.commitsNothing then (t, false)
    else
      let t1 := (t.commitAs (t.mbr.stepMask.getD t.commitMask)).addTokens
      (({ t1 with mbr := { t1.mbr with tally := 0 } }).releaseAll.giveAll, false))

/-- PROGRAM entries with STEP_REARM are dispatched again (R113). -/
def State.rearm (s : State) : State :=
  ((List.range (imgEntries s.image)).filter (imgProgRearm s.image)).foldl State.runProgram s

/-- What takes effect at a step boundary (R25, R120, R221, R263, R276, R283), in this order: the commit set, an armed routing
flip, flows that failed, an admission, a HELD image or the regions that an image in APPLYING has still to switch, the PROGRAM
entries that rearm, and the grants of the next step. An image that takes effect whole at this boundary has its entry 0
dispatched, and its STEP_REARM entries are dispatched at this very boundary (DESIGN CHOICE: R113 does not say). -/
def State.boundary (s : State) : State :=
  let s1 := (((s.takeCommitSet.flipRoutes).restartFlows).admitAtBoundary).set F.UPD_STEP_STAT_UNATTENDED 0
  let s2 := if s1.applying then s1.askImages else s1.applyDue
  s2.rearm.holdGrants.giveAll

/-- SCATTER_DONE (R24, R283): the completion count is reported; the state becomes that between steps. It is reported only
after the commit. It is also the step boundary at which a spare with its state enters the job. -/
def execScatterDone (s : State) : Host.Outcome State Fault Refusal :=
  .next (s.stepIssue (fun e => e.op == 3) always fun _ t =>
    if t.get F.UPD_STEP_STAT_STATE == 5 then
      (((t.setStep t.restState).set F.UPD_STEP_STAT_APPLIED 0).boundary, false)
    else if t.get F.UPD_STEP_STAT_STATE == 8 && t.mbr.admitVersion.isSome then (t.boundary, false)
    else (t, false))

/-! PHASE (R124). -/

/-- The region mask at an offset of a body. -/
def QEntry.mask (e : QEntry) (o : Nat) : List Nat := (List.range 64).filter fun r => bit (e.at o 8) r

/-- PHASE: the regions of the mask that are not EXCLUDEd are asked to switch; a STOPPED or RETIRED one is refused, and the
descriptor fails once the others have switched. -/
def execPhase (s : State) : Host.Outcome State Fault Refusal :=
  .next (s.issueIn .chip (fun e => e.typ == 7) (fun e => decide (e.at 24 1 ≤ 7) && imgHasPhase s.image (e.at 24 1))
    fun e t =>
      let rs := (e.mask 32).filter fun r => !t.excluded r
      let stuck := fun r => t.regionState r == 4 || t.regionState r == 5 || t.forcedAt 0x52 (locRegion r)
      let t1 := t.fly .chip e 0 false (rs.any stuck)
      (rs.foldl (fun u r => if stuck r then u.phaseRefused r e.id e.item else u.askDrain r (.phase (e.at 24 1) (some e.sid)))
        t1).phaseDone (some e.sid))

/-! COLL (R201, R211). -/

/-- COLL: a collective is posted with a guaranteed slot on its home hub; one whose pair is posted or lingering here, or
whose chain does not exist, or with a field out of range, is DESC_BAD. While no slot can be had the descriptor stays at the head. An
armed COL_CANCELLED cancels it (R225). -/
def execColl (s : State) : Host.Outcome State Fault Refusal :=
  .next (
    let ok := fun (e : QEntry) => decide (e.at 24 2 < imgChains s.image) && collFieldsOk e &&
      (s.coll (e.at 26 2) (s.effSeq (e.at 28 4) (imgChain s.image (e.at 24 2) 8 2))).isNone
    let slot := fun (e : QEntry) => s.firstSlot (imgHome s.image (e.at 24 2))
    s.issueIn .chip (fun e => e.typ == 8 && (!ok e || (slot e).isSome)) ok fun e t =>
      let u := (t.fly .chip e 0 false false).postColl e ((slot e).getD 0)
      let c := t.collOf e 0
      (if u.forcedAt 0x95 (locHub c.home) then u.cancelColl c.group c.seq else u).giveAll)

/-! DISPATCH (R130). -/

/-- LIST of a DISPATCH. -/
def QEntry.list (e : QEntry) : Nat := e.at 24 4
/-- COUNT of a DISPATCH. -/
def QEntry.count (e : QEntry) : Nat := e.at 28 2
/-- REPEAT of a DISPATCH. -/
def QEntry.reps (e : QEntry) : Nat := e.at 30 2

/-- The region base register for one repetition (R130). -/
def State.setBase (s : State) (e : QEntry) (r rank rep : Nat) : State :=
  let sel := e.at 40 1 % 8
  let v := (e.at 42 6 + rank * e.at 48 6 + rep * e.at 54 6) % 2 ^ 48
  if sel = 0 then s
  else { s with sched := { s.sched with bases := Tab.put 0 s.sched.bases (8 * r + sel) v } }

/-- How far a DISPATCH has come in a region: descriptors placed, over all repetitions. -/
def State.cursor (s : State) (r : Nat) : Nat := Tab.get 0 s.sched.dispatched r

/-- The cursor of a region written. -/
def State.setCursor (s : State) (r v : Nat) : State :=
  { s with sched := { s.sched with dispatched := Tab.put 0 s.sched.dispatched r v } }

/-- Descriptors that a DISPATCH places in one region. -/
def QEntry.places (e : QEntry) : Nat := if e.count = 0 then 1 else e.reps * e.count

/-- Descriptors of a DISPATCH go into one region while their queues have room, each repetition setting its base first. -/
def State.dispatchTo (s : State) (e : QEntry) (r rank : Nat) : Nat → State
  | 0 => s
  | n + 1 =>
    let c := s.cursor r
    if e.places ≤ c then s
    else
      let s1 := if c % e.count = 0 then s.setBase e r rank (c / e.count) else s
      match imgDesc s.image (e.list + c % e.count) with
      | none => (s1.setCursor r (c + 1)).dispatchTo e r rank n
      | some raw =>
        let q := queueFor r (beAt raw 0 1)
        if s1.room q then ((s1.place q raw (c / e.count)).setCursor r (c + 1)).dispatchTo e r rank n else s1

/-- A DISPATCH in one region. A COUNT of 0 only sets the base, of which the last repetition's stays. One command places at
most the 256 descriptors that a region's queues hold. -/
def State.dispatchIn (s : State) (e : QEntry) (r rank : Nat) : State :=
  if e.count = 0 then (s.setBase e r rank (e.reps - 1)).setCursor r 1 else s.dispatchTo e r rank 256

/-- Whether the fields of a DISPATCH are defined. -/
def dispatchOk (img : List Byte) (e : QEntry) : Bool :=
  decide (1 ≤ e.reps) && (e.count == 0 || listOk img e.list e.count)

/-- The DISPATCH at the head of the chip queue goes on: the regions of the mask take the list, EXCLUDEd ones dropped. -/
def State.dispatchStep (s : State) (e : QEntry) : State :=
  let rs := (e.mask 32).filter fun r => !s.excluded r
  let t := (rs.zipIdx).foldl (fun u x => u.dispatchIn e x.1 x.2) s
  if rs.all fun r => decide (e.places ≤ t.cursor r) then
    t.issueIn .chip (fun x => x.typ == 9) always fun x u =>
      ({ u with sched := { u.sched with dispatched := [] } }).fly .chip x 0 true false
  else t

/-- DISPATCH (R130): the descriptor stays at the head of the chip queue while a region's queue is full, and each command
takes it further. -/
def execDispatch (s : State) : Host.Outcome State Fault Refusal :=
  .next (match s.head .chip with
    | .ready e _ =>
      if e.typ == 9 && headerOk .chip e && dispatchOk s.image e then s.dispatchStep e
      else s.issueIn .chip (fun x => x.typ == 9) (dispatchOk s.image) fun _ u => u
    | _ => s.issueIn .chip (fun x => x.typ == 9) (dispatchOk s.image) fun _ u => u)

/-! Completion (R20, R28, R133). -/

/-- How many tensors this gateway owns. Owned vectors count with the matrices in 'the last owned matrix' of Table OS-4, for
Gather and Exchange; Orthogonalise has matrices alone (DESIGN CHOICE: the table names matrices, and the phases of a vector
are those of R20 without Orthogonalise). -/
def State.ownedCount (s : State) : Nat := s.get F.UPD_OWNED_MATRICES + s.get F.UPD_OWNED_VEC_VECTORS

/-- The step state of a step in progress is the phase of the least advanced owned tensor (R28, Table OS-4). -/
def State.restep (s : State) : State :=
  let st := s.get F.UPD_STEP_STAT_STATE
  let x := s.step
  if st = 0 ∨ 5 ≤ st then s
  else s.setStep (
    if x.gathered < s.ownedCount then 1
    else if x.exchanged < s.ownedCount then 2
    else if s.get F.UPD_RULE_RULE = 3 ∧ x.orthDone < s.get F.UPD_OWNED_MATRICES then 3
    else 4)

/-- What the completion of a descriptor means for the outer step (R20, R28, R104). A failed one tells nothing. -/
def State.mark (s : State) (m : StepMark) : State :=
  match m with
  | .none => s
  | .gathered => ({ s with step := { s.step with gathered := s.step.gathered + 1 } }).restep
  | .exchanged => ({ s with step := { s.step with exchanged := s.step.exchanged + 1 } }).restep
  | .orthogonalised _ =>
    (({ s with step := { s.step with orthDone := s.step.orthDone + 1 } }).setAll
      [(F.UPD_ORTH_TIME_US, (s.ns64 - s.step.orthSince) / 1000), (F.UPD_ORTH_POS_MATRIX, noMatrix),
       (F.UPD_ORTH_POS_ITER, 0), (F.UPD_ORTH_POS_PRODUCT, 0), (F.UPD_ORTH_POS_STAGE, 0)]).restep
  | .applyEntered => s.restep
  | .applied => s.bump F.UPD_STEP_STAT_APPLIED
  | .orthAt matrix iter product stage =>
    let s1 := if s.get F.UPD_ORTH_POS_MATRIX = matrix then s
      else { s with step := { s.step with orthSince := s.ns64 } }
    s1.setAll [(F.UPD_ORTH_POS_MATRIX, matrix), (F.UPD_ORTH_POS_ITER, iter), (F.UPD_ORTH_POS_PRODUCT, product),
      (F.UPD_ORTH_POS_STAGE, stage)]

/-- A region settles after one of its descriptors has gone, and takes more of its ENTRY list. -/
def State.settleQueue (s : State) (q : QueueId) : State :=
  match qRegion q with
  | some r => (s.settleRegion r).feed r
  | none => s

/-- A descriptor in progress is taken out and completes, or fails (R133). -/
def State.complete (s : State) (f : Flight) : State :=
  let s1 := { s with sched := { s.sched with flights := s.sched.flights.filter fun x => x.entry.sid != f.entry.sid } }
  (s1.finish f.queue f.entry f.failed).settleQueue f.queue

/-- DESCRIPTOR_COMPLETION (R133). -/
def execDescriptorCompletion (queue : QueueId) (sid : Nat) (mark : StepMark) (s : State) :
    Host.Outcome State Fault Refusal :=
  .next (match s.sched.flights.find? fun f => f.queue == queue && f.entry.sid == sid with
    | none => s
    | some f =>
      if !f.done then s
      else
        let t := s.complete f
        if f.failed || s.step.abandoned then t else t.mark mark)

/-! Deadlines (R132). -/

/-- The outputs that a cancelled TILE, SPIN or MOVE leaves poisoned, written or not (R64, R132, R145). A descriptor that could
not issue has none. -/
def State.poisonOutputs (s : State) (q : QueueId) (e : QEntry) : State :=
  match q with
  | .tile r =>
    if tileFieldsOk e && tileFits r e then
      (List.range e.ntiles).foldl (fun t i => t.poisonRowsAt (poisonRows e (tilePlace r e i))) s
    else s
  | .spin r => if spinOk r e then (spinWrites r e).foldl (fun t x => t.storePoison x.1 x.2) s else s
  | .move r => if moveOk r e then (e.moveRanges false).foldl (fun t x => t.storePoison x.1 x.2) s else s
  | _ => s

/-- The requests of a cancelled PHASE descriptor that no region has met yet are withdrawn. -/
def State.withdraw (s : State) (sid : Nat) : State :=
  (List.range 64).foldl (fun t r =>
    let l := t.drains r
    let keep := l.filter fun q => (match q with
      | .phase _ a => a != some sid
      | _ => true)
    if keep.length = l.length then t
    else
      let t1 := t.setDrains r keep
      if keep == [] then t1.settleRegion r else t1) s

/-- A descriptor in progress is cancelled (R132): its work stops and it completes as failed. -/
def State.cancelFlight (s : State) (f : Flight) : State :=
  let s1 := match f.queue with
    | .tile _ => s.endTiles f.entry.sid
    | _ => s
  let s2 := s1.poisonOutputs f.queue f.entry
  let s3 := if f.entry.typ = 8 then
      match s2.col.colls.find? fun c => c.sid == f.entry.sid with
      | some c => s2.cancelColl c.group c.seq
      | none => s2
    else if f.entry.typ = 7 then s2.withdraw f.entry.sid
    else s2
  s3.complete { f with failed := true }

/-- A queued descriptor is cancelled: it leaves its queue and fails, its outputs poisoned; one that has begun to be
dispatched does nothing further. -/
def State.cancelQueued (s : State) (q : QueueId) (e : QEntry) : State :=
  let head := match s.queue q with
    | x :: _ => x.sid == e.sid
    | [] => false
  let s1 := s.setQueue q ((s.queue q).filter fun x => x.sid != e.sid)
  let s2 := if q == .chip && head then { s1 with sched := { s1.sched with dispatched := [] } } else s1
  ((if headerOk q e then s2.poisonOutputs q e else s2).finish q e true).settleQueue q

/-- Whether a deadline is past and not yet reported, or an armed DL_MISS acts on the descriptor (R136, R372); nothing is
checked while REFCLK_T is lost (R322). -/
def State.isLate (s : State) (q : QueueId) (e : QEntry) : Bool :=
  !e.late && s.time.running && (s.forcedAt 0x50 (qLoc q) || s.pastDeadline e)

/-- Whether a miss of a descriptor cancels it. -/
def State.dlCancels (s : State) (e : QEntry) : Bool := e.cancelDl || s.flag F.SEQ_CFG_DL_CANCEL

/-- A TALLY element of a COLL that misses its deadline lacks reports, and the step does not commit (R222). -/
def State.collShort (s : State) (e : QEntry) : State :=
  match if e.typ = 8 then s.col.colls.find? fun c => c.sid == e.sid else none with
  | none => s
  | some c => if (c.find fun x => x.d.kind == 7 && !x.done).isSome then (s.tallyMiss c.group c.seq).giveAll else s

/-- DL_MISS (R132): a descriptor found incomplete after its deadline. -/
def execDlMiss (queue : QueueId) (sid : Nat) (s : State) : Host.Outcome State Fault Refusal :=
  .next (match s.sched.flights.find? fun f => f.queue == queue && f.entry.sid == sid with
    | some f =>
      if s.isLate queue f.entry then
        let t := ((s.missDeadline queue f.entry).onFlight sid fun x => { x with entry := { x.entry with late := true } }).collShort
          f.entry
        if s.dlCancels f.entry then
          match t.flight sid with
          | some g => t.cancelFlight g
          | none => t
        else t
      else s
    | none => match (s.queue queue).find? fun e => e.sid == sid with
      | some e =>
        if s.isLate queue e then
          let t := (s.missDeadline queue e).setQueue queue ((s.queue queue).map fun (x : QEntry) =>
            if x.sid == sid then { x with late := true } else x)
          if s.dlCancels e then t.cancelQueued queue { e with late := true } else t
        else s
      | none => s)

/-! Phase switches (R124, R125). -/

/-- REGION_DRAINED (R124): a DRAINING region whose queues have finished their descriptors in progress is at its descriptor
boundary. -/
def execRegionDrained (region : Nat) (s : State) : Host.Outcome State Fault Refusal :=
  .next (if s.regionState region == 2 && !s.busyRegion region && !s.fatal then s.drainReached region else s)

/-- Whether a station's request is refused at once for a region (R125). -/
def State.refusesPhase (s : State) (r n : Nat) : Bool :=
  s.regionState r == 4 || s.regionState r == 5 || s.forcedAt 0x52 (locRegion r) || s.excluded r || s.applying || !imgHasPhase s.image n ||
    (imgStepPhase (s.regionImage r) (s.get (F.SEQ_REG_PHASE_PHASE.ix r)) && s.get F.UPD_STEP_STAT_STATE != 0)

/-- SEQ_PHASE_REQ (R124, R125): GO asks the regions of the committed mask. -/
def execSeqPhaseReq (phase : Nat) (s : State) : Host.Outcome State Fault Refusal :=
  .next (s.hostWrite 3 fun t =>
    let mask := t.get64 F.SEQ_PHASE_MASK_LO_MASK F.SEQ_PHASE_MASK_HI_MASK
    ((List.range 64).filter fun r => bit mask r).foldl (fun u r =>
      if u.refusesPhase r phase then u.phaseRefused r else u.askDrain r (.phase phase none))
      (t.set F.SEQ_PHASE_REQ_PHASE phase))

/-- PHASE_REFUSED (R125): a station's request that a region has not met by SEQ_PHASE_DL is refused; a region that drained
for it alone runs on. -/
def execPhaseRefused (region : Nat) (s : State) : Host.Outcome State Fault Refusal :=
  .next (
    let l := s.drains region
    match l.findIdx? fun q => (match q with
      | .phase _ none => true
      | _ => false) with
    | none => s
    | some i =>
      let t := s.setDrains region (l.eraseIdx i)
      ((t.settleRegion region).phaseRefused region).feed region)

/-- SEQ_RUN (R113, R138): GO dispatches a PROGRAM entry other than 0 that the image holds. -/
def execSeqRun (entry : Nat) (s : State) : Host.Outcome State Fault Refusal :=
  .next (s.hostWrite 3 fun t =>
    let t1 := t.set F.SEQ_RUN_ENTRY entry
    if entry = 0 ∨ imgEntries t.image ≤ entry then t1 else t1.runProgram entry)

/-- SEQ_CNT_CLR (R138): the counts clear, the first-error registers are re-armed, and the causes of SEQ_EVT end. -/
def execSeqCntClr (s : State) : Host.Outcome State Fault Refusal :=
  .next (s.hostWrite 3 fun t =>
    (t.clearAll [F.SEQ_CNT_DL_MISS, F.SEQ_CNT_SKIPPED, F.SEQ_FE_DESC_DESC_ID, F.SEQ_FE_INFO_SOURCE, F.SEQ_FE_INFO_ITEM,
      F.SEQ_FE_INFO_CHIP, F.SEQ_FE_INFO_REGION]).evtEndAll
      [F.SEQ_EVT_RESTARTED, F.SEQ_EVT_PHASE_REFUSED, F.SEQ_EVT_DESC_BAD, F.SEQ_EVT_DL_MISS])

/-! The replica (R26, R159). -/

/-- REPLICA_CONFIRM (R26): the partner confirms a version; that of the committed one releases Apply. To a spare it names the
version whose state the partner's PUTs have brought (R283; DESIGN CHOICE: the rule names no carrier of that version). -/
def execReplicaConfirm (epoch mask : Nat) (s : State) : Host.Outcome State Fault Refusal :=
  .next (if s.mbr.admitting then
      if s.flag F.MBR_ADMIT_FROM_REMOTE then s
      else { s with mbr := { s.mbr with admitVersion := some (epoch % 2 ^ 64, mask % 256) } }
    else if epoch = s.outerEpoch ∧ mask = s.get F.UPD_ANCHOR_MASK_MASK then
      let t := { s with step := { s.step with partnerHeld := true } }
      if t.applyHeld then t else t.set F.UPD_STEP_STAT_PARTNER_WAIT 0
    else s)

/-- REPLICA_LOST (R159): the partner has lost its replica; the next stream carries the full state. -/
def execReplicaLost (s : State) : Host.Outcome State Fault Refusal :=
  .next { s with step := { s.step with fullStream := true } }

end Sys2Proof.Machine
end

