-- ==== Sys2Proof/Machine/CollCmd.lean ====
section
/-! DEFINITION. Meanings of the collective commands (R205–R226), and of PUT and GET_DATA (R188, R189). -/

namespace Sys2Proof.Machine

/-- The group, ATTEMPT and chunk of a COL packet (R207). -/
def colKey (k : Packet) : Nat × Nat × Nat := (k.addr / 2 ^ 32 % 65536, k.addr / 2 ^ 30 % 4, k.addr % 2 ^ 30)

/-- Whether a broadcast packet goes to a buffer in the far tier, and so through the port's Hopper pool (R196). -/
def State.bcastFar (s : State) (k : Packet) : Bool :=
  let x := colKey k
  match s.coll x.1 k.opId with
  | none => false
  | some c => match c.find fun e => e.d.kind == 4 && decide (e.d.c0 ≤ x.2.2 ∧ x.2.2 < e.d.c0 + e.d.nch) with
    | none => false
    | some y => s.storeAt ((if y.2.d.out2 then c.addr2 else c.addr) + x.2.2 * c.cb) == .far

/-- The oldest COL packet of an opcode delivered at a hub is taken and its buffer freed (R196). -/
def State.onCol (s : State) (hub op : Nat) (f : Packet → State → State) : State :=
  match s.takePacket hub op with
  | none => s
  | some x => f x.1.pkt (x.2.consumed x.1 (op == 0x12 && x.2.bcastFar x.1.pkt))

/-! PUT and GET_DATA, whose bytes can end what holds the grants. -/

/-- PUT (R188, R189): initiated, or a delivered packet taken, whose bytes may end the
restoring of an abandoned step (R282) or a replica stream (R26). -/
def execPut (c : FabCmd) (s : State) : Host.Outcome State Fault Refusal :=
  .next (match c with
    | .issue q => s.issueOp .put q
    | .take hub => match s.takePacket hub 1 with
      | some x => (x.2.putPacket x.1).giveAll
      | none => s)

/-- GET_DATA (R188, R189): data stands in its buffer; the GET completes by count, or fails on a refusal, or when its buffer
reaches no store or a far-tier link that is down (R141, R159). -/
def execGetData (hub : Nat) (s : State) : Host.Outcome State Fault Refusal :=
  .next (match s.takePacket hub 4 with
    | none => s
    | some x =>
      let k := x.1.pkt
      let s1 := x.2.consumed x.1 false
      match s1.answered .get k with
      | none => s1.staleReply
      | some o =>
        if k.len = 0 && k.addr / 2 ^ 40 != 0 then s1.opFail k.opId o
        else
          let a := o.req.buf + 4096 * k.pkt
          let f := s1.rangeFaults 0 [] [(a, k.data.length)]
          let s2 := ((f.2.deposit a (k.data.map fun b => (b, k.poison))).restored a k.data.length).giveAll
          let o2 : FabOp := { o with got := o.got + 1, total := if k.last then some (k.pkt + 1) else o.total }
          if f.1 then s2.opFail k.opId o
          else if o2.total == some o2.got then s2.endOp .get k 0 else s2.setOp k.opId (some o2))

/-! Hopper's commands, which can give a keyed chunk its buffers (R163, R219). -/

/-- HOPPER_REQUEST (R160, R162, R163). -/
def execHopperRequest (hub owner size : Nat) (listError : Bool) (s : State) : Host.Outcome State Fault Refusal :=
  .next (match poolFor hub size with
    | none => s.emit (.refused hub owner)
    | some n =>
      let t := s.askPool n owner listError
      if t.refuses n && !s.refuses n then t.giveAll else t)

/-- HOPPER_RELEASE (R163, R164). -/
def execHopperRelease (owner handle : Nat) (s : State) : Host.Outcome State Fault Refusal :=
  .next ((s.releaseHandle owner handle).giveAll)

/-- HOP_AUDIT_DONE (R165). -/
def execHopAuditDone (pool : Nat) (s : State) : Host.Outcome State Fault Refusal :=
  .next (if s.flag (F.HOP_POOL_STAT_AUDIT_BUSY.ix pool) then (s.auditDone pool).giveAll else s)

/-- REBUILD (R166): in MAINTENANCE mode, with ALLOC 0, a BROKEN pool's free list is rewritten. -/
def execRebuild (pool : Nat) (s : State) : Host.Outcome State Fault Refusal :=
  .next (s.hostWrite 11 fun t =>
    if t.maintenance && t.get (F.HOP_POOL_ALLOC_ALLOC.ix pool) == 0 && t.flag (F.HOP_POOL_STAT_BROKEN.ix pool) then
      (t.rebuildPool pool).giveAll
    else t)

/-! Elements. -/

/-- ELEMENT_NOP (Table COL-4). -/
def execElementNop (group seq elem : Nat) (s : State) : Host.Outcome State Fault Refusal :=
  .next ((s.fireElem group seq elem 0 fun _ _ t => t.endElem group seq elem false).giveAll)

/-- SEND (Table COL-4): the element sends the chunks whose grants it holds. -/
def execSend (group seq elem : Nat) (s : State) : Host.Outcome State Fault Refusal :=
  .next ((s.fireElem group seq elem 1 fun _ e t => t.sendReady group seq elem e.d.nch).giveAll)

/-- REDUCE (R208): the element's chunks take slots, preload them and grant. -/
def execReduce (group seq elem : Nat) (s : State) : Host.Outcome State Fault Refusal :=
  .next ((s.fireElem group seq elem 2 fun _ _ t => t).giveAll)

/-- BCAST (R223): every chunk is multicast; an armed BCAST_RESEND sends the first again (R225). -/
def execBcast (group seq elem : Nat) (s : State) : Host.Outcome State Fault Refusal :=
  .next ((s.fireElem group seq elem 3 fun c e t =>
    let u := (List.range e.d.nch).foldl (fun u k => u.sendChunk c elem e.d.hub 0x12 e.d.peer true 0 (e.d.c0 + k)) t
    let v := if u.forcedAt 0x93 (locHub e.d.hub) then u.resendChunk c elem e e.d.peer true e.d.c0 else u
    v.endElem group seq elem (v.elemFailed group seq elem)).giveAll)

/-- COLLECT (R223): the element waits for broadcast chunks. -/
def execCollect (group seq elem : Nat) (s : State) : Host.Outcome State Fault Refusal :=
  .next ((s.fireElem group seq elem 4 fun _ _ t => t).giveAll)

/-- A counting element whose count is full is done. -/
def State.countDone (s : State) (g q i : Nat) : State :=
  match (s.coll g q).bind fun c => c.elems[i]? with
  | none => s
  | some e => if e.fired && decide (e.d.nch ≤ e.finished) then s.endElem g q i false else s

/-- DONES (R223). -/
def execDones (group seq elem : Nat) (s : State) : Host.Outcome State Fault Refusal :=
  .next ((s.fireElem group seq elem 5 fun _ _ t => t.countDone group seq elem).giveAll)

/-- RELEASE (R224): the release goes out once the step has committed. -/
def execRelease (group seq elem : Nat) (s : State) : Host.Outcome State Fault Refusal :=
  .next ((s.fireElem group seq elem 6 fun _ _ t => t.tryRelease group seq elem).giveAll)

/-- A TALLY element whose count is full reports its sum (R222), unless an armed TALLY_SHORT acts (R225). -/
def State.tallyDone (s : State) (g q i : Nat) : State :=
  match (s.coll g q).bind fun c => c.elems[i]? with
  | none => s
  | some e =>
    if e.fired && !e.done && s.forcedAt 0x94 (locHub e.d.hub) then s.tallyMiss g q
    else if e.fired && !e.done && decide (e.d.nch ≤ e.finished) then
      let s1 := (s.set64 F.COL_TALLY_LO_TOKENS F.COL_TALLY_HI_TOKENS e.tokens).set F.COL_TALLY_N_REPORTS (min 65535 e.finished)
      ({ s1 with mbr := { s1.mbr with tally := e.tokens } }).endElem g q i false
    else s

/-- TALLY (R222). -/
def execTally (group seq elem : Nat) (s : State) : Host.Outcome State Fault Refusal :=
  .next ((s.fireElem group seq elem 7 fun _ _ t => t.tallyDone group seq elem).giveAll)

/-! Chunks that are granted again, and leases that end. -/

/-- A slot's lease expires with its chunk's last reissue (R213, R214, Table MLR-6): the chunk fails, the slot is written
back poisoned, leaves the chunk and waits for its reclaim. -/
def State.expireSlot (s : State) (n : Nat) (c : Coll) (e : Elem) (x : Slot) : State :=
  let s1 := (s.bump F.COL_CNT_A_FAIL).raiseCol 0x91 .uc (some F.COL_EVT_CHUNK_FAIL) e.d.hub c.group c.seq x.attempt
    x.chunk
  let s2 := (s1.writeBack c e { x with poison := true }).setSlot n { x with reclaiming := true, handles := [] }
  let s3 := s2.raiseCol 0x92 .ce (some F.COL_EVT_RECLAIM) e.d.hub c.group c.seq x.attempt x.chunk
  (s3.chunkEnd c x true).giveAll

/-- A chunk is granted again (R213): preloaded, the next ATTEMPT, CHUNK_REISSUE. -/
def State.reissue (s : State) (n : Nat) (c : Coll) (e : Elem) (x : Slot) : State :=
  let p := s.preload c e x.chunk
  let a := (x.attempt + 1) % 4
  let s0 := s.preloadAccess c x.elem e x.chunk
  let y := { x with
    attempt := a, reissues := x.reissues + 1, acc := p.1, poison := p.2, count := 0, totals := [], stages := [] }
  (((s0.setSlot n y).bump F.COL_CNT_A_REISSUE).raiseCol 0x90 .ce none e.d.hub c.group c.seq a x.chunk).inject e.d.hub
    (colPacket 0x11 e.d.peer e.d.peerMc c.group c.seq a x.chunk)

/-! Packets. -/

/-- COL_DATA (R209, R210, R218, R219): a packet is summed into the slot it matches, or is STALE or DUP. An armed
CHUNK_REISSUE, CHUNK_FAIL or SLOT_RECLAIM acts on that chunk (R225, R372). -/
def execColData (hub : Nat) (s : State) : Host.Outcome State Fault Refusal :=
  .next (s.onCol hub 0x10 fun k t =>
    let x := colKey k
    let late := (t.coll x.1 k.opId).any fun c => c.elems.any fun e => e.d.keyed && e.written.has x.2.2
    match t.slotOf x.1 k.opId x.2.2, t.coll x.1 k.opId with
    | some n, some c => match c.elems[n.2.elem]? with
      | some e =>
        if n.2.attempt == x.2.1 then
          let t1 := t.firstGather c
          if t1.forcedAt 0x90 (locHub e.d.hub) && n.2.reissues < t1.get F.FAB_CFG_RETRIES then t1.reissue n.1 c e n.2
          else if t1.forcedAt 0x91 (locHub e.d.hub) || t1.forcedAt 0x92 (locHub e.d.hub) then t1.expireSlot n.1 c e n.2
          else if e.d.keyed then t1.stagePacket n.1 c e n.2 k else t1.sumPacket n.1 c e n.2 k
        else t.colStale
      | none => t.colStale
    | _, _ => if late then t.dup 1 else t.colStale)

/-- COL_GRANT (R208): the grant reaches its SEND element, waits in the early-grant table, or is STALE. -/
def execColGrant (hub : Nat) (s : State) : Host.Outcome State Fault Refusal :=
  .next (s.onCol hub 0x11 fun k t =>
    let x := colKey k
    match t.coll x.1 k.opId with
    | some c => match c.sendElem x.2.2 k.src with
      | some y => (t.takeGrant c y.1 y.2 x.2.2 x.2.1).giveAll
      | none => t.colStale
    | none =>
      if (t.col.early.filter fun e => e.hub == hub).length < 1024 then
        { t with col := { t.col with early := t.col.early ++ [Early.mk hub x.1 k.opId x.2.2 x.2.1 k.src] } }
      else t.colStale)

/-- A broadcast packet is written into its COLLECT buffer (R223); the chunk completes by count, the element with its
last chunk, and then it sends COL_DONE. -/
def State.collectPacket (s : State) (c : Coll) (i : Nat) (e : Elem) (chunk : Nat) (k : Packet) : State :=
  let a := (if e.d.out2 then c.addr2 else c.addr) + chunk * c.cb + 4096 * k.pkt
  let s1 := (s.collAccess c i [] [(a, k.data.length)]).deposit a (k.data.map fun b => (b, k.poison))
  let old := (Tab.find e.parts chunk).getD ⟨[], none⟩
  let p : PartChunk := ⟨if old.pkts.contains k.pkt then old.pkts else k.pkt :: old.pkts,
    if k.last then some (k.pkt + 1) else old.total⟩
  if p.total == some p.pkts.length then
    let s2 := s1.onElem c.group c.seq i fun y =>
      { y with parts := Tab.erase y.parts chunk, written := y.written.add chunk, finished := y.finished + 1 }
    if e.d.nch ≤ e.finished + 1 then
      ((s2.inject e.d.hub (colPacket 0x13 e.d.peer false c.group c.seq 0 0)).endElem c.group c.seq i (s2.elemFailed c.group c.seq i)).giveAll
    else s2
  else s1.onElem c.group c.seq i fun y => { y with parts := Tab.insert y.parts chunk p }

/-- COL_BCAST (R223). -/
def execColBcast (hub : Nat) (s : State) : Host.Outcome State Fault Refusal :=
  .next (s.onCol hub 0x12 fun k t =>
    let x := colKey k
    match t.coll x.1 k.opId with
    | none => t.colStale
    | some c => match c.find fun e => e.d.kind == 4 && e.fired && !e.done && !e.written.has x.2.2 &&
        decide (e.d.c0 ≤ x.2.2 ∧ x.2.2 < e.d.c0 + e.d.nch) with
      | none => t.colStale
      | some y => t.collectPacket c y.1 y.2 x.2.2 k)

/-- COL_DONE (R223): counted by the collective's DONES element. -/
def execColDone (hub : Nat) (s : State) : Host.Outcome State Fault Refusal :=
  .next (s.onCol hub 0x13 fun k t =>
    let g := (colKey k).1
    match (t.coll g k.opId).bind fun c => c.find fun e => e.d.kind == 5 && !e.done with
    | none => t.colStale
    | some y => ((t.onElem g k.opId y.1 fun e => { e with finished := e.finished + 1 }).countDone g k.opId y.1).giveAll)

/-- COL_NACK (R223): the root sends the chunk again, by unicast. -/
def execColNack (hub : Nat) (s : State) : Host.Outcome State Fault Refusal :=
  .next (s.onCol hub 0x14 fun k t =>
    let x := colKey k
    match t.coll x.1 k.opId with
    | none => t.colStale
    | some c => match c.find fun e => e.d.kind == 3 && e.fired && decide (e.d.c0 ≤ x.2.2 ∧ x.2.2 < e.d.c0 + e.d.nch) with
      | none => t.colStale
      | some y => t.resendChunk c y.1 y.2 k.src false x.2.2)

/-- COL_RELEASE (R224): the version that a gateway released is kept by sender; a repeat changes nothing. -/
def execColRelease (hub : Nat) (s : State) : Host.Outcome State Fault Refusal :=
  .next (s.onCol hub 0x15 fun k t =>
    { t with col := { t.col with released := Tab.insert t.col.released k.src (beAt k.data 0 8, beAt k.data 8 1) } })

/-- COL_TALLY (R222): a report counts once for each SRC. -/
def execColTally (hub : Nat) (s : State) : Host.Outcome State Fault Refusal :=
  .next (s.onCol hub 0x16 fun k t =>
    let g := (colKey k).1
    match (t.coll g k.opId).bind fun c => c.find fun e => e.d.kind == 7 with
    | none => t.colStale
    | some y =>
      if y.2.srcs.contains k.src then t.dup 1
      else if y.2.done then t.colStale
      else ((t.onElem g k.opId y.1 fun e => { e with
          srcs := k.src :: e.srcs
          tokens := (e.tokens + beAt k.data 0 8) % 2 ^ 64
          finished := e.finished + 1 }).tallyDone g k.opId y.1).giveAll)

/-! Timers. -/

/-- A timer of a chunk that is being reduced. -/
def State.onChunk (s : State) (g q k : Nat) (f : Nat → Coll → Elem → Slot → State) : State :=
  match s.slotOf g q k, s.coll g q with
  | some n, some c => match c.elems[n.2.elem]? with
    | some e => f n.1 c e n.2
    | none => s
  | _, _ => s

/-- CHUNK_REISSUE (R213): the chunk is not complete OP_TO after its grant. A GATHER chain whose grants are held grants none
again until the hold ends (R218). -/
def execChunkReissue (group seq chunk : Nat) (s : State) : Host.Outcome State Fault Refusal :=
  .next (if s.mute then s else s.onChunk group seq chunk fun n c e x =>
    if !(x.reissues < s.get F.FAB_CFG_RETRIES) then s.expireSlot n c e x
    else if c.gather && s.flag F.COL_STAT_GRANT_HOLD then s
    else s.reissue n c e x)

/-- SLOT_RECLAIM (R214): the lease of a slot whose reissues are spent expires. -/
def execSlotReclaim (group seq chunk : Nat) (s : State) : Host.Outcome State Fault Refusal :=
  .next (s.onChunk group seq chunk fun n c e x =>
    if x.reissues < s.get F.FAB_CFG_RETRIES then s else s.expireSlot n c e x)

/-- SLOT_RECLAIM_END (R214): the sender is fenced, or 64 × HOP_LIFE has passed. -/
def execSlotReclaimEnd (hub slot : Nat) (s : State) : Host.Outcome State Fault Refusal :=
  .next (match Tab.find s.col.slots (128 * hub + slot) with
    | none => s
    | some x => if x.reclaiming then (s.freeSlot (128 * hub + slot)).giveAll else s)

/-- LINGER_END (R215). -/
def execLingerEnd (group seq : Nat) (s : State) : Host.Outcome State Fault Refusal :=
  .next (({ s with col := { s.col with
    colls := s.col.colls.filter fun c => !(c.linger && c.group == group && c.seq == seq) } }).countSlots)

/-- EARLY_GRANT_EXPIRY (R208): OP_TO has passed since the oldest early grant of the chunk came; a later one stays. -/
def execEarlyGrantExpiry (group seq chunk : Nat) (s : State) : Host.Outcome State Fault Refusal :=
  .next ({ s with col := { s.col with
    early := s.col.early.eraseP fun x => x.group == group && x.seq == seq && x.chunk == chunk } })

/-- NACK_TIMER (R223): COL_NACK for up to 64 chunks missing OP_TO after the first arrival. -/
def execNackTimer (group seq elem : Nat) (s : State) : Host.Outcome State Fault Refusal :=
  .next (match (s.coll group seq).bind fun c => c.elems[elem]? with
    | none => s
    | some e =>
      let begun := decide (0 < e.finished) || !e.parts.isEmpty
      if e.d.kind == 4 && e.fired && !e.done && begun && !s.mute then
        let missing := (((List.range e.d.nch).map (e.d.c0 + ·)).filter fun k => !e.written.has k).take 64
        (s.bump F.COL_CNT_C_NACK_SENT missing.length).injectAll e.d.hub
          (missing.map fun k => colPacket 0x14 e.d.peer false group seq 0 k)
      else s)

/-- RELEASE_REPEAT (R224): the release goes out again until the next step's first Gather acceptance, whether or not its
collective still lingers. -/
def execReleaseRepeat (group seq elem : Nat) (s : State) : Host.Outcome State Fault Refusal :=
  .next (match s.col.releases.find? fun x => x.group == group && x.seq == seq && x.elem == elem with
    | some x => s.inject x.hub x.packet
    | none => s)

/-- TALLY_REPEAT (R222): a reporting member multicasts its report again. -/
def execTallyRepeat (hub group dst seq tokens epoch : Nat) (s : State) : Host.Outcome State Fault Refusal :=
  .next (s.inject hub (packetOf 3 0x16 dst seq (colAddr group 0 0) 0 true true false 16
    (beBytes 8 tokens ++ beBytes 4 epoch ++ beBytes 4 0)))

/-! Registers. -/

/-- COL_FLIP ARM (R221). -/
def execColFlipArm (s : State) : Host.Outcome State Fault Refusal :=
  .next (s.hostWrite 14 fun t => t.set F.COL_STAT_FLIP_ARMED 1)

/-- COL_FLIP CANCEL (R221). -/
def execColFlipCancel (s : State) : Host.Outcome State Fault Refusal :=
  .next (s.hostWrite 14 fun t => t.set F.COL_STAT_FLIP_ARMED 0)

/-- COL_CANCEL (R216): the HI write cancels the collective that group and eff_seq name; ignored if none matches. -/
def execColCancel (group seq : Nat) (s : State) : Host.Outcome State Fault Refusal :=
  .next (s.hostWrite 14 fun t =>
    (t.setAll [(F.COL_CANCEL_LO_VALUE, seq), (F.COL_CANCEL_HI_VALUE, group)]).cancelColl group seq)

/-- COL_CNT_CLR (R226). -/
def execColCntClr (s : State) : Host.Outcome State Fault Refusal :=
  .next (s.hostWrite 14 fun t =>
    (t.clearAll [F.COL_CNT_A_REISSUE, F.COL_CNT_A_FAIL, F.COL_CNT_B_STALE, F.COL_CNT_B_DUP, F.COL_CNT_C_NACK_SENT,
      F.COL_CNT_C_RESENT, F.COL_FE_INFO_SOURCE, F.COL_FE_INFO_HUB, F.COL_FE_INFO_GROUP, F.COL_FE_SEQ_SEQ,
      F.COL_FE_CHUNK_ATTEMPT, F.COL_FE_CHUNK_CHUNK]).evtEndAll [F.COL_EVT_CANCELLED, F.COL_EVT_TALLY_SHORT,
      F.COL_EVT_RECLAIM, F.COL_EVT_CHUNK_FAIL])

end Sys2Proof.Machine
end

