-- ==== Sys2Proof/Machine/Persist.lean ====
section
/-! DEFINITION. Meanings of the commands of persistent state (R116, R410–R412, R415–R419): OTP records, boot store
operations, and the journal. -/

namespace Sys2Proof.Machine

/-! OTP. -/

/-- A refused OTP write (OTP_STAT.REASON). -/
def State.refuseOtp (s : State) (reason : Nat) : State := s.set F.OTP_STAT_REASON reason

/-- A write of a group starts to program. -/
def State.startOtp (s : State) (g : Nat) (data : List Byte) : State :=
  { (s.set F.OTP_STAT_BUSY 1) with otp := { s.otp with write := some ⟨g, data⟩ } }

/-- The generations of a group used up. -/
def State.otpUsed (s : State) (g : Nat) : Nat :=
  match Tab.find s.otp.groups g with
  | some x => x.used
  | none => 0

/-- OTP_KEY_DATA as bytes. -/
def State.keyData (s : State) : List Byte := (List.range 8).flatMap fun w => beBytes 4 (s.get (F.OTP_KEY_DATA_DATA.ix w))

/-- OTP_KEY_WRITE (R412): a hash goes into an empty index in MAINTENANCE mode; OTP_KEY_DATA is zeroed. A write while
another programs is ignored. -/
def execOtpKeyWrite (index : Nat) (s : State) : Host.Outcome State Fault Refusal :=
  .next (s.hostWrite 1 fun t0 =>
    if t0.otp.write.isSome then t0
    else
      let t := (t0.set F.OTP_KEY_CTL_INDEX index).clearAll ((List.range 8).map F.OTP_KEY_DATA_DATA.ix)
      let i := index % 4
      if !t.maintenance then t.refuseOtp 1
      else if t.keyState i = 2 then t.refuseOtp 5
      else if t.keyState i ≠ 0 then t.refuseOtp 3
      else if 4 ≤ t.otpUsed (2 + i) then t.refuseOtp 2
      else t.startOtp (2 + i) ([1#8, 0#8, 0#8, 0#8] ++ t0.keyData))

/-- OTP_KEY_REVOKE (R412): a valid index other than the running image's becomes revoked. -/
def execOtpKeyRevoke (index : Nat) (s : State) : Host.Outcome State Fault Refusal :=
  .next (s.hostWrite 1 fun t0 =>
    if t0.otp.write.isSome then t0
    else
      let t := t0.set F.OTP_KEY_CTL_INDEX index
      let i := index % 4
      if !t.maintenance then t.refuseOtp 1
      else if t.keyState i = 2 then t.refuseOtp 5
      else if t.keyState i ≠ 1 then t.refuseOtp 3
      else if t.img.running.any fun img => imgKeyIndex img == i then t.refuseOtp 4
      else if 4 ≤ t.otpUsed (2 + i) then t.refuseOtp 2
      else t.startOtp (2 + i) (2#8 :: (t.otpData (2 + i) 36).drop 1))

/-- IMG_ARB_COMMIT (R116, R411): the counter rises to the running image's version, in MAINTENANCE mode and where that is
higher; refused with none left. -/
def execImgArbCommit (s : State) : Host.Outcome State Fault Refusal :=
  .next (s.hostWrite 2 fun t =>
    match t.img.running with
    | none => t
    | some img =>
      if !t.maintenance || decide (imgArb img ≤ t.otpArb) || t.otp.write.isSome then t
      else if 64 ≤ t.otp.arbUsed then t.refuseOtp 2
      else t.startOtp 6 (beBytes 4 (imgArb img) ++ beBytes 4 (2 ^ 32 - 1 - imgArb img)))

/-- A write has ended. -/
def State.endOtp (s : State) : State :=
  (({ s with otp := { s.otp with write := none } }).set F.OTP_STAT_BUSY 0).showOtp

/-- Whether no entry of a group is left (64 words of group 6, 4 generations of any other). -/
def State.otpSpent (s : State) (g : Nat) : Bool :=
  if g = 6 then decide (64 ≤ s.otp.arbUsed) else decide (4 ≤ s.otpUsed g)

/-- A generation that reads back wrong is abandoned and the next one is programmed, if there is one (R410); in group 6
the entries of the generation are abandoned with it. -/
def State.abandonOtp (s : State) (w : OtpWrite) : State :=
  let spent : OtpGroup := match Tab.find s.otp.groups w.group with
    | some x => { x with used := x.used + 1 }
    | none => ⟨0, 1, []⟩
  let s1 := if w.group = 6 then { s with otp := { s.otp with arbUsed := min 64 ((s.otp.arbUsed / 16 + 1) * 16) } }
    else { s with otp := { s.otp with groups := Tab.insert s.otp.groups w.group spent } }
  let s2 := s1.persistFail
  if s2.otpSpent w.group then (s2.refuseOtp 2).endOtp else s2

/-- OTP_WRITE_DONE (R410): the generation is read back. -/
def execOtpWriteDone (readBackBad : Bool) (s : State) : Host.Outcome State Fault Refusal :=
  .next (match s.otp.write with
    | none => s
    | some w =>
      if readBackBad || s.forcedAt 0xFC (locChip 0x61) then s.abandonOtp w
      else if w.group = 6 then
        ({ s with otp := { s.otp with arb := s.otp.arb ++ [beAt w.data 0 4], arbUsed := s.otp.arbUsed + 1 } }).endOtp
      else
        let good : OtpGroup := ⟨s.otpUsed w.group + 1, s.otpUsed w.group + 1, w.data⟩
        ({ s with otp := { s.otp with groups := Tab.insert s.otp.groups w.group good } }).endOtp)

/-! The boot store (R416). -/

/-- A refused operation. -/
def State.refusePst (s : State) (reason : Nat) : State := (s.set F.PST_STAT_REASON reason).evt F.PST_EVT_REFUSED

/-- The causes of PST_EVT end at a GO or FLUSH. -/
def State.endPst (s : State) : State := s.evtEndAll [F.PST_EVT_FAIL, F.PST_EVT_REFUSED, F.PST_EVT_DONE]

/-- An operation starts. -/
def State.startPst (s : State) (n : Nat) (op : BootOp) : State :=
  { (s.setAll [(F.PST_STAT_BUSY, 1), (F.PST_STAT_OP, n)]) with boot := { s.boot with op := some op, opTries := 0 } }

/-- A GO of PST_BANK_CTL: accepted in MAINTENANCE mode, when none runs and the condition of Table CTL-8 does not hold. -/
def State.bankGo (s : State) (n bank : Nat) (op : BootOp) (bad : State → Bool) : State :=
  s.hostWrite 27 fun t0 =>
    let t := t0.endPst.setAll [(F.PST_BANK_CTL_OP, n), (F.PST_BANK_CTL_BANK, bank)]
    if !t.maintenance then t.refusePst 1
    else if t.boot.op.isSome then t.refusePst 2
    else if bad t then t.refusePst 3
    else t.startPst n op

/-- WRITE_RUNNING: refused for the active bank, and with no image running. -/
def execWriteRunning (bank : Nat) (s : State) : Host.Outcome State Fault Refusal :=
  .next (s.bankGo 1 bank (.writeRunning bank) fun t => t.get F.PST_STAT_ACTIVE == bank || t.img.running.isNone)

/-- ACTIVATE: refused unless the bank's last write or verify passed. -/
def execActivate (bank : Nat) (s : State) : Host.Outcome State Fault Refusal :=
  .next (s.bankGo 2 bank (.activate bank) fun t => !t.flag (validFld bank))

/-- VERIFY. -/
def execVerify (bank : Nat) (s : State) : Host.Outcome State Fault Refusal :=
  .next (s.bankGo 3 bank (.verify bank) fun _ => false)

/-- Whether the device certificate of an area names this device (R416, Table CTL-6). -/
def State.certNames (s : State) (area : List Byte) : Bool :=
  let c := area.drop 16
  slice c 8 8 == s.serial && beAt c 16 2 == 0x0AB1 && beAt c 18 1 == 0xA1 && beAt c 7 1 == 1 &&
    beAt c 19 1 % 2 == s.get F.GEN_ID_ES && beAt c 20 2 == 32 &&
    slice c 64 32 == (List.range 8).flatMap fun w => beBytes 4 (s.get (F.ATT_IDKEY_KEY.ix w))

/-- WRITE_CERT: from an open slot, 1 to 262,144 bytes, for this device. -/
def execWriteCert (slot len : Nat) (s : State) : Host.Outcome State Fault Refusal :=
  .next (s.hostWrite 27 fun t0 =>
    let t := t0.endPst.setAll [(F.PST_CERT_CTL_SLOT, slot), (F.PST_CERT_CTL_LEN, len)]
    let data := t.readBytes (slotBase slot) (min len 0x40000)
    if !t.maintenance then t.refusePst 1
    else if t.boot.op.isSome then t.refusePst 2
    else if !t.slotOpen slot || len == 0 || decide (0x40000 < len) || !t.certNames data then t.refusePst 3
    else t.startPst 4 (.writeCert data))

/-- A bank is checked as stored (checks 1–10), and its VALID follows. -/
def State.checkBank (s : State) (b : Nat) : State :=
  s.put (validFld b) (firstReject (s.firstChecks (s.bankImage b) (s.bank b).length)).isNone

/-- What an operation that completes has done (Table CTL-8). -/
def State.doneOp (s : State) : BootOp → State
  | .writeRunning b => (s.setBank b (s.img.running.getD [])).checkBank b
  | .activate b => (s.set F.PST_STAT_ACTIVE b).journal
  | .verify b => s.checkBank b
  | .writeCert d => ({ s with boot := { s.boot with cert := d } }).put F.PST_STAT_CERT_OK (certHead d)

/-- BOOT_STORE_OP_DONE (R416). -/
def execBootStoreOpDone (failed : Bool) (s : State) : Host.Outcome State Fault Refusal :=
  .next (match s.boot.op with
    | none => s
    | some op =>
      if failed || s.forcedAt 0xFC (locChip 0x61) then (s.endBoot.failedOp op).persistFail
      else (s.endBoot.doneOp op).evt F.PST_EVT_DONE)

/-! The journal (R418). -/

/-- The commissioning powers of every commissioned port, in the layout of Table CTL-9. -/
def State.commPowers (s : State) : Tab Nat :=
  (List.range 24).foldl (fun t k =>
    if !s.flag (F.OPT_PORT_STAT_COMMISSIONED.ix k) then t
    else (List.range 9).foldl (fun u l =>
      (([F.OPT_LANE_COMM_A_HIGH, F.OPT_LANE_COMM_A_LOW, F.OPT_LANE_COMM_B_HIGH, F.OPT_LANE_COMM_B_LOW] : List Fld).zipIdx).foldl
        (fun w f => Tab.put 0 w (36 * k + 4 * l + f.2) (s.get (f.1.ix k l))) u) t) []

/-- The retired lasers. -/
def State.retiredLasers (s : State) : Marks :=
  ((List.range 216).filter fun n => s.getBit (F.OPT_LASER_RETIRED_RETIRED.ix (n / 32)) (n % 32)).foldl (fun m n => m.add n) []

/-- The key epochs of slots 8–63 by field. -/
def State.keyEpochs (s : State) (f : Fld) : Tab Nat :=
  (List.range 56).foldl (fun t i => Tab.put 0 t (8 + i) (s.get (f.ix (8 + i)))) []

/-- A snapshot of what the journal keeps (Table CTL-9). A slot exhausted at start-up is kept at 0xFFFF. -/
def State.snapshot (s : State) : Snapshot where
  seq := s.boot.nextSeq
  mbrEpoch := s.get F.MBR_EPOCH_EPOCH
  activeBank := s.get F.PST_STAT_ACTIVE
  pinHeld := s.flag F.MBR_STAT_PIN_HELD
  outerEpoch := s.outerEpoch
  anchorMask := s.get F.UPD_ANCHOR_MASK_MASK
  commitMask := s.get F.MBR_STAT_COMMIT
  pinEpoch := s.get64 F.MBR_PIN_LO_EPOCH F.MBR_PIN_HI_EPOCH
  pinMask := s.get F.MBR_PIN_MASK_MASK
  tokens := s.get64 F.MBR_TOK_LO_TOKENS F.MBR_TOK_HI_TOKENS
  eoff := (List.range 8).map fun i => s.get (F.MBR_EOFF_OFFSET.ix i)
  kepochTx := s.keyEpochs F.CRY_KSLOT_EPOCH_KEPOCH_TX
  kepochMin := s.keyEpochs F.CRY_KSLOT_EPOCH_KEPOCH_MIN
  retiredBlocks := s.qrn.retired
  retiredLasers := s.retiredLasers
  commPowers := s.commPowers
  commPorts := s.get F.OPT_STAT_COMMISSIONED
  history := s.boot.history
  lifeUc := s.boot.lifeUc
  lifeFa := s.boot.lifeFa
  lifeDrop := s.boot.lifeDrop

/-- Where the next snapshot goes (R418): the lowest free place of the current bank, or place 0 of the other bank; none while
that bank is still being erased. -/
def State.nextPlace (s : State) : Option (Nat × Nat) :=
  let c := s.boot.current
  match freePlace (s.jrnBank c) with
  | some n => some (c, n)
  | none => if s.boot.erasing == some (1 - c) || (freePlace (s.jrnBank (1 - c))) != some 0 then none else some (1 - c, 0)

/-- A place of the journal written; its bank becomes the current one. -/
def State.writePlace (s : State) (b n : Nat) (p : Place) : State :=
  let s1 := s.setJrnBank b (Tab.insert (s.jrnBank b) n p)
  { s1 with boot := { s1.boot with current := b } }

/-- A snapshot that fails its read-back: retried up to 3 times; then PERSIST_FAIL, and the changes stay queued until the
next change or FLUSH. -/
def State.snapshotFails (s : State) (b n : Nat) : State :=
  let s1 := s.writePlace b n .bad
  if s.boot.retries < 3 then { s1 with boot := { s1.boot with retries := s.boot.retries + 1 } }
  else
    let s2 := s1.persistFail
    { s2 with boot := { s2.boot with retries := 4, flushDue := false } }

/-- The KEPOCH_TX of every slot, as a durable snapshot covers it. -/
def State.durableEpochs (s : State) : Tab Nat :=
  (List.range 56).map fun i => (8 + i, s.get (F.CRY_KSLOT_EPOCH_KEPOCH_TX.ix (8 + i)))

/-- A snapshot that has been read back: durable. -/
def State.snapshotGood (s : State) (b n : Nat) : State :=
  let s1 := s.writePlace b n (.data (s.snapshot.bytes s.journalKey))
  let s2 := { s1 with
    boot := { s1.boot with nextSeq := s.boot.nextSeq + 1, retries := 0, flushDue := false }
    cry := { s1.cry with durable := s.durableEpochs } }
  (s2.set F.PST_STAT_JRN_QUEUED 0).set64 F.PST_JRN_SEQ_LO_SEQ F.PST_JRN_SEQ_HI_SEQ s.boot.nextSeq

/-- JOURNAL_SNAPSHOT (R418): what is queued is written and read back; with no place it waits for the erase.
Its tag takes two blocks of the cipher engine (R417). -/
def execJournalSnapshot (writeBad : Bool) (s : State) : Host.Outcome State Fault Refusal :=
  .next (if (!s.flag F.PST_STAT_JRN_QUEUED && !s.boot.flushDue) || s.boot.retries == 4 then s
    else match s.nextPlace with
      | none => s
      | some (b, n) =>
        let t0 := s.cryBlocks 0 2
        let t := if writeBad || s.forcedAt 0xFC (locChip 0x61) then t0.snapshotFails b n else t0.snapshotGood b n
        t.startErase.showFree)

/-- JOURNAL_ERASE_DONE (R418). -/
def execJournalEraseDone (s : State) : Host.Outcome State Fault Refusal :=
  .next (match s.boot.erasing with
    | none => s
    | some b => (({ s with boot := { s.boot with erasing := none } }).setJrnBank b []).showFree)

/-- FLUSH (R416, R418): a snapshot is due, even with nothing queued; in MAINTENANCE mode. -/
def execFlush (s : State) : Host.Outcome State Fault Refusal :=
  .next (s.hostWrite 27 fun t =>
    if !t.maintenance then t.endPst.refusePst 1
    else { t.endPst with boot := { t.boot with flushDue := true, retries := 0 } })

end Sys2Proof.Machine
end

