-- ==== Sys2Proof/Machine/Control.lean ====
section
/-! DEFINITION. Meanings of the commands of host control (R284, R403–R409, R424): status mode, configuration digest, triple
fields, heartbeat, and writes of registers that have no row of their own. -/

namespace Sys2Proof.Machine

/-! Heartbeat (R284, R409). -/

/-- HEARTBEAT_TOUCH (R409): the lease starts again and unattended mode ends; accepted in FATAL too. -/
def execHeartbeatTouch (s : State) : Host.Outcome State Fault Refusal :=
  .next (s.hostWrite 0 (fun t =>
    ((t.setAll [(F.MBR_HB_LEFT_MS, 1000 * t.get F.MBR_HB_CFG_HB_S), (F.MBR_STAT_UNATTENDED, 0),
      (F.UPD_STEP_STAT_UNATTENDED, 0)]).holdGrants).giveAll) true true)

/-- HB_LAPSE (R123, R284): the lease ends: unattended mode, in which a step in progress is finished and a HELD image is
discarded. -/
def execHbLapse (s : State) : Host.Outcome State Fault Refusal :=
  .next (if s.flag F.MBR_STAT_UNATTENDED || s.get F.PWR_STAT_STAGE == 0 then s
    else
      let s1 := s.setAll [(F.MBR_HB_LEFT_MS, 0), (F.MBR_STAT_UNATTENDED, 1),
        (F.UPD_STEP_STAT_UNATTENDED, b2n (s.get F.UPD_STEP_STAT_STATE != 0))]
      let s2 := ((s1.evt F.MBR_EVT_HB_LAPSE).raise 0xBD .uc (locChip 0x18)).holdGrants
      if s2.img.next.isSome && !s2.applying && !s2.fatal then s2.discardHeld 0x11 else s2)

/-! Status mode (R405). -/

/-- Whether a cause behind a bit holds now. -/
def State.causeHolds (s : State) (f : Fld) : Bool := s.causes.has f.key || s.anyInst f

/-- The addresses of every event register with its bits. -/
def evtInstances : List (Nat × List Fld) :=
  evtMap.flatMap fun r => (gridOffsets r.dims).map fun o => (r.base + o, r.bits)

/-- Every bit of every event register takes its cause's state. -/
def State.settleEvents (s : State) : State :=
  evtInstances.foldl (fun t x => x.2.foldl (fun u f => u.put (f.atAddr x.1) (u.causeHolds (f.atAddr x.1))) t) s

/-- GEN_STATUS_MODE (R405): SERVICE needs no key, MAINTENANCE needs 0x4D41. -/
def execGenStatusMode (mode key : Nat) (s : State) : Host.Outcome State Fault Refusal :=
  .next (s.hostWrite 0 (fun t =>
    if mode % 2 = 0 then if t.maintenance then (t.set F.GEN_STATUS_MODE_MODE 0).settleEvents else t
    else if key = 0x4D41 then t.set F.GEN_STATUS_MODE_MODE 1 else t) true true)

/-- RCS_WRITE_BACK (R9, R405): in MAINTENANCE mode a word whose SEQ is the one held clears every bit of the register. -/
def execRcsWriteBack (addr value : Nat) (s : State) : Host.Outcome State Fault Refusal :=
  .next (match evtAt addr with
    | none => s
    | some r =>
      let block := addr / 0x100000
      s.hostWrite block (fun t =>
        if t.maintenance && bits value 31 24 == t.get (Fld.seqOf ⟨r.base, 0, 0, 0, 0, 0, 0, addr - r.base⟩) then
          t.setAll (r.bits.map fun f => (f.atAddr addr, 0))
        else t) (block == 0) (block == 0))

/-- GEN_CNT_CLR (R424). -/
def execGenCntClr (s : State) : Host.Outcome State Fault Refusal :=
  .next (s.hostWrite 0 (fun t => (t.clearAll [F.GEN_CNT_TMR, F.GEN_CNT_POST_DROP]).evtEndAll
    [F.GEN_EVT_POST_DROP, F.GEN_EVT_TMR, F.GEN_EVT_DIGEST]) true true)

/-! The digest (R407). -/

/-- GEN_DIGEST_REF (R407): the next computation compares; in UNIT_FAULT, and in SUSPENDED before APPLIED, it does not. -/
def execGenDigestRef (crc : Nat) (s : State) : Host.Outcome State Fault Refusal :=
  .next (s.hostWrite 0 (fun t =>
    let t1 := t.set F.GEN_DIGEST_REF_CRC crc
    if t.digestState == 5 || t.applying then t1 else { t1 with gen := { t1.gen with refWritten := true } }) true true)

/-- Whether a posted write to a covered register has not taken effect. -/
def State.coveredPending (s : State) : Bool :=
  s.posted.any fun p => match regAt p.addr with
    | some r => r.covered
    | none => false

/-- DIGEST_COMPUTE (R407): every 1 ms of network time; a computation that overlaps a posted covered write is discarded. -/
def execDigestCompute (unitFault : Bool) (s : State) : Host.Outcome State Fault Refusal :=
  .next (if !s.time.running || s.coveredPending then s
    else if unitFault then
      if s.digestState == 5 then s
      else
        let t := s.set F.GEN_DIGEST_STAT_STATE 5
        ({ t with gen := { t.gen with refWritten := false } }).digestFault
    else s.computeDigest)

/-! Triple fields (R408). -/

/-- The register field of a triple field. -/
def tripleFld : TripleField → Fld
  | .rteSel => F.RTE_SEL_SEL
  | .pgCmd g => F.LHL_PG_CMD_CMD.ix g
  | .kslotUse n => F.CRY_KSLOT_CFG_USE.ix n
  | .kslotRoot n => F.CRY_KSLOT_CFG_ROOT.ix n
  | .laserEn w => F.OPT_LASER_EN_EN.ix w
  | .mbrEpoch => F.MBR_EPOCH_EPOCH

/-- The three copies of a field: all alike, unless no two agree. -/
def State.copiesOf (s : State) (f : Fld) : Nat × Nat × Nat := (Tab.find s.gen.copies f.key).getD (s.get f, s.get f, s.get f)

/-- One copy changed. -/
def setCopy (c : Nat × Nat × Nat) (n v : Nat) : Nat × Nat × Nat :=
  if n = 0 then (v, c.2.1, c.2.2) else if n = 1 then (c.1, v, c.2.2) else (c.1, c.2.1, v)

/-- The value that at least two copies agree on. -/
def voted (c : Nat × Nat × Nat) : Option Nat :=
  if c.1 = c.2.1 ∨ c.1 = c.2.2 then some c.1 else if c.2.1 = c.2.2 then some c.2.1 else none

/-- TMR's record and count (R408, R423). -/
def State.tmrFault (s : State) (cls : FClass) : State := (s.evt F.GEN_EVT_TMR).raiseFa 0xFE cls (locChip 0x18)

/-- One field is voted: a copy that is outvoted is rewritten (CE); with no two alike, copy 0 is taken from then on (FA). -/
def State.vote (s : State) (f : Fld) (c : Nat × Nat × Nat) : State :=
  match voted c with
  | some v =>
    let s1 := ({ s with gen := { s.gen with copies := Tab.erase s.gen.copies f.key } }).set f v
    if c.1 = c.2.1 ∧ c.1 = c.2.2 then s1 else (s1.bump F.GEN_CNT_TMR).tmrFault .ce
  | none => (({ s with gen := { s.gen with copies := Tab.insert s.gen.copies f.key c } }).set f c.1).tmrFault .fa

/-- The fields that upsets name, each once. -/
def upsetFields (l : List Upset) : List Fld := (l.map fun u => tripleFld u.field).eraseDups

/-- TMR (R408): every 1 ms the copies are compared; `upsets` are the copies that hold another value. -/
def execTmr (upsets : List Upset) (s : State) : Host.Outcome State Fault Refusal :=
  .next (
    let s1 := (upsetFields upsets).foldl (fun t f =>
      let mine := upsets.filter fun u => tripleFld u.field == f
      t.vote f (mine.foldl (fun c u => setCopy c u.copy (u.value % 2 ^ f.width)) (t.copiesOf f))) s
    if upsets.isEmpty && s.forcedAt 0xFE (locChip 0x18) then (s1.bump F.GEN_CNT_TMR).tmrFault .ce else s1)

/-! Registers with no row of their own (R9, R402–R404). -/

/-- Registers whose every write is a row of the table: GEN_STATUS_MODE, GEN_DIGEST_REF, RTE_SEL, RTE_VALID, the windows RTE_UC,
RTE_MC, TSI_TXCM and TSI_RXCM, COL_CANCEL_HI, LHL_PG_CMD, TIM_INC_HI, OPT_LASER_EN, MBR_EPOCH and ATT_Q_TAIL (by the address of
index 0). -/
def ownRows : List Nat :=
  [0x00000010, 0x00000020, 0x00D00000, 0x00D00008, 0x00D40000, 0x00D80000, 0x01010000, 0x01020000, 0x00E00014, 0x00F02004,
    0x01400044, 0x01600040, 0x01900000, 0x01A0001C]

/-- The register that a REGISTER_WRITE reaches: one with writable fields and no row of its own. -/
def plainReg (addr : Nat) : Option RegDesc :=
  match regAt addr with
  | some r => if ownRows.contains r.base then none else some r
  | none => none

/-- The part of a written word that falls into a field. -/
def partOf (f : Fld) (value : Nat) : Nat := value / 2 ^ f.lo % 2 ^ f.width

/-- Whether a binary32 tuning value is in the range of Table UPD-9 (R102). -/
def tuningOk (addr v : Nat) : Bool :=
  nonNeg32 v && (addr != 0x00800028 || (f32Val (BitVec.ofNat 32 v)).lt (f32Val one32))

/-- Whether a value lies in a range. -/
def inRange (lo hi v : Nat) : Bool := decide (lo ≤ v) && decide (v ≤ hi)

/-- Whether a whole write is ignored because of its value: AMBER > RED > BLACK (R163), a weight of 0 in FAB_ARB, FAB_TIMERS
against R191, tuning values against Table UPD-9, CIR above PIR, a DMA length that is no multiple of 64 or above 64 MiB, and
key slots 0–7 (R314). -/
def State.wholeOk (s : State) (base addr v : Nat) : Bool :=
  if base = 0x00B01000 then decide (bits v 15 8 < bits v 23 16) && decide (bits v 7 0 < bits v 15 8)
  else if base = 0x00C00010 then bits v 31 24 != 0 && bits v 23 16 != 0 && bits v 15 8 != 0 && bits v 7 0 != 0
  else if base = 0x00C0000C then inRange 4 1000 (bits v 31 16) && inRange 20 1000 (bits v 15 0) &&
    decide (64 * bits v 15 0 < 1000 * bits v 31 16)
  else if 0x00800020 ≤ base ∧ base ≤ 0x0080002C then tuningOk base v
  else if base = 0x01550004 then decide (v ≤ s.get ⟨base + 8, 0, 32, 0, 0, 0, 0, addr - base⟩)
  else if base = 0x0155000C then decide (s.get ⟨base - 8, 0, 32, 0, 0, 0, 0, addr - base⟩ ≤ v)
  else if base = 0x00200058 then v % 64 == 0 && decide (v ≤ 0x4000000)
  else if base = 0x01301000 ∨ base = 0x01301004 ∨ base = 0x01301010 then decide (0x01301200 ≤ addr)
  else true

/-- The ranges of single fields outside which a value is ignored: register (index 0), lowest bit, least and greatest value. -/
def fieldRanges : List (Nat × Nat × Nat × Nat) :=
  [(0x00200040, 0, 1, 3600), (0x0030000C, 0, 100, 16000000), (0x00A00008, 0, 10, 10000), (0x00E00008, 0, 1, 127),
    (0x00F00008, 0, 0, 8), (0x00F01010, 24, 1, 255), (0x00F02000, 16, 0, 100), (0x00F02000, 0, 1, 3600),
    (0x01100008, 16, 100, 60000), (0x01100008, 0, 0, 60000), (0x0190000C, 16, 10, 60000), (0x0190000C, 8, 5, 255),
    (0x0190000C, 2, 1, 63), (0x01900010, 0, 1, 3600), (0x01300008, 0, 1, 3600), (0x01400008, 0, 1, 255),
    (0x01400060, 0, 1, 999), (0x01540004, 0, 0, 1600000), (0x01550000, 30, 0, 2), (0x01700204, 0, 100, 16000000),
    (0x01A00018, 0, 16, 4095)]

/-- Whether a field takes a value. -/
def State.fieldOk (s : State) (base addr lo v : Nat) : Bool :=
  fieldRanges.all (fun x => !(x.1 == base && x.2.1 == lo) || inRange x.2.2.1 x.2.2.2 v) &&
    (if base = 0x00F01010 ∧ lo = 0 then decide (v < s.get ⟨base - 4, 0, 24, 0x045A1D, 0, 0, 0, addr - base⟩)
     else if base = 0x01301000 ∧ lo = 29 then v == 0 || v == 1 || v == 2 || v == 7
     else if base = 0x01400064 then decide (-500000000 ≤ signed 32 v) && decide (signed 32 v ≤ 499999999)
     else if base = 0x01A00018 ∧ lo = 0 then !s.flag F.ATT_Q_CFG_EN
     else true)

/-- The value a field takes of a written word: bit i of PORTS in TIM_PTP_FWD[i] is not written (R325). -/
def fieldValue (base addr lo v : Nat) : Nat :=
  if base = 0x01400200 ∧ lo = 0 then v - b2n (bit v ((addr - base) / 4)) * 2 ^ ((addr - base) / 4) else v

/-- The fields of a register written, each where the state before the write takes its value. -/
def State.writeFields (s : State) (base addr value : Nat) (l : List Fld) : State :=
  (l.filter fun f => s.fieldOk base addr f.lo (partOf f value)).foldl
    (fun t f => t.set (f.atAddr addr) (fieldValue base addr f.lo (partOf f value))) s

/-- UPD_CNT_CLR (R104): UPD_CNT clears and UPD_FE is re-armed. -/
def State.updCntClr (s : State) : State :=
  s.clearAll [F.UPD_CNT_NONFINITE, F.UPD_CNT_FAILED, F.UPD_FE_SOURCE, F.UPD_FE_ITER, F.UPD_FE_PRODUCT, F.UPD_FE_MATRIX_MATRIX]

/-- What follows a write of a register: a pool's level (R163), the end of the scrub (R147), admission of work (R284), a
protection group (R248), a shaper mark (R338), HELD_TUNE during a step (R102), the slots of an element (R212), the restart of
STOPPED regions (R134), a slot's lease (R315), the journal (R309), the queue of quotes (R427), WIN_REFUSED (R199). -/
def State.afterWrite (s : State) (base addr : Nat) : State :=
  if base = 0x00B01000 then s.relevel ((addr - base) / 256)
  else if base = 0x00900008 then (if s.get F.MEM_SCRUB_CFG_HOURS = 0 then s.set F.MEM_STAT_SCRUB_BUSY 0 else s)
  else if base = 0x0190000C then s.holdGrants.giveAll
  else if base = 0x00E00008 then s.giveAll
  else if base = 0x00300008 then (if s.flag F.SEQ_CFG_AUTO_RESTART then s.restartStopped else s)
  else if base = 0x00F02000 then s.settleGroup ((addr - base) / 256)
  else if 0x01540000 ≤ base ∧ base ≤ 0x0154000C then
    { s with slu := { s.slu with
      written := s.slu.written.add (32 * ((addr - 0x01540000) / 2048) + (addr - 0x01540000) % 2048 / 64) } }
  else if 0x00800020 ≤ base ∧ base ≤ 0x0080002C then
    let st := s.get F.UPD_STEP_STAT_STATE
    if 1 ≤ st ∧ st ≤ 5 then s.set F.UPD_STEP_STAT_HELD_TUNE 1 else s
  else if base = 0x01301000 then
    (let slot := (addr - base) / 64
     if s.get (F.CRY_KSLOT_CFG_USE.ix slot) = 2 then s else s.endLease slot)
  else if base = 0x01301004 then s.journal
  else if base = 0x01A00018 then s.put F.ATT_STAT_Q_RUN (s.flag F.ATT_Q_CFG_EN && !s.fatal)
  else if base = 0x00D00010 then s.evtEnd F.RTE_EVT_WIN_REFUSED
  else s

/-- A write takes effect: the LO half of a pair is held, the HI half commits both, and any other register's fields take the
word (R403). -/
def State.applyWrite (s : State) (addr value : Nat) : State :=
  if addr = 0x0080011C then if bit value 0 then s.updCntClr else s
  else match plainReg addr with
    | none => s
    | some r =>
      match r.half with
      | .lo => { s with heldLo := Tab.insert s.heldLo addr value }
      | .hi =>
        let s1 := match Tab.find s.heldLo (addr - 4) with
          | some lo => ({ s with heldLo := Tab.erase s.heldLo (addr - 4) }).set ⟨r.base - 4, 0, 32, 0, 0, 0, 0, addr - r.base⟩ lo
          | none => s
        let s2 := s1.writeFields r.base addr value r.fields
        if r.covered then s2.coveredWrite else s2
      | .whole =>
        if !s.wholeOk r.base addr value then s
        else
          let s1 := (s.writeFields r.base addr value r.fields).afterWrite r.base addr
          if r.covered then s1.coveredWrite else s1

/-- The PEND block that a write is posted to, none for GEN, whose writes are not posted. -/
def postedBlock (addr : Nat) : Option Nat := if addr / 0x100000 = 0 then none else some (addr / 0x100000)

/-- REGISTER_WRITE (R9, R404): a word written to a register with no row of its own takes effect, or is posted and PEND reads
1. A write to any other location is ignored. FLT_ERRN_CTL and GEN take writes in FATAL (R376). -/
def execRegisterWrite (addr value : Nat) (s : State) : Host.Outcome State Fault Refusal :=
  .next (if (plainReg addr).isNone && addr != 0x0080011C then s
    else match postedBlock addr with
      | none => s.hostWrite 0 (fun t => t.applyWrite addr (value % 2 ^ 32)) true
      | some b => s.hostWrite b (fun t =>
          ({ t with posted := t.posted ++ [Posted.mk b addr (value % 2 ^ 32)] }).set (pendFld b) 1) (addr == 0x0170000C))

/-- POSTED_WRITE_DONE (R404): the posted write of a block takes effect and PEND returns to 0. -/
def execPostedWriteDone (block : Nat) (s : State) : Host.Outcome State Fault Refusal :=
  .next (match s.posted.find? fun p => p.block == block with
    | none => s
    | some p => (({ s with posted := s.posted.filter fun q => q.block != block }).set (pendFld block) 0).applyWrite p.addr
        p.value)

end Sys2Proof.Machine
end

