-- ==== Sys2Proof/Machine/Dispatch.lean ====
section
/-! DEFINITION. The one match over the commands: each arm is one call of a meaning. -/

namespace Sys2Proof.Machine

def exec (i : Instr) (s : State) : Host.Outcome State Fault Refusal :=
  match i with
  | .powerCycle => Sys2Proof.Machine.execPowerCycle s
  | .deviceReset => Sys2Proof.Machine.execDeviceReset s
  | .pwrReset key go => Sys2Proof.Machine.execPwrReset key go s
  | .pcieReset => Sys2Proof.Machine.execPcieReset s
  | .pcieControllerReady => Sys2Proof.Machine.execPcieControllerReady s
  | .internalResetEnd => Sys2Proof.Machine.execInternalResetEnd s
  | .hubSelfTest badHubs links => Sys2Proof.Machine.execHubSelfTest badHubs links s
  | .memorySelfTest badBase badStacks badLines badBlocks => Sys2Proof.Machine.execMemorySelfTest badBase badStacks badLines badBlocks s
  | .journalRestore => Sys2Proof.Machine.execJournalRestore s
  | .baseImageVerify => Sys2Proof.Machine.execBaseImageVerify s
  | .vqBelowWarning monitor mv => Sys2Proof.Machine.execVqBelowWarning monitor mv s
  | .vqRecovery readings => Sys2Proof.Machine.execVqRecovery readings s
  | .admitHoldRelease => Sys2Proof.Machine.execAdmitHoldRelease s
  | .vqFloor monitor mv => Sys2Proof.Machine.execVqFloor monitor mv s
  | .vqPor monitor mv => Sys2Proof.Machine.execVqPor monitor mv s
  | .railWarn rail monitor mv => Sys2Proof.Machine.execRailWarn rail monitor mv s
  | .vqOvervoltageWarn monitor mv => Sys2Proof.Machine.execVqOvervoltageWarn monitor mv s
  | .rail rail monitor mv => Sys2Proof.Machine.execRail rail monitor mv s
  | .railRecovery rail monitor mv => Sys2Proof.Machine.execRailRecovery rail monitor mv s
  | .temperatureSample readings => Sys2Proof.Machine.execTemperatureSample readings s
  | .errNMinLowEnd => Sys2Proof.Machine.execErrNMinLowEnd s
  | .errnRelease => Sys2Proof.Machine.execErrnRelease s
  | .fltForce word mask => Sys2Proof.Machine.execFltForce word mask s
  | .fltForceClr => Sys2Proof.Machine.execFltForceClr s
  | .fltCntClr => Sys2Proof.Machine.execFltCntClr s
  | .regionSelfTest region => Sys2Proof.Machine.execRegionSelfTest region s
  | .dramStackTest stack destroy => Sys2Proof.Machine.execDramStackTest stack destroy s
  | .hubTestRequest => Sys2Proof.Machine.execHubTestRequest s
  | .selfTestStart => Sys2Proof.Machine.execSelfTestStart s
  | .selfTestDrainDeadline => Sys2Proof.Machine.execSelfTestDrainDeadline s
  | .regionSelfTestDone failed => Sys2Proof.Machine.execRegionSelfTestDone failed s
  | .dramStackTestDone failed => Sys2Proof.Machine.execDramStackTestDone failed s
  | .barAccess addr size => Sys2Proof.Machine.execBarAccess addr size s
  | .linkReplay link again => Sys2Proof.Machine.execLinkReplay link again s
  | .tempoWindow reports => Sys2Proof.Machine.execTempoWindow reports s
  | .tile region errors => Sys2Proof.Machine.execTile region errors s
  | .tileAttemptEnd region array fails => Sys2Proof.Machine.execTileAttemptEnd region array fails s
  | .tileDrain region array errors => Sys2Proof.Machine.execTileDrain region array errors s
  | .swRetire region mask => Sys2Proof.Machine.execSwRetire region mask s
  | .qrnBlkRestore region mask => Sys2Proof.Machine.execQrnBlkRestore region mask s
  | .spareCheck region passed => Sys2Proof.Machine.execSpareCheck region passed s
  | .scbPar region => Sys2Proof.Machine.execScbPar region s
  | .seqRestart region => Sys2Proof.Machine.execSeqRestart region s
  | .flitResent queue sid second => Sys2Proof.Machine.execFlitResent queue sid second s
  | .qrnCntClr region => Sys2Proof.Machine.execQrnCntClr region s
  | .moveLinear region errors => Sys2Proof.Machine.execMoveLinear region errors s
  | .moveTwoDimensional region errors => Sys2Proof.Machine.execMoveTwoDimensional region errors s
  | .moveTranspose region errors => Sys2Proof.Machine.execMoveTranspose region errors s
  | .moveZeroFill region => Sys2Proof.Machine.execMoveZeroFill region s
  | .spinNop region => Sys2Proof.Machine.execSpinNop region s
  | .mov region => Sys2Proof.Machine.execMov region s
  | .scl region => Sys2Proof.Machine.execScl region s
  | .fma region => Sys2Proof.Machine.execFma region s
  | .add region => Sys2Proof.Machine.execAdd region s
  | .mul region => Sys2Proof.Machine.execMul region s
  | .fil region => Sys2Proof.Machine.execFil region s
  | .ssq region => Sys2Proof.Machine.execSsq region s
  | .amax region => Sys2Proof.Machine.execAmax region s
  | .fin region => Sys2Proof.Machine.execFin region s
  | .qmx4 region => Sys2Proof.Machine.execQmx4 region s
  | .qmx8 region => Sys2Proof.Machine.execQmx8 region s
  | .oavg region tensor => Sys2Proof.Machine.execOavg region tensor s
  | .omom region tensor => Sys2Proof.Machine.execOmom region tensor s
  | .ones region tensor => Sys2Proof.Machine.execOnes region tensor s
  | .odir region => Sys2Proof.Machine.execOdir region s
  | .oqx region => Sys2Proof.Machine.execOqx region s
  | .oapp region tensor => Sys2Proof.Machine.execOapp region tensor s
  | .mdlt region => Sys2Proof.Machine.execMdlt region s
  | .spnOpcode region => Sys2Proof.Machine.execSpnOpcode region s
  | .spinBatch region failed rerunFailed => Sys2Proof.Machine.execSpinBatch region failed rerunFailed s
  | .nop queue => Sys2Proof.Machine.execNop queue s
  | .syncSet queue => Sys2Proof.Machine.execSyncSet queue s
  | .syncAdd queue => Sys2Proof.Machine.execSyncAdd queue s
  | .normInv => Sys2Proof.Machine.execNormInv s
  | .recip => Sys2Proof.Machine.execRecip s
  | .mergeW => Sys2Proof.Machine.execMergeW s
  | .finVerdict matrix iter product => Sys2Proof.Machine.execFinVerdict matrix iter product s
  | .clear => Sys2Proof.Machine.execClear s
  | .openStep => Sys2Proof.Machine.execOpenStep s
  | .commit => Sys2Proof.Machine.execCommit s
  | .scatterDone => Sys2Proof.Machine.execScatterDone s
  | .phase => Sys2Proof.Machine.execPhase s
  | .coll => Sys2Proof.Machine.execColl s
  | .dispatch => Sys2Proof.Machine.execDispatch s
  | .descriptorCompletion queue sid mark => Sys2Proof.Machine.execDescriptorCompletion queue sid mark s
  | .dlMiss queue sid => Sys2Proof.Machine.execDlMiss queue sid s
  | .regionDrained region => Sys2Proof.Machine.execRegionDrained region s
  | .seqPhaseReq phase => Sys2Proof.Machine.execSeqPhaseReq phase s
  | .phaseRefused region => Sys2Proof.Machine.execPhaseRefused region s
  | .seqRun entry => Sys2Proof.Machine.execSeqRun entry s
  | .seqCntClr => Sys2Proof.Machine.execSeqCntClr s
  | .replicaConfirm epoch mask => Sys2Proof.Machine.execReplicaConfirm epoch mask s
  | .replicaLost => Sys2Proof.Machine.execReplicaLost s
  | .slotOpen mask => Sys2Proof.Machine.execSlotOpen mask s
  | .slotClose mask => Sys2Proof.Machine.execSlotClose mask s
  | .slotLease slot => Sys2Proof.Machine.execSlotLease slot s
  | .bar2SlotWrite offset data => Sys2Proof.Machine.execBar2SlotWrite offset data s
  | .loaderDma slot => Sys2Proof.Machine.execLoaderDma slot s
  | .loaderDmaDone error => Sys2Proof.Machine.execLoaderDmaDone error s
  | .load slot applyAtEn => Sys2Proof.Machine.execLoad slot applyAtEn s
  | .abort => Sys2Proof.Machine.execAbort s
  | .imageVerified => Sys2Proof.Machine.execImageVerified s
  | .applying => Sys2Proof.Machine.execApplying s
  | .applied => Sys2Proof.Machine.execApplied s
  | .imgArbCommit => Sys2Proof.Machine.execImgArbCommit s
  | .patrolScrub addr error overwritten => Sys2Proof.Machine.execPatrolScrub addr error overwritten s
  | .pndRetrain link auto => Sys2Proof.Machine.execPndRetrain link auto s
  | .pndDown link => Sys2Proof.Machine.execPndDown link s
  | .pondLanesLocked link => Sys2Proof.Machine.execPondLanesLocked link s
  | .pondAligned link => Sys2Proof.Machine.execPondAligned link s
  | .pondIdent link msg => Sys2Proof.Machine.execPondIdent link msg s
  | .pondTrainingTimeout link => Sys2Proof.Machine.execPondTrainingTimeout link s
  | .pondSilence link => Sys2Proof.Machine.execPondSilence link s
  | .pondBackoffEnd link => Sys2Proof.Machine.execPondBackoffEnd link s
  | .pondActiveDeadline link => Sys2Proof.Machine.execPondActiveDeadline link s
  | .rd link tag addr granules dst => Sys2Proof.Machine.execRd link tag addr granules dst s
  | .wr link addr data poison => Sys2Proof.Machine.execWr link addr data poison s
  | .rdc link msg => Sys2Proof.Machine.execRdc link msg s
  | .wra link msg => Sys2Proof.Machine.execWra link msg s
  | .pondNop link msg => Sys2Proof.Machine.execPondNop link msg s
  | .pondReplayTimer link => Sys2Proof.Machine.execPondReplayTimer link s
  | .pondIdleNop link => Sys2Proof.Machine.execPondIdleNop link s
  | .plTimeout link read tag => Sys2Proof.Machine.execPlTimeout link read tag s
  | .hopperRequest hub owner size listError => Sys2Proof.Machine.execHopperRequest hub owner size listError s
  | .hopperRelease owner handle => Sys2Proof.Machine.execHopperRelease owner handle s
  | .hopAudit pool => Sys2Proof.Machine.execHopAudit pool s
  | .hopAuditDone pool => Sys2Proof.Machine.execHopAuditDone pool s
  | .rebuild pool => Sys2Proof.Machine.execRebuild pool s
  | .hopCntClr pool => Sys2Proof.Machine.execHopCntClr pool s
  | .memCntClr => Sys2Proof.Machine.execMemCntClr s
  | .pndCntClr link => Sys2Proof.Machine.execPndCntClr link s
  | .clrStage => Sys2Proof.Machine.execClrStage s
  | .fabRetrain port auto => Sys2Proof.Machine.execFabRetrain port auto s
  | .fabDown port => Sys2Proof.Machine.execFabDown port s
  | .fabLanesLocked port => Sys2Proof.Machine.execFabLanesLocked port s
  | .fabAligned port => Sys2Proof.Machine.execFabAligned port s
  | .fabIdent port ident => Sys2Proof.Machine.execFabIdent port ident s
  | .fabSilence port => Sys2Proof.Machine.execFabSilence port s
  | .fabTrainingTimeout port => Sys2Proof.Machine.execFabTrainingTimeout port s
  | .fabBackoffEnd port => Sys2Proof.Machine.execFabBackoffEnd port s
  | .fabActiveDeadline port => Sys2Proof.Machine.execFabActiveDeadline port s
  | .linkControlBlock port block => Sys2Proof.Machine.execLinkControlBlock port block s
  | .controlBlockSend port => Sys2Proof.Machine.execControlBlockSend port s
  | .packetArrival port packet => Sys2Proof.Machine.execPacketArrival port packet s
  | .packetForward ingress vc => Sys2Proof.Machine.execPacketForward ingress vc s
  | .hopLifeExpiry ingress vc => Sys2Proof.Machine.execHopLifeExpiry ingress vc s
  | .put c => Sys2Proof.Machine.execPut c s
  | .get c => Sys2Proof.Machine.execGet c s
  | .ctrAdd c => Sys2Proof.Machine.execCtrAdd c s
  | .putAck hub => Sys2Proof.Machine.execPutAck hub s
  | .getData hub => Sys2Proof.Machine.execGetData hub s
  | .ctrAck hub => Sys2Proof.Machine.execCtrAck hub s
  | .opTimeout opId newOpId => Sys2Proof.Machine.execOpTimeout opId newOpId s
  | .contextExpiry hub src opId => Sys2Proof.Machine.execContextExpiry hub src opId s
  | .fabCntClr => Sys2Proof.Machine.execFabCntClr s
  | .fabPortCntClr port => Sys2Proof.Machine.execFabPortCntClr port s
  | .rteSel sel => Sys2Proof.Machine.execRteSel sel s
  | .rteValid valid => Sys2Proof.Machine.execRteValid valid s
  | .rteWindowWrite multicast index entry => Sys2Proof.Machine.execRteWindowWrite multicast index entry s
  | .routesStaging => Sys2Proof.Machine.execRoutesStaging s
  | .elementNop group seq elem => Sys2Proof.Machine.execElementNop group seq elem s
  | .send group seq elem => Sys2Proof.Machine.execSend group seq elem s
  | .reduce group seq elem => Sys2Proof.Machine.execReduce group seq elem s
  | .bcast group seq elem => Sys2Proof.Machine.execBcast group seq elem s
  | .collect group seq elem => Sys2Proof.Machine.execCollect group seq elem s
  | .dones group seq elem => Sys2Proof.Machine.execDones group seq elem s
  | .release group seq elem => Sys2Proof.Machine.execRelease group seq elem s
  | .tally group seq elem => Sys2Proof.Machine.execTally group seq elem s
  | .colData hub => Sys2Proof.Machine.execColData hub s
  | .colGrant hub => Sys2Proof.Machine.execColGrant hub s
  | .colBcast hub => Sys2Proof.Machine.execColBcast hub s
  | .colDone hub => Sys2Proof.Machine.execColDone hub s
  | .colNack hub => Sys2Proof.Machine.execColNack hub s
  | .colRelease hub => Sys2Proof.Machine.execColRelease hub s
  | .colTally hub => Sys2Proof.Machine.execColTally hub s
  | .chunkReissue group seq chunk => Sys2Proof.Machine.execChunkReissue group seq chunk s
  | .slotReclaim group seq chunk => Sys2Proof.Machine.execSlotReclaim group seq chunk s
  | .slotReclaimEnd hub slot => Sys2Proof.Machine.execSlotReclaimEnd hub slot s
  | .lingerEnd group seq => Sys2Proof.Machine.execLingerEnd group seq s
  | .earlyGrantExpiry group seq chunk => Sys2Proof.Machine.execEarlyGrantExpiry group seq chunk s
  | .nackTimer group seq elem => Sys2Proof.Machine.execNackTimer group seq elem s
  | .releaseRepeat group seq elem => Sys2Proof.Machine.execReleaseRepeat group seq elem s
  | .tallyRepeat hub group dst seq tokens epoch => Sys2Proof.Machine.execTallyRepeat hub group dst seq tokens epoch s
  | .colFlipArm => Sys2Proof.Machine.execColFlipArm s
  | .colFlipCancel => Sys2Proof.Machine.execColFlipCancel s
  | .colCancel group seq => Sys2Proof.Machine.execColCancel group seq s
  | .colCntClr => Sys2Proof.Machine.execColCntClr s
  | .frameTransmit port => Sys2Proof.Machine.execFrameTransmit port s
  | .frameReceive port lanes skew => Sys2Proof.Machine.execFrameReceive port lanes skew s
  | .alignmentSighting port pos markers skew => Sys2Proof.Machine.execAlignmentSighting port pos markers skew s
  | .candidateCheck port pos lanes => Sys2Proof.Machine.execCandidateCheck port pos lanes s
  | .preFecWindow port => Sys2Proof.Machine.execPreFecWindow port s
  | .rehunt port => Sys2Proof.Machine.execRehunt port s
  | .swapArm port => Sys2Proof.Machine.execSwapArm port s
  | .swapCancel port => Sys2Proof.Machine.execSwapCancel port s
  | .rxReady port => Sys2Proof.Machine.execRxReady port s
  | .tsiWindowWrite receive port slot entry => Sys2Proof.Machine.execTsiWindowWrite receive port slot entry s
  | .holdOffEnd port degrade => Sys2Proof.Machine.execHoldOffEnd port degrade s
  | .wtrExpiry group => Sys2Proof.Machine.execWtrExpiry group s
  | .lhlPgCmd group cmd => Sys2Proof.Machine.execLhlPgCmd group cmd s
  | .protectionSwitch group us => Sys2Proof.Machine.execProtectionSwitch group us s
  | .lhlCntClr port => Sys2Proof.Machine.execLhlCntClr port s
  | .secondBoundary => Sys2Proof.Machine.execSecondBoundary s
  | .segmentReceive port flow place => Sys2Proof.Machine.execSegmentReceive port flow place s
  | .stepCtl => Sys2Proof.Machine.execStepCtl s
  | .segmentHandoff req => Sys2Proof.Machine.execSegmentHandoff req s
  | .ack => Sys2Proof.Machine.execAck s
  | .ackMap => Sys2Proof.Machine.execAckMap s
  | .rawReq => Sys2Proof.Machine.execRawReq s
  | .voidRange => Sys2Proof.Machine.execVoidRange s
  | .ackTimer flow => Sys2Proof.Machine.execAckTimer flow s
  | .rtoExpiry flow seq => Sys2Proof.Machine.execRtoExpiry flow seq s
  | .voidRepeat flow => Sys2Proof.Machine.execVoidRepeat flow s
  | .echoTimer port => Sys2Proof.Machine.execEchoTimer port s
  | .echoRequest => Sys2Proof.Machine.execEchoRequest s
  | .echoReply => Sys2Proof.Machine.execEchoReply s
  | .mbrEpoch epoch => Sys2Proof.Machine.execMbrEpoch epoch s
  | .membershipNotice namesAbsent => Sys2Proof.Machine.execMembershipNotice namesAbsent s
  | .noticeTimer port => Sys2Proof.Machine.execNoticeTimer port s
  | .noticeEntryExpiry site => Sys2Proof.Machine.execNoticeEntryExpiry site s
  | .reachTimeout site => Sys2Proof.Machine.execReachTimeout site s
  | .partition site => Sys2Proof.Machine.execPartition site s
  | .pinComplete => Sys2Proof.Machine.execPinComplete s
  | .pinFetch epoch mask => Sys2Proof.Machine.execPinFetch epoch mask s
  | .rejoin => Sys2Proof.Machine.execRejoin s
  | .mergeClose => Sys2Proof.Machine.execMergeClose s
  | .merge => Sys2Proof.Machine.execMerge s
  | .mergeCommit => Sys2Proof.Machine.execMergeCommit s
  | .mbrAdmit site fromRemote => Sys2Proof.Machine.execMbrAdmit site fromRemote s
  | .heartbeatTouch => Sys2Proof.Machine.execHeartbeatTouch s
  | .hbLapse => Sys2Proof.Machine.execHbLapse s
  | .mlrFlowCntClr flow => Sys2Proof.Machine.execMlrFlowCntClr flow s
  | .bolterTableInstall slot => Sys2Proof.Machine.execBolterTableInstall slot s
  | .windowRead addr len => Sys2Proof.Machine.execWindowRead addr len s
  | .windowWrite addr data poison => Sys2Proof.Machine.execWindowWrite addr data poison s
  | .entropyFail proportion => Sys2Proof.Machine.execEntropyFail proportion s
  | .entropyRecovery => Sys2Proof.Machine.execEntropyRecovery s
  | .maskReseed hub => Sys2Proof.Machine.execMaskReseed hub s
  | .cipherRequest hub => Sys2Proof.Machine.execCipherRequest hub s
  | .install index reset => Sys2Proof.Machine.execInstall index reset s
  | .advance slot => Sys2Proof.Machine.execAdvance slot s
  | .kslotClear slot => Sys2Proof.Machine.execKslotClear slot s
  | .kslotOpen slot => Sys2Proof.Machine.execKslotOpen slot s
  | .kslotLease slot => Sys2Proof.Machine.execKslotLease slot s
  | .hostRequest slot blocks => Sys2Proof.Machine.execHostRequest slot blocks s
  | .cryCntClr => Sys2Proof.Machine.execCryCntClr s
  | .cmpCntClr => Sys2Proof.Machine.execCmpCntClr s
  | .timInc hi => Sys2Proof.Machine.execTimInc hi s
  | .timSet => Sys2Proof.Machine.execTimSet s
  | .timStep => Sys2Proof.Machine.execTimStep s
  | .timSlew => Sys2Proof.Machine.execTimSlew s
  | .slewEnd => Sys2Proof.Machine.execSlewEnd s
  | .timeStep => Sys2Proof.Machine.execTimeStep s
  | .timSnap => Sys2Proof.Machine.execTimSnap s
  | .refclkLoss => Sys2Proof.Machine.execRefclkLoss s
  | .refclkReturn => Sys2Proof.Machine.execRefclkReturn s
  | .timeUnitSync diff => Sys2Proof.Machine.execTimeUnitSync diff s
  | .holdover => Sys2Proof.Machine.execHoldover s
  | .ppsInEdge => Sys2Proof.Machine.execPpsInEdge s
  | .ppsInLost => Sys2Proof.Machine.execPpsInLost s
  | .ppsOutEdge => Sys2Proof.Machine.execPpsOutEdge s
  | .ppsOutEnd => Sys2Proof.Machine.execPpsOutEnd s
  | .ieee1588Message => Sys2Proof.Machine.execIeee1588Message s
  | .ptpSend port len oneStep => Sys2Proof.Machine.execPtpSend port len oneStep s
  | .pop => Sys2Proof.Machine.execPop s
  | .refill => Sys2Proof.Machine.execRefill s
  | .gateEntryChange port => Sys2Proof.Machine.execGateEntryChange port s
  | .gateListSwitch port => Sys2Proof.Machine.execGateListSwitch port s
  | .gateArm port => Sys2Proof.Machine.execGateArm port s
  | .gateCancel port => Sys2Proof.Machine.execGateCancel port s
  | .histogramSample => Sys2Proof.Machine.execHistogramSample s
  | .sluHistClr => Sys2Proof.Machine.execSluHistClr s
  | .ringSweepDone port lane transmit lines => Sys2Proof.Machine.execRingSweepDone port lane transmit lines s
  | .toneWindow port lane transmit tone => Sys2Proof.Machine.execToneWindow port lane transmit tone s
  | .monitorSample port powers => Sys2Proof.Machine.execMonitorSample port powers s
  | .averagingWindow port errors => Sys2Proof.Machine.execAveragingWindow port errors s
  | .shadowMarker port lane code inverse equal skew => Sys2Proof.Machine.execShadowMarker port lane code inverse equal skew s
  | .reportUnit port unit => Sys2Proof.Machine.execReportUnit port unit s
  | .laneLoss port lane => Sys2Proof.Machine.execLaneLoss port lane s
  | .mirrorRelease port => Sys2Proof.Machine.execMirrorRelease port s
  | .calibrationTimer port => Sys2Proof.Machine.execCalibrationTimer port s
  | .calNow port => Sys2Proof.Machine.execCalNow port s
  | .calCancel port => Sys2Proof.Machine.execCalCancel port s
  | .calibrationLaneDone port => Sys2Proof.Machine.execCalibrationLaneDone port s
  | .optCommission port => Sys2Proof.Machine.execOptCommission port s
  | .commissioningDone port powers => Sys2Proof.Machine.execCommissioningDone port powers s
  | .optLaserRestore laser => Sys2Proof.Machine.execOptLaserRestore laser s
  | .optLaserEn word value => Sys2Proof.Machine.execOptLaserEn word value s
  | .optCntClr => Sys2Proof.Machine.execOptCntClr s
  | .genStatusMode mode key => Sys2Proof.Machine.execGenStatusMode mode key s
  | .genDigestRef crc => Sys2Proof.Machine.execGenDigestRef crc s
  | .digestCompute unitFault => Sys2Proof.Machine.execDigestCompute unitFault s
  | .tmr upsets => Sys2Proof.Machine.execTmr upsets s
  | .genCntClr => Sys2Proof.Machine.execGenCntClr s
  | .rcsWriteBack addr value => Sys2Proof.Machine.execRcsWriteBack addr value s
  | .registerWrite addr value => Sys2Proof.Machine.execRegisterWrite addr value s
  | .postedWriteDone block => Sys2Proof.Machine.execPostedWriteDone block s
  | .otpKeyWrite index => Sys2Proof.Machine.execOtpKeyWrite index s
  | .otpKeyRevoke index => Sys2Proof.Machine.execOtpKeyRevoke index s
  | .writeRunning bank => Sys2Proof.Machine.execWriteRunning bank s
  | .activate bank => Sys2Proof.Machine.execActivate bank s
  | .verify bank => Sys2Proof.Machine.execVerify bank s
  | .writeCert slot len => Sys2Proof.Machine.execWriteCert slot len s
  | .bootStoreOpDone failed => Sys2Proof.Machine.execBootStoreOpDone failed s
  | .flush => Sys2Proof.Machine.execFlush s
  | .journalSnapshot writeBad => Sys2Proof.Machine.execJournalSnapshot writeBad s
  | .journalEraseDone => Sys2Proof.Machine.execJournalEraseDone s
  | .doeDiscovery index => Sys2Proof.Machine.execDoeDiscovery index s
  | .getCerts => Sys2Proof.Machine.execGetCerts s
  | .getQuote nonce => Sys2Proof.Machine.execGetQuote nonce s
  | .getBody => Sys2Proof.Machine.execGetBody s
  | .doeAbort => Sys2Proof.Machine.execDoeAbort s
  | .attQTail index => Sys2Proof.Machine.execAttQTail index s
  | .quoteQueueEntry dmaError last => Sys2Proof.Machine.execQuoteQueueEntry dmaError last s
  | .smbPart => Sys2Proof.Machine.execSmbPart s
  | .smbStatus => Sys2Proof.Machine.execSmbStatus s
  | .smbTemp command => Sys2Proof.Machine.execSmbTemp command s
  | .smbVq command => Sys2Proof.Machine.execSmbVq command s
  | .smbRail command => Sys2Proof.Machine.execSmbRail command s
  | .smbPwrStat => Sys2Proof.Machine.execSmbPwrStat s
  | .smbOther command => Sys2Proof.Machine.execSmbOther command s
  | .pwrMinClr => Sys2Proof.Machine.execPwrMinClr s
  | .lineLanesLocked port => Sys2Proof.Machine.execLineLanesLocked port s
  | .pondMessageDiscard link msg => Sys2Proof.Machine.execPondMessageDiscard link msg s
  | .otpWriteDone readBackBad => Sys2Proof.Machine.execOtpWriteDone readBackBad s
  | .reportsOkLapse port => Sys2Proof.Machine.execReportsOkLapse port s
  | .vqOvervoltageClear monitor => Sys2Proof.Machine.execVqOvervoltageClear monitor s

end Sys2Proof.Machine
end

