-- ==== Sys2Proof/Safety.lean ====
section
/-! DEFINITION. What claims are stated in: the canonical form of the state's tables, the parts of the state and what it
means that a command leaves the others alone, and what the FATAL state promises of the lasers (R376). -/

namespace Sys2Proof.Machine

/-- The canonical form of a memory: addresses strictly rising, no entry equal to what an unlisted address reads as. -/
def Memory.wf (m : List Host.Cell) : Bool := Tab.wf blankByte m

/-- The tables of the state are in canonical form: registers, causes, held LO halves, device memory, poison marks, and the
lasers that are lit. -/
def State.canonical (s : State) : Bool :=
  Tab.sorted s.regs && Tab.sorted s.causes && Tab.sorted s.heldLo && Memory.wf s.mem && Tab.sorted s.poison &&
    Tab.sorted s.stackPoison && Tab.sorted s.cleaned && Tab.sorted s.lit

/-- In the FATAL state no laser is lit (R376). -/
def State.dark (s : State) : Prop := s.fatal = true → s.lit = []

/-- The parts of the state besides the register file. -/
inductive Part where
  | pending | causes | heldLo | posted | mem | poison | stackPoison | cleaned | freeCount | flt | pwr | pcie | links
  | otp | boot | gen | qrn | sched | red | step | img | mbr | pond | hop | out | fab | late | col | lhl | mlr | cmp
  | cry | time | slu | lit | opt
deriving DecidableEq, Repr

/-- Two states agree on a part. -/
def Part.same : Part → State → State → Prop
  | .pending, s, t => t.pending = s.pending
  | .causes, s, t => t.causes = s.causes
  | .heldLo, s, t => t.heldLo = s.heldLo
  | .posted, s, t => t.posted = s.posted
  | .mem, s, t => t.mem = s.mem
  | .poison, s, t => t.poison = s.poison
  | .stackPoison, s, t => t.stackPoison = s.stackPoison
  | .cleaned, s, t => t.cleaned = s.cleaned
  | .freeCount, s, t => t.freeCount = s.freeCount
  | .flt, s, t => t.flt = s.flt
  | .pwr, s, t => t.pwr = s.pwr
  | .pcie, s, t => t.pcie = s.pcie
  | .links, s, t => t.links = s.links
  | .otp, s, t => t.otp = s.otp
  | .boot, s, t => t.boot = s.boot
  | .gen, s, t => t.gen = s.gen
  | .qrn, s, t => t.qrn = s.qrn
  | .sched, s, t => t.sched = s.sched
  | .red, s, t => t.red = s.red
  | .step, s, t => t.step = s.step
  | .img, s, t => t.img = s.img
  | .mbr, s, t => t.mbr = s.mbr
  | .pond, s, t => t.pond = s.pond
  | .hop, s, t => t.hop = s.hop
  | .out, s, t => t.out = s.out
  | .fab, s, t => t.fab = s.fab
  | .late, s, t => t.late = s.late
  | .col, s, t => t.col = s.col
  | .lhl, s, t => t.lhl = s.lhl
  | .mlr, s, t => t.mlr = s.mlr
  | .cmp, s, t => t.cmp = s.cmp
  | .cry, s, t => t.cry = s.cry
  | .time, s, t => t.time = s.time
  | .slu, s, t => t.slu = s.slu
  | .lit, s, t => t.lit = s.lit
  | .opt, s, t => t.opt = s.opt

/-- Nothing but the parts named and the registers of the blocks named differs between two states. A block is named by its
number in Table CTL-2; the four Quern pages count as block 4. -/
def Frame (parts : List Part) (blocks : List Nat) (s t : State) : Prop :=
  (∀ p, p ∉ parts → p.same s t) ∧ ∀ k, keyBlock k ∉ blocks → Tab.find t.regs k = Tab.find s.regs k

/-- A field of a register whose first instance stands in a block that is not named reads as before. -/
def Fld.outside (f : Fld) (blocks : List Nat) : Bool :=
  decide (f.lo < 32) && decide (f.base < 2 ^ 25) && !blocks.contains (f.base / 2 ^ 20)

/-- A host write to a block acts: no FATAL state ignores it (R376; `always` for the writes that FATAL still allows), the
block answers at the start-up stage reached (R392), the block's PEND reads 0 (R404), and no armed HOST discards the write
(R372; the writes of GEN are not posted, R424). -/
def State.takesWrite (s : State) (block : Nat) (always : Bool := false) : Bool :=
  (!s.fatal || always) && s.answers block && !s.flag (pendFld block) &&
    (block == 0 || !s.forcedAt 0xFF (locChip 0x18))

/-- The newest fault record: its source, class and location. -/
def State.newest (s : State) : Option (Nat × FClass × Nat) := s.flt.ring.head?.map fun r => (r.source, r.cls, r.loc)

/-- A descriptor stands at the head of a queue, its wait and fence are met, its header is well formed, and no armed DESC_BAD
takes it (R131, R133, R372). -/
def State.readyAt (s : State) (q : QueueId) (e : QEntry) : Prop :=
  (∃ rest, s.head q = .ready e rest) ∧ headerOk q e = true ∧ s.forcedAt 0x51 (qLoc q) = false

/-- A descriptor has issued, and it is done (R131). -/
def State.issuedDone (t : State) (q : QueueId) (e : QEntry) (failed : Bool) : Prop :=
  ∃ f ∈ t.sched.flights, f.queue = q ∧ f.entry = e ∧ f.done = true ∧ f.failed = failed

/-- A packet as a hub injects it now: its version, epoch, source and PCRC (R182, R185). -/
def State.injected (s : State) (k : Packet) : Packet :=
  Packet.sealed { k with repoch := s.get F.RTE_SEL_SEL, mepoch := s.epoch, src := s.get F.FAB_ENDPOINT_ID }

/-- The selected version routes to another endpoint's address by a port, and this device sends (R181, R271, R376). -/
def State.away (s : State) (dst : Nat) : Prop :=
  s.mute = false ∧ s.versionOk (s.get F.RTE_SEL_SEL) = true ∧ bit (s.ucEntry (s.get F.RTE_SEL_SEL) dst) 31 = true ∧
    bit (s.ucEntry (s.get F.RTE_SEL_SEL) dst) 30 = false

/-- Packets injected at a hub stand at the end of its VC's queue. -/
def State.queued (t s : State) (hub cls : Nat) (l : List Packet) : Prop :=
  t.held7 (16 + hub) (2 * cls) =
    s.held7 (16 + hub) (2 * cls) ++ l.map fun k => ⟨s.injected k, 16 + hub, 2 * cls, none, [], true⟩

/-- The selected version sends copies of a group's packets out of ports and none to this gateway (R186). -/
def State.awayMc (s : State) (group : Nat) : Prop :=
  s.mute = false ∧ s.versionOk (s.get F.RTE_SEL_SEL) = true ∧ bit (s.mcEntry (s.get F.RTE_SEL_SEL) group) 31 = true ∧
    bits (s.mcEntry (s.get F.RTE_SEL_SEL) group) 28 24 = 16 ∧ bit (s.mcEntry (s.get F.RTE_SEL_SEL) group) 30 = false ∧
    ∃ p < 16, bit (s.mcEntry (s.get F.RTE_SEL_SEL) group) p = true

/-- A multicast packet injected at a hub stands at the end of its VC's queue with its branches. -/
def State.queuedMc (t s : State) (hub cls : Nat) (k : Packet) : Prop :=
  t.held7 (16 + hub) (2 * cls) = s.held7 (16 + hub) (2 * cls) ++ [⟨s.injected k, 16 + hub, 2 * cls, none,
    (List.range 16).filter fun p => bit (s.mcEntry (s.get F.RTE_SEL_SEL) k.dst) p, true⟩]

/-- An element of a posted collective. -/
def State.elem (s : State) (g q i : Nat) : Option Elem := (s.coll g q).bind fun c => c.elems[i]?

/-- An element of a kind that fires: posted, not fired yet, its trigger met on a counter that is not poisoned, and its
chunks within the buffer (R205). -/
def State.fires (s : State) (g q i kind : Nat) (c : Coll) (e : Elem) : Prop :=
  s.coll g q = some c ∧ c.elems[i]? = some e ∧ e.d.kind = kind ∧ e.fired = false ∧ e.done = false ∧ c.linger = false ∧
    s.trigMet c e = true ∧ s.fatal = false ∧ (bit e.d.trig 15 = true → s.ctrPoison .chip (c.trigCtr e) = false) ∧
    e.d.c0 + e.d.nch ≤ c.chunks

/-- A chunk that is being reduced: its slot's number and contents, its collective and its element. -/
def State.reducing (s : State) (g q k : Nat) (n : Nat × Slot) (c : Coll) (e : Elem) : Prop :=
  s.slotOf g q k = some n ∧ s.coll g q = some c ∧ c.elems[n.2.elem]? = some e

/-- No chunk of a REDUCE element waits for a slot (R211, R212). -/
def State.noneWait (s : State) : Prop :=
  ∀ hub, ∀ c ∈ s.col.colls, ∀ i e, c.elems[i]? = some e → s.elemWaits hub c i e = false

/-- The pools that the keyed chunks of the posted collectives take their buffers from refuse no request (R160, R166). -/
def State.noRefusals (s : State) : Prop :=
  ∀ c ∈ s.col.colls, ∀ e ∈ c.elems, e.d.keyed = true → s.refuses (6 * e.d.hub + 5) = false

/-- A range that reads and writes reach without a fault and outside the compressed windows. -/
def State.openRange (s : State) (a n : Nat) : Prop :=
  s.windowBlocks a n = [] ∧ ∀ i < n, s.plain (a + i) = true

/-- A SPIN descriptor of an operation code stands at the head of a region's Spindle queue, its wait and fence are met, it
is well formed, no armed DESC_BAD takes it, Spindle is free, and no source word is poisoned (R64, R129, R131, R133, R136,
R372). -/
def State.spinReady (s : State) (region code : Nat) (e : QEntry) : Prop :=
  (∃ rest, s.head (.spin region) = .ready e rest) ∧ headerOk (.spin region) e = true ∧
    s.forcedAt 0x51 (locRegion region) = false ∧ e.opcode = code ∧
    spinOk region e = true ∧ (s.sched.flights.any fun x => x.queue == .spin region) = false ∧
    ((spinReads region e).any fun x => s.anyPoison x.1 x.2) = false

/-- The two destinations of a SPIN do not meet. -/
def spinApart (region : Nat) (e : QEntry) : Prop :=
  spinLine region e 38 + e.d0Bytes ≤ spinLine region e 41 ∨ spinLine region e 41 + e.d1Bytes ≤ spinLine region e 38

/-- The bytes at a SPIN's first destination. -/
def State.spinD0 (t : State) (region : Nat) (e : QEntry) : List Byte := t.readBytes (spinLine region e 38) e.d0Bytes

/-- The bytes at a SPIN's second destination. -/
def State.spinD1 (t : State) (region : Nat) (e : QEntry) : List Byte := t.readBytes (spinLine region e 41) e.d1Bytes

/-! The host's strobes. -/

/-- The block that a strobe row's write goes to, and whether the write acts in the FATAL state too (R376). -/
def strobe (c : Instr) : Option (Nat × Bool) :=
  match c with
  | .errnRelease | .fltCntClr => some (23, true)
  | .fltForce .. | .fltForceClr | .regionSelfTest .. | .dramStackTest .. | .hubTestRequest => some (23, false)
  | .otpKeyWrite .. | .otpKeyRevoke .. => some (1, false)
  | .slotOpen .. | .slotClose .. | .loaderDma .. | .load .. | .abort | .imgArbCommit => some (2, false)
  | .seqRestart .. | .seqPhaseReq .. | .seqRun .. | .seqCntClr => some (3, false)
  | .swRetire r _ | .qrnBlkRestore r _ | .qrnCntClr r => some (4 + r / 16, false)
  | .memCntClr => some (9, false)
  | .pndRetrain _ false | .pndDown .. | .pndCntClr .. | .clrStage => some (10, false)
  | .hopAudit .. | .rebuild .. | .hopCntClr .. => some (11, false)
  | .fabRetrain _ false | .fabDown .. | .fabCntClr | .fabPortCntClr .. => some (12, false)
  | .rteSel .. | .rteValid .. | .rteWindowWrite .. => some (13, false)
  | .colFlipArm | .colFlipCancel | .colCancel .. | .colCntClr => some (14, false)
  | .rehunt .. | .lhlPgCmd .. | .lhlCntClr .. => some (15, false)
  | .swapArm .. | .swapCancel .. | .rxReady .. | .tsiWindowWrite .. => some (16, false)
  | .mlrFlowCntClr .. => some (17, false)
  | .cmpCntClr => some (18, false)
  | .install .. | .advance .. | .kslotClear .. | .kslotOpen .. | .hostRequest .. | .cryCntClr => some (19, false)
  | .timInc .. | .timSet | .timStep | .timSlew .. | .timSnap | .ptpSend .. | .pop => some (20, false)
  | .gateArm .. | .gateCancel .. | .sluHistClr => some (21, false)
  | .calNow .. | .calCancel .. | .optCommission .. | .optLaserRestore .. | .optLaserEn .. | .optCntClr =>
    some (22, false)
  | .pwrReset .. | .pwrMinClr => some (24, false)
  | .mbrEpoch .. | .mbrAdmit .. => some (25, false)
  | .writeRunning .. | .activate .. | .verify .. | .writeCert .. | .flush => some (27, false)
  | _ => none

/-! Work that the FATAL state stops (R376). -/

/-- The commands that issue the head of a scheduler queue. -/
def issuing (c : Instr) : Bool :=
  match c with
  | .nop .. | .syncSet .. | .syncAdd .. | .tile .. | .moveLinear .. | .moveTwoDimensional .. | .moveTranspose ..
  | .moveZeroFill .. | .spinNop .. | .mov .. | .scl .. | .fma .. | .add .. | .mul .. | .fil .. | .ssq .. | .amax ..
  | .fin .. | .qmx4 .. | .qmx8 .. | .oavg .. | .omom .. | .ones .. | .odir .. | .oqx .. | .oapp .. | .mdlt ..
  | .spnOpcode .. | .normInv | .recip | .mergeW | .finVerdict .. | .clear | .openStep | .commit | .scatterDone | .phase
  | .coll | .dispatch => true
  | _ => false

/-- The commands that send: packets and credits into the fabric, frames into the line, operations and grants. -/
def sending (c : Instr) : Bool :=
  match c with
  | .packetForward .. | .controlBlockSend .. | .frameTransmit .. | .chunkReissue .. | .put (.issue _) | .get (.issue _)
  | .ctrAdd (.issue _) => true
  | _ => false

/-! Bytes of device memory that a command may store to. -/

/-- An address stands outside every range of a list. -/
def outsideAll (a : Nat) (l : List (Nat × Nat)) : Prop := ∀ x ∈ l, a < x.1 ∨ x.1 + x.2 ≤ a

/-- The block maps of the compressed windows: a store into a window writes map entries too (R301). -/
def State.maps (s : State) : List (Nat × Nat) :=
  s.btables.flatMap fun x => x.2.windows.map fun w => (w.map, 2 * ((w.len + 4095) / 4096))

/-- The destinations of the descriptor at the head of a queue, if it is ready. -/
def State.headStores (s : State) (q : QueueId) (f : QEntry → List (Nat × Nat)) : List (Nat × Nat) :=
  match s.head q with
  | .ready e _ => f e
  | _ => []

/-- The rows of the output of the tile that an array accumulates (R52, R75). -/
def State.tileStores (s : State) (region array : Nat) : List (Nat × Nat) :=
  match Tab.find s.qrn.runs (runKey region array) with
  | none => []
  | some run => match s.flight run.sid with
    | none => []
    | some f =>
      let p := partPlace region f.entry run.tile run.part
      (List.range p.rows).map fun i => (p.out + i * p.outPitch, p.cols * f.entry.outBytes)

/-- The rows of the outputs that wait to drain: a region that loses its last block drains them at once (R70, R77). -/
def State.outStores (s : State) : List (Nat × Nat) :=
  s.qrn.outs.flatMap fun x => x.2.flatMap fun o => o.rows.map fun y => (y.1, y.2.length)

/-- The places of a collective's keyed chunks (R206, R219). -/
def Coll.keyedStores (c : Coll) : List (Nat × Nat) :=
  (c.elems.filter fun e => e.d.kind == 2 && e.d.keyed).map fun e =>
    ((if e.d.out2 then c.addr2 else c.addr) + e.d.c0 * c.cb, e.d.nch * c.cb)

/-- What giving free slots may store: a keyed chunk whose buffers a pool refuses is written as failed (R160, R166). -/
def State.giveStores (s : State) : List (Nat × Nat) := s.col.colls.flatMap Coll.keyedStores ++ s.maps

/-- The keyed chunks of the collective that the descriptor at the head of the chip queue would post (R201). -/
def State.postStores (s : State) : List (Nat × Nat) :=
  match s.head .chip with
  | .ready e _ => (s.collOf e 0).keyedStores
  | _ => []

/-- The places in the RETAIN area of the segments that wait to be sent for the first time (R266). -/
def State.retainStores (s : State) : List (Nat × Nat) :=
  match (imgAreas s.image 10).head? with
  | none => []
  | some a => (s.unsent fun _ => true).flatMap fun x =>
    let first := (x.wire.take (s.retainSize - x.place)).length
    [(a.1 + x.place, first), (a.1, x.wire.length - first)]

/-- The place of a chunk that is being reduced (R206, R210). -/
def State.chunkStores (s : State) (g q k : Nat) : List (Nat × Nat) :=
  match s.slotOf g q k, s.coll g q with
  | some n, some c => match c.elems[n.2.elem]? with
    | some e => [((if e.d.out2 then c.addr2 else c.addr) + n.2.chunk * c.cb, (n.2.acc.flatMap (wireBytes c.eb)).length)]
    | none => []
  | _, _ => []

/-- The place of a broadcast packet in its COLLECT buffer (R223). -/
def State.collectStores (s : State) (k : Packet) : List (Nat × Nat) :=
  let x := colKey k
  match s.coll x.1 k.opId with
  | none => []
  | some c => match c.find fun e => e.d.kind == 4 && e.fired && !e.done && !e.written.has x.2.2 &&
      decide (e.d.c0 ≤ x.2.2 ∧ x.2.2 < e.d.c0 + e.d.nch) with
    | none => []
    | some y => [((if y.2.d.out2 then c.addr2 else c.addr) + x.2.2 * c.cb + 4096 * k.pkt, k.data.length)]

/-- What a delivered packet of an opcode at a hub stores. -/
def State.packetStores (s : State) (hub op : Nat) (f : Packet → List (Nat × Nat)) : List (Nat × Nat) :=
  match s.takePacket hub op with
  | some x => f x.1.pkt
  | none => []

/-- The buffer of the read that a completion answers (R154). -/
def State.readStores (s : State) (link tag : Nat) : List (Nat × Nat) :=
  match Tab.find (s.pondLink link).reads tag with
  | some r => [(r.dst, 256 * r.granules)]
  | none => []

/-- The granules of the oldest write of a link (R151, R154). -/
def State.writeStores (s : State) (link : Nat) : List (Nat × Nat) :=
  match (s.pondLink link).writes with
  | w :: _ => (List.range (w.data.length / 256)).map fun i => (farAddr s.pondMask link (w.addr + 256 * i), 256)
  | [] => []

/-- The slot whose image is being checked. -/
def State.checkedSlot (s : State) : List (Nat × Nat) :=
  match s.img.slot with
  | some n => [(slotBase n, slotBytes)]
  | none => []

/-- The start of the PINNED area (R277). -/
def State.pinStores (s : State) : List (Nat × Nat) :=
  match (imgAreas s.image 9).head? with
  | some p => [(p.1, min p.2 (4 * s.ownedParams))]
  | none => []

/-- What the work of the regions stores (R52, R70, R128, R129): the drains of tiles, those of a region that loses its last
block among them, and the destinations of MOVE and SPIN. -/
def computeStores (s : State) (c : Instr) : Option (List (Nat × Nat)) :=
  match c with
  | .tile .. | .swRetire .. | .spareCheck .. | .scbPar .. | .memorySelfTest .. | .journalRestore | .regionSelfTestDone .. =>
    some s.outStores
  | .tileAttemptEnd r a _ => some (s.tileStores r a ++ s.outStores)
  | .moveLinear r _ | .moveTwoDimensional r _ | .moveTranspose r _ | .moveZeroFill r =>
    some (s.headStores (.move r) (fun e => e.moveRanges false) ++ s.maps)
  | .spinNop r | .mov r | .scl r | .fma r | .add r | .mul r | .fil r | .ssq r | .amax r | .fin r | .qmx4 r | .qmx8 r
  | .oavg r _ | .omom r _ | .ones r _ | .odir r | .oqx r | .oapp r _ | .mdlt r => some (s.headStores (.spin r) (spinWrites r))
  | _ => none

/-- What arrives and is stored, by the command that stores it: pond and fabric data, collective chunks, segments, windows
and the pinned copy. -/
def arrivalStores (s : State) (c : Instr) : Option (List (Nat × Nat)) :=
  match c with
  | .rdc link msg => some (s.readStores link (msgTag msg) ++ s.maps)
  | .wra link _ => some (s.writeStores link)
  | .put (.take hub) => some (s.packetStores hub 1 (fun k => [(k.addr, k.data.length)]) ++ s.giveStores)
  | .getData hub => some (s.packetStores hub 4 (fun k => match s.answered .get k with
      | some o => [(o.req.buf + 4096 * k.pkt, k.data.length)]
      | none => []) ++ s.giveStores)
  | .colData hub =>
    some (s.packetStores hub 0x10 (fun k => s.chunkStores (colKey k).1 k.opId (colKey k).2.2) ++ s.giveStores)
  | .colBcast hub => some (s.packetStores hub 0x12 s.collectStores ++ s.giveStores)
  | .chunkReissue g q k | .slotReclaim g q k => some (s.chunkStores g q k ++ s.giveStores)
  | .segmentReceive _ _ place => some ((place.addr, place.bytes) :: s.giveStores)
  | .frameTransmit _ => some (s.retainStores ++ s.maps)
  | .windowWrite addr data _ => some ((addr, data.length) :: s.maps)
  | .pinComplete => some (s.pinStores ++ s.maps)
  | _ => none

/-- The commands after which free slots are given, and what they store (R212, R218, R219). -/
def givingStores (s : State) (c : Instr) : Option (List (Nat × Nat)) :=
  match c with
  | .coll => some (s.postStores ++ s.giveStores)
  | .tileDrain .. | .dlMiss .. => some (s.outStores ++ s.giveStores)
  | .finVerdict .. | .commit | .scatterDone | .applied | .hopperRequest .. | .hopperRelease .. | .hopAuditDone .. | .rebuild ..
  | .elementNop .. | .send .. | .reduce .. | .bcast .. | .collect .. | .dones .. | .release .. | .tally .. | .colGrant ..
  | .colDone .. | .colTally .. | .slotReclaimEnd .. | .colCancel .. | .stepCtl | .mbrEpoch .. | .membershipNotice ..
  | .rejoin .. | .mergeCommit .. | .heartbeatTouch | .registerWrite .. | .postedWriteDone .. => some s.giveStores
  | _ => none

/-- What arrives and is stored, and what giving free slots stores. -/
def transferStores (s : State) (c : Instr) : Option (List (Nat × Nat)) := (arrivalStores s c).or (givingStores s c)

/-- What every other command stores: the loader's slots, and the memories that resets, a supply that is lost and a VQ reset
clear (R118, R384, Table FLT-6). Any other command stores nothing. -/
def otherStores (s : State) (c : Instr) : List (Nat × Nat) :=
  match c with
  | .slotOpen mask | .slotClose mask => (maskSlots mask).map fun n => (slotBase n, slotBytes)
  | .slotLease n | .load n _ => [(slotBase n, slotBytes)]
  | .abort | .imageVerified => s.checkedSlot
  | .bar2SlotWrite offset data => [(loaderBase + offset, data.length)]
  | .loaderDmaDone _ => match s.img.dmaSlot with
    | some n => [(slotBase n, min slotBytes (s.get F.IMG_DMA_LEN_LEN))]
    | none => []
  | .vqBelowWarning .. | .vqRecovery .. | .vqPor .. => [(0, 0x40000000), (0x100000000, 0x100000000)]
  | .rail rail monitor _ => if rail = 0 ∧ monitor < 2 then [(0, 0x20000000000)] else []
  | .powerCycle => [(0, 0x20000000000)]
  | .deviceReset | .pwrReset .. => [(0, 0x10000000000)]
  | _ => []

/-- Parts and blocks together with those that a fault record and an EVT bit touch: causes, fault state, journal, and the
registers of FLT and PST. -/
def told (parts : List Part) (blocks : List Nat) : List Part × List Nat :=
  (parts ++ [.causes, .flt, .boot], blocks ++ [23, 27])

/-- Every part and every block. -/
def everything : List Part × List Nat :=
  ([.pending, .causes, .heldLo, .posted, .mem, .poison, .stackPoison, .cleaned, .freeCount, .flt, .pwr, .pcie,
    .links, .otp, .boot, .gen, .qrn, .sched, .red, .step, .img, .mbr, .pond, .hop, .out, .fab, .late, .col, .lhl,
    .mlr, .cmp, .cry, .time, .slu, .lit, .opt],
    List.range 32)

/-- What a command may change: parts of the state, and blocks of registers. -/
def mayChange (c : Instr) : List Part × List Nat :=
  match c with
  | .powerCycle .. | .deviceReset .. | .pwrReset .. | .rail .. =>
    everything
  | .pcieReset .. =>
    ([.heldLo, .posted, .pcie], [1, 2, 3, 4, 8, 9, 10, 11, 12, 13, 14, 15, 16, 17, 18, 19, 20, 21, 22, 23, 24, 25,
        26, 27])
  | .pcieControllerReady .. | .doeAbort .. | .smbPart .. | .smbStatus .. | .smbTemp .. | .smbVq .. | .smbRail .. |
    .smbPwrStat .. | .smbOther .. =>
    ([.pcie], [])
  | .internalResetEnd .. =>
    ([.otp, .gen, .time], [0, 1, 2, 19, 20, 24, 25, 26])
  | .hubSelfTest .. =>
    told [.poison, .cleaned, .pwr, .links, .qrn, .sched, .step, .mbr, .pond, .out, .fab, .late, .lhl, .mlr, .slu,
        .lit] [8, 10, 12, 13, 14, 15, 17, 18, 21, 24, 26]
  | .memorySelfTest .. =>
    told [.mem, .poison, .cleaned, .qrn, .sched, .step, .img, .mbr, .late, .mlr, .lit] [3, 4, 8, 9, 14, 24, 26]
  | .journalRestore .. =>
    told [.mem, .poison, .cleaned, .qrn, .sched, .step, .img, .cry] [2, 3, 4, 8, 19, 22, 24, 25]
  | .baseImageVerify .. =>
    told [.gen, .qrn, .sched, .img, .fab, .lhl, .cmp, .slu, .lit] [0, 2, 3, 4, 8, 10, 11, 12, 13, 14, 15, 16, 17,
        18, 21, 22, 24, 25]
  | .vqBelowWarning .. | .vqPor .. =>
    told [.mem, .poison, .pwr, .qrn, .sched, .step, .mbr, .late, .mlr, .lit] [3, 4, 8, 14, 24, 26]
  | .vqRecovery .. =>
    told [.mem, .poison, .pwr, .qrn, .sched, .step, .mbr, .late, .mlr, .lit] [4, 8, 14, 24, 26]
  | .admitHoldRelease .. =>
    told [.pwr, .sched] [3, 24]
  | .vqFloor .. =>
    told [.pwr, .qrn, .sched, .step, .mbr, .late, .mlr, .lit] [3, 8, 14, 24, 26]
  | .railWarn .. | .railRecovery .. =>
    told [.poison, .cleaned, .freeCount, .pwr, .pcie, .qrn, .sched, .step, .mbr, .pond, .out, .fab, .late, .lhl,
        .mlr, .time, .slu, .lit] [8, 10, 12, 13, 14, 15, 17, 18, 20, 21, 24, 26]
  | .vqOvervoltageWarn .. =>
    told [.pwr] [24]
  | .temperatureSample .. =>
    told [.poison, .cleaned, .pwr, .qrn, .sched, .step, .mbr, .pond, .out, .fab, .late, .lhl, .mlr, .slu, .lit]
        [3, 8, 9, 10, 12, 13, 14, 15, 17, 18, 21, 24, 26]
  | .errNMinLowEnd .. =>
    ([.flt], [23])
  | .errnRelease .. | .fltForce .. | .fltForceClr .. | .fltCntClr .. | .dramStackTest .. | .hubTestRequest .. |
    .genCntClr .. | .writeRunning .. | .activate .. | .verify .. | .writeCert .. | .flush .. =>
    told [] [0]
  | .regionSelfTest .. | .seqPhaseReq .. =>
    told [.sched] [0, 3, 4]
  | .selfTestStart .. =>
    ([.flt], [])
  | .selfTestDrainDeadline .. =>
    ([.flt, .sched], [3, 4, 23])
  | .regionSelfTestDone .. | .spareCheck .. | .scbPar .. =>
    told [.mem, .poison, .cleaned, .qrn, .sched, .step, .img] [3, 4, 8]
  | .dramStackTestDone .. =>
    told [.stackPoison, .cleaned] [9]
  | .barAccess .. =>
    told [.out, .time] []
  | .linkReplay .. =>
    told [.poison, .cleaned, .pwr, .links, .qrn, .sched, .step, .mbr, .pond, .out, .fab, .late, .lhl, .mlr, .slu,
        .lit] [8, 10, 12, 13, 14, 15, 17, 18, 21, 26]
  | .tempoWindow .. =>
    told [.qrn] [4]
  | .tile .. | .tileAttemptEnd .. =>
    told [.mem, .poison, .cleaned, .qrn, .sched, .step, .img] [3, 4, 8, 9]
  | .tileDrain .. | .dlMiss .. =>
    told [.mem, .poison, .cleaned, .qrn, .sched, .step, .img, .mbr, .hop, .out, .fab, .late, .col, .mlr, .cmp] [3,
        4, 8, 9, 10, 11, 12, 13, 14, 18]
  | .swRetire .. =>
    told [.mem, .poison, .cleaned, .qrn, .sched, .step, .img] [0, 3, 4, 8]
  | .qrnBlkRestore .. | .seqRestart .. =>
    told [.qrn, .sched] [0, 3, 4]
  | .flitResent .. =>
    told [.sched] [4]
  | .qrnCntClr .. =>
    told [] [0, 4]
  | .moveLinear .. | .moveTwoDimensional .. | .moveTranspose .. | .moveZeroFill .. =>
    told [.mem, .poison, .cleaned, .sched, .cmp] [3, 4, 9, 10, 18]
  | .spinNop .. | .mov .. | .scl .. | .fma .. | .add .. | .mul .. | .fil .. | .ssq .. | .amax .. | .fin .. |
    .qmx4 .. | .qmx8 .. | .oavg .. | .omom .. | .ones .. | .odir .. | .oqx .. | .oapp .. | .mdlt .. =>
    told [.mem, .poison, .cleaned, .sched, .red, .step] [3, 4, 8]
  | .spnOpcode .. =>
    told [.sched] [3, 8]
  | .spinBatch .. =>
    told [.sched, .step] [8]
  | .nop .. | .syncSet .. | .syncAdd .. | .recip .. | .mergeW .. | .phase .. | .dispatch .. | .phaseRefused .. =>
    told [.sched] [3, 4]
  | .normInv .. =>
    told [.sched] [3, 4, 8]
  | .finVerdict .. =>
    told [.mem, .poison, .cleaned, .sched, .step, .mbr, .hop, .out, .fab, .late, .col, .mlr, .cmp] [3, 4, 8, 9,
        10, 11, 12, 13, 14, 18]
  | .clear .. =>
    told [.sched, .red] [3, 4]
  | .openStep .. =>
    told [.sched, .step] [3, 4, 8]
  | .commit .. =>
    told [.mem, .poison, .cleaned, .sched, .step, .mbr, .hop, .out, .fab, .late, .col, .mlr, .cmp] [3, 4, 8, 9,
        10, 11, 12, 13, 14, 18, 25]
  | .scatterDone .. =>
    told [.mem, .poison, .cleaned, .gen, .qrn, .sched, .step, .img, .mbr, .pond, .hop, .out, .fab, .late, .col,
        .lhl, .mlr, .cmp, .slu] [0, 2, 3, 4, 8, 9, 10, 11, 12, 13, 14, 16, 17, 18, 21, 25]
  | .coll .. =>
    told [.mem, .poison, .cleaned, .sched, .hop, .out, .fab, .col, .cmp] [3, 4, 9, 10, 11, 12, 13, 14, 18]
  | .descriptorCompletion .. =>
    told [.sched, .step, .late] [3, 4, 8, 14]
  | .regionDrained .. =>
    told [.qrn, .sched, .img] [3, 4]
  | .seqRun .. =>
    told [.sched] [0, 3]
  | .seqCntClr .. =>
    told [] [0, 3]
  | .replicaConfirm .. =>
    ([.step, .mbr], [8])
  | .replicaLost .. =>
    ([.step], [])
  | .slotOpen .. | .slotClose .. | .abort .. =>
    told [.mem, .poison, .cleaned, .img] [0, 2]
  | .slotLease .. =>
    told [.mem, .poison, .cleaned, .img] [2, 3]
  | .bar2SlotWrite .. =>
    ([.mem, .poison, .cleaned, .img], [])
  | .loaderDma .. =>
    told [.img] [0, 2]
  | .loaderDmaDone .. =>
    ([.mem, .poison, .cleaned, .freeCount, .img], [2])
  | .load .. =>
    told [.mem, .poison, .cleaned, .img] [0, 2, 3]
  | .imageVerified .. =>
    told [.mem, .poison, .cleaned, .gen, .qrn, .sched, .img, .pond, .out, .fab, .lhl, .mlr, .cmp, .slu, .lit] [0,
        2, 3, 4, 8, 10, 11, 12, 13, 14, 15, 16, 17, 18, 21, 22, 24, 25]
  | .applying .. =>
    told [.poison, .cleaned, .gen, .qrn, .sched, .img, .pond, .out, .fab, .lhl, .mlr, .cmp, .slu] [0, 2, 3, 4, 8,
        10, 14, 16, 17, 18, 21]
  | .applied .. =>
    told [.mem, .poison, .cleaned, .sched, .img, .hop, .out, .fab, .col, .cmp] [2, 3, 9, 10, 11, 12, 13, 14, 18]
  | .imgArbCommit .. | .otpKeyWrite .. | .otpKeyRevoke .. =>
    told [.otp] [0, 1]
  | .patrolScrub .. =>
    told [.poison, .cleaned] [9]
  | .pndRetrain .. =>
    told [.lit] [0, 10]
  | .pndDown .. =>
    told [.poison, .cleaned, .pond, .out, .mlr, .slu] [0, 10, 17, 18, 21]
  | .pondLanesLocked .. | .pondBackoffEnd .. =>
    ([], [10])
  | .pondAligned .. | .rd .. | .wr .. =>
    ([.pond, .out], [10])
  | .pondIdent .. | .pondTrainingTimeout .. | .pondSilence .. | .pondNop .. | .pondReplayTimer .. | .pondIdleNop ..
    | .pondMessageDiscard .. =>
    told [.poison, .cleaned, .pond, .out, .mlr, .slu] [10, 17, 18, 21]
  | .pondActiveDeadline .. =>
    told [.out, .mlr, .slu] [10, 17, 18, 21]
  | .rdc .. =>
    told [.mem, .poison, .cleaned, .pond, .out, .mlr, .cmp, .slu] [10, 17, 18, 21]
  | .wra .. =>
    told [.mem, .poison, .cleaned, .pond, .out, .mlr, .slu] [10, 17, 18, 21]
  | .plTimeout .. =>
    told [.poison, .cleaned, .pond] [10]
  | .hopperRequest .. | .hopperRelease .. | .hopAuditDone .. | .elementNop .. | .send .. | .reduce .. | .bcast .. |
    .collect .. | .dones .. | .release .. | .colGrant .. | .colBcast .. | .colDone .. | .chunkReissue .. |
    .slotReclaim .. | .slotReclaimEnd .. =>
    told [.mem, .poison, .cleaned, .sched, .hop, .out, .fab, .col, .cmp] [3, 9, 10, 11, 12, 13, 14, 18]
  | .hopAudit .. | .hopCntClr .. =>
    told [] [0, 11]
  | .rebuild .. | .colCancel .. =>
    told [.mem, .poison, .cleaned, .sched, .hop, .out, .fab, .col, .cmp] [0, 3, 9, 10, 11, 12, 13, 14, 18]
  | .memCntClr .. =>
    told [] [0, 9]
  | .pndCntClr .. | .clrStage .. =>
    told [] [0, 10]
  | .fabRetrain .. =>
    told [.lit] [0, 12]
  | .fabDown .. =>
    told [.fab] [0, 12, 13]
  | .fabLanesLocked .. | .fabBackoffEnd .. =>
    ([], [12])
  | .fabAligned .. =>
    ([.out, .fab], [12])
  | .fabIdent .. | .fabSilence .. | .fabTrainingTimeout .. | .linkControlBlock .. | .hopLifeExpiry .. |
    .releaseRepeat .. | .tallyRepeat .. =>
    told [.fab] [12, 13]
  | .fabActiveDeadline .. =>
    told [] [12]
  | .controlBlockSend .. =>
    ([.out, .fab], [])
  | .packetArrival .. =>
    told [.step, .mbr, .fab, .late, .mlr, .time] [8, 12, 13, 14, 20, 25]
  | .packetForward .. =>
    told [.out, .fab, .time] [12, 13, 20]
  | .put .. =>
    told [.mem, .poison, .cleaned, .sched, .step, .mbr, .hop, .out, .fab, .col, .cmp] [3, 9, 10, 11, 12, 13, 14,
        18]
  | .get .. | .ctrAdd .. | .opTimeout .. =>
    told [.sched, .fab] [3, 9, 10, 12, 13, 18]
  | .putAck .. | .ctrAck .. =>
    told [.sched, .fab] [3, 12, 13]
  | .getData .. =>
    told [.mem, .poison, .cleaned, .sched, .step, .hop, .out, .fab, .col, .cmp] [3, 9, 10, 11, 12, 13, 14, 18]
  | .contextExpiry .. =>
    ([.fab], [12])
  | .fabCntClr .. =>
    told [.fab] [0, 12]
  | .fabPortCntClr .. =>
    told [] [0, 12]
  | .rteSel .. | .routesStaging .. =>
    told [.gen, .fab] [0, 13]
  | .rteValid .. =>
    told [.gen] [0, 13]
  | .rteWindowWrite .. =>
    told [.fab] [0, 13]
  | .tally .. | .colTally .. =>
    told [.mem, .poison, .cleaned, .sched, .step, .mbr, .hop, .out, .fab, .late, .col, .mlr, .cmp] [3, 8, 9, 10,
        11, 12, 13, 14, 18]
  | .colData .. =>
    told [.mem, .poison, .cleaned, .sched, .step, .hop, .out, .fab, .late, .col, .cmp] [3, 8, 9, 10, 11, 12, 13,
        14, 18]
  | .colNack .. =>
    told [.sched, .fab, .col] [9, 10, 12, 13, 14, 18]
  | .colRelease .. =>
    ([.fab, .col], [13])
  | .lingerEnd .. =>
    ([.col], [14])
  | .earlyGrantExpiry .. =>
    ([.col], [])
  | .nackTimer .. =>
    told [.fab] [12, 13, 14]
  | .colFlipArm .. | .colFlipCancel .. | .colCntClr .. =>
    told [] [0, 14]
  | .frameTransmit .. =>
    told [.mem, .poison, .cleaned, .out, .lhl, .mlr, .cmp, .slu] [10, 15, 16, 17, 18, 20, 21, 25]
  | .frameReceive .. =>
    told [.step, .mbr, .late, .lhl, .mlr] [8, 14, 15, 16, 25]
  | .alignmentSighting .. | .candidateCheck .. | .preFecWindow .. | .holdOffEnd .. | .wtrExpiry .. =>
    told [.lhl] [15]
  | .rehunt .. =>
    told [.lhl] [0, 15]
  | .swapArm .. | .swapCancel .. =>
    told [.lhl] [0, 16]
  | .rxReady .. =>
    told [] [0, 16]
  | .tsiWindowWrite .. =>
    told [.lhl] [0]
  | .lhlPgCmd .. =>
    told [.gen, .lhl] [0, 15]
  | .protectionSwitch .. =>
    told [] [15]
  | .lhlCntClr .. =>
    told [] [0, 15]
  | .secondBoundary .. =>
    ([.causes, .flt, .qrn, .fab, .lhl, .time], [2, 15, 19, 22, 25])
  | .segmentReceive .. =>
    told [.mem, .poison, .cleaned, .sched, .step, .mbr, .hop, .out, .fab, .col, .lhl, .mlr, .cmp, .cry] [3, 9, 10,
        11, 12, 13, 14, 17, 18, 19]
  | .stepCtl .. =>
    told [.mem, .poison, .cleaned, .sched, .step, .mbr, .hop, .out, .fab, .late, .col, .mlr, .cmp] [3, 8, 9, 10,
        11, 12, 13, 14, 17, 18]
  | .segmentHandoff .. =>
    told [.sched, .mlr, .cmp, .cry, .slu] [9, 10, 17, 18, 19, 21]
  | .ack .. | .ackMap .. =>
    told [.sched, .lhl, .mlr, .cmp, .cry, .slu] [9, 10, 17, 18, 19, 21, 25]
  | .rawReq .. =>
    told [.sched, .lhl, .mlr, .cmp, .cry, .slu] [9, 10, 17, 18, 19, 21]
  | .voidRange .. | .echoTimer .. =>
    ([.lhl, .mlr], [17])
  | .ackTimer .. =>
    ([.lhl, .mlr], [])
  | .rtoExpiry .. =>
    told [.sched, .slu] [17, 21]
  | .voidRepeat .. | .echoRequest .. =>
    ([.lhl], [])
  | .echoReply .. =>
    told [.lhl, .mlr, .slu] [17, 25]
  | .mbrEpoch .. =>
    told [.mem, .poison, .cleaned, .gen, .sched, .step, .mbr, .hop, .out, .fab, .late, .col, .mlr, .cmp] [0, 3, 8,
        9, 10, 11, 12, 13, 14, 18, 25]
  | .membershipNotice .. =>
    told [.mem, .poison, .cleaned, .sched, .step, .mbr, .hop, .out, .fab, .late, .col, .lhl, .mlr, .cmp] [3, 8, 9,
        10, 11, 12, 13, 14, 18, 25]
  | .noticeTimer .. =>
    ([.lhl], [25])
  | .noticeEntryExpiry .. | .reachTimeout .. =>
    ([], [25])
  | .partition .. =>
    told [.step, .mbr, .late, .mlr, .slu] [8, 14, 17, 18, 21, 25]
  | .pinComplete .. =>
    ([.mem, .poison, .cleaned, .boot, .mbr, .cmp], [8, 10, 18, 25, 27])
  | .pinFetch .. =>
    told [] [10, 25]
  | .rejoin .. =>
    told [.mem, .poison, .cleaned, .sched, .step, .mbr, .hop, .out, .fab, .late, .col, .cmp] [3, 8, 9, 10, 11, 12,
        13, 14, 17, 18, 25]
  | .mergeClose .. =>
    ([.mbr, .late], [8, 14, 25])
  | .merge .. =>
    ([], [8])
  | .mergeCommit .. =>
    told [.mem, .poison, .cleaned, .sched, .step, .mbr, .hop, .out, .fab, .late, .col, .cmp] [3, 8, 9, 10, 11, 12,
        13, 14, 18, 25]
  | .mbrAdmit .. =>
    told [.mbr, .late] [0, 8, 14, 25]
  | .heartbeatTouch .. =>
    told [.mem, .poison, .cleaned, .sched, .hop, .out, .fab, .col, .cmp] [0, 3, 8, 9, 10, 11, 12, 13, 14, 18, 25]
  | .hbLapse .. =>
    told [.img] [2, 8, 14, 25]
  | .mlrFlowCntClr .. =>
    told [] [0, 17]
  | .bolterTableInstall .. =>
    ([.cmp], [18])
  | .windowRead .. =>
    told [.out] [9, 10, 18]
  | .windowWrite .. =>
    told [.mem, .poison, .cleaned, .cmp] [9, 10, 18]
  | .entropyFail .. =>
    told [] [19]
  | .entropyRecovery .. =>
    ([], [19])
  | .maskReseed .. =>
    told [.gen, .cry] [19]
  | .cipherRequest .. | .journalSnapshot .. =>
    told [.cry] [19]
  | .install .. | .kslotClear .. | .kslotLease .. | .hostRequest .. =>
    told [.gen, .cry] [0, 19]
  | .advance .. | .cryCntClr .. =>
    told [] [0, 19]
  | .kslotOpen .. =>
    told [.cry] [0, 19]
  | .cmpCntClr .. =>
    told [.cmp] [0, 18]
  | .timInc .. =>
    told [.heldLo, .time] [0, 20]
  | .timSet .. | .timStep .. | .timSlew .. | .pop .. =>
    told [.time] [0, 20]
  | .slewEnd .. =>
    ([.causes, .flt, .qrn, .fab, .lhl, .time], [2, 15, 19, 20, 22, 25])
  | .timeStep .. =>
    told [.qrn, .sched, .step, .mbr, .fab, .late, .lhl, .mlr, .time, .slu] [15, 20, 21]
  | .timSnap .. =>
    told [] [0, 20]
  | .refclkLoss .. =>
    told [.poison, .cleaned, .pwr, .pond, .out, .fab, .lhl, .mlr, .time, .slu] [10, 12, 13, 15, 17, 18, 20, 21]
  | .refclkReturn .. =>
    ([.causes, .pwr, .time], [20])
  | .timeUnitSync .. =>
    told [.time] [20]
  | .holdover .. | .ppsInEdge .. =>
    ([], [20])
  | .ppsInLost .. =>
    told [] [20]
  | .ppsOutEdge .. | .ppsOutEnd .. =>
    ([.out, .time], [])
  | .ieee1588Message .. =>
    ([.lhl, .time], [20])
  | .ptpSend .. =>
    told [.lhl] [0, 20]
  | .refill .. =>
    ([.slu], [21])
  | .gateEntryChange .. | .histogramSample .. =>
    ([], [21])
  | .gateListSwitch .. =>
    ([.causes, .flt, .slu], [21])
  | .gateArm .. | .gateCancel .. =>
    told [.slu] [0, 21]
  | .sluHistClr .. =>
    told [] [0, 21]
  | .ringSweepDone .. | .reportUnit .. =>
    told [.lit, .opt] [22]
  | .toneWindow .. | .laneLoss .. =>
    told [.poison, .cleaned, .pond, .out, .fab, .lhl, .mlr, .slu, .opt] [10, 12, 13, 15, 17, 18, 21, 22]
  | .monitorSample .. =>
    ([.out, .opt], [])
  | .averagingWindow .. | .shadowMarker .. | .mirrorRelease .. | .calibrationTimer .. | .calibrationLaneDone .. =>
    told [.opt] [22]
  | .calNow .. | .calCancel .. | .optCommission .. | .optLaserRestore .. =>
    told [.opt] [0, 22]
  | .commissioningDone .. =>
    ([.boot, .opt], [22, 27])
  | .optLaserEn .. =>
    told [.gen, .lit] [0, 22]
  | .optCntClr .. =>
    told [] [0, 22]
  | .genStatusMode .. | .rcsWriteBack .. =>
    told [] (List.range 28)
  | .genDigestRef .. | .digestCompute .. =>
    told [.gen] [0]
  | .tmr .. =>
    told [.gen, .qrn, .sched, .step, .mbr, .late, .mlr, .lit] (List.range 28)
  | .registerWrite .. | .postedWriteDone .. =>
    told [.heldLo, .posted, .mem, .poison, .cleaned, .gen, .qrn, .sched, .hop, .out, .fab, .col, .lhl, .cmp, .cry,
        .slu] (List.range 28)
  | .bootStoreOpDone .. =>
    told [.freeCount] []
  | .journalEraseDone .. =>
    ([.boot], [27])
  | .doeDiscovery .. | .getCerts .. | .getBody .. =>
    ([.flt, .pcie], [])
  | .getQuote .. =>
    ([.flt, .pcie, .gen, .cry], [19, 26])
  | .attQTail .. =>
    told [] [0, 26]
  | .quoteQueueEntry .. =>
    ([.flt, .gen, .img, .cry], [19, 26])
  | .pwrMinClr .. =>
    told [] [0, 24]
  | .lineLanesLocked .. =>
    told [.lhl, .lit] [15, 22]
  | .otpWriteDone .. =>
    told [.otp] [0, 1, 2]
  | .reportsOkLapse .. =>
    ([], [22])
  | .vqOvervoltageClear .. =>
    ([.pwr], [])

end Sys2Proof.Machine
end

