-- ==== Sys2Proof/WellFormed.lean ====
section
/-! DEFINITION. Which commands can come: the ranges of their operands, as the widths of the registers' fields, the counts of
the units and the forms of the messages give them. A command that is not well formed cannot be sent to the block. -/

namespace Sys2Proof

/-- A number of w bits. -/
def fits (w v : Nat) : Bool := decide (v < 2 ^ w)

/-- A queue that exists. -/
def QueueId.wf : QueueId → Bool
  | .tile r => decide (r < 64)
  | .move r => decide (r < 64)
  | .spin r => decide (r < 64)
  | .ctrl r => decide (r < 64)
  | .chip => true

/-- A failed check of one of the 16 blocks of a region. -/
def BlockFail.wf (f : BlockFail) : Bool := decide (f.block < 16) && fits 8 f.source && decide (f.row < 64) && decide (f.col < 64)

/-- An error at a device address. -/
def ReadError.wf (e : ReadError) : Bool := fits 48 e.addr

/-- The fields of a packet's header in their widths, with its payload's length. -/
def Packet.wf (p : Packet) : Bool :=
  fits 2 p.cls && fits 1 p.dl && fits 1 p.repoch && fits 4 p.ver && fits 8 p.opcode && fits 8 p.hops && fits 32 p.mepoch &&
    fits 24 p.dst && fits 24 p.src && fits 16 p.len && fits 32 p.opId && fits 48 p.addr && fits 16 p.pkt &&
    fits 32 p.pcrc && decide (p.len ≤ 4096) && p.len % 4 == 0 &&
    p.data.length == (if p.opcode = 3 then 0 else p.len)

/-- An operation that this gateway can be asked to initiate. -/
def FabReq.wf (q : FabReq) : Bool :=
  decide (q.hub < 2) && fits 20 q.dst && fits 48 q.addr && fits 48 q.buf && decide (4 ≤ q.len) && decide (q.len ≤ 0x10000000) && q.len % 4 == 0 &&
    fits 32 q.value && fits 32 q.opId && fits 32 q.inc && (q.sig.all fun c => fits 12 c)

/-- A request or PUT. -/
def FabCmd.wf : FabCmd → Bool
  | .issue q => q.wf
  | .take h => decide (h < 2)

/-- The bytes of a pond message (R153): a header, and for the opcodes that carry data LENM1 + 1 granules and the DCRC. -/
def pondMsgWf (m : List Byte) : Bool :=
  decide (32 ≤ m.length) && (let op := beAt m 0 1
    if op = 2 ∨ op = 3 ∨ op = 5 then m.length == 36 + 256 * (beAt m 1 1 % 64 + 1) else m.length == 32)

/-- A segment that Tailrace can hand over. -/
def SegReq.wf (q : SegReq) : Bool :=
  fits 8 q.flow && decide (1 ≤ q.kind) && decide (q.kind ≤ 5) && fits 4 q.stage && fits 20 q.obj && fits 24 q.blk && fits 48 q.addr &&
    decide (q.len ≤ 16384) && fits 8 q.item

/-- A triple field that exists. -/
def TripleField.wf : TripleField → Bool
  | .rteSel => true
  | .pgCmd g => decide (g < 2)
  | .kslotUse n => decide (n < 64)
  | .kslotRoot n => decide (n < 64)
  | .laserEn w => decide (w < 7)
  | .mbrEpoch => true

/-- The lanes of a frame as they arrive: eight lanes of 1,088 units of 16 bytes. -/
def lanesWf (lanes : List (List Nat)) : Bool :=
  lanes.length == 8 && lanes.all fun l => l.length == 1088 && l.all fun u => fits 128 u

/-- A word of BAR0. -/
def regWf (addr value : Nat) : Bool := decide (addr < 0x4000000) && addr % 4 == 0 && fits 32 value

/-- An SMBus command that Table ELE-7 does not list. -/
def smbUnlisted (c : Nat) : Bool :=
  fits 8 c && c != 0 && c != 1 && !(decide (0x10 ≤ c) && decide (c ≤ 0x27)) && !(decide (0x30 ≤ c) && decide (c ≤ 0x33)) &&
    !(decide (0x38 ≤ c) && decide (c ≤ 0x3F)) && c != 0x40

/-- A rail other than VQ, in the order of PWR_RAIL, and one of its monitors (Table FLT-8). -/
def railWf (rail monitor mv : Nat) : Bool :=
  fits 16 mv && decide (monitor < (([5, 12, 12, 4, 4, 2, 1, 1] : List Nat)[rail]?).getD 0)

/-- The unit code of a die-to-die link (Table DIE-5). -/
def linkUnit (u : Nat) : Bool :=
  (decide (0x30 ≤ u) && decide (u ≤ 0x3C)) || (decide (0x40 ≤ u) && decide (u ≤ 0x43)) || (decide (0x48 ≤ u) && decide (u ≤ 0x53))

/-- An element of a collective, of a chunk, or of a report. -/
def elemWf (group seq n : Nat) : Bool := fits 16 group && fits 32 seq && fits 32 n

/-- An optical lane: one of 9 lanes of one of 24 ports. -/
def laneWf (port lane : Nat) : Bool := decide (port < 24) && decide (lane < 9)

/-- Errors at device addresses. -/
def errorsWf (errors : List ReadError) : Bool := errors.all ReadError.wf

/-- The credit totals of a control block (R177): one for each VC. -/
def totalsWf (totals : List Nat) : Bool := totals.length == 8 && totals.all (fits 16)

/-- Whether a command is well formed. -/
def Instr.wf : Instr → Bool
  | .powerCycle => true
  | .deviceReset => true
  | .pwrReset key _ => fits 16 key
  | .pcieReset => true
  | .pcieControllerReady => true
  | .internalResetEnd => true
  | .hubSelfTest badHubs links => badHubs.all (fun j => decide (j < 2)) && links.all fun x => linkUnit x.unit
  | .memorySelfTest badBase badStacks badLines badBlocks => badBase.all (fun k => decide (k < 4)) && badStacks.all (fun k => decide (k < 12)) &&
    badLines.all (fits 48) && badBlocks.all fun g => decide (g < 1024)
  | .journalRestore => true
  | .baseImageVerify => true
  | .vqBelowWarning monitor mv => decide (monitor < 4) && fits 16 mv
  | .vqRecovery readings => readings.length == 4 && readings.all (fits 16)
  | .admitHoldRelease => true
  | .vqFloor monitor mv => decide (monitor < 4) && fits 16 mv
  | .vqPor monitor mv => decide (monitor < 4) && fits 16 mv
  | .railWarn r monitor mv => railWf r monitor mv
  | .vqOvervoltageWarn monitor mv => decide (monitor < 4) && fits 16 mv
  | .rail r monitor mv => railWf r monitor mv
  | .railRecovery r monitor mv => railWf r monitor mv
  | .temperatureSample readings => readings.length == 24 && readings.all fun v => decide (-32768 ≤ v) && decide (v < 32768)
  | .errNMinLowEnd => true
  | .errnRelease => true
  | .fltForce word mask => decide (word < 8) && fits 32 mask
  | .fltForceClr => true
  | .fltCntClr => true
  | .regionSelfTest region => decide (region < 64)
  | .dramStackTest stack _ => decide (stack < 12)
  | .hubTestRequest => true
  | .selfTestStart => true
  | .selfTestDrainDeadline => true
  | .regionSelfTestDone failed => fits 16 failed
  | .dramStackTestDone _ => true
  | .barAccess addr size => decide (addr < 0x4000000) && decide (1 ≤ size) && decide (size ≤ 4096)
  | .linkReplay link _ => linkUnit link
  | .tempoWindow reports => reports.length == 64 && reports.all fun x => fits 32 x.completions && decide (x.busy ≤ 256)
  | .tile region errors => decide (region < 64) && errorsWf errors
  | .tileAttemptEnd region array fails => decide (region < 64) && decide (array < 32) && fails.all BlockFail.wf
  | .tileDrain region array errors => decide (region < 64) && decide (array < 32) && errorsWf errors
  | .swRetire region mask => decide (region < 64) && fits 16 mask
  | .qrnBlkRestore region mask => decide (region < 64) && fits 16 mask
  | .spareCheck region _ => decide (region < 64)
  | .scbPar region => decide (region < 64)
  | .seqRestart region => decide (region < 64)
  | .flitResent queue _ _ => queue.wf
  | .qrnCntClr region => decide (region < 64)
  | .moveLinear region errors => decide (region < 64) && errorsWf errors
  | .moveTwoDimensional region errors => decide (region < 64) && errorsWf errors
  | .moveTranspose region errors => decide (region < 64) && errorsWf errors
  | .moveZeroFill region => decide (region < 64)
  | .spinNop region => decide (region < 64)
  | .mov region => decide (region < 64)
  | .scl region => decide (region < 64)
  | .fma region => decide (region < 64)
  | .add region => decide (region < 64)
  | .mul region => decide (region < 64)
  | .fil region => decide (region < 64)
  | .ssq region => decide (region < 64)
  | .amax region => decide (region < 64)
  | .fin region => decide (region < 64)
  | .qmx4 region => decide (region < 64)
  | .qmx8 region => decide (region < 64)
  | .oavg region tensor => decide (region < 64) && fits 20 tensor
  | .omom region tensor => decide (region < 64) && fits 20 tensor
  | .ones region tensor => decide (region < 64) && fits 20 tensor
  | .odir region => decide (region < 64)
  | .oqx region => decide (region < 64)
  | .oapp region tensor => decide (region < 64) && fits 20 tensor
  | .mdlt region => decide (region < 64)
  | .spnOpcode region => decide (region < 64)
  | .spinBatch region _ _ => decide (region < 64)
  | .nop queue => queue.wf
  | .syncSet queue => queue.wf
  | .syncAdd queue => queue.wf
  | .normInv => true
  | .recip => true
  | .mergeW => true
  | .finVerdict matrix iter product => fits 20 matrix && decide (iter ≤ 8) && decide (product ≤ 3)
  | .clear => true
  | .openStep => true
  | .commit => true
  | .scatterDone => true
  | .phase => true
  | .coll => true
  | .dispatch => true
  | .descriptorCompletion queue _ _ => queue.wf
  | .dlMiss queue _ => queue.wf
  | .regionDrained region => decide (region < 64)
  | .seqPhaseReq n => fits 3 n
  | .phaseRefused region => decide (region < 64)
  | .seqRun entry => fits 8 entry
  | .seqCntClr => true
  | .replicaConfirm epoch mask => fits 64 epoch && fits 8 mask
  | .replicaLost => true
  | .slotOpen mask => fits 4 mask
  | .slotClose mask => fits 4 mask
  | .slotLease slot => decide (slot < 4)
  | .bar2SlotWrite offset data => decide (offset + data.length ≤ 0x10000000)
  | .loaderDma slot => decide (slot < 4)
  | .loaderDmaDone _ => true
  | .load slot _ => decide (slot < 4)
  | .abort => true
  | .imageVerified => true
  | .applying => true
  | .applied => true
  | .imgArbCommit => true
  | .patrolScrub addr _ _ => fits 48 addr
  | .pndRetrain link _ => decide (link < 4)
  | .pndDown link => decide (link < 4)
  | .pondLanesLocked link => decide (link < 4)
  | .pondAligned link => decide (link < 4)
  | .pondIdent link msg => decide (link < 4) && pondMsgWf msg && beAt msg 0 1 == 5
  | .pondTrainingTimeout link => decide (link < 4)
  | .pondSilence link => decide (link < 4)
  | .pondBackoffEnd link => decide (link < 4)
  | .pondActiveDeadline link => decide (link < 4)
  | .rd link tag addr granules dst => decide (link < 4) && fits 12 tag && fits 48 addr && decide (1 ≤ granules) &&
    decide (granules ≤ 64) && fits 48 dst
  | .wr link addr data poison => decide (link < 4) && fits 48 addr && decide (1 ≤ data.length) && decide (data.length ≤ 16384) &&
    data.length % 256 == 0 && fits 64 poison
  | .rdc link msg => decide (link < 4) && pondMsgWf msg && beAt msg 0 1 == 3
  | .wra link msg => decide (link < 4) && pondMsgWf msg && beAt msg 0 1 == 4
  | .pondNop link msg => decide (link < 4) && pondMsgWf msg && beAt msg 0 1 == 0
  | .pondReplayTimer link => decide (link < 4)
  | .pondIdleNop link => decide (link < 4)
  | .plTimeout link _ tag => decide (link < 4) && fits 12 tag
  | .hopperRequest hub owner size _ => decide (hub < 2) && decide (owner < 16) && fits 32 size
  | .hopperRelease owner handle => decide (owner < 16) && fits 32 handle
  | .hopAudit pool => decide (pool < 12)
  | .hopAuditDone pool => decide (pool < 12)
  | .rebuild pool => decide (pool < 12)
  | .hopCntClr pool => decide (pool < 12)
  | .memCntClr => true
  | .pndCntClr link => decide (link < 4)
  | .clrStage => true
  | .fabRetrain port _ => decide (port < 16)
  | .fabDown port => decide (port < 16)
  | .fabLanesLocked port => decide (port < 16)
  | .fabAligned port => decide (port < 16)
  | .fabIdent port ident => decide (port < 16) && fits 16 ident.part && fits 20 ident.id && fits 2 ident.role && fits 3 ident.dir && fits 8 ident.x &&
    fits 8 ident.y && fits 8 ident.z && totalsWf ident.cred
  | .fabSilence port => decide (port < 16)
  | .fabTrainingTimeout port => decide (port < 16)
  | .fabBackoffEnd port => decide (port < 16)
  | .fabActiveDeadline port => decide (port < 16)
  | .linkControlBlock port block => decide (port < 16) && block.length == 16
  | .controlBlockSend port => decide (port < 16)
  | .packetArrival port packet => decide (port < 16) && packet.wf
  | .packetForward ingress vc => decide (ingress < 18) && decide (vc < 8)
  | .hopLifeExpiry ingress vc => decide (ingress < 18) && decide (vc < 8)
  | .put c => c.wf
  | .get c => c.wf
  | .ctrAdd c => c.wf
  | .putAck hub => decide (hub < 2)
  | .getData hub => decide (hub < 2)
  | .ctrAck hub => decide (hub < 2)
  | .opTimeout opId newOpId => fits 32 opId && fits 32 newOpId
  | .contextExpiry hub src opId => decide (hub < 2) && fits 20 src && fits 32 opId
  | .fabCntClr => true
  | .fabPortCntClr port => decide (port < 16)
  | .rteSel sel => fits 1 sel
  | .rteValid valid => fits 2 valid
  | .rteWindowWrite multicast index entry => decide (index < if multicast then 4096 else 65536) && fits 32 entry
  | .routesStaging => true
  | .elementNop group seq elem => elemWf group seq elem
  | .send group seq elem => elemWf group seq elem
  | .reduce group seq elem => elemWf group seq elem
  | .bcast group seq elem => elemWf group seq elem
  | .collect group seq elem => elemWf group seq elem
  | .dones group seq elem => elemWf group seq elem
  | .release group seq elem => elemWf group seq elem
  | .tally group seq elem => elemWf group seq elem
  | .colData hub => decide (hub < 2)
  | .colGrant hub => decide (hub < 2)
  | .colBcast hub => decide (hub < 2)
  | .colDone hub => decide (hub < 2)
  | .colNack hub => decide (hub < 2)
  | .colRelease hub => decide (hub < 2)
  | .colTally hub => decide (hub < 2)
  | .chunkReissue group seq chunk => elemWf group seq chunk
  | .slotReclaim group seq chunk => elemWf group seq chunk
  | .slotReclaimEnd hub slot => decide (hub < 2) && decide (slot < 128)
  | .lingerEnd group seq => fits 16 group && fits 32 seq
  | .earlyGrantExpiry group seq chunk => elemWf group seq chunk
  | .nackTimer group seq elem => elemWf group seq elem
  | .releaseRepeat group seq elem => elemWf group seq elem
  | .tallyRepeat hub group dst seq tokens epoch => decide (hub < 2) && fits 16 group && fits 20 dst && fits 32 seq && fits 64 tokens && fits 64 epoch
  | .colFlipArm => true
  | .colFlipCancel => true
  | .colCancel group seq => fits 16 group && fits 32 seq
  | .colCntClr => true
  | .frameTransmit port => decide (port < 4)
  | .frameReceive port lanes skew => decide (port < 4) && lanesWf lanes && fits 16 skew
  | .alignmentSighting port _ markers skew => decide (port < 4) && markers.length == 8 && markers.all (fits 128) && fits 16 skew
  | .candidateCheck port _ lanes => decide (port < 4) && lanesWf lanes
  | .preFecWindow port => decide (port < 4)
  | .rehunt port => decide (port < 4)
  | .swapArm port => decide (port < 4)
  | .swapCancel port => decide (port < 4)
  | .rxReady port => decide (port < 4)
  | .tsiWindowWrite _ port slot entry => decide (port < 4) && decide (slot < 64) && fits 16 entry
  | .holdOffEnd port _ => decide (port < 4)
  | .wtrExpiry group => decide (group < 2)
  | .lhlPgCmd group cmd => decide (group < 2) && fits 2 cmd
  | .protectionSwitch group us => decide (group < 2) && fits 32 us
  | .lhlCntClr port => decide (port < 4)
  | .secondBoundary => true
  | .segmentReceive port flow place => decide (port < 4) && fits 8 flow && fits 48 place.addr && fits 48 place.bytes && fits 32 place.inc &&
    place.sig.all fun c => fits 12 c
  | .stepCtl => true
  | .segmentHandoff req => req.wf
  | .ack => true
  | .ackMap => true
  | .rawReq => true
  | .voidRange => true
  | .ackTimer flow => fits 8 flow
  | .rtoExpiry flow seq => fits 8 flow && fits 48 seq
  | .voidRepeat flow => fits 8 flow
  | .echoTimer port => decide (port < 4)
  | .echoRequest => true
  | .echoReply => true
  | .mbrEpoch epoch => fits 32 epoch
  | .membershipNotice _ => true
  | .noticeTimer port => decide (port < 4)
  | .noticeEntryExpiry site => decide (site < 8)
  | .reachTimeout site => decide (site < 8)
  | .partition site => decide (site < 8)
  | .pinComplete => true
  | .pinFetch epoch mask => fits 64 epoch && fits 8 mask
  | .rejoin => true
  | .mergeClose => true
  | .merge => true
  | .mergeCommit => true
  | .mbrAdmit site _ => decide (site < 8)
  | .heartbeatTouch => true
  | .hbLapse => true
  | .mlrFlowCntClr flow => fits 8 flow
  | .bolterTableInstall slot => decide (slot < 16)
  | .windowRead addr len => fits 48 addr && fits 32 len
  | .windowWrite addr data _ => fits 48 addr && decide (data.length ≤ 0x10000000)
  | .entropyFail _ => true
  | .entropyRecovery => true
  | .maskReseed hub => decide (hub < 2)
  | .cipherRequest hub => decide (hub < 2)
  | .install index _ => fits 3 index
  | .advance slot => decide (slot < 64)
  | .kslotClear slot => decide (slot < 64)
  | .kslotOpen slot => decide (slot < 64)
  | .kslotLease slot => decide (slot < 64)
  | .hostRequest slot blocks => decide (slot < 64) && fits 5 blocks
  | .cryCntClr => true
  | .cmpCntClr => true
  | .timInc hi => fits 32 hi
  | .timSet => true
  | .timStep => true
  | .timSlew => true
  | .slewEnd => true
  | .timeStep => true
  | .timSnap => true
  | .refclkLoss => true
  | .refclkReturn => true
  | .timeUnitSync _ => true
  | .holdover => true
  | .ppsInEdge => true
  | .ppsInLost => true
  | .ppsOutEdge => true
  | .ppsOutEnd => true
  | .ieee1588Message => true
  | .ptpSend port len _ => decide (port < 4) && fits 8 len
  | .pop => true
  | .refill => true
  | .gateEntryChange port => decide (port < 4)
  | .gateListSwitch port => decide (port < 4)
  | .gateArm port => decide (port < 4)
  | .gateCancel port => decide (port < 4)
  | .histogramSample => true
  | .sluHistClr => true
  | .ringSweepDone port lane _ lines => laneWf port lane && lines.all fun x => fits 16 x.1 && fits 16 x.2
  | .toneWindow port lane _ tone => laneWf port lane && fits 16 tone
  | .monitorSample port powers => decide (port < 24) && powers.length == 9
  | .averagingWindow port errors => decide (port < 24) && errors.length == 9 && errors.all (fits 32)
  | .shadowMarker port lane code inverse _ skew => laneWf port lane && fits 8 code && fits 8 inverse && fits 16 skew
  | .reportUnit port unit => decide (port < 24) && unit.length == 16
  | .laneLoss port lane => laneWf port lane
  | .mirrorRelease port => decide (port < 24)
  | .calibrationTimer port => decide (port < 24)
  | .calNow port => decide (port < 24)
  | .calCancel port => decide (port < 24)
  | .calibrationLaneDone port => decide (port < 24)
  | .optCommission port => decide (port < 24)
  | .commissioningDone port powers => decide (port < 24) && powers.length == 9
  | .optLaserRestore laser => fits 8 laser
  | .optLaserEn word value => decide (word < 7) && fits 32 value
  | .optCntClr => true
  | .genStatusMode mode key => fits 1 mode && fits 16 key
  | .genDigestRef crc => fits 32 crc
  | .digestCompute _ => true
  | .tmr upsets => upsets.all fun u => u.field.wf && decide (u.copy < 3) && fits 32 u.value
  | .genCntClr => true
  | .rcsWriteBack addr value => regWf addr value
  | .registerWrite addr value => regWf addr value
  | .postedWriteDone block => decide (block < 28)
  | .otpKeyWrite index => fits 2 index
  | .otpKeyRevoke index => fits 2 index
  | .writeRunning bank => fits 1 bank
  | .activate bank => fits 1 bank
  | .verify bank => fits 1 bank
  | .writeCert slot len => decide (slot < 4) && fits 19 len
  | .bootStoreOpDone _ => true
  | .flush => true
  | .journalSnapshot _ => true
  | .journalEraseDone => true
  | .doeDiscovery index => fits 8 index
  | .getCerts => true
  | .getQuote nonce => nonce.length == 32
  | .getBody => true
  | .doeAbort => true
  | .attQTail index => fits 12 index
  | .quoteQueueEntry _ _ => true
  | .smbPart => true
  | .smbStatus => true
  | .smbTemp command => decide (0x10 ≤ command) && decide (command ≤ 0x27)
  | .smbVq command => decide (0x30 ≤ command) && decide (command ≤ 0x33)
  | .smbRail command => decide (0x38 ≤ command) && decide (command ≤ 0x3F)
  | .smbPwrStat => true
  | .smbOther command => smbUnlisted command
  | .pwrMinClr => true
  | .otpWriteDone _ => true
  | .lineLanesLocked port => decide (port < 4)
  | .pondMessageDiscard link msg => decide (link < 4) && pondMsgWf msg
  | .reportsOkLapse port => decide (port < 24)
  | .vqOvervoltageClear monitor => decide (monitor < 4)

end Sys2Proof
end

