-- ==== Sys2Proof/Certificates/Slice0/Obligations.lean ====
section
/-! DEFINITION. The statements for the provers: what a step does, the invariants it keeps, what a command leaves alone,
and what each command does. -/

open Sys2Proof Sys2Proof.Machine

/-- A step takes the command at the front of the queue and does what it does on the state with the queue's rest. On an
empty queue the block idles but for one tick of the time unit (DESIGN CHOICE, log entry 3). -/
def Obligations.StepRunsFrontCommand : Prop :=
  (∀ (c : Instr) (rest : List Instr) (s : State), step { s with pending := c :: rest } = exec c { s with pending := rest }) ∧
  (∀ s : State, s.pending = [] → step s = .next s.tick) ∧
  (∀ s : State, s.pending = [] → s.time.running = false → step s = .next s)

/-- Reset (R10, R142, R147, R237, R375, R388, R397). The state after reset is canonical and dark, no command waits, the
device is not FATAL, ERR_N is released, start-up has not begun, the time unit does not run, and registers hold their
Reset values; the dies of the four QRN pages are numbered. -/
def Obligations.ResetState : Prop :=
  State.reset.canonical = true ∧ State.reset.dark ∧ State.reset.pending = [] ∧ State.reset.fatal = false ∧
  State.reset.get F.FLT_STAT_ERRN_LOW = 0 ∧ State.reset.get F.PWR_STAT_STAGE = 0 ∧ State.reset.time.running = false ∧
  State.reset.get F.FLT_CFG_FA_VEC = 0 ∧ State.reset.get F.FLT_CFG_UC_VEC = 1 ∧ State.reset.get F.FLT_CFG_CE_VEC = 2 ∧
  State.reset.get F.MEM_SCRUB_CFG_HOURS = 24 ∧ State.reset.get F.LHL_CFG_ALIGN_TOL = 4 ∧
  State.reset.get F.GEN_ID_PART = 0xAB1 ∧ State.reset.get (F.FLT_ERRN_SEL_SEL.ix 5) = 0x21000009 ∧
  (∀ k < 4, State.reset.get (F.QRN_DIE_ID_DIE.ix k) = k) ∧
  (∀ f : Fld, Tab.find resetRegs f.key = none → State.reset.get f = f.rst)

/-- Every step keeps the tables of the state in canonical form: keys strictly rising, and no entry of memory equal to what
an unlisted address reads as. -/
def Obligations.StepKeepsCanonical : Prop :=
  ∀ s t : State, s.canonical = true → step s = .next t → t.canonical = true

/-- Every step keeps the lasers dark in the FATAL state (R376): whatever the commands, no laser is lit while FLT_STAT.FATAL
reads 1. -/
def Obligations.StepKeepsDark : Prop :=
  ∀ s t : State, s.dark → step s = .next t → t.dark

/-- The FATAL state (R376). No command but a power cycle, which a loss of VH at a hub is too (R381), leaves it; no
descriptor issues in it; and no packet, credit, frame or operation is sent. -/
def Obligations.FatalStopsWorkUntilPowerCycle : Prop :=
  (∀ (c : Instr) (s t : State), s.fatal = true → exec c s = .next t → c ≠ .powerCycle →
    (∀ m mv, m < 2 → c ≠ .rail 0 m mv) → t.fatal = true) ∧
  (∀ (c : Instr) (s : State), s.fatal = true → issuing c = true → exec c s = .next s) ∧
  (∀ (c : Instr) (s : State), s.fatal = true → sending c = true → exec c s = .next s)

/-- Host writes (R376, R392, R404). A strobe's write is ignored in the FATAL state unless it is one that R376 excepts, is
ignored by a block that does not answer yet, and is discarded, counted and reported while its block's PEND reads 1, and
when HOST is armed (R372). -/
def Obligations.HostWritesAreGuarded : Prop :=
  ∀ (c : Instr) (s : State) (block : Nat) (always : Bool), strobe c = some (block, always) →
    (s.fatal = true → always = false → exec c s = .next s) ∧
    (s.answers block = false → exec c s = .next s) ∧
    (s.fatal = false ∨ always = true → s.answers block = true →
      s.flag (pendFld block) = true ∨ s.forcedAt 0xFF (locChip 0x18) = true → exec c s = .next s.dropWrite)

/-- Every command completes in every state, and its frame: it answers a next state, in which nothing has changed but the parts
of the state and the blocks of registers that the command may change; every other part is equal, and every field of every
other block reads as before. -/
def Obligations.CommandFrame : Prop :=
  ∀ (c : Instr) (s : State), ∃ t, exec c s = .next t ∧ Frame (mayChange c).1 (mayChange c).2 s t

/-- The store frame of the commands that are not an arrival (R52, R118, R128, R129, R384, Table FLT-6): every byte of device
memory reads as before, except at the destinations of the descriptor that the command has issued or drained, in the
loader's slots that it opens, closes or fills, and in the memories that a reset, a VQ reset or a power cycle clears.

Rests on choices of the model: log entries 40, 41. -/
def Obligations.StoreFrame : Prop :=
  ∀ (c : Instr) (s t : State) (a : Nat), transferStores s c = none → exec c s = .next t →
    outsideAll a ((computeStores s c).getD (otherStores s c)) → t.readByte a = s.readByte a

/-- The store frame of the commands by which data arrives (R154, R189, R210, R223, R259, R277, R302) or after which free slots
are given to waiting chunks (R160, R166, R212): every byte of device memory reads as before, except at the place of the
read, write, packet, chunk, object or copy, at the places of the keyed chunks that may be given a slot, in the RETAIN area
where a new segment stands, and in the block maps of the compressed windows.

Rests on choices of the model: log entries 42, 44, 69. -/
def Obligations.ArrivalStoreFrame : Prop :=
  ∀ (c : Instr) (s t : State) (a : Nat) (l : List (Nat × Nat)), transferStores s c = some l → exec c s = .next t →
    outsideAll a (l ++ t.maps) → t.readByte a = s.readByte a

/-- Resets (R388, R389, Table FLT-6). A power cycle returns every register and everything on the device to its state at
reset, and device memory below the far tier lists nothing; a device reset keeps the FATAL bit, the level of ERR_N, the
near tier and the last accepted BOOT_IDs (R158); PWR_RESET is the device reset under its conditions and nothing without them; PERST_N low drops posted
writes and counts; the link comes back when the controller is ready.

Rests on choices of the model: log entries 5, 42. -/
def Obligations.ResetsClearAndKeep : Prop :=
  (∀ s : State, ∃ t, exec .powerCycle s = .next t ∧ t.regs = State.reset.regs ∧ t.causes = [] ∧ t.lit = [] ∧
    t.pwr = State.reset.pwr ∧ (∀ a, a < 0x20000000000 → Tab.find t.mem a = none)) ∧
  (∀ s : State, ∃ t, exec .deviceReset s = .next t ∧ t.get F.FLT_STAT_FATAL = s.get F.FLT_STAT_FATAL % 2 ∧
    t.get F.FLT_STAT_ERRN_LOW = s.get F.FLT_STAT_ERRN_LOW % 2 ∧ t.get F.PWR_RESET_CAUSE_CAUSE = 1 ∧
    t.get F.PWR_STAT_STAGE = 0 ∧ t.lit = [] ∧ (∀ a, 0x10000000000 ≤ a → t.readByte a = s.readByte a) ∧
    (∀ a, a < 0x10000000000 → Tab.find t.mem a = none) ∧
    (∀ k < 4, t.get (F.PND_MOD_BOOT_BOOT_ID.ix k) =
      s.get (F.PND_MOD_BOOT_BOOT_ID.ix k) % 2 ^ (F.PND_MOD_BOOT_BOOT_ID.ix k).width)) ∧
  (∀ (key : Nat) (go : Bool) (s : State), s.takesWrite 24 = true → ∃ t, exec (.pwrReset key go) s = .next t ∧
    if go = true ∧ key = 0xB0B0 ∧ s.maintenance = true then
      t.get F.PWR_RESET_CAUSE_CAUSE = 2 ∧ t.get F.PWR_STAT_STAGE = 0 ∧ t.lit = [] ∧
        (∀ a, 0x10000000000 ≤ a → t.readByte a = s.readByte a)
    else t = s) ∧
  (∀ s : State, s.canonical = true → ∃ t, exec .pcieReset s = .next t ∧ t.posted = [] ∧ t.heldLo = [] ∧
    t.pcie.perst = true ∧ t.pcie.ready = false ∧
    t.get F.PWR_RESET_CAUSE_PERST = satAdd F.PWR_RESET_CAUSE_PERST.width (s.get F.PWR_RESET_CAUSE_PERST) 1) ∧
  (∀ s : State, ∃ t, exec .pcieControllerReady s = .next t ∧ t.pcie.perst = false ∧ t.pcie.ready = true ∧
    t = { s with pcie := t.pcie })

/-- Start-up (R391–R393, R117, Table FLT-6). Each stage's command acts at its own stage and leads to the next: from stage 0
to 1 with the time unit counting from zero, from 1 or 2 to 3, from 3 to 4, from 4 to 5 with the image being checked unless
FATAL holds; at stage 5 the active bank's image, or the other bank's where the active one fails a check, makes the device
READY, and with neither it stays in NO_IMAGE with BOOT_FAIL.

Start-up commands wait for their stage (R392): at any other stage they change nothing.

Rests on choices of the model: log entries 21, 23. -/
def Obligations.StartUpCommands : Prop :=
  (∀ s : State, s.canonical = true →
    (s.get F.PWR_STAT_STAGE = 0 → ∃ t, exec .internalResetEnd s = .next t ∧ t.get F.PWR_STAT_STAGE = 1 ∧
      t.time.sec = 0 ∧ t.time.ns = 0 ∧ t.time.running = true ∧ t.otp.loaded = true) ∧
    (∀ badHubs links, s.get F.PWR_STAT_STAGE = 1 ∨ s.get F.PWR_STAT_STAGE = 2 →
      ∃ t, exec (.hubSelfTest badHubs links) s = .next t ∧ t.get F.PWR_STAT_STAGE = 3 ∧
        (1 ∈ badHubs → t.fatal = true)) ∧
    (∀ badBase badStacks badLines badBlocks, s.get F.PWR_STAT_STAGE = 3 →
      ∃ t, exec (.memorySelfTest badBase badStacks badLines badBlocks) s = .next t ∧ t.get F.PWR_STAT_STAGE = 4 ∧
        ((∃ k ∈ badBase, k < 4) → t.fatal = true)) ∧
    (s.get F.PWR_STAT_STAGE = 4 → ∃ t, exec .journalRestore s = .next t ∧ t.get F.PWR_STAT_STAGE = 5 ∧
      (s.fatal = false → t.get F.IMG_STAT_STATE = 2)) ∧
    (s.get F.PWR_STAT_STAGE = 5 → s.get F.IMG_STAT_STATE = 2 → s.img.first = false → s.img.checking = none →
      s.fatal = false → s.flt.armed = [] → ∃ t, exec .baseImageVerify s = .next t ∧
        if s.bankReject (s.get F.PST_STAT_ACTIVE) = none then t.get F.PWR_STAT_STAGE = 6
        else t.get F.PWR_STAT_STAGE = 6 ∨
          t.get F.PWR_STAT_STAGE = 5 ∧ t.get F.IMG_STAT_STATE = 0 ∧ t.newest = some (0x56, .uc, 0xC0000018))) ∧
  (∀ s : State,
    (s.get F.PWR_STAT_STAGE ≠ 0 → exec .internalResetEnd s = .next s) ∧
    (∀ badHubs links, s.get F.PWR_STAT_STAGE ≠ 1 → s.get F.PWR_STAT_STAGE ≠ 2 →
      exec (.hubSelfTest badHubs links) s = .next s) ∧
    (∀ badBase badStacks badLines badBlocks, s.get F.PWR_STAT_STAGE ≠ 3 →
      exec (.memorySelfTest badBase badStacks badLines badBlocks) s = .next s) ∧
    (s.get F.PWR_STAT_STAGE ≠ 4 → exec .journalRestore s = .next s) ∧
    (s.get F.PWR_STAT_STAGE ≠ 5 → exec .baseImageVerify s = .next s))

/-- The commands that bring the device up complete (R388, R391–R393, R419), each in every state of its stage: PERST_N high and the
controller ready; the end of the internal reset, with OTP loaded, the reference clock and the identity key ready and the
first heartbeat lease running; the hub test, which marks no link failed that it found covered; the memory test, which shows
the stacks that passed; and the journal, which is marked empty where no snapshot is valid, and which sets the device's next
SEQ where one is. -/
def Obligations.BringUpCommandsComplete : Prop :=
  (∀ s : State, exec .pcieControllerReady s = .next { s with pcie := { s.pcie with perst := false, ready := true } }) ∧
  ∀ s : State, s.canonical = true →
    (s.get F.PWR_STAT_STAGE = 0 → ∃ t, exec .internalResetEnd s = .next t ∧ t.get F.PWR_STAT_STAGE = 1 ∧
      t.get F.TIM_STAT_REFCLK_OK = 1 ∧ t.get F.ATT_STAT_ID_READY = 1 ∧ t.gen.idSeed = s.identitySeeds ∧
      t.get F.MBR_HB_LEFT_MS = 1000 * s.get F.MBR_HB_CFG_HB_S % 2 ^ F.MBR_HB_LEFT_MS.width) ∧
    (∀ links : List LinkTest, s.get F.PWR_STAT_STAGE = 1 ∨ s.get F.PWR_STAT_STAGE = 2 → s.flt.armed = [] →
      (∀ x ∈ links, x.covered = true) → ∃ t, exec (.hubSelfTest [] links) s = .next t ∧
        t.get F.PWR_STAT_STAGE = 3 ∧ t.links.failed = s.links.failed ∧ t.flt = s.flt) ∧
    (∀ badStacks : List Nat, s.get F.PWR_STAT_STAGE = 3 → s.flt.armed = [] →
      ∃ t, exec (.memorySelfTest [] badStacks [] []) s = .next t ∧ t.get F.PWR_STAT_STAGE = 4 ∧
        ∀ k < 12, bit (t.get F.MEM_STAT_STACK_OK) k = !badStacks.contains k) ∧
    (s.get F.PWR_STAT_STAGE = 4 → ∃ t, exec .journalRestore s = .next t ∧ t.get F.PWR_STAT_STAGE = 5 ∧
      match s.newestSnapshot with
      | some (b, x) => t.boot.current = b ∧ t.boot.nextSeq = x.seq + 1 ∧ t.get F.MBR_EPOCH_EPOCH = x.mbrEpoch % 2 ^ 32 ∧
          t.get F.PST_STAT_ACTIVE = x.activeBank % 2
      | none => t.get F.PST_STAT_JRN_EMPTY = 1 ∧ t.boot.nextSeq = 0)

/-- Supplies of the compute dies (R383–R385, R398). A reading below 0.56 V is shown, holds admission and raises DIP; recovery
of every monitor starts the 1 ms after which the hold ends, and records a dip that never crossed the floor; a reading
below the floor or below 0.50 V is FATAL, and the latter resets the dies; the over-voltage warning is raised once;
PWR_MIN_CLR returns the extremes to their reset values.

Rests on choices of the model: log entries 18, 60. -/
def Obligations.ComputeSupplyCommands : Prop :=
  ∀ s : State, s.canonical = true →
    (∀ m mv, ∃ t, exec (.vqBelowWarning m mv) s = .next t ∧ t.get (F.PWR_VQ_NOW_MV.ix m) = mv % 65536 ∧
      t.get F.PWR_STAT_DIP = 1 ∧ t.get F.SEQ_STAT_ADMIT_HOLD = 1 ∧ t.pwr.vqBelow = s.pwr.vqBelow.add m) ∧
    (∀ readings, s.pwr.vqBelow ≠ [] → s.flt.armed = [] → ∃ t, exec (.vqRecovery readings) s = .next t ∧
      t.pwr.vqBelow = [] ∧ t.pwr.vqTimer = true ∧
      (s.pwr.dipFloor = false → t.newest = some (0xF2, .ce, 0xC0000040 + s.pwr.dipDie) ∧
        t.get F.PWR_DIP_CNT_DIPS = satAdd F.PWR_DIP_CNT_DIPS.width (s.get F.PWR_DIP_CNT_DIPS) 1) ∧
      (s.pwr.dipFloor = true → t.flt = s.flt)) ∧
    (s.pwr.vqTimer = true → ∃ t, exec .admitHoldRelease s = .next t ∧ t.get F.PWR_STAT_DIP = 0 ∧
      t.pwr.vqTimer = false) ∧
    (∀ m mv, s.pwr.vqBelow = [] ∨ s.pwr.dipFloor = false → ∃ t, exec (.vqFloor m mv) s = .next t ∧
      t.fatal = true ∧ t.newest = some (0xF3, .fa, 0xC0000040 + m) ∧ t.pwr.dipFloor = true) ∧
    (∀ m mv, ∃ t, exec (.vqPor m mv) s = .next t ∧ t.fatal = true ∧ t.newest = some (0xF4, .fa, 0xC0000040 + m) ∧
      t.qrn = State.reset.qrn ∧ (∀ a, a < 0x40000000 → Tab.find t.mem a = none)) ∧
    (∀ m mv, s.flt.armed = [] → ∃ t, exec (.vqOvervoltageWarn m mv) s = .next t ∧ t.get (F.PWR_VQ_NOW_MV.ix m) = mv % 65536 ∧
      if s.pwr.vqOver.has m = true then t.flt = s.flt
      else t.pwr.vqOver.has m = true ∧ t.newest = some (0xF6, .ce, 0xC0000040 + m)) ∧
    (∀ m, exec (.vqOvervoltageClear m) s = .next { s with pwr := { s.pwr with vqOver := s.pwr.vqOver.del m } }) ∧
    (s.takesWrite 24 = true → ∃ t, exec .pwrMinClr s = .next t ∧ t.get F.PWR_DIP_CNT_DIPS = 0 ∧
      t.get F.PWR_DIP_CNT_HOT = 0 ∧ (∀ m < 4, t.get (F.PWR_VQ_MIN_MV.ix m) = 0xFFFF) ∧
      (∀ r < 8, t.get (F.PWR_RAIL_MIN_MV.ix r) = 0xFFFF) ∧ (∀ u < 24, t.get (F.PWR_TEMP_MAX.ix u) = 0x8000))

/-- Other rails and temperatures (R381, R382, R386, Table FLT-4, Table FLT-5). A warning level crossed is recorded once, and a
rail whose warning stands makes no second record; a fault of VH at a hub is a power cycle, of VD core or VD interface
FATAL, of VPX or the PCIe monitor of VH the loss of the PCIe link; recovery takes the monitor's marks away; a temperature
sample shows every reading, the lasers of a laser die below 10 °C are dark (R432), a core sensor that reaches its trip level
is FATAL, and a sample that reaches no level and clears none changes nothing of the fault collector. A fault of VIO fails
the boot store operation in progress, which starts again up to 3 times (R44).

Rests on choices of the model: log entries 18, 59. -/
def Obligations.RailAndTemperatureCommands : Prop :=
  ∀ s : State, s.canonical = true →
    (∀ r m mv, s.flt.armed = [] → ∃ t, exec (.railWarn r m mv) s = .next t ∧
      t.get (F.PWR_RAIL_NOW_MV.ix r) = mv % 65536 ∧
      if s.pwr.railWarned.has (16 * r + m) = true then t.flt = s.flt
      else t.pwr.railWarned.has (16 * r + m) = true ∧ t.newest = some (0xF6, .ce, 0xC0000000 + railUnit r m)) ∧
    (∀ m mv, m < 2 → ∃ t, exec (.rail 0 m mv) s = .next t ∧ t.regs = State.reset.regs ∧ t.lit = []) ∧
    (∀ r m mv, r = 1 ∨ r = 2 → s.pwr.railBad.has (16 * r + m) = false → ∃ t, exec (.rail r m mv) s = .next t ∧
      t.fatal = true ∧ t.newest = some (0xF5, .fa, 0xC0000000 + m) ∧ t.pwr.railBad.has (16 * r + m) = true) ∧
    (∀ m mv, s.pwr.railBad.has (16 * 6 + m) = false → ∃ t, exec (.rail 6 m mv) s = .next t ∧ t.fatal = s.fatal ∧
      (s.boot.op = none → t.newest = some (0xF5, .uc, 0xC0000061)) ∧
      (∀ op, s.boot.op = some op →
        if s.boot.opTries < 3 then
          t.newest = some (0xF5, .uc, 0xC0000061) ∧ t.boot.op = some op ∧ t.boot.opTries = s.boot.opTries + 1
        else t.newest = some (0xFC, .uc, 0xC0000061) ∧ t.boot.op = none ∧ t.get F.PST_STAT_BUSY = 0)) ∧
    (∀ m mv, s.pwr.railBad.has (16 * 7 + m) = false → ∃ t, exec (.rail 7 m mv) s = .next t ∧
      t.pcie.ready = false ∧ t.newest = some (0xF5, .uc, 0xC0000060)) ∧
    (∀ r m mv, s.flt.armed = [] → ∃ t, exec (.railRecovery r m mv) s = .next t ∧
      t.pwr.railWarned = s.pwr.railWarned.del (16 * r + m) ∧ t.pwr.railBad = s.pwr.railBad.del (16 * r + m)) ∧
    (∀ readings, ∃ t, exec (.temperatureSample readings) s = .next t ∧
      (∀ u v, u < 24 → readings[u]? = some v → t.get (F.PWR_TEMP_NOW.ix u) = unsigned 16 v) ∧
      (∀ d v, d < 2 → readings[22 + d]? = some v → -32768 < v → v < 100 →
        ∀ n, t.lit.has n = true → n / 108 ≠ d) ∧
      (∀ u v, u < 18 → readings[u]? = some v → thermLevel u 2 ≤ v → s.pwr.thermTrip.has u = false → t.fatal = true) ∧
      (s.flt.armed = [] → s.flag F.PWR_STAT_HOT = false → s.pwr.thermWarn = [] → s.pwr.thermHot = [] →
        s.pwr.thermTrip = [] →
        (∀ u v, readings[u]? = some v → v < thermLevel u 0) → t.flt.ring = s.flt.ring ∧ t.fatal = s.fatal))

/-- ERR_N, fault injection, counters, bus accesses and die-to-die links (R370, R372, R373, R379, R32, R7). The 20 µs end and
RELEASE let ERR_N rise as R379 says; FLT_FORCE arms a source that cannot be FA in any mode; FLT_FORCE_CLR disarms all;
FLT_CNT_CLR clears counts and first records; a bad BAR access is answered with zero, counted and recorded, and a read of a word of the fault records is answered with
that word; a replay is recorded, and after 8
failed replays the link fails.

Rests on choices of the model: log entries 18, 59. -/
def Obligations.FaultRegisterCommands : Prop :=
  ∀ s : State, s.canonical = true →
    (s.flt.errnMin = true → ∃ t, exec .errNMinLowEnd s = .next t ∧ t.flt.errnMin = false ∧
      if s.flt.errnRelease = true ∨ s.flag F.FLT_ERRN_CTL_ERRN_HOLD = false ∧ s.fatal = false then
        t.get F.FLT_STAT_ERRN_LOW = 0
      else t.get F.FLT_STAT_ERRN_LOW = s.get F.FLT_STAT_ERRN_LOW) ∧
    (s.takesWrite 23 true = true → s.flag F.FLT_STAT_ERRN_LOW = true → ∃ t, exec .errnRelease s = .next t ∧
      if s.flt.errnMin = true then t.flt.errnRelease = true else t.get F.FLT_STAT_ERRN_LOW = 0) ∧
    (∀ word mask b, s.takesWrite 23 = true → word < 8 → b < 32 → bit mask b = true →
      ∃ t, exec (.fltForce word mask) s = .next t ∧
        t.flt.armed.has (32 * word + b) =
          (s.flt.armed.has (32 * word + b) || s.maintenance || !canBeFatal (32 * word + b))) ∧
    (s.takesWrite 23 = true → ∃ t, exec .fltForceClr s = .next t ∧ t.flt.armed = [] ∧
      ∀ w < 8, t.get (F.FLT_FORCE_ARMED_ARMED.ix w) = 0) ∧
    (s.takesWrite 23 true = true → ∃ t, exec .fltCntClr s = .next t ∧ t.flt.first = [] ∧ t.flt.levelFirst = [] ∧
      t.get F.FLT_BAR_CNT_COUNT = 0 ∧ t.get F.FLT_STAT_JRN_DROP = 0 ∧
      ∀ v < 4, t.get (F.FLT_LVL_CNT_CE.ix v) = 0 ∧ t.get (F.FLT_LVL_CNT_UC.ix v) = 0) ∧
    (∀ addr, addr % 4 = 0 → s.flt.armed = [] → ∃ t, exec (.barAccess addr 4) s = .next t ∧ t.flt = s.flt ∧
      t.out = match s.fltWord addr with
        | some v => .completion v :: s.out
        | none => s.out) ∧
    (∀ addr size, size ≠ 4 ∨ addr % 4 ≠ 0 → ∃ t, exec (.barAccess addr size) s = .next t ∧
      t.out.head? = some (.completion 0) ∧ t.newest = some (0xFA, .ce, 0xC0000018) ∧
      t.get F.FLT_BAR_CNT_COUNT = satAdd F.FLT_BAR_CNT_COUNT.width (s.get F.FLT_BAR_CNT_COUNT) 1) ∧
    (∀ link again, s.links.failed.has link = false → s.flt.armed = [] →
      ∃ t, exec (.linkReplay link again) s = .next t ∧
        if again = true ∧ 8 ≤ Tab.get 0 s.links.replays link then t.links.failed.has link = true
        else t.newest = some (0xF0, .ce, 0xC0000000 + link) ∧ t.links.failed = s.links.failed)

/-- Self-tests while the device runs (R394–R396). A region's test waits for its drain and a stack's for quiet; both are
refused where R395 and R396 say so; the hub test is always refused; the deadline refuses a test that has not begun; the
results are shown when the test is done.

Rests on choices of the model: log entries 2, 70. -/
def Obligations.SelfTestCommands : Prop :=
  ∀ s : State, s.canonical = true →
    (∀ r, s.takesWrite 23 = true → s.flag F.FLT_ST_STAT_BUSY = false → ∃ t, exec (.regionSelfTest r) s = .next t ∧
      if s.regionState r = 4 ∨ s.applying = true then t.get F.FLT_ST_STAT_REFUSED = 1
      else t.flt.test = some ⟨1, r, false⟩ ∧ t.get F.FLT_ST_STAT_BUSY = 1) ∧
    (∀ st destroy, s.takesWrite 23 = true → s.flag F.FLT_ST_STAT_BUSY = false →
      ∃ t, exec (.dramStackTest st destroy) s = .next t ∧
        if s.maintenance = true ∧ s.get F.UPD_STEP_STAT_STATE = 0 ∧ destroy = true then
          t.flt.test = some ⟨2, st, false⟩ ∧ t.get F.FLT_ST_STAT_BUSY = 1
        else t.get F.FLT_ST_STAT_REFUSED = 1 ∧ t.flt.test = s.flt.test) ∧
    (∀ st, s.flt.test = some ⟨2, st, false⟩ → ∃ t, exec .selfTestStart s = .next t ∧
      t.flt.test = some ⟨2, st, true⟩) ∧
    (∀ r, s.flt.test = some ⟨1, r, false⟩ → (s.drains r).head? = some .test → s.regionState r = 3 →
      ∃ t, exec .selfTestStart s = .next t ∧ t.flt.test = some ⟨1, r, true⟩) ∧
    (∀ k r, s.flt.test = some ⟨k, r, false⟩ → ∃ t, exec .selfTestDrainDeadline s = .next t ∧ t.flt.test = none ∧
      t.get F.FLT_ST_STAT_BUSY = 0 ∧ t.get F.FLT_ST_STAT_REFUSED = 1) ∧
    (∀ r failed, s.flt.test = some ⟨1, r, true⟩ → ∃ t, exec (.regionSelfTestDone failed) s = .next t ∧
      t.flt.test = none ∧ t.get F.FLT_ST_STAT_BUSY = 0 ∧
      (s.flt.armed = [] → t.get F.FLT_ST_STAT_BLOCKS = failed % 65536 ∧
        t.get F.FLT_ST_STAT_FAILED = if failed % 65536 = 0 then 0 else 1)) ∧
    (∀ st failed, s.flt.test = some ⟨2, st, true⟩ → ∃ t, exec (.dramStackTestDone failed) s = .next t ∧
      t.flt.test = none ∧ t.get F.FLT_ST_STAT_BUSY = 0 ∧ t.stackPoison = s.stackPoison.add st ∧
      (failed = true → t.get F.FLT_ST_STAT_FAILED = 1 ∧ t.newest = some (0xFB, .uc, 0xC0000000 + st)))

/-- The hub test (R394). It runs only at start-up: its command does nothing at any other stage. A request for it is refused,
and whatever the state of the device it starts no test. -/
def Obligations.HubTestRequestIsRefused : Prop :=
  (∀ (s : State) badHubs links, s.get F.PWR_STAT_STAGE ≠ 1 → s.get F.PWR_STAT_STAGE ≠ 2 →
    exec (.hubSelfTest badHubs links) s = .next s) ∧
  (∀ s : State, ∃ t, exec .hubTestRequest s = .next t ∧ t.flt.test = s.flt.test) ∧
  (∀ s : State, s.canonical = true → s.takesWrite 23 = true → ∃ t, exec .hubTestRequest s = .next t ∧
    t.get F.FLT_ST_STAT_REFUSED = 1 ∧ t.get F.FLT_ST_STAT_BUSY = s.get F.FLT_ST_STAT_BUSY)

/-- The cause of the last reset (R389). PWR_RESET_CAUSE reads 0 after a power cycle, 1 after RST_N and 2 after PWR_RESET; a
PCIe reset leaves it, and is counted in PERST. -/
def Obligations.ResetCauseIsReported : Prop :=
  (∀ s : State, ∃ t, exec .powerCycle s = .next t ∧ t.get F.PWR_RESET_CAUSE_CAUSE = 0) ∧
  (∀ s : State, ∃ t, exec .deviceReset s = .next t ∧ t.get F.PWR_RESET_CAUSE_CAUSE = 1) ∧
  (∀ s : State, s.takesWrite 24 = true → s.maintenance = true → ∃ t, exec (.pwrReset 0xB0B0 true) s = .next t ∧
    t.get F.PWR_RESET_CAUSE_CAUSE = 2) ∧
  (∀ s : State, s.canonical = true → ∃ t, exec .pcieReset s = .next t ∧
    t.get F.PWR_RESET_CAUSE_CAUSE = s.get F.PWR_RESET_CAUSE_CAUSE ∧
    t.get F.PWR_RESET_CAUSE_PERST = satAdd F.PWR_RESET_CAUSE_PERST.width (s.get F.PWR_RESET_CAUSE_PERST) 1)

/-- Tiles (R51–R53, R64, R70, R75, R127). A TILE at the head of its queue takes an array, and tile 0 starts on it, or its first
subtile on the first free 64 × 64 array of a divided one, with its preload taken in; an attempt without a failed check ends
the tile, whose output rows then wait in the accumulators; a failed first attempt leads to a second; an attempt that has
read a poisoned word gives a poisoned output; the drain stores the oldest output at its place in region SRAM, and counts
the tile.

Rests on choices of the model: log entries 39, 70. -/
def Obligations.TileCommands : Prop :=
  (∀ (s : State) region errors e rest a x, s.head (.tile region) = .ready e rest → headerOk (.tile region) e = true →
    e.typ = 1 → s.tileOk region e = true → s.pickArray region e = some a → s.flt.armed = [] → s.flight e.sid = none →
    Tab.find s.qrn.work e.sid = none → s.arrayBlocks region a ≠ [] →
    (s.units region a (s.divided region a)).find? (s.unitFree region a) = some x →
    ∃ t run, exec (.tile region errors) s = .next t ∧ Tab.find t.qrn.runs (runKey region x) = some run ∧
      run.sid = e.sid ∧ run.tile = 0 ∧ run.attempt = 1 ∧
      run.part = (if s.divided region a = true then some (0, 0) else none) ∧
      run.pre = s.preRows e (partPlace region e 0 run.part)) ∧
  (∀ (s : State) region array fails run f, Tab.find s.qrn.runs (runKey region array) = some run →
    s.flight run.sid = some f → run.poison = false → run.attempt = 1 → run.forced = [] → s.qrn.due = [] →
    s.flt.armed = [] → s.poisonedAny (tileReads f.entry (partPlace region f.entry run.tile run.part)) = false →
    ∃ t, exec (.tileAttemptEnd region array fails) s = .next t ∧
      if fails = [] then t.outsOf region array = s.outsOf region array ++ [⟨run.sid, run.tile, false,
        s.tileRows f.entry (partPlace region f.entry run.tile run.part) run.pre⟩]
      else Tab.find t.qrn.runs (runKey region array) = some { run with attempt := 2, fails := fails }) ∧
  (∀ (s : State) region array fails run f, Tab.find s.qrn.runs (runKey region array) = some run →
    s.flight run.sid = some f → run.poison = true → run.forced = [] → s.qrn.due = [] → s.flt.armed = [] →
    ∃ t, exec (.tileAttemptEnd region array fails) s = .next t ∧
      t.outsOf region array = s.outsOf region array ++ [⟨run.sid, run.tile, true,
        poisonRows f.entry (partPlace region f.entry run.tile run.part)⟩]) ∧
  (∀ (s : State) region array errors o rest f, s.canonical = true → s.outsOf region array = o :: rest →
    s.flight o.sid = some f → s.col.colls = [] → s.flt.armed = [] → ∃ t, exec (.tileDrain region array errors) s = .next t ∧
      t.get64 (F.QRN_TILES_LO_TILES.reg region) (F.QRN_TILES_HI_TILES.reg region) =
        (s.get64 (F.QRN_TILES_LO_TILES.reg region) (F.QRN_TILES_HI_TILES.reg region) + 1) % 2 ^ 64 ∧
      t.outsOf region array = rest ∧
      (o.poison = false → o.rows.Pairwise (fun x y => x.1 + x.2.length ≤ y.1) →
        ∀ x ∈ o.rows, t.readBytes x.1 x.2.length = x.2) ∧
      (o.poison = true → ∀ x ∈ o.rows, x.2 ≠ [] → t.anyPoison x.1 x.2.length = true))

/-- Blocks, regions and router (R34, R41, R42, R71, R74, R78, R81, R134). A window of Tempo shows each region's rate;
blocks written to QRN_BLK_RETIRE are retired, and only those; a retired block that has passed a test returns to service
in MAINTENANCE mode; a spare that fails its check tile is retired; scoreboard parity stops a region, and a restart takes
it out of STOPPED; a resent flit is counted and recorded; QRN_CNT_CLR clears the region's counters.

Rests on choices of the model: log entries 39, 67. -/
def Obligations.QuernRegionCommands : Prop :=
  ∀ s : State, s.canonical = true →
    (∀ (reports : List TempoReport) r (x : TempoReport), s.time.running = true → r < 64 → reports[r]? = some x →
      ∃ t, exec (.tempoWindow reports) s = .next t ∧
        t.get (F.QRN_TEMPO_RATE_RATE_MTS.reg r) = min 65535 (x.completions / 10) ∧
        t.get (F.QRN_TEMPO_RATE_BUSY.reg r) = min 255 x.busy) ∧
    (∀ r mask, s.takesWrite (4 + r / 16) = true → s.qrn.runs = [] → s.qrn.due = [] →
      ∃ t, exec (.swRetire r mask) s = .next t ∧
        ∀ b < 16, t.qrn.retired.has (16 * r + b) = (s.qrn.retired.has (16 * r + b) || bit mask b)) ∧
    (∀ r mask, s.takesWrite (4 + r / 16) = true → ∃ t, exec (.qrnBlkRestore r mask) s = .next t ∧
      if s.maintenance = true then
        ∀ b < 16, t.qrn.retired.has (16 * r + b) =
          (s.qrn.retired.has (16 * r + b) && !(bit mask b && s.qrn.tested.has (16 * r + b)))
      else t = s) ∧
    (∀ r passed, s.get (F.QRN_BLK_MAP_SPARE_VALID.reg r) = 1 → s.get (F.QRN_RETIRE_CFG_SPARE_CHECK.ix (r / 16)) = 1 →
      s.flt.armed = [] → ∃ t, exec (.spareCheck r passed) s = .next t ∧
        if passed = true then t = s
        else t.qrn.retired.has (16 * r + s.get (F.QRN_BLK_MAP_SPARE_PHYS.reg r)) = true) ∧
    (∀ r, s.regionState r ≠ 4 → s.regionState r ≠ 5 → s.qrn.due = [] → ∃ t, exec (.scbPar r) s = .next t ∧
      (s.flag F.SEQ_CFG_AUTO_RESTART = false → t.regionState r = 4 ∧
        (s.excluded r = true → s.drains r = [] → (∀ f ∈ s.sched.flights, f.queue ≠ .spin r) →
          t.newest = some (0x24, .uc, locRegion r))) ∧
      (s.flag F.SEQ_CFG_AUTO_RESTART = true → s.fatal = false → t.regionState r = if s.drains r = [] then 0 else 2)) ∧
    (∀ r, s.takesWrite 3 = true → s.regionState r = 4 → ∃ t, exec (.seqRestart r) s = .next t ∧
      t.regionState r = (if s.drains r = [] then 0 else 2) ∧ t.newest = some (0x53, .ce, locRegion r)) ∧
    (∀ q r sid second, qRegion q = some r → s.flt.armed = [] → ∃ t, exec (.flitResent q sid second) s = .next t ∧
      t.get (F.QRN_CNT_B_FLIT.reg r) = satAdd F.QRN_CNT_B_FLIT.width (s.get (F.QRN_CNT_B_FLIT.reg r)) 1 ∧
      t.newest = some (if second then (0x23, .uc, locRegion r) else (0x22, .ce, locRegion r))) ∧
    (∀ r, s.takesWrite (4 + r / 16) = true → ∃ t, exec (.qrnCntClr r) s = .next t ∧
      t.get (F.QRN_CNT_A_RETRY.reg r) = 0 ∧ t.get (F.QRN_CNT_A_SRAM_CE.reg r) = 0 ∧
      t.get (F.QRN_CNT_B_SRAM_UC.reg r) = 0 ∧ t.get (F.QRN_CNT_B_FLIT.reg r) = 0 ∧ t.get (F.QRN_CNT_C_NAN.reg r) = 0 ∧
      t.get (F.QRN_CNT_C_INF.reg r) = 0 ∧ t.get (F.QRN_FE_SRC_SOURCE.reg r) = 0)

/-- Moves (R65, R128, Table QRN-7). A MOVE at the head of its queue moves its bytes: a linear move copies LEN bytes, a
two-dimensional one copies each row at its pitches, a transpose puts element (i, j) at (j, i), and a zero fill writes
zeros; QRN_FILL counts the bytes written to region SRAM. The ranges are those that reach a store outside the compressed
windows, the destination does not meet the source, and no matrix of the step is non-finite (R86 keeps what such a matrix
holds).

Rests on a choice of the model: log entry 40. -/
def Obligations.MoveCommands : Prop :=
  ∀ (s : State) region errors e rest, s.canonical = true → s.head (.move region) = .ready e rest →
    headerOk (.move region) e = true → moveOk region e = true → (s.pickEngine region e).isSome = true →
    s.flt.armed = [] → s.step.nonfinite = [] →
    (∀ x ∈ e.moveRanges false, s.windowBlocks x.1 x.2 = [] ∧ ∀ i < x.2, s.plain (x.1 + i) = true) →
    (e.moveOp ≠ 3 → ∀ x ∈ e.moveRanges true, ∀ i < x.2, s.windowOf (x.1 + i) = none ∧
      ∀ y ∈ e.moveRanges false, ¬(y.1 ≤ x.1 + i ∧ x.1 + i < y.1 + y.2)) →
    (e.moveOp = 0 → ∃ t, exec (.moveLinear region errors) s = .next t ∧
      (∀ i < e.moveLen, t.readByte (e.dst + i) = s.readByte (e.src + i)) ∧
      t.get64 (F.QRN_FILL_LO_BYTES.reg region) (F.QRN_FILL_HI_BYTES.reg region) =
        (s.get64 (F.QRN_FILL_LO_BYTES.reg region) (F.QRN_FILL_HI_BYTES.reg region) +
          sramBytes (e.moveRanges false)) % 2 ^ 64) ∧
    (e.moveOp = 1 → e.moveLen ≤ e.dstPitch → ∃ t, exec (.moveTwoDimensional region errors) s = .next t ∧
      ∀ k < e.moveRows, ∀ i < e.moveLen,
        t.readByte (e.dst + k * e.dstPitch + i) = s.readByte (e.src + k * e.srcPitch + i)) ∧
    (e.moveOp = 2 → 64 * e.moveElem ≤ e.dstPitch → ∃ t, exec (.moveTranspose region errors) s = .next t ∧
      ∀ i < 64, ∀ j < 64, ∀ b < e.moveElem,
        t.readByte (e.dst + j * e.dstPitch + i * e.moveElem + b) =
          s.readByte (e.src + i * e.srcPitch + j * e.moveElem + b)) ∧
    (e.moveOp = 3 → ∃ t, exec (.moveZeroFill region) s = .next t ∧
      ∀ i < e.moveLen, t.readByte (e.dst + i) = 0#8)

/-- Spindle's elementwise operations (R94–R96, R99, R129, Table UPD-8): what stands at D0 when the descriptor has issued, in
D0's format, from the vectors at its sources and its scalars; SPIN_NOP writes nothing; a code that the table does not
list fails with SPN_OPCODE; a batch that fails its check and its rerun fails with a UC fault, one that only fails its
check is CE.

Rests on a choice of the model: log entry 41. -/
def Obligations.SpindleElementwiseCommands : Prop :=
  (∀ (s : State) r e, s.spinReady r 0x00 e → ∃ t, exec (.spinNop r) s = .next t ∧ t.mem = s.mem ∧ t.red = s.red) ∧
  (∀ (s : State) r e, s.spinReady r 0x01 e → ∃ t, exec (.mov r) s = .next t ∧
    t.spinD0 r e = floats e.d0Bf16 (s.operand r e 0)) ∧
  (∀ (s : State) r e, s.spinReady r 0x02 e → ∃ t, exec (.scl r) s = .next t ∧
    t.spinD0 r e = floats e.d0Bf16 ((s.operand r e 0).map fun x => mul32 (s.scalar e 0) x)) ∧
  (∀ (s : State) r e, s.spinReady r 0x03 e → ∃ t, exec (.fma r) s = .next t ∧ t.spinD0 r e =
    floats e.d0Bf16 (((s.operand r e 0).zip (s.operand r e 1)).map fun x => fma32 (s.scalar e 0) x.1 x.2)) ∧
  (∀ (s : State) r e, s.spinReady r 0x04 e → ∃ t, exec (.add r) s = .next t ∧ t.spinD0 r e =
    floats e.d0Bf16 (((s.operand r e 0).zip (s.operand r e 1)).map fun x => add32 x.1 x.2)) ∧
  (∀ (s : State) r e, s.spinReady r 0x05 e → ∃ t, exec (.mul r) s = .next t ∧ t.spinD0 r e =
    floats e.d0Bf16 (((s.operand r e 0).zip (s.operand r e 1)).map fun x => mul32 x.1 x.2)) ∧
  (∀ (s : State) r e, s.spinReady r 0x06 e → ∃ t, exec (.fil r) s = .next t ∧
    t.spinD0 r e = floats e.d0Bf16 (List.replicate e.nElem (s.scalar e 0))) ∧
  (∀ (s : State) r e, s.spinReady r 0x28 e → ∃ t, exec (.mdlt r) s = .next t ∧ t.spinD0 r e =
    floats e.d0Bf16 (((s.operand r e 0).zip ((s.operand r e 1).zip (s.operand r e 2))).map fun x =>
      fma32 (s.scalar e 0) (add32 x.2.1 (neg32 x.1)) x.2.2)) ∧
  (∀ (s : State) r e rest, s.head (.spin r) = .ready e rest → headerOk (.spin r) e = true → e.opcode ∉ spinCodes →
    s.flt.armed = [] → ∃ t, exec (.spnOpcode r) s = .next t ∧ t.newest = some (0x42, .uc, locRegion r)) ∧
  (∀ (s : State) r failed rerunFailed f, (s.sched.flights.find? fun f => f.queue == .spin r) = some f →
    s.flt.armed = [] → ∃ t, exec (.spinBatch r failed rerunFailed) s = .next t ∧
      if failed = true ∧ rerunFailed = true then
        ∀ g ∈ t.sched.flights, g.entry.sid = f.entry.sid → g.failed = true
      else if failed = true then t.newest = some (0x40, .ce, locRegion r) ∧ t.sched = s.sched
      else t = s)

/-- Spindle's reductions and quantisation (R97, R98, Table UPD-8): SSQ adds the partials of its pieces to the register, AMAX
keeps the largest magnitude, FIN remembers a NaN or an infinity, and no memory is written; QMX4 and QMX8 write quantised
elements and their scales.

Rests on a choice of the model: log entry 41. -/
def Obligations.SpindleReductionAndQuantisationCommands : Prop :=
  (∀ (s : State) r e, s.spinReady r 0x08 e → ∃ t, exec (.ssq r) s = .next t ∧
    t.mem = s.mem ∧ Tab.get [] t.red.ssq (ssqKey e.red r) =
      Tab.get [] s.red.ssq (ssqKey e.red r) ++ pieces (s.operand r e 0)) ∧
  (∀ (s : State) r e, s.spinReady r 0x09 e → ∃ t, exec (.amax r) s = .next t ∧
    t.mem = s.mem ∧ Tab.get 0#32 t.red.amax e.red = rne32 ((s.operand r e 0).foldl
      (fun x v => Num.maxAbs x (f32Val v)) (f32Val (Tab.get 0#32 s.red.amax e.red)))) ∧
  (∀ (s : State) r e, s.spinReady r 0x0A e → ∃ t, exec (.fin r) s = .next t ∧ t.mem = s.mem ∧
    t.red.flags.has e.red = (s.red.flags.has e.red || (s.operand r e 0).any fun v => (f32Val v).bad)) ∧
  (∀ (s : State) r e, s.spinReady r 0x10 e → spinApart r e → ∃ t, exec (.qmx4 r) s = .next t ∧
    t.spinD0 r e = (quantBytes .e2m1 (s.operand r e 0)).1 ∧ t.spinD1 r e = (quantBytes .e2m1 (s.operand r e 0)).2) ∧
  (∀ (s : State) r e, s.spinReady r 0x11 e → spinApart r e → ∃ t, exec (.qmx8 r) s = .next t ∧
    let f : ElemFmt := if s.scalar e 0 = 0#32 then .e4m3 else .e5m2
    t.spinD0 r e = (quantBytes f (s.operand r e 0)).1 ∧ t.spinD1 r e = (quantBytes f (s.operand r e 0)).2)

/-- The outer rules on Spindle (R26, R83, R92, R260, R277). Averaging, momentum, Nesterov momentum and the orthogonalised
Apply write θ and M as R83 says when the partner, the pin and STEP_CTL do not hold Apply, the tensor's matrix is
finite and the step is not abandoned; a matrix that is non-finite, or any in an abandoned step, keeps its θ and M (R86); the
two passes of ODIR and OQX write M1 and X0.

Rests on choices of the model: log entries 38, 41. -/
def Obligations.OuterRuleCommands : Prop :=
  (∀ (s : State) r tensor e, s.spinReady r 0x20 e → s.applyHeld = false → s.ctlMatched = true → leaves tensor s = false →
    ∃ t, exec (.oavg r tensor) s = .next t ∧ t.spinD0 r e = floats e.d0Bf16
      (((s.operand r e 0).zip (s.operand r e 1)).map fun x => fma32 (neg32 (s.scalar e 0)) x.2 x.1)) ∧
  (∀ (s : State) r tensor e, s.spinReady r 0x20 e → s.applyHeld = false → s.ctlMatched = true → leaves tensor s = true →
    ∃ t, exec (.oavg r tensor) s = .next t ∧ t.spinD0 r e = floats e.d0Bf16 (s.operand r e 0)) ∧
  (∀ (s : State) r tensor e, s.spinReady r 0x21 e → spinApart r e → s.applyHeld = false → s.ctlMatched = true →
    leaves tensor s = true → ∃ t, exec (.omom r tensor) s = .next t ∧
      t.spinD0 r e = floats e.d0Bf16 (s.operand r e 0) ∧ t.spinD1 r e = floats e.d1Bf16 (s.operand r e 1)) ∧
  (∀ (s : State) r tensor e, s.spinReady r 0x21 e → spinApart r e → s.applyHeld = false → s.ctlMatched = true →
    leaves tensor s = false → ∃ t, exec (.omom r tensor) s = .next t ∧
      let m1 := ((s.operand r e 1).zip (s.operand r e 2)).map fun x => fma32 (s.scalar e 1) x.1 x.2
      t.spinD1 r e = floats e.d1Bf16 m1 ∧ t.spinD0 r e = floats e.d0Bf16
        (((s.operand r e 0).zip m1).map fun x => fma32 (neg32 (s.scalar e 0)) x.2 x.1)) ∧
  (∀ (s : State) r tensor e, s.spinReady r 0x22 e → spinApart r e → s.applyHeld = false → s.ctlMatched = true →
    leaves tensor s = false → ∃ t, exec (.ones r tensor) s = .next t ∧
      let m1 := ((s.operand r e 1).zip (s.operand r e 2)).map fun x => fma32 (s.scalar e 1) x.1 x.2
      let d := (m1.zip (s.operand r e 2)).map fun x => fma32 (s.scalar e 1) x.1 x.2
      t.spinD1 r e = floats e.d1Bf16 m1 ∧ t.spinD0 r e = floats e.d0Bf16
        (((s.operand r e 0).zip d).map fun x => fma32 (neg32 (s.scalar e 0)) x.2 x.1)) ∧
  (∀ (s : State) r tensor e, s.spinReady r 0x25 e → spinApart r e → s.applyHeld = false → s.ctlMatched = true →
    leaves tensor s = false → (f32Val (s.scalar e 1)).isZero = false → ∃ t, exec (.oapp r tensor) s = .next t ∧
      let u := (s.operand r e 0).map fun x => fma32 (neg32 (s.scalar e 1)) x x
      t.spinD1 r e = floats e.d1Bf16 (s.operand r e 1) ∧ t.spinD0 r e = floats e.d0Bf16
        (((s.operand r e 2).zip u).map fun x => fma32 (neg32 (s.scalar e 0)) x.1 x.2)) ∧
  (∀ (s : State) r e, s.spinReady r 0x23 e → ∃ t, exec (.odir r) s = .next t ∧
    let m1 := ((s.operand r e 0).zip (s.operand r e 1)).map fun x => fma32 (s.scalar e 0) x.1 x.2
    let d := if e.nesterov then (m1.zip (s.operand r e 1)).map fun x => fma32 (s.scalar e 0) x.1 x.2 else m1
    t.spinD0 r e = floats e.d0Bf16 m1 ∧
      Tab.get [] t.red.ssq (ssqKey e.red r) = Tab.get [] s.red.ssq (ssqKey e.red r) ++ pieces d) ∧
  (∀ (s : State) r e, s.spinReady r 0x24 e → e.qfmt = 4 → ∃ t, exec (.oqx r) s = .next t ∧
    let m1 := s.operand r e 0
    let d := if e.nesterov then (m1.zip (s.operand r e 1)).map fun x => fma32 (s.scalar e 0) x.1 x.2 else m1
    t.spinD0 r e = floats true (d.map fun v => mul32 v (s.scalar e 1))) ∧
  (∀ (s : State) r e, s.spinReady r 0x24 e → spinApart r e → e.qfmt ≠ 4 → ∃ t, exec (.oqx r) s = .next t ∧
    let m1 := s.operand r e 0
    let d := if e.nesterov then (m1.zip (s.operand r e 1)).map fun x => fma32 (s.scalar e 0) x.1 x.2 else m1
    let f : ElemFmt := if e.qfmt = 1 then .e2m1 else if e.qfmt = 2 then .e5m2 else .e4m3
    t.spinD0 r e = (quantBytes f (d.map fun v => mul32 v (s.scalar e 1))).1 ∧
      t.spinD1 r e = (quantBytes f (d.map fun v => mul32 v (s.scalar e 1))).2)

/-- NOP, SYNC and SCALAR descriptors (R82, R86, R87, R94, Table IMG-6): at the head of its queue, one issues and is done;
SYNC_SET and SYNC_ADD write and raise the counter; NORM_INV, RECIP and MERGE_W write scalar registers; FIN_VERDICT shows
the flag of its matrix, and a set one makes the matrix non-finite; CLEAR empties its reduction register; an operation
code that SCALAR does not list is DESC_BAD.

STEP descriptors (R23, R24, R86, R102, R278). OPEN latches the tuning values and the step-open time; COMMIT makes the
step's version the committed one under its mask, unless a matrix failed, the step is abandoned, or this side commits
nothing; SCATTER_DONE takes the step to the state between steps, and the commit set is then what R25 says; a spare that has
its state enters the job there, with the version that its source gave (R283).

Rests on choices of the model: log entries 33, 36, 37, 72. -/
def Obligations.SchedulerAndStepCommands : Prop :=
  (∀ (s : State) q e, s.canonical = true → s.readyAt q e →
    (e.typ = 0 → ∃ t, exec (.nop q) s = .next t ∧ t.issuedDone q e false) ∧
    (e.typ = 4 → e.op = 0 → ctrOk q e.syncCtr = true → ∃ t, exec (.syncSet q) s = .next t ∧ t.issuedDone q e false ∧
      t.ctr q e.syncCtr = e.value ∧ t.ctrPoison q e.syncCtr = false) ∧
    (e.typ = 4 → e.op = 1 → ctrOk q e.syncCtr = true → ∃ t, exec (.syncAdd q) s = .next t ∧ t.issuedDone q e false ∧
      t.ctr q e.syncCtr = (s.ctr q e.syncCtr + e.value) % 2 ^ 32) ∧
    (q = .chip → e.typ = 5 → scalarOk e = true →
      (e.op = 1 → ∃ t, exec .normInv s = .next t ∧ t.issuedDone .chip e false ∧
        t.get (F.SEQ_SREG_VALUE.ix e.dst5) = (div32 one32 (add32 (sqrt32 (s.red.ssqValue e.src5))
          (BitVec.ofNat 32 (if e.value = 0 then s.get F.UPD_EPS_VALUE else e.value)))).toNat ∧
        t.get F.UPD_ORTH_NORM_NORM = (sqrt32 (s.red.ssqValue e.src5)).toNat) ∧
      (e.op = 2 → ∃ t, exec .recip s = .next t ∧ t.issuedDone .chip e false ∧
        t.get (F.SEQ_SREG_VALUE.ix e.dst5) = (div32 one32 (BitVec.ofNat 32 e.value)).toNat) ∧
      (e.op = 3 → e.dst5 ≤ 56 → ∃ t, exec .mergeW s = .next t ∧ t.issuedDone .chip e false ∧
        ∀ i < 8, t.get (F.SEQ_SREG_VALUE.ix (e.dst5 + i)) = ((s.mergeWeights[i]?).getD 0#32).toNat) ∧
      (∀ matrix iter product, e.op = 4 → s.flt.armed = [] →
        ∃ t, exec (.finVerdict matrix iter product) s = .next t ∧ t.issuedDone .chip e false ∧
        t.get (F.SEQ_SREG_VALUE.ix e.dst5) = (if s.red.flags.has e.src5 then one32 else 0#32).toNat ∧
        (s.red.flags.has e.src5 = true → t.step.nonfinite.contains matrix = true)) ∧
      (e.op = 5 → ∃ t, exec .clear s = .next t ∧ t.issuedDone .chip e false ∧ t.red.flags.has e.src5 = false ∧
        Tab.get 0#32 t.red.amax e.src5 = 0#32 ∧ ∀ r < 64, Tab.get [] t.red.ssq (ssqKey e.src5 r) = [])) ∧
    (q = .chip → e.typ = 5 → e.op = 0 ∨ 6 ≤ e.op → ∃ t, exec .normInv s = .next t ∧
      t.newest = some (0x51, .uc, locChip 0x18))) ∧
  (∀ (s : State) e, s.canonical = true → s.readyAt .chip e → e.typ = 6 →
    (e.op = 1 → ∃ t, exec .openStep s = .next t ∧ t.issuedDone .chip e false ∧ t.sched.stepOpen = some s.ns64 ∧
      t.step.latched = [F.UPD_ETA_VALUE, F.UPD_ETA_VEC_VALUE, F.UPD_MU_VALUE, F.UPD_WD_VALUE].map fun f =>
        BitVec.ofNat 32 (s.get f)) ∧
    (e.op = 2 → ∃ t, exec .commit s = .next t ∧
      if s.step.abandoned = true ∨ s.step.failed ≠ [] then t.issuedDone .chip e true ∧ t.outerEpoch = s.outerEpoch
      else if s.commitsNothing = true then t.issuedDone .chip e false ∧ t.outerEpoch = s.outerEpoch
      else t.issuedDone .chip e false ∧ t.outerEpoch = (s.outerEpoch + 1) % 2 ^ 64 ∧
        t.get F.UPD_ANCHOR_MASK_MASK = s.mbr.stepMask.getD s.commitMask % 256 ∧ t.get F.UPD_STEP_STAT_STATE = 5 ∧
        t.mbr.tally = 0) ∧
    (e.op = 3 → ∃ t, exec .scatterDone s = .next t ∧
      if s.get F.UPD_STEP_STAT_STATE = 5 then t.get F.UPD_STEP_STAT_APPLIED = 0 ∧
        (s.mbr.admitting = false → t.get F.UPD_STEP_STAT_STATE = s.restState) ∧
        (s.get F.MBR_STAT_STATE = 0 → t.get F.MBR_STAT_COMMIT = s.sites % 256)
      else t.issuedDone .chip e false ∧
        (s.get F.UPD_STEP_STAT_STATE ≠ 8 ∨ s.mbr.admitVersion = none →
          t.get F.UPD_STEP_STAT_STATE = s.get F.UPD_STEP_STAT_STATE) ∧
        ∀ v, s.get F.UPD_STEP_STAT_STATE = 8 → s.mbr.admitVersion = some v → s.mbr.admitting = true → s.flt.armed = [] →
          t.get F.UPD_STEP_STAT_STATE = 0 ∧ t.mbr.admitting = false ∧
          (s.peerVersion = none ∨ s.peerVersion = some v →
            t.outerEpoch = v.1 % 2 ^ 64 ∧ t.get F.UPD_ANCHOR_MASK_MASK = v.2 % 256)))

/-- PHASE, COLL and DISPATCH (R124, R130, R201). PHASE asks every region of its mask that is not excluded, and refuses for
a stopped or retired one; COLL posts its collective; DISPATCH with COUNT 0 sets the regions' base, and one with a list
of one descriptor places it in its region's queue.

Completion and deadlines (R132, R133). A descriptor that is done leaves, counts, and adds SIG_INC to its counter, which
a failed one poisons, and one of the chip queue that ends after its deadline is reported all the same (R327); one found late
is reported once, and cancelled where it or SEQ_CFG asks for it.

Rests on a choice of the model: log entry 34. -/
def Obligations.StructureAndCompletionCommands : Prop :=
  (∀ (s : State) e, s.canonical = true → s.readyAt .chip e →
    (e.typ = 7 → e.at 24 1 ≤ 7 → imgHasPhase s.image (e.at 24 1) = true → s.flt.armed = [] → ∃ t, exec .phase s = .next t ∧
      ∀ r < 64, bit (e.at 32 8) r = true → s.excluded r = false →
        if s.regionState r = 4 ∨ s.regionState r = 5 then t.get (F.SEQ_REG_PHASE_REFUSED.ix r) = 1
        else t.drains r = s.drains r ++ [.phase (e.at 24 1) (some e.sid)] ∧
          t.get (F.SEQ_REG_PHASE_SWITCHING.ix r) = 1) ∧
    (∀ k, e.typ = 8 → e.at 24 2 < imgChains s.image → collFieldsOk e = true →
      s.coll (e.at 26 2) (s.effSeq (e.at 28 4) (imgChain s.image (e.at 24 2) 8 2)) = none →
      s.firstSlot (imgHome s.image (e.at 24 2)) = some k → s.flt.armed = [] → ∃ t, exec .coll s = .next t ∧
        ∃ c ∈ t.col.colls, c.group = e.at 26 2 ∧ c.sid = e.sid ∧
          c.seq = s.effSeq (e.at 28 4) (imgChain s.image (e.at 24 2) 8 2)) ∧
    (e.typ = 9 → dispatchOk s.image e = true → e.count = 0 → ∃ t, exec .dispatch s = .next t ∧
      t.issuedDone .chip e false ∧ (e.at 40 1 % 8 ≠ 0 →
        ∀ i r, ((e.mask 32).filter fun r => !s.excluded r)[i]? = some r →
          Tab.get 0 t.sched.bases (8 * r + e.at 40 1 % 8) =
            (e.at 42 6 + i * e.at 48 6 + (e.reps - 1) * e.at 54 6) % 2 ^ 48)) ∧
    (∀ r raw, e.typ = 9 → dispatchOk s.image e = true → e.count = 1 → e.reps = 1 →
      ((e.mask 32).filter fun r => !s.excluded r) = [r] → imgDesc s.image e.list = some raw → s.cursor r = 0 →
      s.room (queueFor r (beAt raw 0 1)) = true → s.regionState r ≠ 5 → ∃ t, exec .dispatch s = .next t ∧
        t.issuedDone .chip e false ∧ (t.queue (queueFor r (beAt raw 0 1))).map (fun x => x.raw) =
          (s.queue (queueFor r (beAt raw 0 1))).map (fun x => x.raw) ++ [raw])) ∧
  ((∀ (s : State) q sid mark f, s.canonical = true →
    (s.sched.flights.find? fun f => f.queue == q && f.entry.sid == sid) = some f → f.done = true →
    (∀ r, qRegion q = some r → s.regionState r ≠ 5) → ∃ t, exec (.descriptorCompletion q sid mark) s = .next t ∧
      (∀ g ∈ t.sched.flights, g.entry.sid ≠ sid) ∧
      t.get64 F.SEQ_DONE_LO_COUNT F.SEQ_DONE_HI_COUNT =
        (s.get64 F.SEQ_DONE_LO_COUNT F.SEQ_DONE_HI_COUNT + 1) % 2 ^ 64 ∧
      (f.entry.sigEn = true → ctrOk q f.entry.sigCtr = true → t.ctr q f.entry.sigCtr = (s.ctr q f.entry.sigCtr + f.entry.sigInc) % 2 ^ 32 ∧
        t.ctrPoison q f.entry.sigCtr = (f.failed || s.ctrPoison q f.entry.sigCtr)) ∧
      (q = .chip → s.time.running = true → f.entry.late = false → s.pastDeadline f.entry = true →
        t.newest = some (0x50, .uc, locChip 0x18))) ∧
  (∀ (s : State) q sid f, s.canonical = true →
    (s.sched.flights.find? fun f => f.queue == q && f.entry.sid == sid) = some f → s.isLate q f.entry = true →
    f.entry.typ ≠ 7 → f.entry.typ ≠ 8 → ∃ t, exec (.dlMiss q sid) s = .next t ∧
      t.get F.SEQ_CNT_DL_MISS = satAdd F.SEQ_CNT_DL_MISS.width (s.get F.SEQ_CNT_DL_MISS) 1 ∧
      if s.dlCancels f.entry = true then ∀ g ∈ t.sched.flights, g.entry.sid ≠ sid
      else t.newest = some (0x50, .uc, qLoc q)))

/-- Phase switches (R124, R125). A region at its boundary switches to the phase that the first request asks, or is DRAINED
for a self-test; the station's request asks the regions of the mask and is refused at once for those that R125 names; at
its deadline it is refused.

Programs, counters and the replica (R26, R113, R138, R159). SEQ_RUN puts a PROGRAM entry's descriptors into the chip
queue, entry 0 none, and while ADMIT_HOLD is 1 they wait (R135); SEQ_CNT_CLR clears the counts and the first record; a confirmation of the committed version, and of
no other, lets Apply go on, and names to a spare the version whose state it has (R283); a lost replica makes the next stream full.

Rests on choices of the model: log entries 35, 38. -/
def Obligations.PhaseAndProgramCommands : Prop :=
  (∀ (s : State) r, s.canonical = true → r < 64 →
    (∀ rest, s.regionState r = 2 → s.busyRegion r = false → s.fatal = false → s.drains r = .test :: rest →
      ∃ t, exec (.regionDrained r) s = .next t ∧ t.regionState r = 3) ∧
    (∀ n asker rest, s.regionState r = 2 → s.busyRegion r = false → s.fatal = false →
      s.drains r = .phase n asker :: rest → ∃ t, exec (.regionDrained r) s = .next t ∧ t.drains r = rest ∧
        t.get (F.SEQ_REG_PHASE_PHASE.ix r) = n % 16 ∧
        t.get (F.SEQ_REG_PHASE_SWITCHING.ix r) = if rest.filterMap DrainReq.target = [] then 0 else 1) ∧
    (∀ n, s.takesWrite 3 = true → s.flt.armed = [] → ∃ t, exec (.seqPhaseReq n) s = .next t ∧
      (bit (s.get64 F.SEQ_PHASE_MASK_LO_MASK F.SEQ_PHASE_MASK_HI_MASK) r = true →
        if s.refusesPhase r n = true then t.get (F.SEQ_REG_PHASE_REFUSED.ix r) = 1
        else t.drains r = s.drains r ++ [.phase n none] ∧ t.get (F.SEQ_REG_PHASE_SWITCHING.ix r) = 1)) ∧
    (∀ n, s.drains r = [.phase n none] → ∃ t, exec (.phaseRefused r) s = .next t ∧ t.drains r = [] ∧
      t.get (F.SEQ_REG_PHASE_REFUSED.ix r) = 1 ∧ t.newest = some (0x52, .uc, locRegion r) ∧
      (s.regionState r ≠ 4 → s.regionState r ≠ 5 → t.regionState r =
        if (s.sched.flights.any fun f => f.queue == .tile r) = true then 1 else 0))) ∧
  (∀ s : State, s.canonical = true →
    (∀ n, s.takesWrite 3 = true → ∃ t, exec (.seqRun n) s = .next t ∧
      if s.flag F.SEQ_STAT_ADMIT_HOLD = true then t.queue .chip = s.queue .chip ∧
        t.sched.programs = s.sched.programs ++ (if n = 0 ∨ imgEntries s.image ≤ n then [] else [n])
      else (t.queue .chip).map (fun x => x.raw) =
        (s.queue .chip).map (fun x => x.raw) ++ (if n = 0 ∨ imgEntries s.image ≤ n then [] else
          (List.range (imgProgCount s.image n)).filterMap fun k => imgDesc s.image (imgProgList s.image n + k))) ∧
    (s.takesWrite 3 = true → ∃ t, exec .seqCntClr s = .next t ∧ t.get F.SEQ_CNT_DL_MISS = 0 ∧
      t.get F.SEQ_CNT_SKIPPED = 0 ∧ t.get F.SEQ_FE_INFO_SOURCE = 0 ∧ t.get F.SEQ_FE_DESC_DESC_ID = 0 ∧
      t.get F.SEQ_FE_INFO_ITEM = 0) ∧
    (∀ epoch mask, ∃ t, exec (.replicaConfirm epoch mask) s = .next t ∧
      if s.mbr.admitting = true then
        if s.flag F.MBR_ADMIT_FROM_REMOTE = true then t = s
        else t.mbr.admitVersion = some (epoch % 2 ^ 64, mask % 256) ∧ t.regs = s.regs
      else if epoch = s.outerEpoch ∧ mask = s.get F.UPD_ANCHOR_MASK_MASK then
        t.step.partnerHeld = true ∧ (s.mbr.pinCopy = none → t.get F.UPD_STEP_STAT_PARTNER_WAIT = 0)
      else t = s) ∧
    exec .replicaLost s = .next { s with step := { s.step with fullStream := true } })

/-- Image slots (R118, R376, R399). Opening a slot zeroes it under a new lease, closing zeroes it, an expired lease closes a
slot not yet loaded and is recorded; BAR2 writes reach open slots only, and none in FATAL; a DMA runs into an open slot
with Bus Master Enable set, fills it with what the host holds, and otherwise ends with ERR.

Rests on choices of the model: log entries 8, 10, 26. -/
def Obligations.ImageSlotCommands : Prop :=
  ∀ s : State, s.canonical = true →
    (∀ mask n, s.takesWrite 2 = true → n < 4 → bit mask n = true → ∃ t, exec (.slotOpen mask) s = .next t ∧
      t.slotOpen n = true ∧ (s.slotOpen n = false → t.get (F.IMG_SLOT_LEASE_MS.ix n) = 1000 * s.get F.IMG_LEASE_CFG_SEC % 2 ^ 32 ∧
        t.img.leased.has n = false ∧ ∀ i < slotBytes, t.readByte (slotBase n + i) = blankByte)) ∧
    (∀ mask n, s.takesWrite 2 = true → n < 4 → bit mask n = true → ∃ t, exec (.slotClose mask) s = .next t ∧
      t.slotOpen n = false ∧ t.get (F.IMG_SLOT_LEASE_MS.ix n) = 0 ∧
        ∀ i < slotBytes, t.readByte (slotBase n + i) = blankByte) ∧
    (∀ n, ∃ t, exec (.slotLease n) s = .next t ∧
      if s.slotOpen n = true ∧ s.img.slot ≠ some n then t.slotOpen n = false ∧ t.img.leased.has n = true ∧
        t.newest = some (0x54, .ce, locChip 0x18) ∧ ∀ i < slotBytes, t.readByte (slotBase n + i) = blankByte
      else t = s) ∧
    (∀ offset (data : List Byte), ∃ t, exec (.bar2SlotWrite offset data) s = .next t ∧
      if s.fatal = true then t = s
      else ∀ i b, data[i]? = some b → t.readByte (loaderBase + offset + i) =
        if s.slotOpen ((offset + i) / slotBytes) = true then b else s.readByte (loaderBase + offset + i)) ∧
    (∀ n, s.takesWrite 2 = true → s.flag F.IMG_DMA_STAT_BUSY = false → ∃ t, exec (.loaderDma n) s = .next t ∧
      if s.slotOpen n = true ∧ s.pcie.busMaster = true then t.img.dmaSlot = some n ∧ t.get F.IMG_DMA_STAT_BUSY = 1
      else t.img.dmaSlot = s.img.dmaSlot ∧ t.get F.IMG_DMA_STAT_ERR = 1 ∧ t.get F.IMG_DMA_STAT_DONE = 0) ∧
    (∀ n, s.img.dmaSlot = some n → s.slotOpen n = true → ∃ t, exec (.loaderDmaDone false) s = .next t ∧
      t.img.dmaSlot = none ∧ t.get F.IMG_DMA_STAT_BUSY = 0 ∧ t.get F.IMG_DMA_STAT_ERR = 0 ∧
      ∀ i b, i < min slotBytes (s.get F.IMG_DMA_LEN_LEN) → (Config.hostRead s.img.dmaReads
          (s.get64 F.IMG_DMA_ADDR_LO_ADDR F.IMG_DMA_ADDR_HI_ADDR) (min slotBytes (s.get F.IMG_DMA_LEN_LEN)))[i]? = some b →
        t.readByte (slotBase n + i) = b) ∧
    (∀ n, s.img.dmaSlot = some n → ∃ t, exec (.loaderDmaDone true) s = .next t ∧
      t.img.dmaSlot = none ∧ t.get F.IMG_DMA_STAT_BUSY = 0 ∧ t.get F.IMG_DMA_STAT_ERR = 1)

/-- Images (R114, R116, R118–R121, R392). LOAD copies the slot's image and starts its checks, or is refused with a reason, an armed SLOT_LEASE expiring its lease first;
ABORT discards the image being checked, or the one held; an image whose check fails is rejected, the first one that passes
runs and makes the device READY, a later one is applied between steps and is held in a step that it would change; when
every region has switched it runs under the next IMG_GEN; ARB_COMMIT programs the counter in MAINTENANCE mode.

Rests on choices of the model: log entries 29, 30, 31, 66. -/
def Obligations.ImageLoadCommands : Prop :=
  ∀ s : State, s.canonical = true →
    (∀ n, s.takesWrite 2 = true → ∃ t, exec (.load n false) s = .next t ∧
      if s.slotOpen n = true ∧ s.img.slot ≠ some n ∧ s.forcedAt 0x54 (locChip 0x18) = true then
        t.slotOpen n = false ∧ t.img.leased.has n = true ∧ t.img.checking = s.img.checking
      else match s.loadRefusal n with
      | some r => t.get F.IMG_STAT_REASON = r ∧ t.img.checking = s.img.checking
      | none => t.img.checking = some (s.slotImage n) ∧ t.img.applyAt = none ∧ t.img.slot = some n ∧
          t.get F.IMG_STAT_STATE = 2) ∧
    (s.takesWrite 2 = true → s.applying = false → ∃ t, exec .abort s = .next t ∧
      if s.img.checking.isSome = true then t.img.checking = none ∧ t.img.next = s.img.next ∧ t.get F.IMG_STAT_REASON = 0x14
      else if s.img.next.isSome = true then t.img.next = none ∧ t.get F.IMG_STAT_REASON = 0x14 else t = s) ∧
    (∀ img, s.img.checking = some img → s.applying = false → s.fatal = false →
      ∃ t, exec .imageVerified s = .next t ∧ t.img.checking = none ∧ match s.imageReject img s.img.checkLen s.img.applyAt with
        | some r => t.img.running = s.img.running ∧ t.get F.IMG_STAT_REASON = r.1 % 256
        | none =>
          (s.img.first = false → t.img.running = some img ∧ t.img.first = true ∧ t.get F.PWR_STAT_STAGE = 6) ∧
          (s.img.first = true → s.img.applyAt = none → s.between = true → t.img.next = some img ∧ t.applying = true) ∧
          (s.img.first = true → s.between = false → classBDiffers (s.img.running.getD []) img = true →
            s.flag F.MBR_STAT_UNATTENDED = false → t.img.next = some img ∧ t.get F.IMG_STAT_STATE = 3)) ∧
    (∀ img, s.img.next = some img → s.img.heldAt = none → s.fatal = false → s.applying = false → s.between = true →
      ∃ t, exec .applying s = .next t ∧ t.applying = true ∧ t.img.next = some img) ∧
    (∀ img, s.img.next = some img → s.applying = true → s.img.switching = [] → s.fatal = false →
      ∃ t, exec .applied s = .next t ∧ t.img.running = some img ∧ t.img.next = none ∧
        t.get F.IMG_GEN_GEN = (s.get F.IMG_GEN_GEN + 1) % 65536 ∧
        (s.img.checking = none → s.img.first = true → t.get F.IMG_STAT_STATE = 1)) ∧
    (∀ img, s.takesWrite 2 = true → s.img.running = some img → ∃ t, exec .imgArbCommit s = .next t ∧
      if s.maintenance = true ∧ s.otpArb < imgArb img ∧ s.otp.write = none then
        if 64 ≤ s.otp.arbUsed then t.get F.OTP_STAT_REASON = 2 ∧ t.otp = s.otp
        else t.otp.write.isSome = true ∧ t.get F.OTP_STAT_BUSY = 1
      else t = s)

/-- The scrub and the memory counters (R147, R159, R169, R170). A corrected line is a CE record, an uncorrectable one a UC
record with its unit poisoned; with HOURS 0 nothing is scrubbed; the clears return their
counters to 0, and CLR_STAGE clears LOST bit 3.

Rests on a choice of the model: log entry 70. -/
def Obligations.MemoryCommands : Prop :=
  ∀ s : State, s.canonical = true →
    (∀ addr error overwritten, s.flt.armed = [] → ∃ t, exec (.patrolScrub addr error overwritten) s = .next t ∧
      if s.get F.MEM_SCRUB_CFG_HOURS = 0 then t = s
      else match error with
        | none => t.flt = s.flt
        | some true => t.newest = some (0x60, .ce, locChip (stackOf addr)) ∧ t.get (F.MEM_STACK_CNT_CE.ix (stackOf addr)) =
            satAdd 16 (s.get (F.MEM_STACK_CNT_CE.ix (stackOf addr))) 1
        | some false => t.newest = some (0x62, .uc, locChip (stackOf addr)) ∧
            t.get (F.MEM_STACK_CNT_UC.ix (stackOf addr)) = satAdd 16 (s.get (F.MEM_STACK_CNT_UC.ix (stackOf addr))) 1 ∧
            t.poison.has (s.unitAt addr) = true) ∧
    (s.takesWrite 9 = true → ∃ t, exec .memCntClr s = .next t ∧ t.get F.MEM_FE_INFO_SOURCE = 0 ∧
      ∀ k < 12, t.get (F.MEM_STACK_CNT_UC.ix k) = 0 ∧ t.get (F.MEM_STACK_CNT_CE.ix k) = 0) ∧
    (∀ l, s.takesWrite 10 = true → ∃ t, exec (.pndCntClr l) s = .next t ∧ t.get (F.PND_CNT_A_REPLAY.ix l) = 0 ∧
      t.get (F.PND_CNT_A_TIMEOUT.ix l) = 0 ∧ t.get (F.PND_CNT_B_STATUS.ix l) = 0 ∧ t.get (F.PND_CNT_B_DOWN.ix l) = 0 ∧
      t.get (F.PND_LINK_STAT_BOOT_CHANGED.ix l) = 0) ∧
    (s.takesWrite 10 = true → ∃ t, exec .clrStage s = .next t ∧ t.getBit F.PND_STAT_LOST 3 = false)

/-- Training of pond links (R152, R157–R159, R432, Table MEM-6, Table MEM-10). RETRAIN and AUTO_RETRAIN start from DOWN; the
link passes through its states to ACTIVE, where it holds the credits of the module's IDENT, but waits in OPTICAL for a cold
laser die; an IDENT that is not accepted, a timeout, silence and a DOWN command take it to FAILED with their reasons, from
which it returns to DOWN; a link of the mask that has not reached ACTIVE by its deadline raises PL_DOWN.

Requests and NOPs that a pond link sends (R153, R154, R156, R157, Table MEM-7). A RD or WR with its credits takes the next
SEQ and goes out, a WR with its data and its poison mask; an idle link sends a NOP, and an armed PL_DOWN takes it down
instead; the replay timer replays, and after 8 replays the link fails with reason 2; a request that times out fails with a
record, and what completes it later is discarded.

Rests on a choice of the model: log entry 42. -/
def Obligations.PondLinkCommands : Prop :=
  (∀ (s : State) l, s.canonical = true →
    (∀ auto, s.pondState l = 0 → s.pondMayTrain l = true →
      (if auto = true then s.flag F.PND_CFG_AUTO_RETRAIN = true ∧ s.fatal = false else s.takesWrite 10 = true) →
      ∃ t, exec (.pndRetrain l auto) s = .next t ∧ t.pondState l = 1) ∧
    (s.takesWrite 10 = true → ∃ t, exec (.pndDown l) s = .next t ∧ t.pondState l = 5 ∧
      t.get (F.PND_LINK_STAT_REASON.ix l) = 5) ∧
    (s.pondState l = 1 → ∃ t, exec (.pondLanesLocked l) s = .next t ∧
      if s.portCold (20 + l) = true then t = s else t.pondState l = 2) ∧
    (s.pondState l = 2 → ∃ t, exec (.pondAligned l) s = .next t ∧ t.pondState l = 3 ∧
      t.out = .pond l (PondMsg.bytes ⟨5, false, 1, 0, 0, 0, 1, 1, 0, identGranule s.serialNumber l⟩) :: s.out) ∧
    (∀ msg, s.pondState l = 3 → msgOp msg = 5 → msgIntact msg = true → msgFormOk msg = true → msgNak msg = false →
      msgSeq msg = ((s.pondLink l).rxSeq + 1) % 65536 → s.flt.armed = [] → ∃ t, exec (.pondIdent l msg) s = .next t ∧
      if pondIdentOk (msgIdent msg) = true then t.pondState l = 4 ∧
        (t.pondLink l).hdr = (s.pondLink l).hdr + msgCrdHdr msg + (msgIdent msg).hdrCred ∧
        (t.pondLink l).dat = (s.pondLink l).dat + msgCrdData msg + (msgIdent msg).dataCred ∧
        (∀ b, (s.pondLink l).boot = some b → b ≠ (msgIdent msg).bootId → t.get (F.PND_LINK_STAT_BOOT_CHANGED.ix l) = 1)
      else t.pondState l = 5 ∧ t.get (F.PND_LINK_STAT_REASON.ix l) = 6 ∧ t.newest = some (0x74, .uc, locPond l)) ∧
    (s.pondState l = 1 ∨ s.pondState l = 2 ∨ s.pondState l = 3 → ∃ t, exec (.pondTrainingTimeout l) s = .next t ∧
      if s.pondState l = 1 ∧ s.portCold (20 + l) = true then t = s
      else t.pondState l = 5 ∧ t.get (F.PND_LINK_STAT_REASON.ix l) = 7) ∧
    (s.pondState l = 4 → s.mlr.retain = [] → ∃ t, exec (.pondSilence l) s = .next t ∧ t.pondState l = 5 ∧
      t.get (F.PND_LINK_STAT_REASON.ix l) = 1 ∧ t.newest = some (0x71, .uc, locPond l)) ∧
    (s.pondState l = 5 → ∃ t, exec (.pondBackoffEnd l) s = .next t ∧ t.pondState l = 0) ∧
    (s.getBit F.PND_STAT_MASK l = true → s.img.first = true → s.mlr.retain = [] →
      ∃ t, exec (.pondActiveDeadline l) s = .next t ∧
      if (s.pondLink l).met = true then t = s else t.newest = some (0x71, .uc, locPond l))) ∧
  (∀ (s : State) l, s.canonical = true →
    (∀ tag addr granules dst, s.pondReady l = true → 1 ≤ (s.pondLink l).hdr → Tab.find (s.pondLink l).reads tag = none →
      1 ≤ granules → granules ≤ 64 → addr % 256 = 0 → ∃ t, exec (.rd l tag addr granules dst) s = .next t ∧
      t.out = .pond l (PondMsg.bytes ⟨1, false, ((s.pondLink l).txSeq + 1) % 65536, (s.pondLink l).rxSeq, tag, addr, granules,
        0, 0, []⟩) :: s.out ∧
      (t.pondLink l).hdr = (s.pondLink l).hdr - 1 ∧ Tab.find (t.pondLink l).reads tag = some ⟨addr, granules, dst, false⟩) ∧
    (∀ addr (data : List Byte) poison n, s.pondReady l = true → data.length = 256 * n → 1 ≤ n → n ≤ 64 →
      1 ≤ (s.pondLink l).hdr → n ≤ (s.pondLink l).dat → addr % 256 = 0 → ∃ t, exec (.wr l addr data poison) s = .next t ∧
      t.out = .pond l (PondMsg.bytes ⟨2, false, ((s.pondLink l).txSeq + 1) % 65536, (s.pondLink l).rxSeq, 0, addr, n, 0, poison,
        data⟩) :: s.out ∧
      (t.pondLink l).hdr = (s.pondLink l).hdr - 1 ∧ (t.pondLink l).dat = (s.pondLink l).dat - n ∧
      (t.pondLink l).writes = (s.pondLink l).writes ++ [⟨addr, data, poison, false⟩]) ∧
    (s.pondOpen l = true → ∃ t, exec (.pondIdleNop l) s = .next t ∧
      if s.pondState l = 4 ∧ s.forcedAt 0x71 (locPond l) = true then t.pondState l = 5 ∧
        t.get (F.PND_LINK_STAT_REASON.ix l) = 1
      else t.out = .pond l (PondMsg.bytes ⟨0, false, (s.pondLink l).txSeq, (s.pondLink l).rxSeq, 0, 0, 0, 0, 0, []⟩) :: s.out) ∧
    (s.pondOpen l = true → (s.pondLink l).unacked ≠ [] → ∃ t, exec (.pondReplayTimer l) s = .next t ∧
      if 8 ≤ (s.pondLink l).replays then t.pondState l = 5 ∧ t.get (F.PND_LINK_STAT_REASON.ix l) = 2
      else (t.pondLink l).replays = (s.pondLink l).replays + 1 ∧ t.newest = some (0x70, .ce, locPond l)) ∧
    (∀ tag r, Tab.find (s.pondLink l).reads tag = some r → r.dead = false → ∃ t, exec (.plTimeout l true tag) s = .next t ∧
      Tab.find (t.pondLink l).reads tag = some { r with dead := true } ∧ t.newest = some (0x72, .uc, locPond l)) ∧
    (∀ tag w rest, (s.pondLink l).writes = w :: rest → w.dead = false → ∃ t, exec (.plTimeout l false tag) s = .next t ∧
      (t.pondLink l).writes = { w with dead := true } :: rest ∧ t.newest = some (0x72, .uc, locPond l) ∧
      t.get (F.PND_CNT_A_TIMEOUT.ix l) = satAdd 16 (s.get (F.PND_CNT_A_TIMEOUT.ix l)) 1))

/-- Messages that an ACTIVE pond link takes (R153–R157, Table MEM-7, Table MEM-10). A read's completion in order puts its data
into the buffer; a write's makes its bytes visible at their device addresses; one whose request has timed out is discarded; a
NOP brings credits and acknowledgements; a damaged message, and one out of order, is answered by a NOP with NAK; one of no
defined form takes the link to FAILED with reason 3.

Rests on a choice of the model: log entry 42. -/
def Obligations.PondReceiveCommands : Prop :=
  ∀ (s : State) l (msg : List Byte), s.canonical = true → s.pondState l = 4 → s.flt.armed = [] →
    (msgIntact msg = true → msgFormOk msg = true → msgNak msg = false →
      msgSeq msg = ((s.pondLink l).rxSeq + 1) % 65536 → msgStatus msg = 0 →
      (∀ r, msgOp msg = 3 → Tab.find (s.pondLink l).reads (msgTag msg) = some r →
        s.windowBlocks r.dst ((msgData msg).take (256 * r.granules)).length = [] →
        (∀ i < 256 * r.granules, s.plain (r.dst + i) = true) →
        ∃ t, exec (.rdc l msg) s = .next t ∧ Tab.find (t.pondLink l).reads (msgTag msg) = none ∧
          if r.dead = true then ∀ a, t.readByte a = s.readByte a
          else ∀ i b, ((msgData msg).take (256 * r.granules))[i]? = some b → t.readByte (r.dst + i) = b) ∧
      (∀ w rest n, msgOp msg = 4 → (s.pondLink l).writes = w :: rest → w.data.length = 256 * n → w.addr % 256 = 0 →
        bit s.pondMask l = true → l < 4 → ∃ t, exec (.wra l msg) s = .next t ∧ (t.pondLink l).writes = rest ∧
          if w.dead = true then ∀ a, t.readByte a = s.readByte a
          else ∀ g i b, g < n → i < 256 → w.data[256 * g + i]? = some b →
            t.readByte (farAddr s.pondMask l (w.addr + 256 * g) + i) = b)) ∧
    (msgOp msg = 0 → ∃ t, exec (.pondNop l msg) s = .next t ∧
      if msgIntact msg = false then
        t.out = .pond l (PondMsg.bytes ⟨0, true, (s.pondLink l).txSeq, (s.pondLink l).rxSeq, 0, 0, 0, 0, 0, []⟩) :: s.out
      else msgNak msg = false → (t.pondLink l).hdr = (s.pondLink l).hdr + msgCrdHdr msg ∧
        (t.pondLink l).dat = (s.pondLink l).dat + msgCrdData msg ∧ (t.pondLink l).unacked =
          (s.pondLink l).unacked.filter fun m => !seqLe m.seq (msgAck msg)) ∧
    (∃ t, exec (.pondMessageDiscard l msg) s = .next t ∧
      if msgIntact msg = true ∧ msgFormOk msg = false then t.pondState l = 5 ∧ t.get (F.PND_LINK_STAT_REASON.ix l) = 3
      else if msgIntact msg = false ∨ msgOp msg ≠ 0 ∧ msgSeq msg ≠ ((s.pondLink l).rxSeq + 1) % 65536 then
        t.out = .pond l (PondMsg.bytes ⟨0, true, (s.pondLink l).txSeq, (s.pondLink l).rxSeq, 0, 0, 0, 0, 0, []⟩) :: s.out
      else t = s)

/-- Hopper (R160–R166, R171). A request is granted a buffer while its pool can grant to its owner, waits when it cannot, and
is refused by a pool without buffers or BROKEN, and where no class fits; a free list that cannot be corrected breaks the
pool; a release pushes the handle, which a BROKEN pool discards; an audit holds the grants and reports; a rebuild ends
BROKEN in MAINTENANCE mode with nothing allocated.

Rests on a choice of the model: log entry 43. -/
def Obligations.HopperCommands : Prop :=
  ∀ s : State, s.canonical = true →
    (∀ hub owner size, poolFor hub size = none →
      exec (.hopperRequest hub owner size false) s = .next (s.emit (.refused hub owner))) ∧
    (∀ hub owner size n, poolFor hub size = some n → s.flt.armed = [] → ∃ t, exec (.hopperRequest hub owner size false) s = .next t ∧
      if s.poolCount n = 0 ∨ s.flag (F.HOP_POOL_STAT_BROKEN.ix n) = true then t.out = .refused (n / 6) owner :: s.out
      else if s.grants n = true ∧ s.grantable n owner = true then t.out = .grant (n / 6) owner (s.nextHandle n) :: s.out ∧
        t.get (F.HOP_POOL_ALLOC_ALLOC.ix n) = (s.get (F.HOP_POOL_ALLOC_ALLOC.ix n) + 1) % 2 ^ 32 ∧
        t.held n owner = (s.held n owner + 1) % 2 ^ 32
      else (t.pool n).waiting = (s.pool n).waiting ++ [owner]) ∧
    (∀ hub owner size n, poolFor hub size = some n → s.poolCount n ≠ 0 → s.flag (F.HOP_POOL_STAT_BROKEN.ix n) = false →
      s.col.colls = [] → (∀ k, (s.pool k).waiting = []) →
      ∃ t, exec (.hopperRequest hub owner size true) s = .next t ∧ t.flag (F.HOP_POOL_STAT_BROKEN.ix n) = true ∧
        t.newest = some (0x79, .uc, locChip (0x18 + n / 6)) ∧ t.out = .refused (n / 6) owner :: s.out) ∧
    (∀ owner handle n, n = 6 * bits handle 31 31 + bits handle 30 28 → s.col.colls = [] → (∀ k, (s.pool k).waiting = []) →
      ∃ t, exec (.hopperRelease owner handle) s = .next t ∧
        if s.flag (F.HOP_POOL_STAT_BROKEN.ix n) = true then t.pool n = s.pool n
        else (t.pool n).pushed = bits handle 27 0 :: (s.pool n).pushed ∧
          t.get (F.HOP_POOL_FREE_FREE_LEN.ix n) = (s.get (F.HOP_POOL_FREE_FREE_LEN.ix n) + 1) % 2 ^ 32) ∧
    (∀ n, s.takesWrite 11 = true → ∃ t, exec (.hopAudit n) s = .next t ∧ t.get (F.HOP_POOL_STAT_AUDIT_BUSY.ix n) = 1) ∧
    (∀ n, s.flag (F.HOP_POOL_STAT_AUDIT_BUSY.ix n) = true → s.col.colls = [] → (∀ k, (s.pool k).waiting = []) →
      ∃ t, exec (.hopAuditDone n) s = .next t ∧
      t.get (F.HOP_POOL_STAT_AUDIT_BUSY.ix n) = 0 ∧ t.get (F.HOP_AUDIT_WALK_COUNT.ix n) =
        ((s.pool n).pushed.length + (s.poolCount n - (s.pool n).fresh)) % 2 ^ 32) ∧
    (∀ n, s.takesWrite 11 = true → s.col.colls = [] → (∀ k, (s.pool k).waiting = []) → ∃ t, exec (.rebuild n) s = .next t ∧
      if s.maintenance = true ∧ s.get (F.HOP_POOL_ALLOC_ALLOC.ix n) = 0 ∧ s.flag (F.HOP_POOL_STAT_BROKEN.ix n) = true then
        t.get (F.HOP_POOL_STAT_BROKEN.ix n) = 0 ∧ t.pool n = { s.pool n with fresh := 0, pushed := [] }
      else t = s) ∧
    (∀ n, s.takesWrite 11 = true → ∃ t, exec (.hopCntClr n) s = .next t ∧ t.get (F.HOP_CNT_WAITED.ix n) = 0 ∧
      t.get (F.HOP_CNT_REFUSED.ix n) = 0)

/-- Bring-up of fabric ports and their control blocks (R175–R177, R197, Table FAB-3, Table FAB-4). From DOWN a port passes
through its states to ACTIVE, sending its IDENT on the way, and holds the credits that the peer's IDENT advertises; it waits
in OPTICAL for a cold laser die; what goes wrong takes it to FAILED with its reason, and an ACTIVE port that fails raises
PORT_DOWN; running totals bring credits, the eighth bad block in succession is a failure, and an armed PORT_DOWN is one.

Rests on choices of the model: log entries 46, 73. -/
def Obligations.FabricPortCommands : Prop :=
  ∀ (s : State) p, s.canonical = true →
    (∀ auto, s.fabState p = 0 → s.fabMayTrain p = true →
      (if auto = true then s.flag F.FAB_CFG_AUTO_RETRAIN = true ∧ s.fatal = false else s.takesWrite 12 = true) →
      ∃ t, exec (.fabRetrain p auto) s = .next t ∧ t.fabState p = 1) ∧
    (s.takesWrite 12 = true → ∃ t, exec (.fabDown p) s = .next t ∧ t.fabState p = 5 ∧
      t.get (F.FAB_PORT_STAT_REASON.ix p) = 5) ∧
    (s.fabState p = 1 → ∃ t, exec (.fabLanesLocked p) s = .next t ∧ if s.portCold p = true then t = s else t.fabState p = 2) ∧
    (s.fabState p = 2 → ∃ t, exec (.fabAligned p) s = .next t ∧ t.fabState p = 3 ∧
      t.out = .fabIdent p 0x0AB1 (s.get F.FAB_ENDPOINT_ID) (s.get (F.FAB_PORT_STAT_ROLE.ix p))
        (s.get (F.FAB_PORT_STAT_DIR.ix p)) (s.get F.FAB_POS_X) (s.get F.FAB_POS_Y) (s.get F.FAB_POS_Z)
        ((List.range 8).map fun v => s.get (F.FAB_CRED_RX_CFG.ix p v)) :: s.out) ∧
    (∀ x, s.fabState p = 3 → s.flt.armed = [] → ∃ t, exec (.fabIdent p x) s = .next t ∧
      if s.fabIdentOk p x = true then t.fabState p = 4 ∧ t.get (F.FAB_PORT_PEER_ID.ix p) = x.id % 2 ^ 20 ∧
        ∀ v < 8, t.get (F.FAB_CRED_TX.ix p v) = (x.cred[v]?).getD 0 % 65536
      else t.fabState p = 5 ∧ t.get (F.FAB_PORT_STAT_REASON.ix p) = 4 ∧ t.newest = some (0x81, .uc, locPort p)) ∧
    (s.fabOpen p = true → ∃ t, exec (.fabSilence p) s = .next t ∧ t.fabState p = 5 ∧
      t.get (F.FAB_PORT_STAT_REASON.ix p) = 1 ∧ (s.fabState p = 4 → t.newest = some (0x80, .uc, locPort p))) ∧
    (s.fabState p = 1 ∨ s.fabState p = 2 ∨ s.fabState p = 3 → ∃ t, exec (.fabTrainingTimeout p) s = .next t ∧
      if s.fabState p = 1 ∧ s.portCold p = true then t = s
      else t.fabState p = 5 ∧ t.get (F.FAB_PORT_STAT_REASON.ix p) = 6) ∧
    (s.fabState p = 5 → ∃ t, exec (.fabBackoffEnd p) s = .next t ∧ t.fabState p = 0) ∧
    (s.get (F.FAB_PORT_STAT_ROLE.ix p) ≠ 0 → s.img.first = true →
      ∃ t, exec (.fabActiveDeadline p) s = .next t ∧
      if s.fab.met.has p = true then t = s else t.newest = some (0x80, .uc, locPort p)) ∧
    (∀ block, s.fabOpen p = true → ∃ t, exec (.linkControlBlock p block) s = .next t ∧
      if s.fabState p = 4 ∧ s.forcedAt 0x80 (locPort p) = true then t.fabState p = 5 ∧
        t.get (F.FAB_PORT_STAT_REASON.ix p) = 1
      else if blockOk block = true then (t.fabPort p).bad = 0 ∧ (s.fabState p = 4 →
        ∀ v < 8, t.get (F.FAB_CRED_TX.ix p v) = (s.get (F.FAB_CRED_TX.ix p v) +
          (((blockTotals block)[v]?).getD 0 + 4096 - ((s.fabPort p).seen[v]?).getD 0) % 4096) % 65536)
      else if 7 ≤ (s.fabPort p).bad then t.fabState p = 5 ∧ t.get (F.FAB_PORT_STAT_REASON.ix p) = 3
      else (t.fabPort p).bad = (s.fabPort p).bad + 1 ∧ t.regs = s.regs) ∧
    (s.fabOpen p = true → s.fatal = false → s.fab.withheld = [] → ∃ t, exec (.controlBlockSend p) s = .next t ∧
      t.out = .block p (blockBytes (s.fabPort p).given (s.fabPort p).blockSeq) :: s.out)

/-- Packets in transit (R178, R180, R182, R184, R187, R194, R223, Table FAB-5). A packet that fails its CRC, has made 64 hops or is of
another epoch is discarded and counted; one for this endpoint is delivered, a hub keeping 256 COL_NACK at most; the head of a VC leaves by the port chosen when
the credits are there and the port's arbiter lets it, and otherwise keeps its choice; a packet that has waited HOP_LIFE is discarded.

Operations as this gateway initiates them (R188, R189, R192). PUT, GET and CTR_ADD are outstanding under a free OP_ID
and their packets are injected; an operation that times out is issued whole under a new OP_ID while reissues are left or OP_REISSUE is
armed, and fails otherwise, as a CTR_ADD always does.

Rests on choices of the model: log entries 45, 73. -/
def Obligations.PacketAndIssueCommands : Prop :=
  (∀ (s : State), s.canonical = true →
    (∀ p (k : Packet), p < 16 → s.fabState p = 4 → ∃ t, exec (.packetArrival p k) s = .next t ∧
      if k.fecOk = false ∨ k.pcrc ≠ k.crc ∨ k.formOk = false then t.fab.inbox = s.fab.inbox ∧
        t.get (F.FAB_CNT_A_PCRC.ix p) = satAdd 16 (s.get (F.FAB_CNT_A_PCRC.ix p)) 1
      else if 64 ≤ k.hops then t.fab.inbox = s.fab.inbox ∧
        t.get (F.FAB_CNT_B_EXPIRED.ix p) = satAdd 16 (s.get (F.FAB_CNT_B_EXPIRED.ix p)) 1
      else if k.mepoch = s.epoch then k.mcast = false → s.versionOk k.repoch = true →
        bit (s.ucEntry k.repoch k.dst) 31 = true → bit (s.ucEntry k.repoch k.dst) 30 = true →
        t.fab.inbox = if k.opcode = 0x14 ∧ 256 ≤ (s.fab.inbox.filter fun i => i.hub == p / 8 && i.pkt.opcode == 0x14).length
          then s.fab.inbox else s.fab.inbox ++ [⟨p / 8, p, 2 * k.cls + k.dl, true, k⟩]
      else newer k.mepoch s.epoch = false → s.epochOk k.mepoch (s.memberEp k.src) = false →
        t.fab.inbox = s.fab.inbox ∧ t.get (F.FAB_CNT_B_FENCED.ix p) = satAdd 16 (s.get (F.FAB_CNT_B_FENCED.ix p)) 1) ∧
    (∀ i vc (h : HeldPkt) rest p, s.mute = false → s.held7 i vc = h :: rest → h.pkt.mcast = false →
      h.out.or (s.choose i h.pkt) = some p → ∃ t, exec (.packetForward i vc) s = .next t ∧
      if s.mayLeave i p h.pkt = true then t.held7 i vc = rest ∧ t.out = .packet p { h.pkt with
          dl := s.nextDl i p h.pkt.dl, hops := if i < 16 then (h.pkt.hops + 1) % 256 else h.pkt.hops } :: s.out ∧
        t.get (F.FAB_CRED_TX.ix p (s.nextVc i p h.pkt)) =
          (s.get (F.FAB_CRED_TX.ix p (s.nextVc i p h.pkt)) - h.pkt.credits) % 65536
      else t.held7 i vc = { h with out := some p } :: rest ∧ t.out = s.out) ∧
    (∀ i vc (h : HeldPkt) rest, s.held7 i vc = h :: rest → i < 16 → ∃ t, exec (.hopLifeExpiry i vc) s = .next t ∧
      t.held7 i vc = rest ∧ t.get (F.FAB_CNT_B_EXPIRED.ix i) = satAdd 16 (s.get (F.FAB_CNT_B_EXPIRED.ix i)) 1)) ∧
  (∀ (s : State) (q : FabReq), s.canonical = true →
    (s.away q.dst → q.mcast = false → Tab.find s.fab.ops q.opId = none →
      ((s.rangeFaults 0 [(q.buf, q.len)] []).1 = false → ∃ t, exec (.put (.issue q)) s = .next t ∧ Tab.find t.fab.ops q.opId = some ⟨.put, q, 0, 0, none⟩ ∧
        t.queued s q.hub 2 ((List.range (packetsOf q.len)).map (s.opPacket .put q))) ∧
      (∃ t, exec (.get (.issue q)) s = .next t ∧ Tab.find t.fab.ops q.opId = some ⟨.get, q, 0, 0, none⟩ ∧
        t.queued s q.hub 0 ((List.range (packetsOf q.len)).map (s.opPacket .get q))) ∧
      (∃ t, exec (.ctrAdd (.issue q)) s = .next t ∧ Tab.find t.fab.ops q.opId = some ⟨.ctr, q, 0, 0, none⟩ ∧
        t.queued s q.hub 0 [s.opPacket .ctr q 0])) ∧
    (∀ id (o : FabOp), Tab.find s.fab.ops id = some o → (s.rangeFaults 0 [(o.req.buf, o.req.len)] []).1 = false →
      ∃ t, exec (.opTimeout id q.opId) s = .next t ∧
      if o.kind ≠ .ctr ∧ (o.reissues < s.get F.FAB_CFG_RETRIES ∨ s.forcedAt 0x82 (locHub o.req.hub) = true) then
        Tab.find t.fab.ops q.opId = some ⟨o.kind, { o.req with opId := q.opId }, o.reissues + 1, 0, none⟩ ∧
        t.newest = some (0x82, .ce, locHub o.req.hub)
      else Tab.find t.fab.ops id = none ∧ t.newest = some (0x83, .uc, locHub o.req.hub) ∧
        t.get F.FAB_EP_CNT_A_OP_FAIL = satAdd 16 (s.get F.FAB_EP_CNT_A_OP_FAIL) 1))

/-- Operations at their target, and their replies (R188–R192). A PUT in a permitted window is written and, complete,
acknowledged; a GET is answered with the window's data; a CTR_ADD adds to an open counter and is acknowledged; an
acknowledgement or the last data ends the operation it answers, and one that nothing waits for is STALE; a context that
expires is counted.

Rests on a choice of the model: log entry 45. -/
def Obligations.OperationTargetCommands : Prop :=
  ∀ (s u : State) hub (i : InPkt), s.canonical = true → s.noRefusals →
    (s.takePacket hub 1 = some (i, u) → u.ctxRoom i.hub (ctxKey i.pkt.src i.pkt.opId) = true →
      imgWindowOk u.image 1 i.pkt.addr i.pkt.data.length = true → u.openRange i.pkt.addr i.pkt.data.length →
      (u.rangeFaults 0 [] [(i.pkt.addr, i.pkt.data.length)]).1 = false → ∃ t, exec (.put (.take hub)) s = .next t ∧
      (∀ j b, i.pkt.data[j]? = some b → t.readByte (i.pkt.addr + j) = b) ∧
      (i.pkt.last = true → i.pkt.pkt = 0 → i.pkt.mcast = false → i.pkt.poison = false → u.away i.pkt.src →
        Tab.find u.fab.ctx (ctxKey i.pkt.src i.pkt.opId) = none → t.queued u i.hub 1 [ackOf 2 i.pkt 0])) ∧
    (s.takePacket hub 3 = some (i, u) → u.ctxRoom i.hub (ctxKey i.pkt.src i.pkt.opId) = true →
      imgWindowOk u.image 0 i.pkt.addr i.pkt.len = true → u.away i.pkt.src →
      (u.rangeFaults 0 [(i.pkt.addr, i.pkt.len)] []).1 = false → ∃ t, exec (.get (.take hub)) s = .next t ∧
      t.queued u i.hub 1 [packetOf 1 4 i.pkt.src i.pkt.opId i.pkt.addr i.pkt.pkt false i.pkt.last
        ((u.fetch i.pkt.addr i.pkt.len).any Prod.snd) i.pkt.len ((u.fetch i.pkt.addr i.pkt.len).map Prod.fst)]) ∧
    (∀ n, s.takePacket hub 5 = some (i, u) → u.ctxRoom i.hub (ctxKey i.pkt.src i.pkt.opId) = true → i.pkt.len = 4 →
      i.pkt.addr = 0xFC0000000000 + 64 * n → imgCtrOpen u.image n = true → ∃ t, exec (.ctrAdd (.take hub)) s = .next t ∧
      t.ctr .chip (4096 + n) = (s.ctr .chip (4096 + n) + beNat i.pkt.data) % 2 ^ 32) ∧
    (s.takePacket hub 2 = some (i, u) → i.pkt.addr / 2 ^ 40 = 0 → s.flt.armed = [] →
      ∃ t, exec (.putAck hub) s = .next t ∧ match u.answered .put i.pkt with
        | some _ => Tab.find t.fab.ops i.pkt.opId = none
        | none => t.get F.FAB_EP_CNT_B_STALE = satAdd 16 (s.get F.FAB_EP_CNT_B_STALE) 1) ∧
    (s.takePacket hub 6 = some (i, u) → i.pkt.addr / 2 ^ 40 = 0 → s.flt.armed = [] →
      ∃ t, exec (.ctrAck hub) s = .next t ∧ match u.answered .ctr i.pkt with
        | some _ => Tab.find t.fab.ops i.pkt.opId = none
        | none => t.get F.FAB_EP_CNT_B_STALE = satAdd 16 (s.get F.FAB_EP_CNT_B_STALE) 1) ∧
    (∀ o, s.takePacket hub 4 = some (i, u) → u.answered .get i.pkt = some o → i.pkt.len ≠ 0 → s.flt.armed = [] →
      u.openRange (o.req.buf + 4096 * i.pkt.pkt) i.pkt.data.length →
      (u.rangeFaults 0 [] [(o.req.buf + 4096 * i.pkt.pkt, i.pkt.data.length)]).1 = false → ∃ t, exec (.getData hub) s = .next t ∧
      (∀ j b, i.pkt.data[j]? = some b → t.readByte (o.req.buf + 4096 * i.pkt.pkt + j) = b) ∧
      (i.pkt.last = true → o.got = i.pkt.pkt → Tab.find t.fab.ops i.pkt.opId = none)) ∧
    (∀ src id (c : FabCtx), Tab.find s.fab.ctx (ctxKey src id) = some c → c.hub = hub → ∃ t, exec (.contextExpiry hub src id) s = .next t ∧
      Tab.find t.fab.ctx (ctxKey src id) = none ∧
      t.get F.FAB_EP_CNT_B_CTX_EXPIRED = satAdd 16 (s.get F.FAB_EP_CNT_B_CTX_EXPIRED) 1)

/-- Routing tables and fabric counters (R181, R185, R198–R200). RTE_SEL chooses the version; a write of RTE_VALID that
clears the selected version's bit is ignored; the window writes one entry of the version that is not selected, and none
of the selected one; a ROUTES section that waits goes into the other version and makes it valid; the clears return the
counters to 0. -/
def Obligations.RoutingCommands : Prop :=
  ∀ s : State, s.canonical = true →
    (∀ v, s.takesWrite 13 = true → ∃ t, exec (.rteSel v) s = .next t ∧ t.get F.RTE_SEL_SEL = v % 2) ∧
    (∀ v, s.takesWrite 13 = true → ∃ t, exec (.rteValid v) s = .next t ∧
      if bit v (s.get F.RTE_SEL_SEL) = true then t.versionOk 0 = bit v 0 ∧ t.versionOk 1 = bit v 1 else t = s) ∧
    (∀ i e, s.takesWrite 13 = true → ∃ t, exec (.rteWindowWrite false i e) s = .next t ∧
      if s.get F.RTE_WIN_CTL_VERSION = s.get F.RTE_SEL_SEL then t.fab = s.fab
      else t.fab.mc = s.fab.mc ∧ Tab.get 0 t.fab.uc
        (2 ^ 20 * s.get F.RTE_WIN_CTL_VERSION + 65536 * s.get F.RTE_WIN_CTL_PAGE + i % 65536) = e % 2 ^ 32) ∧
    (∀ i e, s.takesWrite 13 = true → ∃ t, exec (.rteWindowWrite true i e) s = .next t ∧
      if s.get F.RTE_WIN_CTL_VERSION = s.get F.RTE_SEL_SEL then t.fab = s.fab
      else t.fab.uc = s.fab.uc ∧ t.mcEntry (s.get F.RTE_WIN_CTL_VERSION) i = e % 2 ^ 32) ∧
    (∀ body, s.fab.staging = some body → s.selSettled = true → s.fab.inUse (1 - s.get F.RTE_SEL_SEL) = 0 →
      ∃ t, exec .routesStaging s = .next t ∧ t.fab.staging = none ∧ t.versionOk (1 - s.get F.RTE_SEL_SEL) = true) ∧
    (s.takesWrite 12 = true → ∃ t, exec .fabCntClr s = .next t ∧ t.get F.FAB_EP_CNT_A_REISSUE = 0 ∧
      t.get F.FAB_EP_CNT_A_OP_FAIL = 0 ∧ t.get F.FAB_EP_CNT_B_CTX_EXPIRED = 0 ∧ t.get F.FAB_EP_CNT_B_STALE = 0 ∧
      t.get F.FAB_FE_INFO_SOURCE = 0 ∧ t.fab.feHdr = false) ∧
    (∀ p, s.takesWrite 12 = true → ∃ t, exec (.fabPortCntClr p) s = .next t ∧ t.get (F.FAB_CNT_A_PCRC.ix p) = 0 ∧
      t.get (F.FAB_CNT_A_NO_ROUTE.ix p) = 0 ∧ t.get (F.FAB_CNT_B_FENCED.ix p) = 0 ∧ t.get (F.FAB_CNT_B_EXPIRED.ix p) = 0 ∧
      t.get (F.FAB_CNT_C_MCAST_IN.ix p) = 0 ∧ t.get (F.FAB_CNT_C_DOWN.ix p) = 0)

/-- Elements of a chain (R203, R205, R222–R224, Table COL-4). An element whose trigger is met fires: NOP and BCAST are
done, SEND is done when the one chunk it sends is granted, REDUCE and COLLECT wait for their chunks, DONES and TALLY are
done when their count is full, TALLY then reporting its sum, and RELEASE is done once the gateway has committed since the
collective was posted.

Results, repeats and reports of a collective (R222–R224). A broadcast chunk is written at its place; COL_DONE is
counted; COL_NACK is answered with the chunk and a record; a release is kept by its sender; a report counts once for each
sender; what matches nothing is STALE.

Rests on choices of the model: log entries 47, 48. -/
def Obligations.CollectiveElementAndResultCommands : Prop :=
  (∀ (s : State) g q i c e, s.canonical = true → s.noneWait →
    (s.fires g q i 0 c e → ∃ t, exec (.elementNop g q i) s = .next t ∧
      ∃ x, t.elem g q i = some x ∧ x.fired = true ∧ x.done = true ∧ x.failed = false) ∧
    (s.fires g q i 1 c e → ∃ t, exec (.send g q i) s = .next t ∧ ∃ x, t.elem g q i = some x ∧ x.fired = true ∧
      (∀ a, e.next = 0 → e.d.nch = 1 → (e.grants.find? fun y => y.1 == e.d.c0) = some (e.d.c0, a) →
        x.done = true ∧ Tab.find x.sent e.d.c0 = some a)) ∧
    (s.fires g q i 2 c e → (e.d.keyed = true → s.refuses (6 * e.d.hub + 5) = false) → ∃ t, exec (.reduce g q i) s = .next t ∧
      ∃ x, t.elem g q i = some x ∧ x.fired = true ∧ x.done = false) ∧
    (s.fires g q i 3 c e → ∃ t, exec (.bcast g q i) s = .next t ∧
      ∃ x, t.elem g q i = some x ∧ x.fired = true ∧ x.done = true) ∧
    (s.fires g q i 4 c e → ∃ t, exec (.collect g q i) s = .next t ∧ t.elem g q i = some { e with fired := true }) ∧
    (s.fires g q i 5 c e → ∃ t, exec (.dones g q i) s = .next t ∧
      ∃ x, t.elem g q i = some x ∧ x.fired = true ∧ (x.done = true ↔ e.d.nch ≤ e.finished)) ∧
    (s.fires g q i 6 c e → ∃ t, exec (.release g q i) s = .next t ∧
      ∃ x, t.elem g q i = some x ∧ x.fired = true ∧ (x.done = true ↔ s.outerEpoch ≠ c.epoch)) ∧
    (s.fires g q i 7 c e → s.forcedAt 0x94 (locHub e.d.hub) = false → ∃ t, exec (.tally g q i) s = .next t ∧
      ∃ x, t.elem g q i = some x ∧ x.fired = true ∧ (x.done = true ↔ e.d.nch ≤ e.finished) ∧
        (e.d.nch ≤ e.finished → t.get F.COL_TALLY_N_REPORTS = min 65535 e.finished ∧ t.mbr.tally = e.tokens ∧
          t.get64 F.COL_TALLY_LO_TOKENS F.COL_TALLY_HI_TOKENS = e.tokens % 2 ^ 64))) ∧
  (∀ (s u : State) hub (p : InPkt), s.canonical = true → s.flt.armed = [] →
    (∀ c y, s.takePacket hub 0x12 = some (p, u) → u.coll (colKey p.pkt).1 p.pkt.opId = some c →
      (c.find fun e => e.d.kind == 4 && e.fired && !e.done && !e.written.has (colKey p.pkt).2.2 &&
        decide (e.d.c0 ≤ (colKey p.pkt).2.2 ∧ (colKey p.pkt).2.2 < e.d.c0 + e.d.nch)) = some y →
      u.openRange ((if y.2.d.out2 then c.addr2 else c.addr) + (colKey p.pkt).2.2 * c.cb + 4096 * p.pkt.pkt)
        p.pkt.data.length → s.noRefusals → ∃ t, exec (.colBcast hub) s = .next t ∧ ∀ j b, p.pkt.data[j]? = some b →
          t.readByte ((if y.2.d.out2 then c.addr2 else c.addr) + (colKey p.pkt).2.2 * c.cb + 4096 * p.pkt.pkt + j) = b) ∧
    (s.takePacket hub 0x13 = some (p, u) → s.noneWait → ∃ t, exec (.colDone hub) s = .next t ∧
      match (u.coll (colKey p.pkt).1 p.pkt.opId).bind fun c => c.find fun e => e.d.kind == 5 && !e.done with
      | none => t.get F.COL_CNT_B_STALE = satAdd 16 (s.get F.COL_CNT_B_STALE) 1
      | some y => ∃ x, t.elem (colKey p.pkt).1 p.pkt.opId y.1 = some x ∧ x.finished = y.2.finished + 1) ∧
    (∀ c y, s.takePacket hub 0x14 = some (p, u) → u.coll (colKey p.pkt).1 p.pkt.opId = some c →
      (c.find fun e => e.d.kind == 3 && e.fired &&
        decide (e.d.c0 ≤ (colKey p.pkt).2.2 ∧ (colKey p.pkt).2.2 < e.d.c0 + e.d.nch)) = some y →
      (u.rangeFaults 0 [(c.addr + (colKey p.pkt).2.2 * c.cb, c.chunkLen (colKey p.pkt).2.2)] []).1 = false →
      ∃ t, exec (.colNack hub) s = .next t ∧ t.newest = some (0x93, .ce, locHub y.2.d.hub) ∧
        t.get F.COL_CNT_C_RESENT = satAdd 16 (s.get F.COL_CNT_C_RESENT) 1) ∧
    (s.takePacket hub 0x15 = some (p, u) → ∃ t, exec (.colRelease hub) s = .next t ∧
      Tab.find t.col.released p.pkt.src = some (beAt p.pkt.data 0 8, beAt p.pkt.data 8 1)) ∧
    (s.takePacket hub 0x16 = some (p, u) → s.noneWait → ∃ t, exec (.colTally hub) s = .next t ∧
      match (u.coll (colKey p.pkt).1 p.pkt.opId).bind fun c => c.find fun e => e.d.kind == 7 with
      | none => t.get F.COL_CNT_B_STALE = satAdd 16 (s.get F.COL_CNT_B_STALE) 1
      | some y => if y.2.srcs.contains p.pkt.src = true then t.get F.COL_CNT_B_DUP = satAdd 16 (s.get F.COL_CNT_B_DUP) 1
          else y.2.done = false → ∃ x, t.elem (colKey p.pkt).1 p.pkt.opId y.1 = some x ∧
            x.tokens = (y.2.tokens + beAt p.pkt.data 0 8) % 2 ^ 64 ∧ x.finished = y.2.finished + 1))

/-- Data and grants of a collective (R208–R210, R219). A packet for an unkeyed chunk that is being reduced adds its bytes to
COL_REDUCED; one that does not complete an unkeyed chunk is summed into its slot, and the one that does puts the sum into
the chunk's place; a packet or a grant that matches nothing is STALE, a late copy of a keyed chunk DUP; a grant waits for
its collective, or for its element to fire.

Rests on choices of the model: log entries 47, 48. -/
def Obligations.CollectiveDataCommands : Prop :=
  ∀ (s u : State) hub (p : InPkt), s.canonical = true → s.flt.armed = [] →
    (∀ n c e, s.takePacket hub 0x10 = some (p, u) → u.reducing (colKey p.pkt).1 p.pkt.opId (colKey p.pkt).2.2 n c e →
      n.2.attempt = (colKey p.pkt).2.1 → s.noRefusals → ∃ t, exec (.colData hub) s = .next t ∧
      (e.d.keyed = false → t.get64 F.COL_REDUCED_LO_BYTES F.COL_REDUCED_HI_BYTES =
        (s.get64 F.COL_REDUCED_LO_BYTES F.COL_REDUCED_HI_BYTES + p.pkt.data.length) % 2 ^ 64) ∧
      (e.d.keyed = false → p.pkt.last = false → n.2.totals.length ≠ e.d.fanin → ∃ x, Tab.find t.col.slots n.1 = some x ∧
        x.acc = (n.2.sum c.eb p.pkt.pkt p.pkt.data p.pkt.poison).acc ∧ x.count = n.2.count + 1) ∧
      (e.d.keyed = false → p.pkt.last = true → n.2.totals.length + 1 = e.d.fanin →
        n.2.count = (n.2.totals.map Prod.snd).sum + p.pkt.pkt →
        u.openRange ((if e.d.out2 then c.addr2 else c.addr) + n.2.chunk * c.cb)
          (((n.2.sum c.eb p.pkt.pkt p.pkt.data p.pkt.poison).acc.flatMap (wireBytes c.eb)).length) →
        ∀ j b, ((n.2.sum c.eb p.pkt.pkt p.pkt.data p.pkt.poison).acc.flatMap (wireBytes c.eb))[j]? = some b →
          t.readByte ((if e.d.out2 then c.addr2 else c.addr) + n.2.chunk * c.cb + j) = b)) ∧
    (s.takePacket hub 0x10 = some (p, u) → u.slotOf (colKey p.pkt).1 p.pkt.opId (colKey p.pkt).2.2 = none →
      ∃ t, exec (.colData hub) s = .next t ∧ t.mem = s.mem ∧
      if ((u.coll (colKey p.pkt).1 p.pkt.opId).any fun c =>
          c.elems.any fun e => e.d.keyed && e.written.has (colKey p.pkt).2.2) = true then
        t.get F.COL_CNT_B_DUP = satAdd 16 (s.get F.COL_CNT_B_DUP) 1
      else t.get F.COL_CNT_B_STALE = satAdd 16 (s.get F.COL_CNT_B_STALE) 1) ∧
    (s.takePacket hub 0x11 = some (p, u) → s.noneWait → ∃ t, exec (.colGrant hub) s = .next t ∧
      match u.coll (colKey p.pkt).1 p.pkt.opId with
      | none => if (s.col.early.filter fun e => e.hub == hub).length < 1024 then t.col.early = s.col.early ++
            [Early.mk hub (colKey p.pkt).1 p.pkt.opId (colKey p.pkt).2.2 (colKey p.pkt).2.1 p.pkt.src]
          else t.get F.COL_CNT_B_STALE = satAdd 16 (s.get F.COL_CNT_B_STALE) 1
      | some c => match c.sendElem (colKey p.pkt).2.2 p.pkt.src with
        | none => t.get F.COL_CNT_B_STALE = satAdd 16 (s.get F.COL_CNT_B_STALE) 1
        | some y => y.2.fired = false → Tab.find y.2.sent (colKey p.pkt).2.2 = none →
            ∃ x, t.elem (colKey p.pkt).1 p.pkt.opId y.1 = some x ∧
              ((colKey p.pkt).2.2, (colKey p.pkt).2.1) ∈ x.grants)

/-- Timers and registers of collectives (R213–R216, R221–R224, R226). A chunk not complete in time is granted again while
reissues are left and its chain's grants are not held, and fails when none is left, with its slot waiting for its reclaim; a reclaimed slot is free; a lingering collective
and early grants end; missing chunks are asked for, releases and reports repeat; a flip is armed and taken back; a
cancelled collective is gone; the clear returns the counters to 0.

Rests on choices of the model: log entries 2, 47. -/
def Obligations.CollectiveTimerCommands : Prop :=
  ∀ (s : State) g q, s.canonical = true →
    (∀ k n c e, s.mute = false → s.reducing g q k n c e → s.noRefusals → ∃ t, exec (.chunkReissue g q k) s = .next t ∧
      if n.2.reissues < s.get F.FAB_CFG_RETRIES ∧ c.gather = true ∧ s.flag F.COL_STAT_GRANT_HOLD = true then t = s
      else ∃ x, Tab.find t.col.slots n.1 = some x ∧ if n.2.reissues < s.get F.FAB_CFG_RETRIES then
        x.attempt = (n.2.attempt + 1) % 4 ∧ x.reissues = n.2.reissues + 1 ∧ t.newest = some (0x90, .ce, locHub e.d.hub)
      else x.reclaiming = true ∧ t.get F.COL_CNT_A_FAIL = satAdd 16 (s.get F.COL_CNT_A_FAIL) 1) ∧
    (∀ k n c e, s.reducing g q k n c e → s.noRefusals → ∃ t, exec (.slotReclaim g q k) s = .next t ∧
      if n.2.reissues < s.get F.FAB_CFG_RETRIES then t = s
      else t.get F.COL_CNT_A_FAIL = satAdd 16 (s.get F.COL_CNT_A_FAIL) 1 ∧
        ∃ x, Tab.find t.col.slots n.1 = some x ∧ x.reclaiming = true) ∧
    (∀ hub k x, Tab.find s.col.slots (128 * hub + k) = some x → ∃ t, exec (.slotReclaimEnd hub k) s = .next t ∧
      if x.reclaiming = true then ∀ y, Tab.find t.col.slots (128 * hub + k) = some y → y.reclaiming = false else t = s) ∧
    (∃ t, exec (.lingerEnd g q) s = .next t ∧
      t.col.colls = s.col.colls.filter fun c => !(c.linger && c.group == g && c.seq == q)) ∧
    (∀ k, ∃ t, exec (.earlyGrantExpiry g q k) s = .next t ∧
      t.col.early = s.col.early.eraseP fun x => x.group == g && x.seq == q && x.chunk == k) ∧
    (∀ i e, s.elem g q i = some e → e.d.kind = 4 → e.fired = true → e.done = false → 0 < e.finished ∨ e.parts ≠ [] →
      s.away e.d.peer →
      ∃ t, exec (.nackTimer g q i) s = .next t ∧ t.queued s e.d.hub 3
        (((((List.range e.d.nch).map (e.d.c0 + ·)).filter fun k => !e.written.has k).take 64).map fun k =>
          colPacket 0x14 e.d.peer false g q 0 k)) ∧
    (∀ i (x : Release), s.col.releases.find? (fun y => y.group == g && y.seq == q && y.elem == i) = some x →
      x.packet.mcast = true → x.packet.cls = 3 → s.awayMc x.packet.dst →
      ∃ t, exec (.releaseRepeat g q i) s = .next t ∧ t.queuedMc s x.hub 3 x.packet) ∧
    (∀ hub dst tokens epoch, s.awayMc dst → ∃ t, exec (.tallyRepeat hub g dst q tokens epoch) s = .next t ∧
      t.queuedMc s hub 3 (packetOf 3 0x16 dst q (colAddr g 0 0) 0 true true false 16
        (beBytes 8 tokens ++ beBytes 4 epoch ++ beBytes 4 0))) ∧
    (s.takesWrite 14 = true →
      (∃ t, exec .colFlipArm s = .next t ∧ t.get F.COL_STAT_FLIP_ARMED = 1) ∧
      (∃ t, exec .colFlipCancel s = .next t ∧ t.get F.COL_STAT_FLIP_ARMED = 0) ∧
      (∀ c, s.coll g q = some c → c.linger = false → ∃ t, exec (.colCancel g q) s = .next t ∧ t.coll g q = none) ∧
      (∃ t, exec .colCntClr s = .next t ∧ t.get F.COL_CNT_A_REISSUE = 0 ∧ t.get F.COL_CNT_A_FAIL = 0 ∧
        t.get F.COL_CNT_B_STALE = 0 ∧ t.get F.COL_CNT_B_DUP = 0 ∧ t.get F.COL_CNT_C_NACK_SENT = 0 ∧
        t.get F.COL_CNT_C_RESENT = 0))

/-- Frames and alignment (R235–R239, R250, R254, R441, Table LHL-3). A port whose lanes have locked sends its next frame
under the next number, and with it the copy that its protection port carries; a frame that passes is taken and the fifth miss in succession loses alignment; a usable sighting
becomes a candidate, the eighth at most, and the first to pass three checks is the alignment; a window's corrected bits
set and clear EXC and DEG; REHUNT hunts; a second boundary latches the counts while time is valid.

Rests on choices of the model: log entries 49, 50. -/
def Obligations.LineFrameCommands : Prop :=
  ∀ (s : State) p, s.canonical = true →
    ((s.line p).txOn = true → s.fatal = false → s.time.running = true → ∃ t, exec (.frameTransmit p) s = .next t ∧
      if s.copied p = false then (t.line p).txNext = ((s.line p).txNext + 1) % 2 ^ 64 ∧
        t.txFnum p = (s.line p).txNext % 2 ^ 64 ∧ ∃ lanes, t.out.head? = some (.frame
          (if (s.bridged p && !isProtection p && (s.line (p + 2)).txOn) = true then p + 2 else p) lanes)
      else if (s.line (p - 2)).txOn = true then t = s
      else (t.line p).txNext = (s.copyNum p (s.line (p - 2)).txNext + 1) % 2 ^ 64 ∧
        ∃ lanes, t.out.head? = some (.frame p lanes)) ∧
    (∀ lanes skew, s.get (F.LHL_ALIGN_STAT_STATE.ix p) = 3 → ∃ t, exec (.frameReceive p lanes skew) s = .next t ∧
      if (s.decodeFrame lanes).word = true ∧ (s.decodeFrame lanes).hcrc = true then
        t.get (F.LHL_ALIGN_STAT_MISSES.ix p) = 0 ∧ t.get64 (F.LHL_RX_FNUM_LO_FNUM.ix p) (F.LHL_RX_FNUM_HI_FNUM.ix p) =
          (s.decodeFrame lanes).head.fnum % 2 ^ 64
      else if s.get (F.LHL_ALIGN_STAT_MISSES.ix p) = 4 then t.get (F.LHL_ALIGN_STAT_STATE.ix p) = 1 ∧
        t.get (F.LHL_PORT_STAT_LOA.ix p) = 1
      else t.get (F.LHL_ALIGN_STAT_MISSES.ix p) = (s.get (F.LHL_ALIGN_STAT_MISSES.ix p) + 1) % 8) ∧
    (∀ pos (markers : List Nat) skew, s.get (F.LHL_ALIGN_STAT_STATE.ix p) = 1 ∨ s.get (F.LHL_ALIGN_STAT_STATE.ix p) = 2 →
      s.flt.armed = [] → skew ≤ 128 →
      (∀ l < 8, markerOk (s.get F.LHL_CFG_ALIGN_TOL) l ((markers[l]?).getD 0) = true) →
      (∀ c ∈ (s.line p).cands, ¬(c.pos < pos ∧ (pos - c.pos) % frameBytes = 0)) →
      ∃ t, exec (.alignmentSighting p pos markers skew) s = .next t ∧
      if 8 ≤ (s.line p).cands.length then t.newest = some (0xA6, .ce, locLine p) ∧ (t.line p).cands = (s.line p).cands
      else (t.line p).cands = (s.line p).cands ++ [⟨pos, 0, 0⟩] ∧ t.get (F.LHL_ALIGN_STAT_STATE.ix p) = 2) ∧
    (∀ pos lanes c, s.get (F.LHL_ALIGN_STAT_STATE.ix p) = 2 →
      ((s.line p).cands.find? fun c => decide (c.pos ≤ pos) && (pos - c.pos) % frameBytes == 0) = some c →
      ∃ t, exec (.candidateCheck p pos lanes) s = .next t ∧
      if (s.decodeFrame lanes).word = true ∧ (s.decodeFrame lanes).hcrc = true ∧
        (c.passes = 0 ∨ (s.decodeFrame lanes).head.fnum = (c.fnum + 1) % 2 ^ 64) then
        if 2 ≤ c.passes then t.get (F.LHL_ALIGN_STAT_STATE.ix p) = 3 ∧ (t.line p).cands = [] ∧
          t.get (F.LHL_PORT_STAT_LOA.ix p) = 0
        else { c with passes := c.passes + 1, fnum := (s.decodeFrame lanes).head.fnum } ∈ (t.line p).cands
      else c ∉ (t.line p).cands ∧ ((t.line p).cands = [] → t.get (F.LHL_ALIGN_STAT_STATE.ix p) = 1)) ∧
    (s.get (F.LHL_ALIGN_STAT_STATE.ix p) = 3 → ∃ t, exec (.preFecWindow p) s = .next t ∧ (t.line p).corr = 0 ∧
      (t.line p).unc = 0 ∧
      (if s.get (F.LHL_THR_SF_SF_BITS.ix p) < (s.line p).corr ∨ 0 < (s.line p).unc then t.get (F.LHL_PORT_STAT_EXC.ix p) = 1
        else 7 ≤ (s.line p).excClear → t.get (F.LHL_PORT_STAT_EXC.ix p) = 0) ∧
      (s.get (F.LHL_THR_SD_SD_BITS.ix p) < (s.line p).corr → s.get (F.LHL_THR_SD_DEG_M.ix p) ≤ (s.line p).degUp + 1 →
        t.get (F.LHL_PORT_STAT_DEG.ix p) = 1)) ∧
    (s.takesWrite 15 = true → ∃ t, exec (.rehunt p) s = .next t ∧
      if s.get (F.LHL_ALIGN_STAT_STATE.ix p) = 0 then t = s
      else t.get (F.LHL_ALIGN_STAT_STATE.ix p) = 1 ∧ (t.line p).cands = []) ∧
    (s.time.running = true → p < 4 → ∃ t, exec .secondBoundary s = .next t ∧
      t.time.sec = (s.time.sec + 1) % 2 ^ 48 ∧ t.time.ns = 0 ∧
      if s.flag F.TIM_STAT_VALID = true then (t.line p).secUnc = 0 ∧ t.get F.LHL_PM_CTL_PM_VALID = 1 ∧
        t.get (F.LHL_PM_UNC_COUNT.ix p) = min (s.line p).secUnc (2 ^ 32 - 1)
      else t.lhl = s.lhl ∧ t.get F.LHL_PM_CTL_PM_VALID = 0)

/-- Swaps, protection and line registers (R236, R241, R243, R244, R247, R248, R254, R255). A swap armed too late is refused;
one armed can be taken back before frame N − 16; the window writes the page that is not active; a defect whose hold-off
ends raises its group's request, WTR ends, a command sets the group's request, and the selector follows the request in
force; the lanes of an enabled port lock unless its laser die is cold (R432); the clear returns the counters to 0.

Rests on a choice of the model: log entry 50. -/
def Obligations.LineSwitchCommands : Prop :=
  ∀ (s : State) p, s.canonical = true →
    (s.takesWrite 16 = true → s.flt.armed = [] → p < 4 → ∃ t, exec (.swapArm p) s = .next t ∧
      if s.get64 (F.TSI_SWAP_AT_LO_FNUM.ix p) (F.TSI_SWAP_AT_HI_FNUM.ix p) < s.txFnum p + 17 then
        t.newest = some (0xA4, .ce, locLine p) ∧ t.line p = s.line p
      else (t.line p).armed = some (s.get64 (F.TSI_SWAP_AT_LO_FNUM.ix p) (F.TSI_SWAP_AT_HI_FNUM.ix p)) ∧
        t.getBit F.TSI_STAT_ARMED p = true) ∧
    (∀ n, s.takesWrite 16 = true → (s.line p).armed = some n → ∃ t, exec (.swapCancel p) s = .next t ∧
      if s.txFnum p + 16 < n then (t.line p).armed = none ∧ t.getBit F.TSI_STAT_ARMED p = false else t = s) ∧
    (s.takesWrite 16 = true → p < 4 → ∃ t, exec (.rxReady p) s = .next t ∧ t.getBit F.TSI_STAT_RX_READY p = true) ∧
    (∀ rx slot entry, s.takesWrite 16 = true → ∃ t, exec (.tsiWindowWrite rx p slot entry) s = .next t ∧
      t.pageEntry p (b2n rx) (1 - s.activePage p (b2n rx)) slot = entry / 2 ^ 15 % 2 * 2 ^ 15 + entry % 256 ∧
      ∀ n, slot < 64 → n < 64 → t.pageEntry p (b2n rx) (s.activePage p (b2n rx)) n =
        s.pageEntry p (b2n rx) (s.activePage p (b2n rx)) n) ∧
    (∀ degrade, ∃ t, exec (.holdOffEnd p degrade) s = .next t ∧
      if s.getBit (if degrade then F.LHL_STAT_SD else F.LHL_STAT_SF) p = true then
        (match isProtection p, degrade with
          | false, false => (t.group (groupOf p)).sfW
          | false, true => (t.group (groupOf p)).sdW
          | true, false => (t.group (groupOf p)).sfP
          | true, true => (t.group (groupOf p)).sdP) = true
      else t = s) ∧
    (∀ g, ∃ t, exec (.wtrExpiry g) s = .next t ∧ if (s.group g).wtr = true then (t.group g).wtr = false ∧
      t.get (F.LHL_PG_STAT_WTR_LEFT.ix g) = 0 else t = s) ∧
    (∀ g cmd, s.takesWrite 15 = true → ∃ t, exec (.lhlPgCmd g cmd) s = .next t ∧ t.get (F.LHL_PG_CMD_CMD.ix g) = cmd % 4 ∧
      (s.get (F.LHL_PG_CFG_MODE.ix g) = 1 → cmd = 1 → t.get (F.LHL_PG_STAT_REQ.ix g) = 9)) ∧
    (∀ g us, s.flt.armed = [] → ∃ t, exec (.protectionSwitch g us) s = .next t ∧ if s.get (F.LHL_PG_CFG_MODE.ix g) = 0 ∨
        toProtection (s.get (F.LHL_PG_STAT_REQ.ix g)) = s.flag (F.LHL_PG_STAT_SELECTED.ix g) then t = s
      else t.flag (F.LHL_PG_STAT_SELECTED.ix g) = toProtection (s.get (F.LHL_PG_STAT_REQ.ix g)) ∧
        t.get (F.LHL_PG_LAST_US.ix g) = min us 65535 ∧
        t.get (F.LHL_PG_LAST_SWITCHES.ix g) = satAdd 16 (s.get (F.LHL_PG_LAST_SWITCHES.ix g)) 1) ∧
    (s.takesWrite 15 = true → ∃ t, exec (.lhlCntClr p) s = .next t ∧ t.get (F.LHL_CNT_CAND_FULL.ix p) = 0 ∧
      t.get (F.LHL_CNT_FNUM_JUMP.ix p) = 0 ∧ t.get (F.LHL_CNT_MSG_BAD.ix p) = 0 ∧ t.get (F.LHL_CNT_LOA.ix p) = 0 ∧
      t.get (F.LHL_PM_SECS_ES.ix p) = 0 ∧ t.get (F.LHL_PM_SECS_SES.ix p) = 0 ∧ t.get (F.LHL_PM_SECS_FE_ES.ix p) = 0) ∧
    (bit (beAt (imgBody s.image 0x8009 0) (32 + 16 * p) 1) 7 = true → s.img.first = true → s.causeOn p = false →
      s.fatal = false → ∃ t, exec (.lineLanesLocked p) s = .next t ∧ if s.portCold (16 + p) = true then t = s
      else t.get (F.LHL_PORT_STAT_LOS.ix p) = 0 ∧ (t.line p).txOn = true ∧
        (s.get (F.LHL_ALIGN_STAT_STATE.ix p) = 0 → t.get (F.LHL_ALIGN_STAT_STATE.ix p) = 1))

/-- Segments (R21, R29, R256–R260, R266, R282, R286, R288, R331). A segment that may cross the line, handed over on a
running flow with room in its window and in the retain buffer, takes the next SEQ and waits in Sluice; a full window holds it
back; a received segment whose tag fails is counted, one received before or of another step is STALE, and one that is new
puts its block at its place; zero stands in the place of an absent peer's object; a STEP_CTL with this gateway's digest
counts for its site, and any other abandons the step; the clear returns a flow's counters to 0.

Rests on choices of the model: log entries 51, 69. -/
def Obligations.SegmentCommands : Prop :=
  ∀ (s : State) (r : FlowRec), s.canonical = true →
    (∀ q : SegReq, imgFlow s.image q.flow = some r → r.flow = q.flow → (s.txFlow q.flow).owed = [] →
      q.kind ≠ 1 ∨ s.ctlSent r (s.building % 2 ^ 32, s.commitMask) = true → ∃ t, exec (.segmentHandoff q) s = .next t ∧
      if s.mayCross r q = false ∨ s.flowSends r = false ∨ r.win ≤ seqAhead (s.txNextSeq q.flow) (s.ackCum q.flow) then t = s
      else ∀ k ke, s.txKey r = .key k ke →
        let x := s.rangeFaults 0 (if q.kind = 3 ∨ q.kind = 5 then [] else [(q.addr, min q.len 16384)]) []
        x.1 = false → s.retainFits (x.2.makeSeg r q k ke).1.wire.length = true →
        t.txNextSeq q.flow = seq48 (s.txNextSeq q.flow + 1) ∧
        ∃ y : QSeg, y.seg.req = q ∧ y.seg.seq = s.txNextSeq q.flow ∧
          ((∃ x ∈ t.slu.queues, y ∈ x.2) ∨ ∃ l, Tab.find t.slu.held q.flow = some l ∧ y ∈ l)) ∧
    (∀ p f place bs key, imgFlow s.image f = some r → r.receives = true → s.fatal = false → s.cryPaused = false →
      (bit s.commitMask r.site && s.absentPeer r.site && r.gw == imgGw s.image) = false →
      s.flt.armed = [] → bs = skipFill (Tab.get [] (s.line p).rx f).length (Tab.get [] (s.line p).rx f) →
      segStart bs = true → (parseSeg bs).length ≤ bs.length → s.lineBuffer p (parseSeg bs).length = none →
      kepochOk (parseSeg bs).kepoch (s.get (F.CRY_KSLOT_EPOCH_KEPOCH_MIN.ix r.kslot)) = true →
      s.rxKey r (parseSeg bs).kepoch = some key → s.noRefusals → ∃ t, exec (.segmentReceive p f place) s = .next t ∧
      let h := parseSeg bs
      let iv := segIv h.kepoch h.flow h.seq
      let ct := slice bs 32 (16 * h.blen.sum)
      if gcmTag key iv (bs.take 32) ct ≠ slice bs (32 + 16 * h.blen.sum) 16 ∨ h.flow ≠ r.flow then
        t.get (F.MLR_FLOW_CNT_A_TAG_FAIL.ix r.flow) = satAdd 16 (s.get (F.MLR_FLOW_CNT_A_TAG_FAIL.ix r.flow)) 1
      else if s.gotSeq r.flow h.seq = true ∨
          (seqLess h.seq (seq48 (s.rxCum r.flow + r.win)) = true ∧ s.belongs r.site h = false) then
        t.get (F.MLR_FLOW_CNT_B_STALE.ix r.flow) = satAdd 16 (s.get (F.MLR_FLOW_CNT_B_STALE.ix r.flow)) 1
      else ∀ d, seqLess h.seq (seq48 (s.rxCum r.flow + r.win)) = true → h.kind ≠ 3 → h.kind ≠ 5 →
        decodeAll (s.btables.map Prod.snd) (segBlocks h.blen (gcmXor key iv ct)) = .ok [d] →
        s.openRange (place.addr + 4096 * h.blk) (d.take (place.bytes - 4096 * h.blk)).length →
        ∀ j b, (d.take (place.bytes - 4096 * h.blk))[j]? = some b → t.readByte (place.addr + 4096 * h.blk + j) = b) ∧
    (∀ p f (place : SegPlace), imgFlow s.image f = some r → r.receives = true → s.fatal = false → s.cryPaused = false →
      (bit s.commitMask r.site && s.absentPeer r.site && r.gw == imgGw s.image) = true →
      (f, place.addr) ∉ s.mlr.zeroed → s.openRange place.addr place.bytes → s.noRefusals →
      ∃ t, exec (.segmentReceive p f place) s = .next t ∧ ∀ i < place.bytes, t.readByte (place.addr + i) = 0#8) ∧
    (∀ c rest, s.mlr.ctl = c :: rest → s.flt.armed = [] → s.noneWait → (∀ k, (s.pool k).waiting = []) →
      ∃ t, exec .stepCtl s = .next t ∧ t.mlr.ctl = rest ∧
      if c.digest = s.shardDigest then ((imgFlow s.image c.flow).map fun r => r.site).getD 0 ∈ t.mbr.stepCtl
      else t.newest = some (0xB4, .uc, s.locFlow c.flow) ∧
        (s.get F.UPD_STEP_STAT_STATE ≠ 0 → t.step.abandoned = true)) ∧
    (∀ f, s.takesWrite 17 = true → ∃ t, exec (.mlrFlowCntClr f) s = .next t ∧ t.get (F.MLR_FLOW_CNT_A_RESENT.ix f) = 0 ∧
      t.get (F.MLR_FLOW_CNT_A_TAG_FAIL.ix f) = 0 ∧ t.get (F.MLR_FLOW_CNT_B_REPLACED.ix f) = 0 ∧
      t.get (F.MLR_FLOW_CNT_B_STALE.ix f) = 0 ∧ t.get (F.MLR_FLOW_STAT_DELIM_LOSS.ix f) = 0)

/-- Acknowledgements (R261–R264, Table MLR-3). An acknowledgement raises the sender's view of CUM and frees what it
covers; a request for raw data replaces a retained segment; a VOID over the next SEQ moves the receiver's CUM on; the
timer sends CUM and the map on every port that carries the flow's receive slots; a segment whose RTO passes is sent again,
or its flow fails at the limit; voided ranges are named again on every port that carries its transmit slots.

Echoes (R267). A request waits for the port's next frame; a request received is answered with its time and the time of
its frame; the reply to a request that waits ends it and moves the port's smoothed round-trip time and its variation, or sets them anew
when two in succession lie beyond the same side of PATH_US.

Rests on a choice of the model: log entry 52. -/
def Obligations.AcknowledgementAndEchoCommands : Prop :=
  (∀ (s u : State) (h : Heard) (r : FlowRec), s.canonical = true →
    (∀ k, k < 2 → s.takeHeard (isForm k) = some (h, u) → imgFlow s.image (beAt h.body 0 1) = some r → r.sends = true →
      r.site < 8 → ∃ t, exec (if k = 0 then .ack else .ackMap) s = .next t ∧ t.getBit F.MBR_STAT_REACH r.site = true ∧
        t.ackCum (beAt h.body 0 1) = (if seqLess (s.ackCum (beAt h.body 0 1)) (beAt h.body 2 6) then beAt h.body 2 6
          else s.ackCum (beAt h.body 0 1)) % 2 ^ 64 ∧
        ∀ y ∈ t.mlr.retain, y.flow = beAt h.body 0 1 → seqLess (s.ackCum (beAt h.body 0 1)) (beAt h.body 2 6) = true →
          seqLess y.seq (beAt h.body 2 6) = false) ∧
    (s.takeHeard (isForm 2) = some (h, u) → beAt h.body 1 1 / 16 = 1 → ∃ t, exec .rawReq s = .next t ∧
      if (u.takeSource (beAt h.body 0 1) (beAt h.body 2 6)).isSome = true then
        t.get (F.MLR_FLOW_CNT_B_REPLACED.ix (beAt h.body 0 1)) =
          satAdd 16 (s.get (F.MLR_FLOW_CNT_B_REPLACED.ix (beAt h.body 0 1))) 1
      else t = u) ∧
    (s.takeHeard (isForm 3) = some (h, u) → imgFlow s.image (beAt h.body 0 1) = some r → r.receives = true →
      beAt h.body 8 2 = 1 → beAt h.body 2 6 = s.rxCum (beAt h.body 0 1) → (s.rxFlow (beAt h.body 0 1)).got = [] →
      ∃ t, exec .voidRange s = .next t ∧ t.rxCum (beAt h.body 0 1) = seq48 (s.rxCum (beAt h.body 0 1) + 1)) ∧
    (∀ f, imgFlow s.image f = some r → r.receives = true → s.fatal = false → ∃ t, exec (.ackTimer f) s = .next t ∧
      (t.rxFlow f).news = 0 ∧ (t.rxFlow f).raw = [] ∧ ((s.rxFlow f).raw = [] → ∀ p < 4, 0 < s.slotCount p 1 f →
        (t.line p).out = (s.line p).out ++ [.ack (beBytes 1 f ++ [1#8] ++ beBytes 6 (s.rxCum f) ++ s.ackMap f)])) ∧
    (∀ f seq y, (s.mlr.retain.find? fun y => y.flow == f && y.seq == seq) = some y → s.fatal = false →
      s.flowState f = 1 → s.flt.armed = [] → ∃ t, exec (.rtoExpiry f seq) s = .next t ∧
      if ((imgFlow s.image f).map fun r => r.retx).getD 255 ≤ y.sends then
        t.flowState f = 2 ∧ t.newest = some (0xB1, .uc, s.locFlow f)
      else s.pickPort f ≠ none → ∃ q ∈ t.slu.queues, ∃ z ∈ q.2, z.seg.flow = f ∧ z.seg.seq = seq) ∧
    (∀ f, s.flowState f = 1 → s.fatal = false → ∃ t, exec (.voidRepeat f) s = .next t ∧
      ∀ p < 4, 0 < s.slotCount p 0 f → (t.line p).out = (s.line p).out ++ (s.txFlow f).voids.map fun v =>
        .ack (beBytes 1 f ++ [3#8] ++ beBytes 6 v.first ++ beBytes 2 v.count))) ∧
  (∀ (s u : State) (h : Heard), s.canonical = true →
    (∀ p, s.fatal = false → (s.line p).txOn = true → ∃ t, exec (.echoTimer p) s = .next t ∧
      (t.line p).out = (s.line p).out ++ [.echoReq]) ∧
    ((s.takeHeard fun h => h.typ == 2) = some (h, u) → s.fatal = false → ∃ t, exec .echoRequest s = .next t ∧
      (t.line h.port).out = (s.line h.port).out ++ [.echoReply (beAt h.body 0 8) (stampNs h.stamp)]) ∧
    ((s.takeHeard fun h => h.typ == 3) = some (h, u) → h.port < 4 → s.flt.armed = [] → ∃ t, exec .echoReply s = .next t ∧
      let m := (signed 64 (unsigned 64 ((stampNs h.stamp : Int) - beAt h.body 0 8 -
        ((beAt h.body 16 8 : Int) - beAt h.body 8 8)))).toNat
      let srtt := s.get (F.MLR_PORT_RTT_NS.ix h.port)
      let var := s.get (F.MLR_PORT_RTTVAR_NS.ix h.port)
      let old := Tab.get 0 s.mlr.away h.port
      let path := 1000 * s.get F.MLR_CFG_PATH_US
      if beAt h.body 0 8 ∈ Tab.get [] s.mlr.echoes h.port then
        Tab.get [] t.mlr.echoes h.port = (Tab.get [] s.mlr.echoes h.port).erase (beAt h.body 0 8) ∧
        if (srtt + path < m ∧ old = 1) ∨ (m + path < srtt ∧ old = 2) then
          t.get (F.MLR_PORT_RTT_NS.ix h.port) = m % 2 ^ 32 ∧ t.get (F.MLR_PORT_RTTVAR_NS.ix h.port) = m / 8 % 2 ^ 32
        else t.get (F.MLR_PORT_RTT_NS.ix h.port) = ((srtt : Int) + ((m : Int) - srtt) / 8).toNat % 2 ^ 32 ∧
          t.get (F.MLR_PORT_RTTVAR_NS.ix h.port) =
            ((var : Int) + ((((m : Int) - srtt).natAbs : Int) - var) / 4).toNat % 2 ^ 32
      else t = u))

/-- Epochs, notices, reach and partitions (R22, R270, R271, R273, R275, R276). A newer epoch installs the standby tables, and
what it says of this device decides whether it is fenced; any other is EPOCH_REFUSED. A notice with a newer epoch, or one
that names the device absent, fences it; any other is kept, its reach reports with the ages it gives. Notices leave on the
port; a reach entry that expired and a silent site's bit go. A partition sets the side as the commit set, starts the pin
and holds a minority side by MINORITY; a side that goes on discards its partial sums and exchanges anew.

Rests on choices of the model: log entries 44, 54. -/
def Obligations.MembershipCommands : Prop :=
  ∀ s : State, s.canonical = true →
    (∀ e, s.takesWrite 25 = true → e < 2 ^ 32 → ∃ t, exec (.mbrEpoch e) s = .next t ∧
      if newer e s.epoch = true ∧ s.forcedAt 0xB9 (locChip 0x18) = false then
        t.epoch = e ∧ t.sites = s.get F.MBR_NEXT_SITES_SITES % 256 ∧ t.mbr.prevEpoch = some s.epoch ∧
        t.mbr.prevSites = s.sites ∧ t.mbr.prevGw = s.mbr.gw ∧ t.mbr.prevFab = s.mbr.fab ∧
        (∀ site gw, site < 8 → gw < 128 → t.memberGw site gw =
          (bit t.sites site && bit (s.get (F.MBR_GW_MEM_MEMBERS.ix (4 * site + gw / 32))) (gw % 32))) ∧
        (∀ id, id < 2 ^ 20 → t.memberEp id = bit (s.get (F.MBR_FAB_MEM_MEMBERS.ix (id / 32))) (id % 32)) ∧
        (t.selfMember = false → t.fenced = true) ∧ (t.selfMember = true → t.fenced = false)
      else t.newest = some (0xB9, .ce, locChip 0x18) ∧ t.get F.MBR_EVT_REFUSED = 1 ∧ t.epoch = s.epoch ∧
        t.mbr = s.mbr) ∧
    (∀ absent h u, (s.takeHeard fun h => h.typ == 5) = some (h, u) → ∃ t, exec (.membershipNotice absent) s = .next t ∧
      (absent = true ∨ newer (beAt h.body 0 4) s.epoch = true → s.fenced = false →
        t.fenced = true ∧ t.newest = some (0xB8, .uc, locChip 0x18)) ∧
      (absent = false → (t.siteInfo (beAt h.body 4 1 % 8)).commit = beAt h.body 6 1 ∧
        (t.siteInfo (beAt h.body 4 1 % 8)).oepoch = beAt h.body 8 8 ∧
        (t.siteInfo (beAt h.body 4 1 % 8)).pinEpoch = beAt h.body 16 8 ∧
        (t.siteInfo (beAt h.body 4 1 % 8)).pinMask = beAt h.body 24 1 ∧
        ∀ i, i < 8 → i ≠ s.site → s.get (F.MBR_REACH_AGE_MS.ix i) = 0xFFFF → beAt h.body (33 + 4 * i) 2 ≤ 60000 →
          t.get (F.MBR_REACH_MASK.ix i) = beAt h.body (32 + 4 * i) 1 ∧
          t.get (F.MBR_REACH_AGE_MS.ix i) = beAt h.body (33 + 4 * i) 2)) ∧
    (∀ p, ∃ t, exec (.noticeTimer p) s = .next t ∧
      (t.line p).out = (s.line p).out ++ [.notice (s.growAges.noticeBody true)]) ∧
    (∀ i, i < 8 → ∃ t, exec (.noticeEntryExpiry i) s = .next t ∧ t.get (F.MBR_REACH_MASK.ix i) = 0 ∧
      t.get (F.MBR_REACH_AGE_MS.ix i) = 0xFFFF ∧ ∀ j, j < 8 → j ≠ i →
        t.get (F.MBR_REACH_MASK.ix j) = s.get (F.MBR_REACH_MASK.ix j)) ∧
    (∀ i, i < 8 → ∃ t, exec (.reachTimeout i) s = .next t ∧
      ∀ j, j < 8 → t.getBit F.MBR_STAT_REACH j = if j = i ∧ i ≠ s.site then false else s.getBit F.MBR_STAT_REACH j) ∧
    (∀ i, s.getBit F.MBR_STAT_COMMIT i = true → s.getBit F.MBR_STAT_REACH i = false → s.fenced = false →
      ∃ t, exec (.partition i) s = .next t ∧ t.get F.MBR_STAT_STATE = 2 ∧ t.newest = some (0xBA, .uc, locChip 0x18) ∧
        t.commitMask = siteMask (s.side 8 (siteList s.commitMask)) ∧
        t.get F.MBR_STAT_OUTSIDE = b2n (!majority s.sites t.commitMask) ∧
        (s.flag F.MBR_STAT_PIN_HELD = false → s.mbr.pinCopy = none →
          t.mbr.pinCopy = some (s.outerEpoch, s.get F.UPD_ANCHOR_MASK_MASK) ∧
          t.get64 F.MBR_TOK_LO_TOKENS F.MBR_TOK_HI_TOKENS = 0) ∧
        (majority s.sites t.commitMask = false → s.flag F.MBR_CFG_MINORITY = false →
          s.get F.UPD_STEP_STAT_STATE < 3 ∨ 5 < s.get F.UPD_STEP_STAT_STATE → t.get F.UPD_STEP_STAT_STATE = 6) ∧
        (majority s.sites t.commitMask = true ∨ s.flag F.MBR_CFG_MINORITY = true →
          s.get F.UPD_STEP_STAT_STATE = 1 ∨ s.get F.UPD_STEP_STAT_STATE = 2 → t.step.exchanged = 0 ∧
            t.mlr.objs = s.mlr.objs.filter fun o => o.kind != 1))

/-- Pins, rejoin, merge and spare admission (R277, R279, R280, R283, R94). The pin completes with the version it began with
and the anchor's bytes; a fetched pin is held and recorded; a rejoin whose pins agree sets REJOIN_READY and, once every
side that rejoins is ready, starts the close step of a held side; the close counts the step's tally and enters MERGE; the merge shows the weights; its commit
raises the outer epoch, makes the union the commit set, sets EOFF, and releases the pin when every member site is in; GO
starts admission.

Rests on choices of the model: log entries 44, 54, 64. -/
def Obligations.PinAndMergeCommands : Prop :=
  ∀ s : State, s.canonical = true →
    (∀ v, s.mbr.pinCopy = some v → ∃ t, exec .pinComplete s = .next t ∧ t.mbr.pinCopy = none ∧
      t.get F.MBR_STAT_PIN_HELD = 1 ∧ t.get64 F.MBR_PIN_LO_EPOCH F.MBR_PIN_HI_EPOCH = v.1 % 2 ^ 64 ∧
      t.get F.MBR_PIN_MASK_MASK = v.2 % 256 ∧ t.getBit F.PND_STAT_LOST 1 = false ∧
      ∀ p o rest, (imgAreas s.image 9).head? = some p → imgAreas s.image 1 = o :: rest →
        4 * s.ownedParams ≤ p.2 → 4 * s.ownedParams ≤ o.2 → s.openRange p.1 (4 * s.ownedParams) →
        (∀ j < 4 * s.ownedParams, s.plain (o.1 + j) = true) →
        ∀ j < 4 * s.ownedParams, t.readByte (p.1 + j) = s.readByte (o.1 + j)) ∧
    (∀ e m, ∃ t, exec (.pinFetch e m) s = .next t ∧ t.get F.MBR_STAT_PIN_HELD = 1 ∧
      t.get64 F.MBR_PIN_LO_EPOCH F.MBR_PIN_HI_EPOCH = e % 2 ^ 64 ∧ t.get F.MBR_PIN_MASK_MASK = m % 256 ∧
      t.newest = some (0xBC, .ce, locChip 0x18)) ∧
    (s.get F.MBR_STAT_STATE = 2 → s.flag F.MBR_STAT_PIN_HELD = true → s.farSides.any s.rejoins = true →
      ∃ t, exec .rejoin s = .next t ∧ t.mbr.rejoinReady = true ∧ t.get F.MBR_STAT_STATE = 3 ∧
        (s.mbr.sides = [] → (s.farSides.filter s.rejoins).all s.sideReady = true → t.mbr.sides ≠ [] ∧
          (s.get F.UPD_STEP_STAT_STATE = 6 → t.get F.UPD_STEP_STAT_STATE = 1 ∧ t.mbr.closing = true))) ∧
    (s.get F.MBR_STAT_STATE = 3 → s.mbr.sides ≠ [] → ∃ t, exec .mergeClose s = .next t ∧ t.get F.UPD_STEP_STAT_STATE = 7 ∧
      t.mbr.closing = false ∧ t.get64 F.MBR_TOK_LO_TOKENS F.MBR_TOK_HI_TOKENS % 2 ^ 64 =
        if s.mbr.closing = true ∧ (s.flag F.MBR_STAT_PIN_HELD = true ∨ s.mbr.pinCopy ≠ none) then
          (s.get64 F.MBR_TOK_LO_TOKENS F.MBR_TOK_HI_TOKENS + s.mbr.tally) % 2 ^ 64
        else s.get64 F.MBR_TOK_LO_TOKENS F.MBR_TOK_HI_TOKENS % 2 ^ 64) ∧
    (s.get F.UPD_STEP_STAT_STATE = 7 → ∃ t, exec .merge s = .next t ∧ ∀ n side i : Nat, i < 8 → s.mergeSides[n]? = some side →
      bit side i = true → (∀ m < n, ∀ x, s.mergeSides[m]? = some x → bit x i = false) →
      t.get (F.UPD_MERGE_W_W.ix i) = (mergeWeight (s.sideTokens side) (s.mergeSides.map s.sideTokens).sum
        s.mergeSides.length).toNat) ∧
    (s.get F.UPD_STEP_STAT_STATE = 7 → s.fatal = false → s.fenced = false → ∃ t, exec .mergeCommit s = .next t ∧
      t.outerEpoch = (s.outerEpoch + 1) % 2 ^ 64 ∧ t.mbr.rejoinReady = false ∧ t.mbr.mergeIn = [] ∧
      t.get F.MBR_EVT_MERGED = (if s.causes.has F.MBR_EVT_MERGED.key = true then s.get F.MBR_EVT_MERGED else 1) ∧
      (∀ i < 8, t.getBit F.MBR_STAT_COMMIT i = s.mergeSides.any fun x => bit x i) ∧
      (∀ i < 8, (s.mergeSides.any fun x => bit x i) = true → t.get (F.MBR_EOFF_OFFSET.ix i) = if i = s.site then 0 else
        unsigned 32 (((((Tab.find s.mbr.mergeIn i).map Prod.snd).getD (s.siteInfo i).oepoch : Nat) : Int) - s.outerEpoch)) ∧
      (s.sites < 256 → (∀ i < 8, bit s.sites i = s.mergeSides.any fun x => bit x i) → t.get F.MBR_STAT_STATE = 0 ∧
        t.get F.MBR_STAT_PIN_HELD = 0 ∧ t.mbr.pinCopy = none ∧
        t.get64 F.MBR_TOK_LO_TOKENS F.MBR_TOK_HI_TOKENS = 0) ∧
      ((∃ i < 8, bit s.sites i ≠ s.mergeSides.any fun x => bit x i) → t.get F.MBR_STAT_STATE = 2)) ∧
    (∀ site far, s.takesWrite 25 = true → ∃ t, exec (.mbrAdmit site far) s = .next t ∧ t.mbr.admitting = true ∧
      t.get F.UPD_STEP_STAT_STATE = 8 ∧ t.get F.MBR_ADMIT_SITE = site % 8 ∧ t.get F.MBR_ADMIT_FROM_REMOTE = b2n far)

/-- The heartbeat's touch (R409). Writing TOUCH restarts the lease, HB_S seconds, and ends unattended mode, in every state of
the device, FATAL included. -/
def Obligations.HeartbeatTouchIsAccepted : Prop :=
  ∀ s : State, s.canonical = true → ∃ t, exec .heartbeatTouch s = .next t ∧
    t.get F.MBR_HB_LEFT_MS = 1000 * s.get F.MBR_HB_CFG_HB_S % 2 ^ 32 ∧ t.get F.MBR_STAT_UNATTENDED = 0

/-- The end of the heartbeat's lease (R123, R284). The device is unattended, and a HELD image is discarded.

The SMBus target (R435, Table ELE-7). Every command answers its word, low byte first, in every stage and in FATAL, and
changes nothing else.

Rests on choices of the model: log entries 2, 12, 17. -/
def Obligations.HeartbeatLapseAndSmbusCommands : Prop :=
  (∀ s : State, s.canonical = true →
    (s.flag F.MBR_STAT_UNATTENDED = false → s.get F.PWR_STAT_STAGE ≠ 0 → ∃ t, exec .hbLapse s = .next t ∧
      t.get F.MBR_STAT_UNATTENDED = 1 ∧ t.get F.MBR_HB_LEFT_MS = 0 ∧ t.newest = some (0xBD, .uc, locChip 0x18) ∧
      t.get F.UPD_STEP_STAT_UNATTENDED = b2n (s.get F.UPD_STEP_STAT_STATE != 0) ∧
      (s.img.next ≠ none → s.applying = false → s.fatal = false → t.img.next = none ∧ t.get F.IMG_STAT_REASON = 0x11 ∧
        t.get F.IMG_EVT_REJECTED = if s.causes.has F.IMG_EVT_REJECTED.key = true then s.get F.IMG_EVT_REJECTED else 1))) ∧
  (∀ s : State, s.canonical = true →
    (∃ t, exec .smbPart s = .next t ∧ t.smbBytes = [0xB1#8, 0x0A#8] ∧ { t with pcie := s.pcie } = s) ∧
    (∃ t, exec .smbStatus s = .next t ∧ { t with pcie := s.pcie } = s ∧ t.pcie.smbWord =
      (0xA100 + s.get F.PWR_STAT_STAGE * 16 + s.get F.FLT_STAT_ERRN_LOW * 2 + s.get F.FLT_STAT_FATAL) % 65536 ∧
      t.smbBytes = [BitVec.ofNat 8 t.pcie.smbWord, BitVec.ofNat 8 (t.pcie.smbWord / 256)]) ∧
    (∀ u, u < 24 → ∃ t, exec (.smbTemp (0x10 + u)) s = .next t ∧ { t with pcie := s.pcie } = s ∧
      t.pcie.smbWord = s.get (F.PWR_TEMP_NOW.ix u) % 65536) ∧
    (∀ m, m < 4 → ∃ t, exec (.smbVq (0x30 + m)) s = .next t ∧ { t with pcie := s.pcie } = s ∧
      t.pcie.smbWord = s.get (F.PWR_VQ_NOW_MV.ix m) % 65536) ∧
    (∀ r, r < 8 → ∃ t, exec (.smbRail (0x38 + r)) s = .next t ∧ { t with pcie := s.pcie } = s ∧
      t.pcie.smbWord = s.get (F.PWR_RAIL_NOW_MV.ix r) % 65536) ∧
    (∃ t, exec .smbPwrStat s = .next t ∧ { t with pcie := s.pcie } = s ∧
      t.pcie.smbWord = (s.get F.PWR_STAT_RAIL_BAD * 256 + s.get F.PWR_STAT_RAIL_WARN) % 65536) ∧
    (∀ c, ∃ t, exec (.smbOther c) s = .next t ∧ { t with pcie := s.pcie } = s ∧ t.pcie.smbWord = 0xFFFF))

/-- Bolter tables, windows and counters (R297, R299, R301, R302, R313). A staged table is installed once no retained segment
names the old epoch; a read gives the decoded bytes of the block, and one that meets a block which does not decode is
SHAPE_MEM; a write of part of a block writes nothing and is CMP_PARTIAL, a whole block of zeros or poison is entered in
the map as such; CMP_CNT_CLR clears the hub counters.

Rests on choices of the model: log entries 56, 58, 65. -/
def Obligations.BolterCommands : Prop :=
  ∀ s : State, s.canonical = true →
    (∀ n body, n < 8 → Tab.find s.cmp.staged n = some body → ∃ t, exec (.bolterTableInstall n) s = .next t ∧
      if s.get (F.CMP_SLOT_USE_RETAINED.ix n) = 0 then
        Tab.find t.cmp.slots n = some body ∧ Tab.find t.cmp.staged n = none ∧ t.get (F.CMP_SLOT_STAT_VALID.ix n) = 1
      else t = s) ∧
    (∀ a n x bs, (∀ j < n, s.windowOf (a + j) = some x ∧ s.readBlock x.2.2 (a + j) = .data bs) →
      ∃ t l, exec (.windowRead a n) s = .next t ∧ t.out.head? = some (.bytes a l) ∧ l.length = n ∧
        ∀ j < n, l[j]? = some ((bs[(a + j) % 4096]?).getD 0#8, !s.linkOk (a + j))) ∧
    (∀ a n f, s.windowFault a n = some f → ∃ t, exec (.windowRead a n) s = .next t ∧
      t.newest = some (0xC0, .uc, locChip (0x18 + s.bolterHub f.1))) ∧
    (∀ a data poison, s.windowWhole a data.length = false → ∃ t l, exec (.windowWrite a data poison) s = .next t ∧
      t.mem = s.mem ∧ t.newest = some (0xC2, .uc, l)) ∧
    (∀ a data poison x, a % 4096 = 0 → data.length = 4096 → s.windowOf a = some x → s.flt.armed = [] →
      (∀ j < 4096, s.mapped (a + j) = true ∧ s.linkOk (a + j) = true) →
      poison = true ∨ data.all (· == 0#8) = true → ∃ t, exec (.windowWrite a data poison) s = .next t ∧
        t.readBytes (x.2.2.map + 2 * ((a - x.2.2.base) / 4096)) 2 = if poison = true then [0xC0#8, 0#8] else [0#8, 0#8]) ∧
    (s.takesWrite 18 = true → ∃ t, exec .cmpCntClr s = .next t ∧ t.get F.CMP_FE_SOURCE = 0 ∧
      ∀ j < 2, t.get (F.CMP_HUB_CNT_RAW.ix j) = 0 ∧ t.get (F.CMP_HUB_CNT_SHAPE.ix j) = 0)

/-- The entropy source and the requests of the cipher engine (R304, R305, R306, R307). A failed health test pauses the engine,
counted and recorded; the start-up tests let it go on; 65,536 blocks draw entropy anew, unless an armed ENTROPY_FAIL fails its test; the oldest host request gives the
keystream of its derived key, or fails with KEY_ABSENT; GO queues CRY_HIN under the slot's configuration of that moment,
or fails; an armed KSLOT_LEASE ends the slot's lease first.

Link roots and key slots (R308, R309, R314, R315). INSTALL in MAINTENANCE mode takes the root and clears the key registers,
with RESET the epochs of its slots; ADVANCE raises a LINE slot's epoch and journals it, or is KEY_EXHAUSTED at 0xFFFF;
CLEAR and the end of a lease free a slot and fail its requests; OPEN starts the lease; CRY_CNT_CLR clears the counters.

Rests on choices of the model: log entries 10, 57. -/
def Obligations.CipherCommands : Prop :=
  (∀ s : State, s.canonical = true →
    (∀ apt, ∃ t, exec (.entropyFail apt) s = .next t ∧ t.cryPaused = true ∧ t.get F.CRY_STAT_ENTROPY_OK = 0 ∧
      t.newest = some (0xCB, .uc, locChip 0x18) ∧
      t.get F.CRY_ENT_APT_FAIL = (if apt = true then satAdd 16 (s.get F.CRY_ENT_APT_FAIL) 1 else s.get F.CRY_ENT_APT_FAIL) ∧
      t.get F.CRY_ENT_RCT_FAIL = if apt = true then s.get F.CRY_ENT_RCT_FAIL else satAdd 16 (s.get F.CRY_ENT_RCT_FAIL) 1) ∧
    (∃ t, exec .entropyRecovery s = .next t ∧ t.cryPaused = false ∧ t.get F.CRY_STAT_ENTROPY_OK = 1) ∧
    (∀ h, s.cryPaused = false → 65536 ≤ Tab.get 0 s.cry.sinceSeed h → ∃ t, exec (.maskReseed h) s = .next t ∧
      if s.forcedAt 0xCB (locChip 0x18) = true then t.cryPaused = true ∧ t.newest = some (0xCB, .uc, locChip 0x18)
      else t.gen.draws = s.gen.draws + 1 ∧ Tab.get 0 t.cry.sinceSeed h = Tab.get 0 s.cry.sinceSeed h - 65536) ∧
    (∀ r rest, s.cry.queue = r :: rest → s.cryPaused = false → s.flt.armed = [] → ∃ t, exec (.cipherRequest 0) s = .next t ∧
      t.cry.queue = rest ∧ t.get F.CRY_HSTAT_BUSY = 0 ∧
      match (if r.use = 2 then s.rootOf r.root else none) with
      | some root => t.get F.CRY_HSTAT_ERR = 0 ∧ t.flt = s.flt ∧ ∀ w < 64, t.get (F.CRY_HOUT_DATA.ix w) =
          beAt (r.blocks.flatMap (Sys2Proof.Machine.aes256 (deriveKey root (ascii "QKAB-HOST" ++ r.label))) ++ List.replicate 256 0#8)
            (4 * w) 4
      | none => t.get F.CRY_HSTAT_ERR = 1 ∧ t.newest = some (0xC8, .uc, locChip 0x18)) ∧
    (∀ k n, s.takesWrite 19 = true → s.flag F.CRY_HSTAT_BUSY = false → k < 64 → n < 32 →
      ∃ t, exec (.hostRequest k n) s = .next t ∧
      if s.cry.leased.has k = true ∧ s.forcedAt 0xCC (locChip 0x18) = true then t.cry.leased.has k = false ∧
        t.newest = some (0xCC, .ce, locChip 0x18)
      else if n = 0 ∨ 16 < n ∨ 256 ≤ s.cry.queue.length then t.get F.CRY_HSTAT_ERR = 1 ∧ t.cry.queue = s.cry.queue
      else t.get F.CRY_HSTAT_BUSY = 1 ∧ ∃ r, t.cry.queue = s.cry.queue ++ [r] ∧ r.slot = k ∧ r.blocks.length = n ∧
        r.use = (if s.cry.leased.has k = true then s.get (F.CRY_KSLOT_CFG_USE.ix k) else 0) ∧
        r.root = s.get (F.CRY_KSLOT_CFG_ROOT.ix k) ∧
        ∀ b < n, r.blocks[b]? = some ((List.range 4).flatMap fun i => beBytes 4 (s.get (F.CRY_HIN_DATA.ix (4 * b + i)))))) ∧
  (∀ s : State, s.canonical = true → s.takesWrite 19 = true →
    (∀ i reset, i < 8 → s.maintenance = true → ∃ t, exec (.install i reset) s = .next t ∧
      Tab.find t.cry.roots i = some ((List.range 8).flatMap fun w => beBytes 4 (s.get (F.CRY_LROOT_KEY_KEY.ix w))) ∧
      t.getBit F.CRY_STAT_LROOTS i = true ∧ (∀ w < 8, t.get (F.CRY_LROOT_KEY_KEY.ix w) = 0) ∧
      (reset = true → ∀ n, 8 ≤ n → n < 64 → s.get (F.CRY_KSLOT_CFG_ROOT.ix n) = i + 1 →
        t.get (F.CRY_KSLOT_EPOCH_KEPOCH_TX.ix n) = 0 ∧ t.get (F.CRY_KSLOT_EPOCH_KEPOCH_MIN.ix n) = 0)) ∧
    (∀ i reset, s.maintenance = false → ∃ t, exec (.install i reset) s = .next t ∧ t.cry = s.cry) ∧
    (∀ k, 8 ≤ k → k < 64 → s.get (F.CRY_KSLOT_CFG_USE.ix k) = 1 → s.flt.armed = [] → ∃ t, exec (.advance k) s = .next t ∧
      if s.get (F.CRY_KSLOT_EPOCH_KEPOCH_TX.ix k) = 0xFFFF then
        t.get (F.CRY_KSLOT_EPOCH_KEPOCH_TX.ix k) = 0xFFFF ∧ t.newest = some (0xCA, .uc, locChip 0x18)
      else t.get (F.CRY_KSLOT_EPOCH_KEPOCH_TX.ix k) = (s.get (F.CRY_KSLOT_EPOCH_KEPOCH_TX.ix k) + 1) % 65536 ∧
        t.get F.PST_STAT_JRN_QUEUED = 1) ∧
    (∀ k, 8 ≤ k → k < 64 → ∃ t, exec (.kslotClear k) s = .next t ∧ t.get (F.CRY_KSLOT_CFG_USE.ix k) = 0 ∧
      t.cry.leased.has k = false ∧ t.cry.queue = s.cry.queue.filter fun r => r.slot != k) ∧
    (∀ k, 8 ≤ k → k < 64 → s.get (F.CRY_KSLOT_CFG_USE.ix k) = 2 → ∃ t, exec (.kslotOpen k) s = .next t ∧
      t.cry.leased.has k = true ∧
      t.get (F.CRY_KSLOT_LEASE_MS.ix k) = 1000 * s.get F.CRY_LEASE_CFG_SEC % 2 ^ F.CRY_KSLOT_LEASE_MS.width) ∧
    (∀ k, k < 64 → s.cry.leased.has k = true → ∃ t, exec (.kslotLease k) s = .next t ∧ t.get (F.CRY_KSLOT_CFG_USE.ix k) = 0 ∧
      t.cry.leased.has k = false ∧ (t.cry.queue = s.cry.queue.filter fun r => r.slot != k) ∧
      t.newest = some (0xCC, .ce, locChip 0x18)) ∧
    (∃ t, exec .cryCntClr s = .next t ∧ t.get F.CRY_CNT_REJECT = 0 ∧ t.get F.CRY_CNT_ABSENT = 0 ∧
      t.get F.CRY_ENT_APT_FAIL = 0 ∧ t.get F.CRY_ENT_RCT_FAIL = 0 ∧ t.get F.CRY_FE_SOURCE = 0))

/-- Changing network time (R316, R318, R319, R320, R343). The HI write commits an increment in range; SET, STEP and SLEW wait
for the next tick where the status mode permits, and are otherwise REFUSED; at the tick a set or a step moves time with
the retained segments' times, discards the echoes in flight, and a set makes time valid; a slew ends with all of its
nanoseconds added; TIM_SNAP copies H0's time.

Rests on choices of the model: log entries 2, 55. -/
def Obligations.TimeChangeCommands : Prop :=
  ∀ s : State, s.canonical = true →
    (∀ hi, s.takesWrite 20 = true → hi < 256 → ∃ t, exec (.timInc hi) s = .next t ∧
      if 6 * 2 ^ 32 ≤ hi * 2 ^ 32 + (Tab.find s.heldLo 0x01400040).getD (s.get F.TIM_INC_LO_INC) % 2 ^ 32 ∧
          10 * (hi * 2 ^ 32 + (Tab.find s.heldLo 0x01400040).getD (s.get F.TIM_INC_LO_INC) % 2 ^ 32) ≤ 68 * 2 ^ 32 then
        t.time.nextInc = some (hi * 2 ^ 32 + (Tab.find s.heldLo 0x01400040).getD (s.get F.TIM_INC_LO_INC) % 2 ^ 32) ∧
          t.get F.TIM_INC_HI_INC = hi ∧ t.get F.TIM_STAT_HOLDOVER = 0
      else t.time = s.time ∧ t.regs = s.regs) ∧
    (s.takesWrite 20 = true → ∃ t, exec .timSet s = .next t ∧
      if 1000000000 ≤ s.get F.TIM_SET_NS_VALUE then t.time = s.time
      else if s.flag F.TIM_STAT_VALID = true ∧ s.maintenance = false then t.time = s.time ∧ t.get F.TIM_EVT_REFUSED = 1
      else t.time.nextSet = some (s.get F.TIM_SET_SEC_LO_VALUE + s.get F.TIM_SET_SEC_HI_VALUE % 65536 * 2 ^ 32,
        s.get F.TIM_SET_NS_VALUE)) ∧
    (s.takesWrite 20 = true → ∃ t, exec .timStep s = .next t ∧
      if s.maintenance = true then t.time.nextStep = some (signed 32 (s.get F.TIM_ADJ_NS))
      else t.time = s.time ∧ t.get F.TIM_EVT_REFUSED = 1) ∧
    (s.takesWrite 20 = true → ∃ t, exec .timSlew s = .next t ∧
      t.time.nextSlew = some (signed 32 (s.get F.TIM_ADJ_NS) * 2 ^ 32)) ∧
    (∀ n : Nat, s.flag F.TIM_STAT_SLEWING = true → s.time.running = true →
      ((s.totalNs * 2 ^ 32 + s.time.frac : Nat) : Int) + s.time.slewLeft = (n : Int) → n < 2 ^ 48 * 1000000000 * 2 ^ 32 →
      ∃ t, exec .slewEnd s = .next t ∧ t.totalNs * 2 ^ 32 + t.time.frac = n ∧ t.time.slewLeft = 0 ∧
        t.get F.TIM_STAT_SLEWING = 0) ∧
    (∀ sec ns, s.time.running = true → s.time.nextSet = some (sec, ns) → s.time.nextStep = none → sec < 2 ^ 48 →
      ns < 1000000000 → ∃ t, exec .timeStep s = .next t ∧ t.time.sec = sec ∧ t.time.ns = ns ∧ t.time.frac = 0 ∧
        t.get F.TIM_STAT_VALID = 1 ∧ t.time.nextSet = none ∧ t.mlr.echoes = [] ∧ t.newest = some (0xD2, .ce, locTime 0) ∧
        t.mlr.retain = s.mlr.retain.map fun x =>
          { x with sentAt := moved (((sec * 1000000000 + ns : Nat) : Int) - s.totalNs) x.sentAt }) ∧
    (∀ d (n : Nat), s.time.running = true → s.time.nextSet = none → s.time.nextStep = some d →
      (s.totalNs : Int) + d = (n : Int) → n < 2 ^ 48 * 1000000000 → ∃ t, exec .timeStep s = .next t ∧ t.totalNs = n ∧
        t.time.nextStep = none ∧ t.mlr.echoes = [] ∧ t.newest = some (0xD2, .ce, locTime 0) ∧
        t.mlr.retain = s.mlr.retain.map fun x => { x with sentAt := moved d x.sentAt }) ∧
    (s.takesWrite 20 = true → s.time.sec < 2 ^ 48 → s.time.ns < 1000000000 → s.time.frac < 2 ^ 32 →
      ∃ t, exec .timSnap s = .next t ∧ t.get F.TIM_SNAP_SEC_LO_VALUE = s.time.sec % 2 ^ 32 ∧
        t.get F.TIM_SNAP_SEC_HI_VALUE = s.time.frac / 65536 * 65536 + s.time.sec / 2 ^ 32 ∧
        t.get F.TIM_SNAP_NS_VALUE = s.time.ns)

/-- REFCLK_T, the second time unit, PPS and IEEE 1588 (R318, R321, R322, R325, R326, R342, R343). The loss of REFCLK_T holds time,
makes it invalid and takes every optical port down; its return lets time count again, still invalid; H1 takes H0's time when
they differ by more than 4 ns; PPS edges are stamped and counted; a PTP message is checked and forwarded, never back; the
host's messages and queue follow TIM_PTP_TXCTL and POP.

Rests on choices of the model: log entries 53, 55. -/
def Obligations.ClockAndMessageCommands : Prop :=
  ∀ (s u : State) (h : Heard), s.canonical = true →
    (s.causes.has F.TIM_EVT_REFCLK_LOSS.key = false → ∃ t, exec .refclkLoss s = .next t ∧ t.time.running = false ∧
      t.get F.TIM_STAT_VALID = 0 ∧ t.get F.TIM_STAT_REFCLK_OK = 0 ∧ t.time.sec = s.time.sec ∧ t.time.ns = s.time.ns ∧
      t.causes.has F.TIM_EVT_REFCLK_LOSS.key = true ∧ ∀ d < 4, (LinkCause.refclk, d) ∈ t.pwr.causes) ∧
    (s.causes.has F.TIM_EVT_REFCLK_LOSS.key = true → ∃ t, exec .refclkReturn s = .next t ∧
      t.time = { s.time with running := true } ∧ t.get F.TIM_STAT_REFCLK_OK = 1 ∧
      t.get F.TIM_STAT_VALID = s.get F.TIM_STAT_VALID ∧ ∀ d < 4, (LinkCause.refclk, d) ∉ t.pwr.causes) ∧
    (∀ diff, s.time.running = true → s.flt.armed = [] → ∃ t, exec (.timeUnitSync diff) s = .next t ∧
      if 4 < diff ∨ diff < -4 then t.time.skew = 0 ∧ t.newest = some (0xD1, .ce, locTime 1)
      else t.time.skew = max (-1) (min 1 diff) ∧ t.flt = s.flt) ∧
    (s.time.running = true → ∃ t, exec .holdover s = .next t ∧ t.get F.TIM_STAT_HOLDOVER = 1) ∧
    (∃ t, exec .ppsInEdge s = .next t ∧ t.get F.TIM_STAT_PPS_IN_SEEN = 1 ∧
      t.get64 F.TIM_PPS_IN_LO_NS64 F.TIM_PPS_IN_HI_NS64 = s.ns64 % 2 ^ 64 ∧
      t.get F.TIM_PPS_IN_CNT_EDGES = satAdd 16 (s.get F.TIM_PPS_IN_CNT_EDGES) 1) ∧
    (s.flag F.TIM_STAT_PPS_IN_SEEN = true → s.time.running = true → ∃ t, exec .ppsInLost s = .next t ∧
      t.get F.TIM_STAT_PPS_IN_SEEN = 0 ∧ t.newest = some (0xD3, .ce, locTime 0)) ∧
    (s.flag F.TIM_PPS_CFG_OUT_EN = true → s.flag F.TIM_STAT_VALID = true → ∃ t, exec .ppsOutEdge s = .next t ∧
      t.time.ppsOut = true ∧ t.out = .ppsOut true :: s.out) ∧
    (s.time.ppsOut = true → ∃ t, exec .ppsOutEnd s = .next t ∧ t.time.ppsOut = false ∧ t.out = .ppsOut false :: s.out) ∧
    ((s.takeHeard fun h => h.typ == 4) = some (h, u) → ∃ t, exec .ieee1588Message s = .next t ∧
      if beAt h.body 1 1 % 16 = 2 ∧ beAt h.body 2 2 = h.body.length ∧ h.body.length ≤ 254 then
        (∀ p < 4, (t.line p).out = if p ≠ h.port ∧ bit (s.get (F.TIM_PTP_FWD_PORTS.ix h.port)) p = true then
          (s.line p).out ++ [.ptp h.body (some h.stamp) false false] else (s.line p).out) ∧
        t.time.ptp = if s.flag (F.TIM_PTP_FWD_HOST.ix h.port) = true ∧ s.time.ptp.length < 16 then
          s.time.ptp ++ [⟨h.port, h.stamp, h.body⟩] else s.time.ptp
      else t.get F.TIM_PTP_CNT_BAD = satAdd 16 (s.get F.TIM_PTP_CNT_BAD) 1 ∧ t.lhl.ports = s.lhl.ports) ∧
    (∀ p len oneStep, s.takesWrite 20 = true → s.flag F.TIM_PTP_TXSTAT_BUSY = false → p < 4 →
      ∃ t, exec (.ptpSend p len oneStep) s = .next t ∧
      if len < 34 ∨ 254 < len then t.get F.TIM_PTP_TXSTAT_ERR = 1 ∧ t.lhl = s.lhl
      else t.get F.TIM_PTP_TXSTAT_BUSY = 1 ∧ (t.line p).out = (s.line p).out ++
        [.ptp (((List.range 64).flatMap fun w => beBytes 4 (s.get (F.TIM_PTP_TXBUF_DATA.ix w))).take len) none true
          oneStep]) ∧
    (s.takesWrite 20 = true → ∃ t, exec .pop s = .next t ∧ t.time.ptp = s.time.ptp.drop 1 ∧
      t.get F.TIM_PTP_RXINFO_DEPTH = (s.time.ptp.drop 1).length % 32)

/-- Sluice (R333, R334, R336, R337, R338, R339, R341, R344). At a refill every flow's two buckets rise by their rates to
their sizes, and a shaped queue with an open gate that holds a new segment gains credit up to HI; a gate list steps to its
next entry; an armed list takes effect; ARM takes the standby list that passes the checks of R335 and refuses another;
CANCEL withdraws it; a sample adds 1 to one bin of each histogram; SLU_HIST_CLR empties them.

Rests on a choice of the model: log entry 52. -/
def Obligations.SluiceCommands : Prop :=
  ∀ s : State, s.canonical = true →
    (s.time.running = true → s.slu.held = [] → ∃ t, exec .refill s = .next t ∧
      (∀ f < 256, Tab.get 0 t.slu.tc f = min (Tab.get 0 s.slu.tc f + s.get (F.SLU_FLOW_CIR_VALUE.ix f) * 8192 / 100)
          (1024 * s.get (F.SLU_FLOW_CBS_VALUE.ix f)) ∧
        Tab.get 0 t.slu.tp f = min (Tab.get 0 s.slu.tp f + s.get (F.SLU_FLOW_PIR_VALUE.ix f) * 8192 / 100)
          (1024 * s.get (F.SLU_FLOW_PBS_VALUE.ix f))) ∧
      (∀ p q, p < 4 → q < 32 → s.flag (F.SLU_Q_SHAPE_EN.ix p q) = true → s.gateOpen p q = true →
        s.holdsNew p q = true → s.flag (F.SLU_PORT_CFG_COMPAT800.ix p) = false →
        t.credit p q = max (-((1024 * s.get (F.SLU_Q_LO_BYTES.ix p q) : Nat) : Int))
          (min ((1024 * s.get (F.SLU_Q_HI_BYTES.ix p q) : Nat) : Int)
            (s.credit p q + (perRefill (s.get (F.SLU_Q_IDLE_MBS.ix p q)) : Nat)))) ∧
      (s.flag F.MLR_STAT_THROTTLED = false → t.slu.cap = 262144 * 1024) ∧ t.slu.written = []) ∧
    (∀ p g, p < 4 → Tab.find s.slu.gates p = some g → ∃ t, exec (.gateEntryChange p) s = .next t ∧
      (s.get (F.SLU_GATE_STAT_ENTRY.ix p) + 1 < g.entries.length →
        ((g.entries.take (s.get (F.SLU_GATE_STAT_ENTRY.ix p) + 1)).map Prod.snd).sum < g.cycle →
        s.get (F.SLU_GATE_STAT_ENTRY.ix p) < 255 →
        t.get (F.SLU_GATE_STAT_ENTRY.ix p) = s.get (F.SLU_GATE_STAT_ENTRY.ix p) + 1 ∧
        ∀ e, g.entries[s.get (F.SLU_GATE_STAT_ENTRY.ix p) + 1]? = some e → e.1 < 2 ^ 32 →
          t.get (F.SLU_GATE_NOW_OPEN.ix p) = e.1) ∧
      (g.entries.length ≤ s.get (F.SLU_GATE_STAT_ENTRY.ix p) + 1 → t.get (F.SLU_GATE_STAT_ENTRY.ix p) = 0)) ∧
    (∀ p g, p < 4 → Tab.find s.slu.armed p = some g → ∃ t, exec (.gateListSwitch p) s = .next t ∧
      Tab.find t.slu.gates p = some g ∧ Tab.find t.slu.armed p = none ∧ t.get (F.SLU_GATE_STAT_ENTRY.ix p) = 0 ∧
      t.getBit F.SLU_STAT_GCL p = true ∧ t.getBit F.SLU_STAT_ARMED p = false) ∧
    (∀ p, p < 4 → s.takesWrite 21 = true → s.flt.armed = [] → ∃ t, exec (.gateArm p) s = .next t ∧
      if gateOk s.image (s.standbyGate p) = true then
        Tab.find t.slu.armed p = some (s.standbyGate p) ∧ t.getBit F.SLU_STAT_ARMED p = true
      else t.slu = s.slu ∧ t.get F.SLU_EVT_GATE_REFUSED = 1 ∧ t.newest = some (0xD8, .ce, locChip (0x18 + p / 2))) ∧
    (∀ p, p < 4 → s.takesWrite 21 = true → ∃ t, exec (.gateCancel p) s = .next t ∧ Tab.find t.slu.armed p = none ∧
      t.getBit F.SLU_STAT_ARMED p = false) ∧
    (s.flag F.SLU_CFG_HIST_EN = true → s.time.running = true → ∃ t, exec .histogramSample s = .next t ∧
      ∀ p q b, p < 4 → q < 32 → b < 16 → t.get (F.SLU_HDEPTH_SAMPLES.ix p q b) =
        if b = depthBin (s.get (F.SLU_Q_DEPTH_BYTES.ix p q)) then satAdd 32 (s.get (F.SLU_HDEPTH_SAMPLES.ix p q b)) 1
        else s.get (F.SLU_HDEPTH_SAMPLES.ix p q b)) ∧
    (s.takesWrite 21 = true → ∃ t, exec .sluHistClr s = .next t ∧
      ∀ p q b, p < 4 → q < 32 → b < 16 → t.get (F.SLU_HDEPTH_SAMPLES.ix p q b) = 0 ∧
        t.get (F.SLU_HDELAY_SAMPLES.ix p q b) = 0)

/-- Rings, monitors, the shadow lane and lane loss (R351, R353, R354, R355, R358, R359, R360, R362). A sweep settles on the first
matching line that is not excluded, is retried, and after the third failure leaves the ring FAILED; a tone window confirms,
excludes or finds a wrong lock; samples add up, an idle shadow lane reports all 27 items, and windows average them and measure fades; a marker run of 4 lets the
receiver take a lane, 0x99 returns it; a good report unit brings its item; a lost lane without a mirror takes its port
down.

Rests on a choice of the model: log entry 61. -/
def Obligations.OpticalLaneCommands : Prop :=
  ∀ (s : State) (k l : Nat) (tx : Bool), s.canonical = true → k < 24 → l < 9 →
    (∀ lines, s.get (ringFld k l tx) ≤ 1 → s.flt.armed = [] → ∃ t, exec (.ringSweepDone k l tx lines) s = .next t ∧
      match lines.find? fun x => x.2 == l && !(s.ring k l tx).excluded.contains x.1 with
      | some x => t.get (ringFld k l tx) = 2 ∧ (t.ring k l tx).place = x.1 ∧ (t.ring k l tx).fails = 0
      | none => if (s.ring k l tx).fails < 2 then
          t.get (ringFld k l tx) = 1 ∧ (t.ring k l tx).fails = (s.ring k l tx).fails + 1
        else t.get (ringFld k l tx) = 5 ∧ (tx = false → t.newest = some (0xE5, .uc, locDie k))) ∧
    (∀ tone, tone < 9 → s.flt.armed = [] → ∃ t, exec (.toneWindow k l tx tone) s = .next t ∧
      (s.get (ringFld k l tx) = 2 → if tone = l then t.get (ringFld k l tx) = 3 else
        t.get (ringFld k l tx) = 1 ∧ (s.ring k l tx).place ∈ (t.ring k l tx).excluded) ∧
      (s.get (ringFld k l tx) = 3 → tone < 8 → tone ≠ l → if (s.ring k l tx).wrong = 0 then (t.ring k l tx).wrong = 1 else
        t.get (F.OPT_LANE_CNT_WRONG_LOCK.ix k l) = satAdd 8 (s.get (F.OPT_LANE_CNT_WRONG_LOCK.ix k l)) 1 ∧
        (s.ring k l tx).place ∈ (t.ring k l tx).excluded)) ∧
    (∀ powers, ∃ t, exec (.monitorSample k powers) s = .next t ∧ (∀ x, powers[l]? = some x → (t.optLane k l).samples =
      (s.optLane k l).samples + 1 ∧ (t.optLane k l).sum = addPower (s.optLane k l).sum x) ∧
      (s.txShadow k = 15 → s.lit.has (laserOf k 8) = true → (t.optPort k).rseq = ((s.optPort k).rseq + 27) % 256)) ∧
    (∀ errors, ∃ t, exec (.averagingWindow k errors) s = .next t ∧ (t.optLane k l).samples = 0 ∧
      ((s.optLane k l).samples ≠ 0 → t.get (F.OPT_LANE_PWR_A_HIGH.ix k l) =
          unsigned 16 ((s.optLane k l).sum.s1 / ((s.optLane k l).samples : Int)) ∧
        t.get (F.OPT_LANE_PWR_B_LOW.ix k l) =
          unsigned 16 ((s.optLane k l).sum.s4 / ((s.optLane k l).samples : Int))) ∧
      (s.flag (F.OPT_PORT_STAT_COMMISSIONED.ix k) = true → t.get (F.OPT_LANE_FADE_RX.ix k l) =
          dropOf (reading (t.get (F.OPT_LANE_COMM_B_LOW.ix k l))) (reading (t.get (F.OPT_LANE_PWR_B_LOW.ix k l))) ∧
        t.get (F.OPT_LANE_FADE_TX.ix k l) = max (t.drops k l).2.2.1
          (((reading (t.get (F.OPT_LANE_FAR_FAR_FADE.ix k l))).map Int.toNat).getD 0) ∧
        t.get (F.OPT_LANE_STAT_LOC.ix k l) = t.lossOf k l) ∧
      (300 ≤ t.get (F.OPT_LANE_FADE_RX.ix k l) → (t.optLane k l).wants = true) ∧
      (l < 8 → s.flt.armed = [] → s.flag F.OPT_CFG_AUTO_MIRROR = true → 200 ≤ t.get (F.OPT_LANE_FADE_TX.ix k l) →
        t.get (F.OPT_LANE_STAT_LOC.ix k l) ≠ 5 → s.txUse k = 0 → (s.optPort k).shadowBad = false →
        (∀ m < l, t.get (F.OPT_LANE_FADE_TX.ix k m) < 200) → t.txShadow k = l ∧ t.txUse k = 1)) ∧
    (∀ skew code, l < 8 → skew ≤ 2048 → code = 0x33 ∨ code = 0x66 ∨ code = 0x99 →
      ∃ t, exec (.shadowMarker k l code (255 - code) true skew) s = .next t ∧ (t.optPort k).runLane = l ∧
        (t.optPort k).run = (if (s.optPort k).runLane = l then min 4 ((s.optPort k).run + 1) else 1) ∧
        (code ≠ 0x99 → s.rxShadow k = 15 → (t.optPort k).run = 4 → (s.optLane k l).wants = true ∨ code = 0x66 →
          t.rxShadow k = l ∧ t.newest = some (0xE2, .ce, locDie k)) ∧
        (code = 0x99 → s.rxShadow k = l → s.rxUse k ≠ 4 → s.get (ringFld k l false) = 3 →
          s.flag (F.OPT_LANE_STAT_RX_LOS.ix k l) = false → t.rxShadow k = 15 ∧ t.newest = some (0xE2, .ce, locDie k))) ∧
    (∀ unit : List Byte, ∃ t, exec (.reportUnit k unit) s = .next t ∧
      if unit.length = 16 ∧ beAt unit 0 2 = 0x6996 ∧ crc16 0 (unit.take 14) = beAt unit 14 2 then
        t.get (F.OPT_PORT_STAT_REPORTS_OK.ix k) = 1 ∧
        (beAt unit 2 1 = 16 * l + 1 → t.get (F.OPT_LANE_FAR_FAR_PWR.ix k l) = beAt unit 4 2) ∧
        (beAt unit 2 1 = 16 * l + 2 → t.get (F.OPT_LANE_FAR_FAR_FADE.ix k l) = beAt unit 4 2) ∧
        (t.optPort k).farOn = (if beAt unit 6 1 / 16 = 15 then none else some (beAt unit 6 1 / 16)) ∧
        (t.optPort k).farAligned = bit (beAt unit 6 1) 3
      else t = s) ∧
    (∃ t, exec (.reportsOkLapse k) s = .next t ∧ t.get (F.OPT_PORT_STAT_REPORTS_OK.ix k) = 0) ∧
    (l < 8 → s.flt.armed = [] → ∃ t, exec (.laneLoss k l) s = .next t ∧ t.get (F.OPT_LANE_STAT_RX_LOS.ix k l) = 1 ∧
      if s.mirrored k l = true then (t.optLane k l).wants = true ∧ t.flt = s.flt
      else (k < 16 → s.fabActive k = true → t.fabActive k = false) ∧
        (16 ≤ k → k < 20 → t.flag (F.LHL_PORT_STAT_LOS.ix (k - 16)) = true) ∧
        (20 ≤ k → s.pondState (k - 20) = 4 → t.pondState (k - 20) = 5)) ∧
    (s.txUse k = 1 → (s.optPort k).farOn ≠ some (s.txShadow k) → s.get (F.OPT_LANE_FADE_TX.ix k (s.txShadow k)) < 150 →
      (s.optPort k).next = none → (s.optPort k).shadowBad = false → ∃ t, exec (.mirrorRelease k) s = .next t ∧
        t.txShadow k = 15 ∧ t.txUse k = 0)

/-- Calibration, commissioning and lasers (R357, R361, R364, R367). A pass that is due starts on a port that is up with an idle
shadow and reports, moves from lane to lane and ends; CAL_CANCEL ends it; GO starts the averaging of commissioning in
MAINTENANCE mode only, whose end writes the values and journals them; a retired laser returns to service; OPT_LASER_EN
lights and darkens lasers, never a retired one or one of a cold die; OPT_CNT_CLR clears the counters.

Rests on a choice of the model: log entry 62. -/
def Obligations.CalibrationAndLaserCommands : Prop :=
  ∀ (s : State) (k : Nat), s.canonical = true → k < 24 →
    (s.flag F.OPT_CFG_AUTO_CAL = true → s.get F.OPT_CAL_CFG_CAL_S ≠ 0 → s.fatal = false →
      ∃ t, exec (.calibrationTimer k) s = .next t ∧
      if s.portUp k = true ∧ s.txUse k = 0 ∧ s.txShadow k = 15 ∧ s.flag (F.OPT_PORT_STAT_REPORTS_OK.ix k) = true ∧
          (s.optPort k).calStep = 0 ∧ 9 ≤ s.get (F.OPT_PORT_CAL_LANE.ix k) then
        t.get (F.OPT_PORT_CAL_LANE.ix k) = 0 ∧ t.txShadow k = 0 ∧ t.txUse k = 3
      else s.portUp k = false → (t.optPort k).calDue = true) ∧
    (s.takesWrite 22 = true → ∃ t, exec (.calNow k) s = .next t ∧
      if s.portUp k = true ∧ s.txUse k = 0 ∧ s.txShadow k = 15 ∧ s.flag (F.OPT_PORT_STAT_REPORTS_OK.ix k) = true ∧
          (s.optPort k).calStep = 0 ∧ 9 ≤ s.get (F.OPT_PORT_CAL_LANE.ix k) then
        t.get (F.OPT_PORT_CAL_LANE.ix k) = 0 ∧ t.txShadow k = 0 ∧ t.txUse k = 3
      else s.portUp k = false → (t.optPort k).calDue = true) ∧
    (s.takesWrite 22 = true → ∃ t, exec (.calCancel k) s = .next t ∧ t.get (F.OPT_PORT_CAL_LANE.ix k) = 15 ∧
      (t.optPort k).calStep = 0 ∧ (t.optPort k).calDue = false ∧ (s.txUse k = 3 → (t.optPort k).code = 0x99) ∧
      t.flt = s.flt) ∧
    (s.flt.armed = [] → ∃ t, exec (.calibrationLaneDone k) s = .next t ∧
      (s.get (F.OPT_PORT_CAL_LANE.ix k) = 8 → t.get (F.OPT_PORT_CAL_LANE.ix k) = 15 ∧
        t.get (F.OPT_PORT_CAL_SINCE_S.ix k) = 0) ∧
      (s.get (F.OPT_PORT_CAL_LANE.ix k) < 8 → (s.optPort k).calStep = 5 →
        t.get (F.OPT_PORT_CAL_LANE.ix k) = s.get (F.OPT_PORT_CAL_LANE.ix k) + 1)) ∧
    (s.takesWrite 22 = true → ∃ t, exec (.optCommission k) s = .next t ∧
      if s.maintenance = true ∧ s.portUp k = true ∧ s.txShadow k = 15 ∧ s.rxShadow k = 15 then
        (t.optPort k).commissioning = true
      else t.opt = s.opt) ∧
    (∀ powers, (s.optPort k).commissioning = true → ∃ t, exec (.commissioningDone k powers) s = .next t ∧
      t.get (F.OPT_PORT_STAT_COMMISSIONED.ix k) = 1 ∧ t.getBit F.OPT_STAT_COMMISSIONED k = true ∧
      t.get F.PST_STAT_JRN_QUEUED = 1 ∧ ∀ l x, l < 9 → powers[l]? = some x →
        t.get (F.OPT_LANE_COMM_A_HIGH.ix k l) = unsigned 16 x.s1 ∧ t.get (F.OPT_LANE_COMM_A_LOW.ix k l) = unsigned 16 x.s2 ∧
        t.get (F.OPT_LANE_COMM_B_HIGH.ix k l) = unsigned 16 x.s3 ∧ t.get (F.OPT_LANE_COMM_B_LOW.ix k l) = unsigned 16 x.s4) ∧
    (∀ n, n < 216 → s.takesWrite 22 = true → ∃ t, exec (.optLaserRestore n) s = .next t ∧
      if s.maintenance = true ∧ s.portStill (portOfLaser n) = true then
        t.getBit (F.OPT_LASER_RETIRED_RETIRED.ix (n / 32)) (n % 32) = false
      else t.getBit (F.OPT_LASER_RETIRED_RETIRED.ix (n / 32)) (n % 32) =
        s.getBit (F.OPT_LASER_RETIRED_RETIRED.ix (n / 32)) (n % 32)) ∧
    (∀ w v, w < 7 → s.takesWrite 22 = true → ∃ t, exec (.optLaserEn w v) s = .next t ∧ ∀ b, b < 32 → 32 * w + b < 216 →
      if s.getBit (F.OPT_LASER_RETIRED_RETIRED.ix w) b = true ∧ bit v b = true then
        t.getBit (F.OPT_LASER_EN_EN.ix w) b = s.getBit (F.OPT_LASER_EN_EN.ix w) b ∧
          t.lit.has (32 * w + b) = s.lit.has (32 * w + b)
      else t.getBit (F.OPT_LASER_EN_EN.ix w) b = bit v b ∧ t.lit.has (32 * w + b) =
        (bit v b && !s.laserCold ((32 * w + b) / 108) && s.flag (F.OPT_PORT_STAT_ENABLED.ix (portOfLaser (32 * w + b))))) ∧
    (s.takesWrite 22 = true → ∃ t, exec .optCntClr s = .next t ∧ t.get F.OPT_FE_SOURCE = 0 ∧
      ∀ l < 9, t.get (F.OPT_LANE_CNT_WRONG_LOCK.ix k l) = 0 ∧ t.get (F.OPT_LANE_CNT_HANDOVER.ix k l) = 0)

/-- Status mode, digest and triple fields (R405, R407, R408, R424). MAINTENANCE needs the key and SERVICE none, and on that
change a bit takes its cause's state; a write of the reference arms the comparison, and a computation then gives MATCH, or
MISMATCH counted; a unit fault is UNIT_FAULT with DIGEST; one copy outvoted is rewritten (CE), three that differ are FA;
in MAINTENANCE mode a write back of SEQ clears a register's bits.

Rests on choices of the model: log entries 15, 16, 19. -/
def Obligations.StatusAndDigestCommands : Prop :=
  ∀ s : State, s.canonical = true →
    (∀ mode key, ∃ t, exec (.genStatusMode mode key) s = .next t ∧
      if mode % 2 = 1 then if key = 0x4D41 then t.maintenance = true else t = s
      else if s.maintenance = true then t.maintenance = false ∧
        t.get F.MBR_EVT_FENCED = b2n (s.causeHolds F.MBR_EVT_FENCED) ∧ t.get F.GEN_EVT_TMR = b2n (s.causeHolds F.GEN_EVT_TMR)
      else t = s) ∧
    (∀ c, ∃ t, exec (.genDigestRef c) s = .next t ∧ t.get F.GEN_DIGEST_REF_CRC = c % 2 ^ 32 ∧
      t.gen.refWritten = (s.gen.refWritten || !(s.digestState == 5 || s.applying))) ∧
    (s.time.running = true → s.coveredPending = false → s.flt.armed = [] → ∃ t, exec (.digestCompute false) s = .next t ∧
      t.get F.GEN_DIGEST_NOW_CRC = s.digest % 2 ^ 32 ∧
      if s.digestCompares = false then t.digestState = s.digestState
      else if s.digest = s.get F.GEN_DIGEST_REF_CRC then t.digestState = 1 ∧ t.flt = s.flt
      else t.digestState = 3 ∧ t.get F.GEN_DIGEST_STAT_MISMATCHES =
          satAdd F.GEN_DIGEST_STAT_MISMATCHES.width (s.get F.GEN_DIGEST_STAT_MISMATCHES) 1 ∧
        (s.digestState ≠ 3 → t.newest = some (0xFD, .uc, locChip 0x18))) ∧
    (s.time.running = true → s.coveredPending = false → s.digestState ≠ 5 → ∃ t, exec (.digestCompute true) s = .next t ∧
      t.digestState = 5 ∧ t.newest = some (0xFD, .uc, locChip 0x18)) ∧
    (∀ f c v, Instr.wf (.tmr [⟨f, c, v⟩]) = true → s.get (tripleFld f) < 2 ^ (tripleFld f).width →
      v % 2 ^ (tripleFld f).width ≠ s.get (tripleFld f) → Tab.find s.gen.copies (tripleFld f).key = none →
      ∃ t, exec (.tmr [⟨f, c, v⟩]) s = .next t ∧ t.get (tripleFld f) = s.get (tripleFld f) ∧
        t.newest = some (0xFE, .ce, locChip 0x18) ∧ t.get F.GEN_CNT_TMR = satAdd F.GEN_CNT_TMR.width (s.get F.GEN_CNT_TMR) 1) ∧
    (∀ f v w, v < 2 ^ (tripleFld f).width → w < 2 ^ (tripleFld f).width → v ≠ w → v ≠ s.get (tripleFld f) →
      w ≠ s.get (tripleFld f) → Tab.find s.gen.copies (tripleFld f).key = none →
      ∃ t, exec (.tmr [⟨f, 0, v⟩, ⟨f, 1, w⟩]) s = .next t ∧ t.fatal = true ∧ t.newest = some (0xFE, .fa, locChip 0x18)) ∧
    (∃ t, exec .genCntClr s = .next t ∧ t.get F.GEN_CNT_TMR = 0 ∧ t.get F.GEN_CNT_POST_DROP = 0) ∧
    (∀ addr value r, evtAt addr = some r → s.takesWrite (addr / 0x100000) (addr / 0x100000 == 0) = true →
      ∃ t, exec (.rcsWriteBack addr value) s = .next t ∧
      if s.maintenance = true ∧
          bits value 31 24 = s.get (Fld.seqOf ⟨r.base, 0, 0, 0, 0, 0, 0, addr - r.base⟩) then
        ∀ f ∈ r.bits, t.get (f.atAddr addr) = 0
      else t = s)

/-- Register writes (R9, R376, R392, R403, R404). A write to a location without writable fields is ignored; a write of GEN takes
effect at once; a write of another block is posted, PEND reads 1, and it takes effect when it is done; a LO half is held,
and the HI half commits both; a value out of a field's range is ignored.

Rests on a choice of the model: log entry 14. -/
def Obligations.RegisterWriteCommands : Prop :=
  ∀ s : State, s.canonical = true →
    (∀ addr value, plainReg addr = none → addr ≠ 0x0080011C → exec (.registerWrite addr value) s = .next s) ∧
    (∀ b value, b < 28 → value < 2 ^ 32 → ∃ t, exec (.registerWrite (0x100 + 4 * b) value) s = .next t ∧
      t.get (F.GEN_IRQ_MAP_EN.ix b) = value / 2 ^ 7 % 2 ∧ t.get (F.GEN_IRQ_MAP_VEC.ix b) = value % 64) ∧
    (∀ addr value r, plainReg addr = some r → 0x100000 ≤ addr →
      s.takesWrite (addr / 0x100000) (addr == 0x0170000C) = true → ∃ t, exec (.registerWrite addr value) s = .next t ∧
        t.get (pendFld (addr / 0x100000)) = 1 ∧
        t.posted = s.posted ++ [⟨addr / 0x100000, addr, value % 2 ^ 32⟩] ∧
        (∀ k, k ≠ (pendFld (addr / 0x100000)).key → Tab.find t.regs k = Tab.find s.regs k)) ∧
    (∀ p, (s.posted.find? fun q => q.block == 25) = some p → p.addr = 0x01900010 → p.value < 2 ^ 32 →
      ∃ t, exec (.postedWriteDone 25) s = .next t ∧ t.get (pendFld 25) = 0 ∧
        (t.posted = s.posted.filter fun q => q.block != 25) ∧
        t.get F.MBR_HB_CFG_HB_S = if 1 ≤ p.value % 4096 ∧ p.value % 4096 ≤ 3600 then p.value % 4096
          else s.get F.MBR_HB_CFG_HB_S) ∧
    (∀ p, (s.posted.find? fun q => q.block == 20) = some p → p.addr = 0x01400030 → ∃ t,
      exec (.postedWriteDone 20) s = .next t ∧ Tab.find t.heldLo 0x01400030 = some p.value ∧
        t.get F.TIM_SET_SEC_LO_VALUE = s.get F.TIM_SET_SEC_LO_VALUE) ∧
    (∀ p lo, (s.posted.find? fun q => q.block == 20) = some p → p.addr = 0x01400034 → p.value < 65536 → lo < 2 ^ 32 →
      Tab.find s.heldLo 0x01400030 = some lo → ∃ t, exec (.postedWriteDone 20) s = .next t ∧
        t.get F.TIM_SET_SEC_LO_VALUE = lo ∧ t.get F.TIM_SET_SEC_HI_VALUE = p.value ∧ Tab.find t.heldLo 0x01400030 = none)

/-- OTP records and the boot store (R410, R412, R416). A key hash goes into an empty index and REVOKE takes a valid one that the
running image does not use, each in MAINTENANCE mode and refused with its reason otherwise; the write ends with a
generation, or one abandoned with PERSIST_FAIL; an operation of Table CTL-8 starts, is BUSY while one runs, is refused on
its condition, and ends with its effect and DONE, or with PERSIST_FAIL and the active bank as it was.

Rests on choices of the model: log entries 24, 25. -/
def Obligations.OtpAndBootStoreCommands : Prop :=
  ∀ s : State, s.canonical = true →
    (∀ i, i < 4 → s.takesWrite 1 = true → s.otp.write = none → ∃ t, exec (.otpKeyWrite i) s = .next t ∧
      (∀ w < 8, t.get (F.OTP_KEY_DATA_DATA.ix w) = 0) ∧
      if s.maintenance = true ∧ s.keyState i = 0 ∧ s.otpUsed (2 + i) < 4 then
        t.get F.OTP_STAT_BUSY = 1 ∧ t.otp.write = some ⟨2 + i, [1#8, 0#8, 0#8, 0#8] ++ s.keyData⟩
      else t.otp = s.otp ∧ t.get F.OTP_STAT_REASON = if s.maintenance = false then 1 else
        if s.keyState i = 2 then 5 else if s.keyState i ≠ 0 then 3 else 2) ∧
    (∀ i, i < 4 → s.takesWrite 1 = true → s.otp.write = none → ∃ t, exec (.otpKeyRevoke i) s = .next t ∧
      if s.maintenance = true ∧ s.keyState i = 1 ∧ s.otpUsed (2 + i) < 4 ∧
          (∀ img, s.img.running = some img → imgKeyIndex img ≠ i) then
        t.get F.OTP_STAT_BUSY = 1 ∧ t.otp.write = some ⟨2 + i, 2#8 :: (s.otpData (2 + i) 36).drop 1⟩
      else t.otp = s.otp) ∧
    (∀ bad w, s.otp.write = some w → w.group < 6 → s.flt.armed = [] → ∃ t, exec (.otpWriteDone bad) s = .next t ∧
      if bad = false then Tab.find t.otp.groups w.group = some ⟨s.otpUsed w.group + 1, s.otpUsed w.group + 1, w.data⟩ ∧
        t.otp.write = none ∧ t.get F.OTP_STAT_BUSY = 0
      else t.otpUsed w.group = s.otpUsed w.group + 1 ∧ t.newest = some (0xFC, .uc, locChip 0x61)) ∧
    (∀ b, b < 2 → s.takesWrite 27 = true → ∃ t, exec (.writeRunning b) s = .next t ∧
      if s.maintenance = true ∧ s.boot.op = none ∧ s.get F.PST_STAT_ACTIVE ≠ b ∧ s.img.running ≠ none then
        t.boot.op = some (.writeRunning b) ∧ t.boot.opTries = 0 ∧ t.get F.PST_STAT_BUSY = 1 ∧ t.get F.PST_STAT_OP = 1
      else t.boot = s.boot ∧ t.get F.PST_STAT_REASON =
        if s.maintenance = false then 1 else if s.boot.op ≠ none then 2 else 3) ∧
    (∀ b, b < 2 → s.takesWrite 27 = true → ∃ t, exec (.activate b) s = .next t ∧
      if s.maintenance = true ∧ s.boot.op = none ∧ s.flag (validFld b) = true then
        t.boot.op = some (.activate b) ∧ t.boot.opTries = 0 ∧ t.get F.PST_STAT_BUSY = 1 ∧ t.get F.PST_STAT_OP = 2
      else t.boot = s.boot ∧ t.get F.PST_STAT_REASON =
        if s.maintenance = false then 1 else if s.boot.op ≠ none then 2 else 3) ∧
    (∀ b, b < 2 → s.takesWrite 27 = true → ∃ t, exec (.verify b) s = .next t ∧
      if s.maintenance = true ∧ s.boot.op = none then
        t.boot.op = some (.verify b) ∧ t.boot.opTries = 0 ∧ t.get F.PST_STAT_BUSY = 1 ∧ t.get F.PST_STAT_OP = 3
      else t.boot = s.boot ∧ t.get F.PST_STAT_REASON = if s.maintenance = false then 1 else 2) ∧
    (∀ slot len, slot < 4 → s.takesWrite 27 = true → ∃ t, exec (.writeCert slot len) s = .next t ∧
      if s.maintenance = true ∧ s.boot.op = none ∧ s.slotOpen slot = true ∧ len ≠ 0 ∧ len ≤ 0x40000 ∧
          s.certNames (s.readBytes (slotBase slot) len) = true then
        t.boot.op = some (.writeCert (s.readBytes (slotBase slot) len)) ∧ t.get F.PST_STAT_BUSY = 1
      else t.boot = s.boot) ∧
    (∀ bad op, s.boot.op = some op → s.flt.armed = [] → ∃ t, exec (.bootStoreOpDone bad) s = .next t ∧ t.boot.op = none ∧
      t.boot.opTries = 0 ∧ t.get F.PST_STAT_BUSY = 0 ∧
      if bad = true then t.newest = some (0xFC, .uc, locChip 0x61) ∧ t.get F.PST_STAT_ACTIVE = s.get F.PST_STAT_ACTIVE
      else t.flt.ring = s.flt.ring ∧
        match op with
        | .writeRunning b => (if b = 0 then t.boot.bankA else t.boot.bankB) = s.img.running.getD []
        | .activate b => t.get F.PST_STAT_ACTIVE = b % 2 ∧ t.get F.PST_STAT_JRN_QUEUED = 1
        | .verify b => t.get (validFld b) =
            b2n (firstReject (s.firstChecks (s.bankImage b) (s.bank b).length)).isNone
        | .writeCert d => t.boot.cert = d ∧ t.get F.PST_STAT_CERT_OK = b2n (certHead d))

/-- The journal (R417, R418). FLUSH makes a snapshot due; a snapshot goes, as its 8,192 bytes with the MAGIC, VERSION, CRC and
TAG of a valid one, to the lowest free place of the current bank, or to place 0 of the other when it is erased, takes two
blocks of the cipher engine, shows its SEQ when it reads back, makes the epochs it holds durable, and is tried again up to
three times before PERSIST_FAIL; the end of an erase empties the bank.

Rests on a choice of the model: log entry 25. -/
def Obligations.JournalCommands : Prop :=
  ∀ s : State, s.canonical = true →
    (s.takesWrite 27 = true → ∃ t, exec .flush s = .next t ∧
      if s.maintenance = true then t.boot.flushDue = true ∧ t.boot.retries = 0
      else t.boot = s.boot ∧ t.get F.PST_STAT_REASON = 1) ∧
    (∀ n, s.flag F.PST_STAT_JRN_QUEUED = true ∨ s.boot.flushDue = true → s.boot.retries < 4 →
      freePlace (s.jrnBank s.boot.current) = some n → s.boot.current < 2 → s.flt.armed = [] →
      ∃ t, exec (.journalSnapshot false) s = .next t ∧ t.boot.current = s.boot.current ∧
        Tab.find (t.jrnBank s.boot.current) n = some (.data (s.snapshot.bytes s.journalKey)) ∧
        snapshotOk s.journalKey (s.snapshot.bytes s.journalKey) = true ∧
        (∀ i, i < 56 → Tab.find t.cry.durable (8 + i) = some (s.get (F.CRY_KSLOT_EPOCH_KEPOCH_TX.ix (8 + i)))) ∧
        Tab.get 0 t.cry.sinceSeed 0 = Tab.get 0 s.cry.sinceSeed 0 + 2 ∧ t.get F.PST_STAT_JRN_QUEUED = 0 ∧
        t.get64 F.PST_JRN_SEQ_LO_SEQ F.PST_JRN_SEQ_HI_SEQ = s.boot.nextSeq % 2 ^ 64 ∧
        t.boot.nextSeq = s.boot.nextSeq + 1) ∧
    (s.flag F.PST_STAT_JRN_QUEUED = true ∨ s.boot.flushDue = true → s.boot.retries < 4 → s.boot.current < 2 →
      freePlace (s.jrnBank s.boot.current) = none → freePlace (s.jrnBank (1 - s.boot.current)) = some 0 →
      s.boot.erasing ≠ some (1 - s.boot.current) → s.flt.armed = [] → ∃ t, exec (.journalSnapshot false) s = .next t ∧
        t.boot.current = 1 - s.boot.current ∧
        Tab.find (t.jrnBank (1 - s.boot.current)) 0 = some (.data (s.snapshot.bytes s.journalKey))) ∧
    (∀ n, s.flag F.PST_STAT_JRN_QUEUED = true ∨ s.boot.flushDue = true → s.boot.retries < 4 →
      freePlace (s.jrnBank s.boot.current) = some n → ∃ t, exec (.journalSnapshot true) s = .next t ∧
        t.boot.retries = s.boot.retries + 1 ∧ (s.flag F.PST_STAT_JRN_QUEUED = true → t.flag F.PST_STAT_JRN_QUEUED = true) ∧
        (s.boot.retries = 3 → t.newest = some (0xFC, .uc, locChip 0x61))) ∧
    (∀ b, b < 2 → s.boot.erasing = some b → ∃ t, exec .journalEraseDone s = .next t ∧ t.boot.erasing = none ∧
      t.jrnBank b = [])

/-- Attestation (R420, R421, R422). Discovery names the two object types; GET_CERTS answers the certificate area or CERT_ABSENT;
GET_QUOTE answers a body over the nonce and its signature, and counts it; GET_BODY answers an unsigned body with a zero
nonce; an abort discards the answer; ATT_Q_TAIL moves except in FATAL; a queue entry is answered with the quote and its
status, and HEAD moves on.

Rests on choices of the model: log entries 10, 27, 28. -/
def Obligations.AttestationCommands : Prop :=
  ∀ s : State, s.canonical = true →
    (∀ i, ∃ t, exec (.doeDiscovery i) s = .next t ∧ t.flt.sent = 3 :: s.flt.sent ∧ (i = 1 → t.pcie.doeAnswer =
      [0x4D#8, 0x1F#8, 0x01#8, 0x00#8])) ∧
    (∃ t, exec .getCerts s = .next t ∧ t.pcie.doeAnswer = if certHead s.boot.cert = true then
      [0x81#8, 0#8, 0#8, 0#8] ++ s.boot.cert.take (beAt s.boot.cert 8 4) else [0x81#8, 2#8, 0#8, 0#8]) ∧
    (∀ nonce, ∃ t, exec (.getQuote nonce) s = .next t ∧
      if s.cryPaused = true then t.pcie.doeAnswer = [0x82#8, 3#8, 0#8, 0#8]
      else t.gen.quoteSeq = s.gen.quoteSeq + 1 ∧ t.pcie.doeAnswer = [0x82#8, 0#8, 0#8, 0#8] ++ s.quoteBody nonce ++
        Sys2Proof.Machine.slhSign s.gen.idSeed (s.quoteBody nonce) (ascii "QKAQ") ((Sys2Proof.Machine.aes256 s.attestKey
          (beBytes 8 s.gen.quoteSeq ++ List.replicate 8 0#8)).take 16)) ∧
    (∃ t, exec .getBody s = .next t ∧ t.gen.quoteSeq = s.gen.quoteSeq ∧
      t.pcie.doeAnswer = [0x83#8, 0#8, 0#8, 0#8] ++ s.quoteBody (List.replicate 32 0#8)) ∧
    (∃ t, exec .doeAbort s = .next t ∧ t.pcie.doeAnswer = []) ∧
    (∀ i, ∃ t, exec (.attQTail i) s = .next t ∧ t.get F.ATT_Q_TAIL_INDEX =
      if s.fatal = true then s.get F.ATT_Q_TAIL_INDEX else i % 2 ^ F.ATT_Q_TAIL_INDEX.width) ∧
    (∀ last, s.flag F.ATT_Q_CFG_EN = true → s.fatal = false → s.cryPaused = false → s.pcie.busMaster = true →
      s.get F.ATT_Q_HEAD_INDEX ≠ s.get F.ATT_Q_TAIL_INDEX → ∃ t, exec (.quoteQueueEntry false last) s = .next t ∧
        (let at_ := s.get64 F.ATT_Q_BASE_LO_ADDR F.ATT_Q_BASE_HI_ADDR + 64 * s.get F.ATT_Q_HEAD_INDEX
         let e := Config.hostRead s.img.dmaReads at_ 64
         ∃ q, t.gen.quotes = (at_ + 48, [1#8]) :: (beAt e 32 8, q) :: s.gen.quotes ∧ q = s.quote (slice e 0 32)) ∧
        t.gen.quoteSeq = s.gen.quoteSeq + 1 ∧ t.get F.ATT_STAT_Q_ERR = 0 ∧
        t.get F.ATT_Q_HEAD_INDEX = (s.get F.ATT_Q_HEAD_INDEX + 1) % max 1 (s.get F.ATT_Q_CFG_SIZE) %
          2 ^ F.ATT_Q_HEAD_INDEX.width ∧
        t.flt.sent = if last = true then s.get F.ATT_Q_CFG_VEC :: s.flt.sent else s.flt.sent) ∧
    (∀ last, s.flag F.ATT_Q_CFG_EN = true → s.fatal = false → s.cryPaused = false → s.pcie.busMaster = true →
      s.get F.ATT_Q_HEAD_INDEX ≠ s.get F.ATT_Q_TAIL_INDEX → ∃ t, exec (.quoteQueueEntry true last) s = .next t ∧
        t.get F.ATT_STAT_Q_ERR = 1 ∧ t.gen.quotes =
          (s.get64 F.ATT_Q_BASE_LO_ADDR F.ATT_Q_BASE_HI_ADDR + 64 * s.get F.ATT_Q_HEAD_INDEX + 48, [2#8]) :: s.gen.quotes)
end

