-- ==== Sys2Proof/Laws/Table.lean ====
section
/-! SUPPORT. Laws of the sparse tables: what an insertion, an erasure or a filter leaves, and that each keeps the keys
rising and the canonical form. -/

namespace Sys2Proof.Machine

variable {α : Type}

theorem Tab.find_cons (k n : Nat) (v : α) (t : Tab α) :
    Tab.find ((k, v) :: t) n = if k = n then some v else Tab.find t n := rfl

@[simp] theorem Tab.find_nil (n : Nat) : Tab.find ([] : Tab α) n = none := rfl

/-- Reading back the key inserted. -/
@[simp] theorem Tab.find_insert_same (t : Tab α) (n : Nat) (v : α) : Tab.find (Tab.insert t n v) n = some v := by
  induction t with
  | nil => simp [Tab.insert, Tab.find]
  | cons e t ih =>
    obtain ⟨k, w⟩ := e
    simp only [Tab.insert]
    split
    · simp [Tab.find]
    · split
      · simp [Tab.find]
      · rename_i h; simp [Tab.find, ih, Ne.symm h]

/-- An insertion leaves every other key alone. -/
theorem Tab.find_insert_ne (t : Tab α) (n m : Nat) (v : α) (h : n ≠ m) :
    Tab.find (Tab.insert t n v) m = Tab.find t m := by
  induction t with
  | nil => simp [Tab.insert, Tab.find, h]
  | cons e t ih =>
    obtain ⟨k, w⟩ := e
    simp only [Tab.insert]
    split
    · simp [Tab.find, h]
    · split
      · rename_i hk; subst hk; simp [Tab.find, h]
      · simp [Tab.find, ih]

/-- An erasure leaves every other key alone. -/
theorem Tab.find_erase_ne (t : Tab α) (n m : Nat) (h : n ≠ m) : Tab.find (Tab.erase t n) m = Tab.find t m := by
  induction t with
  | nil => rfl
  | cons e t ih =>
    obtain ⟨k, w⟩ := e
    simp only [Tab.erase]
    split
    · rename_i hk; subst hk; simp [Tab.find, h, ih]
    · simp [Tab.find, ih]

theorem Tab.above_trans (a b : Nat) (t : Tab α) (h : a < b) (hb : Tab.above b t = true) : Tab.above a t = true := by
  cases t with
  | nil => rfl
  | cons e t => simp only [Tab.above, decide_eq_true_eq] at *; omega

theorem Tab.find_of_above (t : Tab α) (n : Nat) (hs : Tab.sorted t = true) (ha : Tab.above n t = true) :
    Tab.find t n = none := by
  induction t with
  | nil => rfl
  | cons e t ih =>
    obtain ⟨k, w⟩ := e
    simp only [Tab.sorted, Bool.and_eq_true, Tab.above, decide_eq_true_eq] at hs ha
    have : k ≠ n := by omega
    simp [Tab.find, this, ih hs.2 (Tab.above_trans n k t ha hs.1)]

/-- Nothing is listed at the key erased. -/
theorem Tab.find_erase_same (t : Tab α) (n : Nat) : Tab.find (Tab.erase t n) n = none := by
  induction t with
  | nil => rfl
  | cons e t ih =>
    obtain ⟨k, w⟩ := e
    simp only [Tab.erase]
    split
    · exact ih
    · rename_i hk; simp [Tab.find, hk, ih]

theorem Tab.above_insert (t : Tab α) (a n : Nat) (v : α) (h : a < n) (ha : Tab.above a t = true) :
    Tab.above a (Tab.insert t n v) = true := by
  cases t with
  | nil => simpa [Tab.insert, Tab.above] using h
  | cons e t =>
    simp only [Tab.insert]
    split
    · simpa [Tab.above] using h
    · split
      · simpa [Tab.above] using h
      · exact ha

/-- An insertion keeps the keys rising. -/
theorem Tab.sorted_insert (t : Tab α) (n : Nat) (v : α) (hs : Tab.sorted t = true) :
    Tab.sorted (Tab.insert t n v) = true := by
  induction t with
  | nil => rfl
  | cons e t ih =>
    obtain ⟨k, w⟩ := e
    have h0 := hs
    simp only [Tab.sorted, Bool.and_eq_true] at hs
    simp only [Tab.insert]
    split
    · rename_i hk
      simp only [Tab.sorted, Bool.and_eq_true]
      exact ⟨by simpa [Tab.above] using hk, hs.1, hs.2⟩
    · split
      · rename_i hk; subst hk; simp [Tab.sorted, hs]
      · simp only [Tab.sorted, Bool.and_eq_true]
        exact ⟨Tab.above_insert t k n v (by omega) hs.1, ih hs.2⟩

theorem Tab.above_erase (t : Tab α) (a n : Nat) (hs : Tab.sorted t = true) (ha : Tab.above a t = true) :
    Tab.above a (Tab.erase t n) = true := by
  induction t with
  | nil => rfl
  | cons e t ih =>
    obtain ⟨k, w⟩ := e
    simp only [Tab.sorted, Bool.and_eq_true] at hs
    simp only [Tab.erase]
    split
    · simp only [Tab.above, decide_eq_true_eq] at ha
      exact ih hs.2 (Tab.above_trans a k t ha hs.1)
    · exact ha

/-- An erasure keeps the keys rising. -/
theorem Tab.sorted_erase (t : Tab α) (n : Nat) (hs : Tab.sorted t = true) : Tab.sorted (Tab.erase t n) = true := by
  induction t with
  | nil => rfl
  | cons e t ih =>
    obtain ⟨k, w⟩ := e
    have h0 := hs
    simp only [Tab.sorted, Bool.and_eq_true] at hs
    simp only [Tab.erase]
    split
    · exact ih hs.2
    · simp only [Tab.sorted, Bool.and_eq_true]
      exact ⟨Tab.above_erase t k n hs.2 hs.1, ih hs.2⟩

theorem Tab.above_filter (t : Tab α) (a : Nat) (p : Nat × α → Bool) (hs : Tab.sorted t = true)
    (ha : Tab.above a t = true) : Tab.above a (t.filter p) = true := by
  induction t with
  | nil => rfl
  | cons e t ih =>
    obtain ⟨k, w⟩ := e
    simp only [Tab.sorted, Bool.and_eq_true] at hs
    simp only [Tab.above, decide_eq_true_eq] at ha
    simp only [List.filter]
    split
    · simpa [Tab.above] using ha
    · exact ih hs.2 (Tab.above_trans a k t ha hs.1)

/-- Leaving out entries keeps the keys rising. -/
theorem Tab.sorted_filter (t : Tab α) (p : Nat × α → Bool) (hs : Tab.sorted t = true) :
    Tab.sorted (t.filter p) = true := by
  induction t with
  | nil => rfl
  | cons e t ih =>
    obtain ⟨k, w⟩ := e
    simp only [Tab.sorted, Bool.and_eq_true] at hs
    simp only [List.filter]
    split
    · simp only [Tab.sorted, Bool.and_eq_true]
      exact ⟨Tab.above_filter t k p hs.2 hs.1, ih hs.2⟩
    · exact ih hs.2

theorem Tab.sorted_put [DecidableEq α] (d : α) (t : Tab α) (n : Nat) (v : α) (hs : Tab.sorted t = true) :
    Tab.sorted (Tab.put d t n v) = true := by
  simp only [Tab.put]
  split
  · exact Tab.sorted_erase t n hs
  · exact Tab.sorted_insert t n v hs

theorem Marks.sorted_to (m : Marks) (n : Nat) (b : Bool) (hs : Tab.sorted m = true) : Tab.sorted (m.to n b) = true := by
  simp only [Marks.to]
  split
  · exact Tab.sorted_insert m n () hs
  · exact Tab.sorted_erase m n hs

theorem Tab.all_insert (t : Tab α) (n : Nat) (v : α) (p : Nat × α → Bool) (h : t.all p = true) (hv : p (n, v) = true) :
    (Tab.insert t n v).all p = true := by
  induction t with
  | nil => simp [Tab.insert, hv]
  | cons e t ih =>
    obtain ⟨k, w⟩ := e
    simp only [List.all_cons, Bool.and_eq_true] at h
    simp only [Tab.insert]
    split
    · simp [hv, h]
    · split
      · simp [hv, h]
      · simp only [List.all_cons, Bool.and_eq_true]; exact ⟨h.1, ih h.2⟩

theorem Tab.all_erase (t : Tab α) (n : Nat) (p : Nat × α → Bool) (h : t.all p = true) : (Tab.erase t n).all p = true := by
  induction t with
  | nil => rfl
  | cons e t ih =>
    obtain ⟨k, w⟩ := e
    simp only [List.all_cons, Bool.and_eq_true] at h
    simp only [Tab.erase]
    split
    · exact ih h.2
    · simp only [List.all_cons, Bool.and_eq_true]; exact ⟨h.1, ih h.2⟩

/-- A write keeps the canonical form: writing what an unlisted key reads as takes the entry out. -/
theorem Tab.wf_put [DecidableEq α] (d : α) (t : Tab α) (n : Nat) (v : α) (h : Tab.wf d t = true) :
    Tab.wf d (Tab.put d t n v) = true := by
  simp only [Tab.wf, Bool.and_eq_true] at *
  refine ⟨Tab.sorted_put d t n v h.1, ?_⟩
  simp only [Tab.put]
  split
  · exact Tab.all_erase t n _ h.2
  · exact Tab.all_insert t n v _ h.2 (by simpa using ‹¬v = d›)

/-- Leaving out entries keeps the canonical form. -/
theorem Tab.wf_filter [DecidableEq α] (d : α) (t : Tab α) (p : Nat × α → Bool) (h : Tab.wf d t = true) :
    Tab.wf d (t.filter p) = true := by
  simp only [Tab.wf, Bool.and_eq_true] at *
  refine ⟨Tab.sorted_filter t p h.1, ?_⟩
  rw [List.all_eq_true] at *
  intro x hx
  exact h.2 x (List.mem_filter.mp hx).1

/-- What a key reads as after a write of that key. -/
theorem Tab.get_put_same [DecidableEq α] (d : α) (t : Tab α) (n : Nat) (v : α) :
    Tab.get d (Tab.put d t n v) n = v := by
  simp only [Tab.put, Tab.get]
  split
  · rename_i h; subst h; simp [Tab.find_erase_same]
  · simp

/-- What a key reads as after a write of another key. -/
theorem Tab.get_put_ne [DecidableEq α] (d : α) (t : Tab α) (n m : Nat) (v : α) (h : n ≠ m) :
    Tab.get d (Tab.put d t n v) m = Tab.get d t m := by
  simp only [Tab.put, Tab.get]
  split
  · rw [Tab.find_erase_ne t n m h]
  · rw [Tab.find_insert_ne t n m v h]

theorem Tab.find_filter (t : Tab α) (n : Nat) (p : Nat × α → Bool) (h : ∀ v, p (n, v) = true) :
    Tab.find (t.filter p) n = Tab.find t n := by
  induction t with
  | nil => rfl
  | cons e t ih =>
    obtain ⟨k, w⟩ := e
    simp only [List.filter]
    split
    · simp [Tab.find, ih]
    · rename_i hp
      have : k ≠ n := by rintro rfl; simp [h] at hp
      simp [Tab.find, this, ih]

theorem clearRange_eq (lo n : Nat) (m : List Host.Cell) :
    clearRange lo n m = m.filter fun x => !(decide (lo ≤ x.1) && decide (x.1 < lo + n)) := by
  induction m with
  | nil => rfl
  | cons e t ih =>
    obtain ⟨k, v⟩ := e
    simp only [clearRange, List.filter]
    by_cases h1 : lo ≤ k <;> by_cases h2 : k < lo + n <;> simp [h1, h2, ih]

end Sys2Proof.Machine
end

