-- ==== Sys2Proof/Laws/Reach.lean ====
section
/-! SUPPORT. What an operation can reach: the parts of the state and the register blocks it may change, that it keeps the
canonical form and the dark FATAL state, and that it does not leave FATAL. One such law per operation stands in the
files beside this one; `mask` numbers what may change, bits 0–27 the register blocks, the bits of `Part.bit` the parts,
bit 100 that FATAL may end. -/

namespace Sys2Proof.Machine

/-- The bit of a mask that stands for a part. -/
def Part.bit : Part → Nat
  | .pending => 32
  | .causes => 33
  | .heldLo => 34
  | .posted => 35
  | .mem => 36
  | .poison => 37
  | .stackPoison => 38
  | .cleaned => 39
  | .freeCount => 40
  | .flt => 41
  | .pwr => 42
  | .pcie => 43
  | .links => 44
  | .otp => 45
  | .boot => 46
  | .gen => 47
  | .qrn => 48
  | .sched => 49
  | .red => 50
  | .step => 51
  | .img => 52
  | .mbr => 53
  | .pond => 54
  | .hop => 55
  | .out => 56
  | .fab => 57
  | .late => 58
  | .col => 59
  | .lhl => 60
  | .mlr => 61
  | .cmp => 62
  | .cry => 63
  | .time => 64
  | .slu => 65
  | .lit => 66
  | .opt => 67

/-- From `s` to `t` only what the mask allows has changed, and the invariants are kept. -/
structure Reach (mask : Nat) (s t : State) : Prop where
  part : ∀ p : Part, mask.testBit p.bit = false → p.same s t
  regs : ∀ k, mask.testBit (keyBlock k) = false → Tab.find t.regs k = Tab.find s.regs k
  canon : s.canonical = true → t.canonical = true
  dark : s.dark → t.dark
  stays : mask.testBit 100 = false → s.fatal = true → t.fatal = true

theorem Part.same_refl (p : Part) (s : State) : p.same s s := by cases p <;> rfl

theorem Part.same_trans {p : Part} {s t u : State} (h : p.same s t) (k : p.same t u) : p.same s u := by
  cases p <;> exact Eq.trans k h

theorem Reach.refl (m : Nat) (s : State) : Reach m s s :=
  ⟨fun p _ => p.same_refl s, fun _ _ => rfl, id, id, fun _ => id⟩

theorem testBit_sub {m n i : Nat} (h : Nat.land m n = m) (hi : n.testBit i = false) : m.testBit i = false := by
  rw [← h]
  show (m &&& n).testBit i = false
  rw [Nat.testBit_and, hi, Bool.and_false]

/-- What one operation reaches, after what came before it. -/
theorem Reach.step {m n : Nat} {s t u : State} (h : Reach m s t) (k : Reach n t u) (hn : Nat.land n m = n) :
    Reach m s u :=
  ⟨fun p hp => Part.same_trans (h.part p hp) (k.part p (testBit_sub hn hp)),
    fun q hq => (k.regs q (testBit_sub hn hq)).trans (h.regs q hq),
    fun c => k.canon (h.canon c), fun d => k.dark (h.dark d), fun b f => k.stays (testBit_sub hn b) (h.stays b f)⟩

theorem Reach.mono {m n : Nat} {s t : State} (k : Reach n s t) (hn : Nat.land n m = n) : Reach m s t :=
  (Reach.refl m s).step k hn

theorem Reach.trans {m : Nat} {s t u : State} (h : Reach m s t) (k : Reach m t u) : Reach m s u :=
  ⟨fun p hp => Part.same_trans (h.part p hp) (k.part p hp), fun q hq => (k.regs q hq).trans (h.regs q hq),
    fun c => k.canon (h.canon c), fun d => k.dark (h.dark d), fun b f => k.stays b (h.stays b f)⟩

theorem Reach.ite {m : Nat} {s t u : State} {c : Prop} [Decidable c] (h : Reach m s t) (k : Reach m s u) :
    Reach m s (if c then t else u) := by
  split
  · exact h
  · exact k

theorem Reach.foldl {m : Nat} {s t : State} {β : Type} {f : State → β → State} {l : List β} (h : Reach m s t)
    (hf : ∀ u x, Reach m u (f u x)) : Reach m s (List.foldl f t l) := by
  induction l generalizing t with
  | nil => exact h
  | cons x l ih => exact ih (h.trans (hf t x))

theorem Reach.foldl_fst {m : Nat} {s : State} {α β : Type} {f : State × α → β → State × α} {l : List β}
    {p : State × α} (h : Reach m s p.1) (hf : ∀ u x, Reach m u.1 (f u x).1) : Reach m s (List.foldl f p l).1 := by
  induction l generalizing p with
  | nil => exact h
  | cons x l ih => exact ih (h.trans (hf p x))

theorem Reach.foldl_snd {m : Nat} {s : State} {α β : Type} {f : α × State → β → α × State} {l : List β}
    {p : α × State} (h : Reach m s p.2) (hf : ∀ u x, Reach m u.2 (f u x).2) : Reach m s (List.foldl f p l).2 := by
  induction l generalizing p with
  | nil => exact h
  | cons x l ih => exact ih (h.trans (hf p x))

/-! A field of the register file. -/

/-- A field that stands in a block the mask allows and is not the FATAL bit. -/
def Fld.ok (f : Fld) (m : Nat) : Bool :=
  decide (f.lo < 32) && decide (f.base < 2 ^ 25) && m.testBit (f.base / 2 ^ 20) &&
    !(f.base == F.FLT_STAT_FATAL.base && f.lo == F.FLT_STAT_FATAL.lo)

@[simp] theorem Fld.ok_ix (f : Fld) (i j k m : Nat) : (f.ix i j k).ok m = f.ok m := rfl

theorem land_sub {a b m : Nat} (h : Nat.land b m = b) (hab : Nat.land a b = a) : Nat.land a m = a := by
  have h1 : a &&& b = a := hab
  have h2 : b &&& m = b := h
  show a &&& m = a
  rw [← h1, Nat.and_assoc, h2]

theorem Fld.ok_sub {b m : Nat} {f : Fld} (h : Nat.land b m = b) (hf : f.ok b = true) : f.ok m = true := by
  simp only [Fld.ok, Bool.and_eq_true] at hf ⊢
  refine ⟨⟨hf.1.1, ?_⟩, hf.2⟩
  rcases hb : m.testBit (f.base / 2 ^ 20) with _ | _
  · rw [testBit_sub h hb] at hf
    exact absurd hf.1.2 (by decide)
  · rfl

/-- Every field that a list names is allowed. -/
def okFlds (m : Nat) (l : List Fld) : Prop := ∀ f ∈ l, f.ok m = true

/-- Every field that a list of writes names is allowed. -/
def okAll (m : Nat) (l : List (Fld × Nat)) : Prop := ∀ x ∈ l, x.1.ok m = true

theorem okFlds.nil {m : Nat} : okFlds m [] := fun _ h => nomatch h

theorem okFlds.cons {m : Nat} {f : Fld} {l : List Fld} (h : f.ok m = true) (hl : okFlds m l) : okFlds m (f :: l) := by
  intro g hg
  cases hg with
  | head => exact h
  | tail _ hg => exact hl g hg

theorem okAll.nil {m : Nat} : okAll m [] := fun _ h => nomatch h

theorem okAll.cons {m v : Nat} {f : Fld} {l : List (Fld × Nat)} (h : f.ok m = true) (hl : okAll m l) :
    okAll m ((f, v) :: l) := by
  intro g hg
  cases hg with
  | head => exact h
  | tail _ hg => exact hl g hg

theorem okAll.append {m : Nat} {l k : List (Fld × Nat)} (h : okAll m l) (hk : okAll m k) : okAll m (l ++ k) := by
  intro g hg
  rcases List.mem_append.mp hg with hg | hg
  · exact h g hg
  · exact hk g hg

theorem okFlds.append {m : Nat} {l k : List Fld} (h : okFlds m l) (hk : okFlds m k) : okFlds m (l ++ k) := by
  intro g hg
  rcases List.mem_append.mp hg with hg | hg
  · exact h g hg
  · exact hk g hg

theorem okAll.flatMap {m : Nat} {α : Type} {l : List α} {g : α → List (Fld × Nat)} (h : ∀ a, okAll m (g a)) :
    okAll m (l.flatMap g) := by
  intro x hx
  obtain ⟨a, _, ha⟩ := List.mem_flatMap.mp hx
  exact h a x ha

theorem okFlds.flatMap {m : Nat} {α : Type} {l : List α} {g : α → List Fld} (h : ∀ a, okFlds m (g a)) :
    okFlds m (l.flatMap g) := by
  intro x hx
  obtain ⟨a, _, ha⟩ := List.mem_flatMap.mp hx
  exact h a x ha

theorem okAll.map {m : Nat} {α : Type} {l : List α} {f : α → Fld} {v : α → Nat} (h : ∀ a, (f a).ok m = true) :
    okAll m (l.map fun a => (f a, v a)) := by
  intro x hx
  obtain ⟨a, _, rfl⟩ := List.mem_map.mp hx
  exact h a

theorem okFlds.map {m : Nat} {α : Type} {l : List α} {f : α → Fld} (h : ∀ a, (f a).ok m = true) :
    okFlds m (l.map f) := by
  intro x hx
  obtain ⟨a, _, rfl⟩ := List.mem_map.mp hx
  exact h a

theorem keyBlock_key (f : Fld) (hl : f.lo < 32) (hb : f.base < 2 ^ 25) : keyBlock f.key = f.base / 2 ^ 20 := by
  simp only [keyBlock, Fld.key] at *
  omega

theorem key_ne_of_base (f g : Fld) (hf : f.lo < 32) (hfb : f.base < 2 ^ 25) (hg : g.lo < 32) (hgb : g.base < 2 ^ 25)
    (h : ¬(f.base = g.base ∧ f.lo = g.lo)) : f.key ≠ g.key := by
  simp only [Fld.key] at *
  omega

/-- A field reads as before when nothing but another key changed. -/
theorem State.find_set_ne (s : State) (f : Fld) (v k : Nat) (h : f.key ≠ k) :
    Tab.find (s.set f v).regs k = Tab.find s.regs k := by
  simp only [State.set]
  split
  · exact Tab.find_erase_ne _ _ _ h
  · exact Tab.find_insert_ne _ _ _ _ h

theorem State.get_set_ne (s : State) (f g : Fld) (v : Nat) (h : f.key ≠ g.key) : (s.set f v).get g = s.get g := by
  simp only [State.get, State.find_set_ne s f v g.key h]

/-- A field reads back the value written, cut to its width. -/
theorem State.get_set_same (s : State) (f : Fld) (v : Nat) :
    (s.set f v).get f = v % 2 ^ f.width := by
  simp only [State.set, State.get]
  split
  · rename_i h; rw [Tab.find_erase_same, h]; rfl
  · simp

theorem State.set_sorted (s : State) (f : Fld) (v : Nat) (hs : Tab.sorted s.regs = true) :
    Tab.sorted (s.set f v).regs = true := by
  simp only [State.set]
  split
  · exact Tab.sorted_erase _ _ hs
  · exact Tab.sorted_insert _ _ _ hs

/-- A write of another field leaves FATAL alone. -/
theorem State.fatal_set (m : Nat) (s : State) (f : Fld) (v : Nat) (hf : f.ok m = true) : (s.set f v).fatal = s.fatal := by
  simp only [Fld.ok, Bool.and_eq_true, decide_eq_true_eq, Bool.not_eq_true', Bool.and_eq_false_iff] at hf
  obtain ⟨⟨⟨hl, hb⟩, hm⟩, hne⟩ := hf
  have hk : f.key ≠ F.FLT_STAT_FATAL.key := by
    apply key_ne_of_base f _ hl hb (by decide) (by decide)
    rintro ⟨h1, h2⟩
    simp [h1, h2] at hne
  simp only [State.fatal, State.flag, State.get_set_ne s f _ v hk]

theorem Reach.set {m : Nat} {s t : State} (h : Reach m s t) (f : Fld) (v : Nat) (hf : f.ok m = true) :
    Reach m s (t.set f v) := by
  have hfat := State.fatal_set m t f v hf
  simp only [Fld.ok, Bool.and_eq_true, decide_eq_true_eq] at hf
  obtain ⟨⟨⟨hl, hb⟩, hm⟩, _⟩ := hf
  refine h.trans ⟨fun p _ => by cases p <;> rfl, fun k hk' => ?_, fun c => ?_, fun d hfa => ?_, fun _ hfa => ?_⟩
  · apply State.find_set_ne
    rintro rfl
    rw [keyBlock_key f hl hb, hm] at hk'
    exact Bool.noConfusion hk'
  · simp only [State.canonical, Bool.and_eq_true] at c ⊢
    obtain ⟨⟨⟨⟨⟨⟨⟨c1, c2⟩, c3⟩, c4⟩, c5⟩, c6⟩, c7⟩, c8⟩ := c
    exact ⟨⟨⟨⟨⟨⟨⟨State.set_sorted t f v c1, c2⟩, c3⟩, c4⟩, c5⟩, c6⟩, c7⟩, c8⟩
  · exact d (hfat ▸ hfa)
  · rw [hfat]; exact hfa

/-- A change of parts outside the tables that have a canonical form. -/
theorem Reach.rebuild {m : Nat} {s t : State} (u : State) (h : Reach m s t)
    (hp : ∀ p : Part, m.testBit p.bit = false → p.same t u) (hr : u.regs = t.regs)
    (hc : t.canonical = true → u.canonical = true) (hl : t.lit = [] → u.lit = []) : Reach m s u := by
  refine h.trans ⟨hp, fun k _ => by rw [hr], hc, fun d hf => hl (d ?_), fun _ hf => ?_⟩
  · simpa only [State.fatal, State.flag, State.get, hr] using hf
  · simpa only [State.fatal, State.flag, State.get, hr] using hf

theorem Reach.with_boot {m : Nat} {s t : State} (h : Reach m s t) (x0 : _)
    (hm : Nat.land 0x400000000000 m = 0x400000000000) : Reach m s { t with boot := x0 } := by
  refine Reach.rebuild _ h (fun p hp => ?_) rfl id id
  have := testBit_sub hm hp
  cases p <;> first | rfl | exact absurd this (by decide)

theorem Reach.with_cmp {m : Nat} {s t : State} (h : Reach m s t) (x0 : _)
    (hm : Nat.land 0x4000000000000000 m = 0x4000000000000000) : Reach m s { t with cmp := x0 } := by
  refine Reach.rebuild _ h (fun p hp => ?_) rfl id id
  have := testBit_sub hm hp
  cases p <;> first | rfl | exact absurd this (by decide)

theorem Reach.with_col {m : Nat} {s t : State} (h : Reach m s t) (x0 : _)
    (hm : Nat.land 0x800000000000000 m = 0x800000000000000) : Reach m s { t with col := x0 } := by
  refine Reach.rebuild _ h (fun p hp => ?_) rfl id id
  have := testBit_sub hm hp
  cases p <;> first | rfl | exact absurd this (by decide)

theorem Reach.with_cry {m : Nat} {s t : State} (h : Reach m s t) (x0 : _)
    (hm : Nat.land 0x8000000000000000 m = 0x8000000000000000) : Reach m s { t with cry := x0 } := by
  refine Reach.rebuild _ h (fun p hp => ?_) rfl id id
  have := testBit_sub hm hp
  cases p <;> first | rfl | exact absurd this (by decide)

theorem Reach.with_fab {m : Nat} {s t : State} (h : Reach m s t) (x0 : _)
    (hm : Nat.land 0x200000000000000 m = 0x200000000000000) : Reach m s { t with fab := x0 } := by
  refine Reach.rebuild _ h (fun p hp => ?_) rfl id id
  have := testBit_sub hm hp
  cases p <;> first | rfl | exact absurd this (by decide)

theorem Reach.with_flt {m : Nat} {s t : State} (h : Reach m s t) (x0 : _)
    (hm : Nat.land 0x20000000000 m = 0x20000000000) : Reach m s { t with flt := x0 } := by
  refine Reach.rebuild _ h (fun p hp => ?_) rfl id id
  have := testBit_sub hm hp
  cases p <;> first | rfl | exact absurd this (by decide)

theorem Reach.with_freeCount {m : Nat} {s t : State} (h : Reach m s t) (x0 : _)
    (hm : Nat.land 0x10000000000 m = 0x10000000000) : Reach m s { t with freeCount := x0 } := by
  refine Reach.rebuild _ h (fun p hp => ?_) rfl id id
  have := testBit_sub hm hp
  cases p <;> first | rfl | exact absurd this (by decide)

theorem Reach.with_gen {m : Nat} {s t : State} (h : Reach m s t) (x0 : _)
    (hm : Nat.land 0x800000000000 m = 0x800000000000) : Reach m s { t with gen := x0 } := by
  refine Reach.rebuild _ h (fun p hp => ?_) rfl id id
  have := testBit_sub hm hp
  cases p <;> first | rfl | exact absurd this (by decide)

theorem Reach.with_hop {m : Nat} {s t : State} (h : Reach m s t) (x0 : _)
    (hm : Nat.land 0x80000000000000 m = 0x80000000000000) : Reach m s { t with hop := x0 } := by
  refine Reach.rebuild _ h (fun p hp => ?_) rfl id id
  have := testBit_sub hm hp
  cases p <;> first | rfl | exact absurd this (by decide)

theorem Reach.with_img {m : Nat} {s t : State} (h : Reach m s t) (x0 : _)
    (hm : Nat.land 0x10000000000000 m = 0x10000000000000) : Reach m s { t with img := x0 } := by
  refine Reach.rebuild _ h (fun p hp => ?_) rfl id id
  have := testBit_sub hm hp
  cases p <;> first | rfl | exact absurd this (by decide)

theorem Reach.with_late {m : Nat} {s t : State} (h : Reach m s t) (x0 : _)
    (hm : Nat.land 0x400000000000000 m = 0x400000000000000) : Reach m s { t with late := x0 } := by
  refine Reach.rebuild _ h (fun p hp => ?_) rfl id id
  have := testBit_sub hm hp
  cases p <;> first | rfl | exact absurd this (by decide)

theorem Reach.with_lhl {m : Nat} {s t : State} (h : Reach m s t) (x0 : _)
    (hm : Nat.land 0x1000000000000000 m = 0x1000000000000000) : Reach m s { t with lhl := x0 } := by
  refine Reach.rebuild _ h (fun p hp => ?_) rfl id id
  have := testBit_sub hm hp
  cases p <;> first | rfl | exact absurd this (by decide)

theorem Reach.with_links {m : Nat} {s t : State} (h : Reach m s t) (x0 : _)
    (hm : Nat.land 0x100000000000 m = 0x100000000000) : Reach m s { t with links := x0 } := by
  refine Reach.rebuild _ h (fun p hp => ?_) rfl id id
  have := testBit_sub hm hp
  cases p <;> first | rfl | exact absurd this (by decide)

theorem Reach.with_mbr {m : Nat} {s t : State} (h : Reach m s t) (x0 : _)
    (hm : Nat.land 0x20000000000000 m = 0x20000000000000) : Reach m s { t with mbr := x0 } := by
  refine Reach.rebuild _ h (fun p hp => ?_) rfl id id
  have := testBit_sub hm hp
  cases p <;> first | rfl | exact absurd this (by decide)

theorem Reach.with_mlr {m : Nat} {s t : State} (h : Reach m s t) (x0 : _)
    (hm : Nat.land 0x2000000000000000 m = 0x2000000000000000) : Reach m s { t with mlr := x0 } := by
  refine Reach.rebuild _ h (fun p hp => ?_) rfl id id
  have := testBit_sub hm hp
  cases p <;> first | rfl | exact absurd this (by decide)

theorem Reach.with_opt {m : Nat} {s t : State} (h : Reach m s t) (x0 : _)
    (hm : Nat.land 0x80000000000000000 m = 0x80000000000000000) : Reach m s { t with opt := x0 } := by
  refine Reach.rebuild _ h (fun p hp => ?_) rfl id id
  have := testBit_sub hm hp
  cases p <;> first | rfl | exact absurd this (by decide)

theorem Reach.with_otp {m : Nat} {s t : State} (h : Reach m s t) (x0 : _)
    (hm : Nat.land 0x200000000000 m = 0x200000000000) : Reach m s { t with otp := x0 } := by
  refine Reach.rebuild _ h (fun p hp => ?_) rfl id id
  have := testBit_sub hm hp
  cases p <;> first | rfl | exact absurd this (by decide)

theorem Reach.with_out {m : Nat} {s t : State} (h : Reach m s t) (x0 : _)
    (hm : Nat.land 0x100000000000000 m = 0x100000000000000) : Reach m s { t with out := x0 } := by
  refine Reach.rebuild _ h (fun p hp => ?_) rfl id id
  have := testBit_sub hm hp
  cases p <;> first | rfl | exact absurd this (by decide)

theorem Reach.with_pcie {m : Nat} {s t : State} (h : Reach m s t) (x0 : _)
    (hm : Nat.land 0x80000000000 m = 0x80000000000) : Reach m s { t with pcie := x0 } := by
  refine Reach.rebuild _ h (fun p hp => ?_) rfl id id
  have := testBit_sub hm hp
  cases p <;> first | rfl | exact absurd this (by decide)

theorem Reach.with_pending {m : Nat} {s t : State} (h : Reach m s t) (x0 : _)
    (hm : Nat.land 0x100000000 m = 0x100000000) : Reach m s { t with pending := x0 } := by
  refine Reach.rebuild _ h (fun p hp => ?_) rfl id id
  have := testBit_sub hm hp
  cases p <;> first | rfl | exact absurd this (by decide)

theorem Reach.with_pond {m : Nat} {s t : State} (h : Reach m s t) (x0 : _)
    (hm : Nat.land 0x40000000000000 m = 0x40000000000000) : Reach m s { t with pond := x0 } := by
  refine Reach.rebuild _ h (fun p hp => ?_) rfl id id
  have := testBit_sub hm hp
  cases p <;> first | rfl | exact absurd this (by decide)

theorem Reach.with_posted {m : Nat} {s t : State} (h : Reach m s t) (x0 : _)
    (hm : Nat.land 0x800000000 m = 0x800000000) : Reach m s { t with posted := x0 } := by
  refine Reach.rebuild _ h (fun p hp => ?_) rfl id id
  have := testBit_sub hm hp
  cases p <;> first | rfl | exact absurd this (by decide)

theorem Reach.with_pwr {m : Nat} {s t : State} (h : Reach m s t) (x0 : _)
    (hm : Nat.land 0x40000000000 m = 0x40000000000) : Reach m s { t with pwr := x0 } := by
  refine Reach.rebuild _ h (fun p hp => ?_) rfl id id
  have := testBit_sub hm hp
  cases p <;> first | rfl | exact absurd this (by decide)

theorem Reach.with_qrn {m : Nat} {s t : State} (h : Reach m s t) (x0 : _)
    (hm : Nat.land 0x1000000000000 m = 0x1000000000000) : Reach m s { t with qrn := x0 } := by
  refine Reach.rebuild _ h (fun p hp => ?_) rfl id id
  have := testBit_sub hm hp
  cases p <;> first | rfl | exact absurd this (by decide)

theorem Reach.with_red {m : Nat} {s t : State} (h : Reach m s t) (x0 : _)
    (hm : Nat.land 0x4000000000000 m = 0x4000000000000) : Reach m s { t with red := x0 } := by
  refine Reach.rebuild _ h (fun p hp => ?_) rfl id id
  have := testBit_sub hm hp
  cases p <;> first | rfl | exact absurd this (by decide)

theorem Reach.with_sched {m : Nat} {s t : State} (h : Reach m s t) (x0 : _)
    (hm : Nat.land 0x2000000000000 m = 0x2000000000000) : Reach m s { t with sched := x0 } := by
  refine Reach.rebuild _ h (fun p hp => ?_) rfl id id
  have := testBit_sub hm hp
  cases p <;> first | rfl | exact absurd this (by decide)

theorem Reach.with_slu {m : Nat} {s t : State} (h : Reach m s t) (x0 : _)
    (hm : Nat.land 0x20000000000000000 m = 0x20000000000000000) : Reach m s { t with slu := x0 } := by
  refine Reach.rebuild _ h (fun p hp => ?_) rfl id id
  have := testBit_sub hm hp
  cases p <;> first | rfl | exact absurd this (by decide)

theorem Reach.with_step {m : Nat} {s t : State} (h : Reach m s t) (x0 : _)
    (hm : Nat.land 0x8000000000000 m = 0x8000000000000) : Reach m s { t with step := x0 } := by
  refine Reach.rebuild _ h (fun p hp => ?_) rfl id id
  have := testBit_sub hm hp
  cases p <;> first | rfl | exact absurd this (by decide)

theorem Reach.with_time {m : Nat} {s t : State} (h : Reach m s t) (x0 : _)
    (hm : Nat.land 0x10000000000000000 m = 0x10000000000000000) : Reach m s { t with time := x0 } := by
  refine Reach.rebuild _ h (fun p hp => ?_) rfl id id
  have := testBit_sub hm hp
  cases p <;> first | rfl | exact absurd this (by decide)

theorem Reach.with_boot_cry {m : Nat} {s t : State} (h : Reach m s t) (x0 : _) (x1 : _)
    (hm : Nat.land 0x8000400000000000 m = 0x8000400000000000) : Reach m s { t with boot := x0, cry := x1 } := by
  refine Reach.rebuild _ h (fun p hp => ?_) rfl id id
  have := testBit_sub hm hp
  cases p <;> first | rfl | exact absurd this (by decide)

theorem Reach.with_flt_boot {m : Nat} {s t : State} (h : Reach m s t) (x0 : _) (x1 : _)
    (hm : Nat.land 0x420000000000 m = 0x420000000000) : Reach m s { t with flt := x0, boot := x1 } := by
  refine Reach.rebuild _ h (fun p hp => ?_) rfl id id
  have := testBit_sub hm hp
  cases p <;> first | rfl | exact absurd this (by decide)

theorem Reach.with_gen_cry {m : Nat} {s t : State} (h : Reach m s t) (x0 : _) (x1 : _)
    (hm : Nat.land 0x8000800000000000 m = 0x8000800000000000) : Reach m s { t with gen := x0, cry := x1 } := by
  refine Reach.rebuild _ h (fun p hp => ?_) rfl id id
  have := testBit_sub hm hp
  cases p <;> first | rfl | exact absurd this (by decide)

theorem Reach.with_mbr_mlr {m : Nat} {s t : State} (h : Reach m s t) (x0 : _) (x1 : _)
    (hm : Nat.land 0x2020000000000000 m = 0x2020000000000000) : Reach m s { t with mbr := x0, mlr := x1 } := by
  refine Reach.rebuild _ h (fun p hp => ?_) rfl id id
  have := testBit_sub hm hp
  cases p <;> first | rfl | exact absurd this (by decide)

theorem Reach.with_otp_time {m : Nat} {s t : State} (h : Reach m s t) (x0 : _) (x1 : _)
    (hm : Nat.land 0x10000200000000000 m = 0x10000200000000000) : Reach m s { t with otp := x0, time := x1 } := by
  refine Reach.rebuild _ h (fun p hp => ?_) rfl id id
  have := testBit_sub hm hp
  cases p <;> first | rfl | exact absurd this (by decide)

theorem Reach.with_sched_img {m : Nat} {s t : State} (h : Reach m s t) (x0 : _) (x1 : _)
    (hm : Nat.land 0x12000000000000 m = 0x12000000000000) : Reach m s { t with sched := x0, img := x1 } := by
  refine Reach.rebuild _ h (fun p hp => ?_) rfl id id
  have := testBit_sub hm hp
  cases p <;> first | rfl | exact absurd this (by decide)

theorem Reach.with_sched_step {m : Nat} {s t : State} (h : Reach m s t) (x0 : _) (x1 : _)
    (hm : Nat.land 0xa000000000000 m = 0xa000000000000) : Reach m s { t with sched := x0, step := x1 } := by
  refine Reach.rebuild _ h (fun p hp => ?_) rfl id id
  have := testBit_sub hm hp
  cases p <;> first | rfl | exact absurd this (by decide)

theorem Reach.with_step_mbr {m : Nat} {s t : State} (h : Reach m s t) (x0 : _) (x1 : _)
    (hm : Nat.land 0x28000000000000 m = 0x28000000000000) : Reach m s { t with step := x0, mbr := x1 } := by
  refine Reach.rebuild _ h (fun p hp => ?_) rfl id id
  have := testBit_sub hm hp
  cases p <;> first | rfl | exact absurd this (by decide)

theorem Reach.with_flt_qrn_fab {m : Nat} {s t : State} (h : Reach m s t) (x0 : _) (x1 : _) (x2 : _)
    (hm : Nat.land 0x201020000000000 m = 0x201020000000000) : Reach m s { t with flt := x0, qrn := x1, fab := x2 } := by
  refine Reach.rebuild _ h (fun p hp => ?_) rfl id id
  have := testBit_sub hm hp
  cases p <;> first | rfl | exact absurd this (by decide)

theorem Reach.with_step_late_col {m : Nat} {s t : State} (h : Reach m s t) (x0 : _) (x1 : _) (x2 : _)
    (hm : Nat.land 0xc08000000000000 m = 0xc08000000000000) : Reach m s { t with step := x0, late := x1, col := x2 } := by
  refine Reach.rebuild _ h (fun p hp => ?_) rfl id id
  have := testBit_sub hm hp
  cases p <;> first | rfl | exact absurd this (by decide)

theorem Reach.with_step_mbr_mlr {m : Nat} {s t : State} (h : Reach m s t) (x0 : _) (x1 : _) (x2 : _)
    (hm : Nat.land 0x2028000000000000 m = 0x2028000000000000) : Reach m s { t with step := x0, mbr := x1, mlr := x2 } := by
  refine Reach.rebuild _ h (fun p hp => ?_) rfl id id
  have := testBit_sub hm hp
  cases p <;> first | rfl | exact absurd this (by decide)

theorem Reach.with_flt_otp_boot_gen_img {m : Nat} {s t : State} (h : Reach m s t) (x0 : _) (x1 : _) (x2 : _) (x3 : _) (x4 : _)
    (hm : Nat.land 0x10e20000000000 m = 0x10e20000000000) : Reach m s { t with flt := x0, otp := x1, boot := x2, gen := x3, img := x4 } := by
  refine Reach.rebuild _ h (fun p hp => ?_) rfl id id
  have := testBit_sub hm hp
  cases p <;> first | rfl | exact absurd this (by decide)

theorem Reach.with_sched_step_mbr_fab_late_lhl_mlr_slu {m : Nat} {s t : State} (h : Reach m s t) (x0 : _) (x1 : _) (x2 : _) (x3 : _) (x4 : _) (x5 : _) (x6 : _) (x7 : _)
    (hm : Nat.land 0x2362a000000000000 m = 0x2362a000000000000) : Reach m s { t with sched := x0, step := x1, mbr := x2, fab := x3, late := x4, lhl := x5, mlr := x6, slu := x7 } := by
  refine Reach.rebuild _ h (fun p hp => ?_) rfl id id
  have := testBit_sub hm hp
  cases p <;> first | rfl | exact absurd this (by decide)

theorem Reach.with_causes {m : Nat} {s t : State} (h : Reach m s t) (x : _)
    (hx : Tab.sorted t.causes = true → Tab.sorted x = true) (hm : Nat.land 0x200000000 m = 0x200000000) :
    Reach m s { t with causes := x } := by
  refine Reach.rebuild _ h (fun p hp => ?_) rfl (fun c => ?_) id
  · have := testBit_sub hm hp
    cases p <;> first | rfl | exact absurd this (by decide)
  · simp only [State.canonical, Bool.and_eq_true] at c ⊢
    simp only [c, hx, and_self]

theorem Reach.with_heldLo {m : Nat} {s t : State} (h : Reach m s t) (x : _)
    (hx : Tab.sorted t.heldLo = true → Tab.sorted x = true) (hm : Nat.land 0x400000000 m = 0x400000000) :
    Reach m s { t with heldLo := x } := by
  refine Reach.rebuild _ h (fun p hp => ?_) rfl (fun c => ?_) id
  · have := testBit_sub hm hp
    cases p <;> first | rfl | exact absurd this (by decide)
  · simp only [State.canonical, Bool.and_eq_true] at c ⊢
    simp only [c, hx, and_self]

theorem Reach.with_poison {m : Nat} {s t : State} (h : Reach m s t) (x : _)
    (hx : Tab.sorted t.poison = true → Tab.sorted x = true) (hm : Nat.land 0x2000000000 m = 0x2000000000) :
    Reach m s { t with poison := x } := by
  refine Reach.rebuild _ h (fun p hp => ?_) rfl (fun c => ?_) id
  · have := testBit_sub hm hp
    cases p <;> first | rfl | exact absurd this (by decide)
  · simp only [State.canonical, Bool.and_eq_true] at c ⊢
    simp only [c, hx, and_self]

theorem Reach.with_stackPoison {m : Nat} {s t : State} (h : Reach m s t) (x : _)
    (hx : Tab.sorted t.stackPoison = true → Tab.sorted x = true) (hm : Nat.land 0x4000000000 m = 0x4000000000) :
    Reach m s { t with stackPoison := x } := by
  refine Reach.rebuild _ h (fun p hp => ?_) rfl (fun c => ?_) id
  · have := testBit_sub hm hp
    cases p <;> first | rfl | exact absurd this (by decide)
  · simp only [State.canonical, Bool.and_eq_true] at c ⊢
    simp only [c, hx, and_self]

theorem Reach.with_cleaned {m : Nat} {s t : State} (h : Reach m s t) (x : _)
    (hx : Tab.sorted t.cleaned = true → Tab.sorted x = true) (hm : Nat.land 0x8000000000 m = 0x8000000000) :
    Reach m s { t with cleaned := x } := by
  refine Reach.rebuild _ h (fun p hp => ?_) rfl (fun c => ?_) id
  · have := testBit_sub hm hp
    cases p <;> first | rfl | exact absurd this (by decide)
  · simp only [State.canonical, Bool.and_eq_true] at c ⊢
    simp only [c, hx, and_self]

theorem Reach.with_mem {m : Nat} {s t : State} (h : Reach m s t) (x : List Host.Cell)
    (hx : Memory.wf t.mem = true → Memory.wf x = true) (hm : Nat.land 0x1000000000 m = 0x1000000000) :
    Reach m s { t with mem := x } := by
  refine Reach.rebuild _ h (fun p hp => ?_) rfl (fun c => ?_) id
  · have := testBit_sub hm hp
    cases p <;> first | rfl | exact absurd this (by decide)
  · simp only [State.canonical, Bool.and_eq_true] at c ⊢
    simp only [c, hx, and_self]

theorem Reach.with_lit {m : Nat} {s t : State} (h : Reach m s t) (x : Marks)
    (hx : Tab.sorted t.lit = true → Tab.sorted x = true) (hl : t.lit = [] → x = [])
    (hm : Nat.land 0x40000000000000000 m = 0x40000000000000000) : Reach m s { t with lit := x } := by
  refine Reach.rebuild _ h (fun p hp => ?_) rfl (fun c => ?_) hl
  · have := testBit_sub hm hp
    cases p <;> first | rfl | exact absurd this (by decide)
  · simp only [State.canonical, Bool.and_eq_true] at c ⊢
    simp only [c, hx, and_self]

/-- Registers taken back to their reset values, none of them in a block outside the mask and not FATAL. -/
theorem Reach.with_regs_filter {m : Nat} {s t : State} (h : Reach m s t) (p : Nat × Nat → Bool)
    (hp : ∀ k v, m.testBit (keyBlock k) = false → p (k, v) = true) (hf : ∀ v, p (F.FLT_STAT_FATAL.key, v) = true) :
    Reach m s { t with regs := t.regs.filter p } := by
  have hfat : ({ t with regs := t.regs.filter p } : State).fatal = t.fatal := by
    simp only [State.fatal, State.flag, State.get, Tab.find_filter t.regs _ p hf]
  refine h.trans ⟨fun q _ => by cases q <;> rfl, fun k hk => Tab.find_filter t.regs k p fun v => hp k v hk, fun c => ?_,
    fun d hfa => d (hfat ▸ hfa), fun _ hfa => hfat.trans hfa⟩
  simp only [State.canonical, Bool.and_eq_true] at c ⊢
  obtain ⟨⟨⟨⟨⟨⟨⟨c1, c2⟩, c3⟩, c4⟩, c5⟩, c6⟩, c7⟩, c8⟩ := c
  exact ⟨⟨⟨⟨⟨⟨⟨Tab.sorted_filter _ _ c1, c2⟩, c3⟩, c4⟩, c5⟩, c6⟩, c7⟩, c8⟩

/-- A fold whose every step takes place outside FATAL and stays outside it. -/
theorem Reach.foldl_live {m : Nat} {s t : State} {β : Type} {f : State → β → State} {l : List β} (h : Reach m s t)
    (ht : t.fatal = false) (hf : ∀ u x, u.fatal = false → Reach m u (f u x) ∧ (f u x).fatal = false) :
    Reach m s (List.foldl f t l) := by
  induction l generalizing t with
  | nil => exact h
  | cons x l ih => exact ih (h.trans (hf t x ht).1) (hf t x ht).2

/-! What a frame says, from what an operation reaches. -/

/-- The parts a mask allows. -/
theorem Reach.frame {m : Nat} {s t : State} (h : Reach m s t) (ps : List Part) (bs : List Nat)
    (hp : ∀ p : Part, p ∉ ps → m.testBit p.bit = false) (hb : ∀ b, b ∉ bs → m.testBit b = false) :
    Frame ps bs s t :=
  ⟨fun p hq => h.part p (hp p hq), fun k hk => h.regs k (hb _ hk)⟩

/-- A field outside the blocks of a frame reads as before. -/
theorem Frame.get {ps : List Part} {bs : List Nat} {s t : State} (h : Frame ps bs s t) (f : Fld)
    (hf : f.outside bs = true) : t.get f = s.get f := by
  simp only [Fld.outside, Bool.and_eq_true, decide_eq_true_eq, Bool.not_eq_true', List.contains_eq_mem] at hf
  obtain ⟨⟨hl, hb⟩, hn⟩ := hf
  simp only [State.get]
  rw [h.2 f.key]
  rw [keyBlock_key f hl hb]
  simpa using hn

/-- A field that stands in no block the mask allows. -/
def Fld.out (f : Fld) (m : Nat) : Bool :=
  decide (f.lo < 32) && decide (f.base < 2 ^ 25) && !m.testBit (f.base / 2 ^ 20)

/-- A field outside what an operation reaches reads as before. -/
theorem Reach.get {m : Nat} {s t : State} (h : Reach m s t) (f : Fld) (hf : f.out m = true) : t.get f = s.get f := by
  simp only [Fld.out, Bool.and_eq_true, decide_eq_true_eq, Bool.not_eq_true'] at hf
  obtain ⟨⟨hl, hb⟩, hn⟩ := hf
  simp only [State.get]
  rw [h.regs f.key (by rw [keyBlock_key f hl hb]; exact hn)]

end Sys2Proof.Machine
end

