-- ==== Sys2Proof/Laws/ReachFlags.lean ====
section
/-! SUPPORT. What each operation and each command of Machine/Flags.lean reaches. -/

namespace Sys2Proof.Machine

theorem State.set_reach (m : Nat) (s : State) (f : Fld) (v : Nat) (hf : f.ok m = true) : Reach m s (s.set f v) :=
  Reach.set (Reach.refl m s) f v hf

theorem State.put_reach (m : Nat) (s : State) (f : Fld) (b : Bool) (hf : f.ok m = true) : Reach m s (s.put f b) :=
  Reach.set (Reach.refl m s) f _ hf

theorem State.bump_reach (m : Nat) (s : State) (f : Fld) (k : Nat) (hf : f.ok m = true) : Reach m s (s.bump f k) :=
  Reach.set (Reach.refl m s) f _ hf

theorem State.setBit_reach (m : Nat) (s : State) (f : Fld) (n : Nat) (b : Bool) (hf : f.ok m = true) :
    Reach m s (s.setBit f n b) :=
  Reach.set (Reach.refl m s) f _ hf

theorem State.set64_reach (m : Nat) (s : State) (lo hi : Fld) (v : Nat) (hl : lo.ok m = true) (hh : hi.ok m = true) :
    Reach m s (s.set64 lo hi v) :=
  Reach.set (Reach.set (Reach.refl m s) lo _ hl) hi _ hh

theorem State.add64_reach (m : Nat) (s : State) (lo hi : Fld) (k : Nat) (hl : lo.ok m = true) (hh : hi.ok m = true) :
    Reach m s (s.add64 lo hi k) :=
  State.set64_reach m s lo hi _ hl hh

theorem State.setAll_reach (m : Nat) (s : State) (l : List (Fld × Nat)) (hl : okAll m l) :
    Reach m s (s.setAll l) := by
  induction l generalizing s with
  | nil => exact Reach.refl m s
  | cons x l ih =>
    exact (State.set_reach m s x.1 x.2 (hl x (.head _))).trans (ih _ fun y hy => hl y (.tail _ hy))

theorem State.clearAll_reach (m : Nat) (s : State) (l : List Fld) (hl : okFlds m l) :
    Reach m s (s.clearAll l) := by
  induction l generalizing s with
  | nil => exact Reach.refl m s
  | cons x l ih =>
    exact (State.set_reach m s x _ (hl x (.head _))).trans (ih _ fun y hy => hl y (.tail _ hy))

theorem State.send_reach (s : State) (vec : Nat) : Reach 0x20000000000 s (s.send vec) :=
  Reach.with_flt (Reach.refl _ s) _ rfl

theorem Fld.ok_seqOf (f : Fld) (m : Nat) (hf : f.ok m = true) : f.seqOf.ok m = true := by
  simp only [Fld.ok, Fld.seqOf, Bool.and_eq_true, decide_eq_true_eq] at hf ⊢
  exact ⟨⟨⟨rfl, decide_eq_true hf.1.1.2⟩, hf.1.2⟩, by simp [F.FLT_STAT_FATAL]⟩

theorem State.evt_reach (m : Nat) (s : State) (f : Fld) (hf : f.ok m = true) (hm : Nat.land 0x20200000000 m = 0x20200000000) :
    Reach m s (s.evt f) := by
  have hc : Nat.land 0x200000000 m = 0x200000000 := land_sub hm rfl
  have hflt : Nat.land 0x20000000000 m = 0x20000000000 := land_sub hm rfl
  unfold State.evt
  split
  · exact Reach.refl m s
  · have k := (((Reach.refl m s).with_causes (s.causes.add f.key) (Tab.sorted_insert _ _ _) hc).set f 1 hf).set f.seqOf
      ((({ s with causes := s.causes.add f.key } : State).set f 1).get f.seqOf + 1) (Fld.ok_seqOf f m hf)
    dsimp only
    split
    · exact k.step (State.send_reach ..) hflt
    · exact k

theorem State.evtEnd_reach (m : Nat) (s : State) (f : Fld) (hf : f.ok m = true) (hm : Nat.land 0x200000000 m = 0x200000000) :
    Reach m s (s.evtEnd f) := by
  have k := (Reach.refl m s).with_causes (s.causes.del f.key) (Tab.sorted_erase _ _) hm
  unfold State.evtEnd
  dsimp only
  split
  · exact k
  · exact k.set f 0 hf

theorem State.evtOf_reach (m : Nat) (s : State) (f : Fld) (n : Nat) (hf : f.ok m = true) (hm : Nat.land 0x20200000000 m = 0x20200000000) :
    Reach m s (s.evtOf f n) := by
  have hc : Nat.land 0x200000000 m = 0x200000000 := land_sub hm rfl
  have hflt : Nat.land 0x20000000000 m = 0x20000000000 := land_sub hm rfl
  unfold State.evtOf
  split
  · exact Reach.refl m s
  · have k := (((Reach.refl m s).with_causes (s.causes.add (f.inst n)) (Tab.sorted_insert _ _ _) hc).set f 1 hf).set f.seqOf
      ((({ s with causes := s.causes.add (f.inst n) } : State).set f 1).get f.seqOf + 1) (Fld.ok_seqOf f m hf)
    dsimp only
    split
    · exact k.step (State.send_reach ..) hflt
    · exact k

theorem State.evtEndOf_reach (m : Nat) (s : State) (f : Fld) (n : Nat) (hf : f.ok m = true) (hm : Nat.land 0x200000000 m = 0x200000000) :
    Reach m s (s.evtEndOf f n) := by
  have k := (Reach.refl m s).with_causes (s.causes.del (f.inst n)) (Tab.sorted_erase _ _) hm
  unfold State.evtEndOf
  dsimp only
  split
  · exact k
  · exact k.set f 0 hf

theorem State.evtEndAllOf_reach (m : Nat) (s : State) (n : Nat) (l : List Fld) (hl : okFlds m l)
    (hm : Nat.land 0x200000000 m = 0x200000000) : Reach m s (s.evtEndAllOf n l) := by
  induction l generalizing s with
  | nil => exact Reach.refl m s
  | cons x l ih =>
    exact (State.evtEndOf_reach m s x n (hl x (.head _)) hm).trans (ih _ fun y hy => hl y (.tail _ hy))

theorem State.evtIs_reach (m : Nat) (s : State) (f : Fld) (b : Bool) (hf : f.ok m = true) (hm : Nat.land 0x20200000000 m = 0x20200000000) :
    Reach m s (s.evtIs f b) := by
  unfold State.evtIs
  split
  · exact State.evt_reach m s f hf hm
  · exact State.evtEnd_reach m s f hf (land_sub hm rfl)

theorem State.evtEndAll_reach (m : Nat) (s : State) (l : List Fld) (hl : okFlds m l)
    (hm : Nat.land 0x200000000 m = 0x200000000) : Reach m s (s.evtEndAll l) := by
  induction l generalizing s with
  | nil => exact Reach.refl m s
  | cons x l ih =>
    exact (State.evtEnd_reach m s x (hl x (.head _)) hm).trans (ih _ fun y hy => hl y (.tail _ hy))

theorem State.free_reach (s : State) : Reach 0x10000000000 s s.free.2 :=
  Reach.with_freeCount (Reach.refl _ s) _ rfl

end Sys2Proof.Machine
end

