-- ==== Sys2Proof/Laws/ReachOps.lean ====
section
/-! SUPPORT. What each operation and each command of Machine/Ops.lean reaches. -/

namespace Sys2Proof.Machine

theorem pendFld_ok (b : Nat) : (pendFld b).ok 0xfffff1e = true := by
  unfold pendFld
  split <;> first | rfl | exact (Fld.ok_ix ..).trans rfl

theorem State.assertErrn_reach (s : State) : Reach 0x20000800000 s (State.assertErrn s) := by
  unfold State.assertErrn
  extract_lets s1 __src
  clear_value __src
  have h_s1 : Reach 0x20000800000 s s1 := Reach.set (Reach.refl _ _) _ _ rfl
  clear_value s1
  exact Reach.with_flt (h_s1) _ rfl

theorem State.journal_reach (s : State) : Reach 0x400008000000 s (State.journal s) := by
  unfold State.journal
  extract_lets __src __srcx1
  clear_value __srcx1
  have h___src : Reach 0x400008000000 s __src := Reach.set (Reach.refl _ _) _ _ rfl
  clear_value __src
  exact Reach.with_boot (h___src) _ rfl

theorem State.emit_reach (s : State) (o : Out) : Reach 0x100000000000000 s (State.emit s o) := by
  unfold State.emit
  exact Reach.with_out (Reach.refl _ _) _ rfl

theorem State.holdGrants_reach (s : State) : Reach 0x4000 s (State.holdGrants s) := by
  unfold State.holdGrants
  extract_lets st
  clear_value st
  exact Reach.trans (Reach.refl _ _) (State.put_reach _ _ _ _ rfl)

theorem State.leaveGather_reach (s : State) : Reach 0x400000000004000 s (State.leaveGather s) := by
  unfold State.leaveGather
  extract_lets l s1
  clear_value l
  have h_s1 : Reach 0x400000000004000 s s1 := by
    unfold s1
    refine Reach.trans (Reach.refl _ _) (State.setAll_reach _ _ _ (okAll.flatMap fun _ => ?_))
    split
    · exact (okAll.cons ((Fld.ok_ix ..).trans rfl) (okAll.cons ((Fld.ok_ix ..).trans rfl) (okAll.cons ((Fld.ok_ix ..).trans rfl) okAll.nil)))
    · exact (okAll.cons ((Fld.ok_ix ..).trans rfl) (okAll.cons ((Fld.ok_ix ..).trans rfl) (okAll.cons ((Fld.ok_ix ..).trans rfl) okAll.nil)))
  clear_value s1
  exact Reach.ite (Reach.with_late (h_s1) _ rfl) (Reach.with_late (Reach.refl _ _) _ rfl)

theorem State.setStep_reach (s : State) (st : Nat) : Reach 0x400000000004100 s (State.setStep s st) := by
  unfold State.setStep
  extract_lets s1
  have h_s1 : Reach 0x400000000004100 s s1 := Reach.ite (Reach.step (Reach.refl _ _) (State.leaveGather_reach ..) rfl) (Reach.refl _ _)
  clear_value s1
  exact Reach.step (Reach.set (h_s1) _ _ rfl) (State.holdGrants_reach ..) rfl

theorem State.abandonStep_reach (s : State) : Reach 0x2428000000004100 s (State.abandonStep s) := by
  unfold State.abandonStep
  extract_lets x s0 s1 __src __srcx4
  clear_value x __src __srcx4
  have h_s0 : Reach 0x2428000000004100 s s0 := Reach.with_step (Reach.refl _ _) _ rfl
  clear_value s0
  have h_s1 : Reach 0x2428000000004100 s s1 := Reach.trans (Reach.step (h_s0) (State.setStep_reach ..) rfl) (State.setAll_reach _ _ _ (okAll.cons rfl (okAll.cons rfl (okAll.cons rfl (okAll.cons rfl (okAll.cons rfl (okAll.cons rfl okAll.nil)))))))
  clear_value s1
  exact Reach.ite (Reach.refl _ _) (Reach.with_mbr_mlr (h_s1) _ _ rfl)

theorem State.enterFatal_reach (s : State) : Reach 0x4242b000004804100 s s.enterFatal := by
  unfold State.enterFatal
  split
  · exact Reach.refl _ s
  · rename_i hf
    extract_lets s1
    have k : Reach 0x4242b000004804100 (s.set F.FLT_STAT_FATAL 1) s1 :=
      ((Reach.refl _ _).set F.ATT_STAT_Q_RUN 0 rfl).step (State.abandonStep_reach ..) rfl
    clear_value s1
    refine ⟨fun p hp => ?_, fun q hq => ?_, fun c => ?_, fun _ _ => rfl, fun _ h => absurd h hf⟩
    · have := k.part p hp
      cases p <;> first | exact this | exact absurd hp (by decide)
    · refine (k.regs q hq).trans (State.find_set_ne _ _ _ _ ?_)
      rintro rfl
      exact absurd hq (by decide)
    · have c0 : (s.set F.FLT_STAT_FATAL 1).canonical = true := by
        simp only [State.canonical, Bool.and_eq_true] at c ⊢
        obtain ⟨⟨⟨⟨⟨⟨⟨c1, c2⟩, c3⟩, c4⟩, c5⟩, c6⟩, c7⟩, c8⟩ := c
        exact ⟨⟨⟨⟨⟨⟨⟨State.set_sorted _ _ _ c1, c2⟩, c3⟩, c4⟩, c5⟩, c6⟩, c7⟩, c8⟩
      have c2 := k.canon c0
      simp only [State.canonical, Bool.and_eq_true] at c2 ⊢
      exact ⟨c2.1, rfl⟩

theorem State.disarm_reach (s : State) (source : Nat) : Reach 0x20000800000 s (State.disarm s source) := by
  unfold State.disarm
  extract_lets __src s1
  clear_value __src
  have h_s1 : Reach 0x20000800000 s s1 := Reach.with_flt (Reach.refl _ _) _ rfl
  clear_value s1
  exact Reach.trans (h_s1) (State.setBit_reach _ _ _ _ _ ((Fld.ok_ix ..).trans rfl))

theorem State.countLevel_reach (s : State) (lvl : Nat) (x : FClass) : Reach 0x800000 s (State.countLevel s lvl x) :=
    by
  unfold State.countLevel
  split
  · exact Reach.trans (Reach.refl _ _) (State.bump_reach _ _ _ _ ((Fld.ok_ix ..).trans rfl))
  · exact Reach.trans (Reach.refl _ _) (State.bump_reach _ _ _ _ ((Fld.ok_ix ..).trans rfl))
  · exact Reach.refl _ _

theorem State.journalRecord_reach (s : State) (r : FaultRec) (retirement : Bool) : Reach 0x420008800000 s
    (State.journalRecord s r retirement) := by
  unfold State.journalRecord
  extract_lets s1 __src __srcx2 s1x3 __srcx4
  clear_value __src __srcx2 __srcx4
  have h_s1 : Reach 0x420008800000 s s1 := Reach.step (Reach.refl _ _) (State.journal_reach ..) rfl
  clear_value s1
  have h_s1x3 : Reach 0x420008800000 s s1x3 := Reach.trans (Reach.refl _ _) (State.bump_reach _ _ _ _ rfl)
  clear_value s1x3
  exact Reach.ite (Reach.with_flt_boot (h_s1) _ _ rfl) (Reach.ite (Reach.with_boot (h_s1x3) _ rfl) (Reach.refl _ _))

theorem State.react_reach (s : State) (r : FaultRec) : Reach 0x20200800000 s (State.react s r) := by
  unfold State.react
  split
  · extract_lets s1
    have h_s1 : Reach 0x20200800000 s s1 := Reach.trans (Reach.refl _ _) (State.evt_reach _ _ _ rfl rfl)
    clear_value s1
    exact Reach.ite (Reach.step (h_s1) (State.send_reach ..) rfl) (h_s1)
  · extract_lets s1 s2
    have h_s1 : Reach 0x20200800000 s s1 := Reach.trans (Reach.refl _ _) (State.evt_reach _ _ _ rfl rfl)
    clear_value s1
    have h_s2 : Reach 0x20200800000 s s2 := Reach.step (h_s1) (State.send_reach ..) rfl
    clear_value s2
    exact Reach.ite (Reach.step (h_s2) (State.assertErrn_reach ..) rfl) (h_s2)
  · extract_lets s1
    have h_s1 : Reach 0x20200800000 s s1 := Reach.trans (Reach.refl _ _) (State.evt_reach _ _ _ rfl rfl)
    clear_value s1
    exact Reach.step (Reach.step (h_s1) (State.send_reach ..) rfl) (State.assertErrn_reach ..) rfl

theorem State.raise_reach (s : State) (source : Nat) (cls : FClass) (loc : Nat) (desc : Nat) (info : Nat)
    (info2 : Nat) (retirement : Bool) (force : Bool) : Reach 0x420208800000 s
    (State.raise s source cls loc desc info info2 retirement force) := by
  unfold State.raise
  extract_lets hit forced s0 r __src s1 s2
  clear_value hit forced r __src
  have h_s0 : Reach 0x420208800000 s s0 := Reach.ite (Reach.step (Reach.refl _ _) (State.disarm_reach ..) rfl) (Reach.refl _ _)
  clear_value s0
  have h_s1 : Reach 0x420208800000 s s1 := Reach.with_flt (h_s0) _ rfl
  clear_value s1
  have h_s2 : Reach 0x420208800000 s s2 := Reach.set (Reach.set (h_s1) _ _ rfl) _ _ rfl
  clear_value s2
  exact Reach.step (Reach.step (Reach.step (h_s2) (State.countLevel_reach ..) rfl) (State.journalRecord_reach ..) rfl) (State.react_reach ..) rfl

theorem State.raiseFa_reach (s : State) (source : Nat) (cls : FClass) (loc : Nat) (desc : Nat) (info : Nat)
    (info2 : Nat) : Reach 0x4242b42020c804100 s (State.raiseFa s source cls loc desc info info2) := by
  unfold State.raiseFa
  extract_lets s1
  have h_s1 : Reach 0x4242b42020c804100 s s1 := Reach.step (Reach.refl _ _) (State.raise_reach ..) rfl
  clear_value s1
  exact Reach.ite (Reach.step (h_s1) (State.enterFatal_reach ..) rfl) (h_s1)

theorem State.countCell_reach (s : State) (passed : Bool) : Reach 0x800000 s (State.countCell s passed) := by
  unfold State.countCell
  exact Reach.step (Reach.refl _ _) (State.countLevel_reach ..) rfl

theorem Marks.sorted_addAll (l : List Nat) (g : Nat → Nat) (m : Marks) (h : Tab.sorted m = true) :
    Tab.sorted (l.foldl (fun m c => Marks.add m (g c)) m) = true := by
  induction l generalizing m with
  | nil => exact h
  | cons x l ih => exact ih _ (Tab.sorted_insert _ _ _ h)

/-- Lasers are lit only outside FATAL (R376). -/
theorem State.lightPort_reach (s : State) (k : Nat) : Reach 0x40000000000000000 s (s.lightPort k) := by
  unfold State.lightPort
  split
  · exact Reach.refl _ _
  · rename_i hf
    refine ⟨fun p hp => ?_, fun _ _ => rfl, fun c => ?_, fun _ h => absurd (show (s.fatal || s.portCold k) = true by rw [show s.fatal = true from h]; rfl) hf, fun _ h => h⟩
    · cases p <;> first | rfl | exact absurd hp (by decide)
    · simp only [State.canonical, Bool.and_eq_true] at c ⊢
      exact ⟨c.1, Marks.sorted_addAll _ _ _ c.2⟩

theorem State.dropWrite_reach (s : State) : Reach 0x420208800001 s (State.dropWrite s) := by
  unfold State.dropWrite
  exact Reach.step (Reach.trans (Reach.trans (Reach.refl _ _) (State.bump_reach _ _ _ _ rfl)) (State.evt_reach _ _ _ rfl rfl)) (State.raise_reach ..) rfl

/-- A host write reaches what a discarded write reaches and what its effect reaches. -/
theorem State.hostWrite_reach (m : Nat) (s : State) (block : Nat) (f : State → State) (always unposted : Bool)
    (hf : ∀ t, Reach m t (f t)) (hm : Nat.land 0x420208800001 m = 0x420208800001) :
    Reach m s (s.hostWrite block f always unposted) := by
  unfold State.hostWrite
  exact Reach.ite (Reach.refl _ _) (Reach.ite (Reach.refl _ _)
    (Reach.ite ((Reach.refl _ _).step (State.dropWrite_reach ..) hm) (hf s)))

theorem State.coveredWrite_reach (s : State) : Reach 0x800000000001 s (State.coveredWrite s) := by
  unfold State.coveredWrite
  extract_lets st s1 __src
  clear_value st __src
  have h_s1 : Reach 0x800000000001 s s1 := Reach.set (Reach.refl _ _) _ _ rfl
  clear_value s1
  exact Reach.ite (Reach.with_gen (h_s1) _ rfl) (Reach.ite (Reach.with_gen (h_s1) _ rfl) (Reach.refl _ _))

end Sys2Proof.Machine
end

