-- ==== Sys2Proof/Laws/ReachStore.lean ====
section
/-! SUPPORT. What each operation and each command of Machine/Store.lean reaches. -/

namespace Sys2Proof.Machine

theorem State.writeByte_reach (s : State) (a : Nat) (b : Byte) : Reach 0x1000000000 s (State.writeByte s a b) := by
  unfold State.writeByte
  exact Reach.with_mem (Reach.refl _ _) _ (Tab.wf_put _ _ _ _) rfl

theorem State.writeBytes_reach (s : State) (a : Nat) (l : List Byte) : Reach 0x1000000000 s (State.writeBytes s a l)
    := by
  induction l generalizing s a with
  | nil =>
    rw [State.writeBytes]
    exact Reach.refl _ _
  | cons x l ih =>
    rw [State.writeBytes]
    exact Reach.trans (Reach.step (Reach.refl _ _) (State.writeByte_reach ..) rfl) (ih ..)

theorem State.blank_reach (s : State) (lo n : Nat) : Reach 0x1000000000 s (s.blank lo n) := by
  unfold State.blank
  rw [clearRange_eq]
  exact Reach.with_mem (Reach.refl _ _) _ (Tab.wf_filter _ _ _) rfl

theorem State.markUnit_reach (s : State) (a : Nat) (b : Bool) : Reach 0xa000000000 s (s.markUnit a b) := by
  unfold State.markUnit
  extract_lets u near
  refine Reach.trans (t := { s with poison := s.poison.to u b })
    (Reach.with_poison (Reach.refl _ _) _ (Marks.sorted_to _ _ _) rfl) ?_
  refine Reach.with_cleaned (Reach.refl _ _) _ ?_ rfl
  split
  · exact Marks.sorted_to _ _ _
  · exact id

theorem State.markUnits_reach (s : State) (b : Bool) (l : List Nat) : Reach 0xa000000000 s (State.markUnits s b l)
    := by
  induction l generalizing s b with
  | nil =>
    rw [State.markUnits]
    exact Reach.refl _ _
  | cons x l ih =>
    rw [State.markUnits]
    exact Reach.trans (Reach.step (Reach.refl _ _) (State.markUnit_reach ..) rfl) (ih ..)

theorem State.store_reach (s : State) (a : Nat) (bs : List Byte) : Reach 0xb000000000 s (State.store s a bs) := by
  unfold State.store
  exact Reach.step (Reach.step (Reach.refl _ _) (State.writeBytes_reach ..) rfl) (State.markUnits_reach ..) rfl

theorem State.storePoison_reach (s : State) (a n : Nat) : Reach 0xa000000000 s (State.storePoison s a n) := by
  unfold State.storePoison
  exact Reach.step (Reach.refl _ _) (State.markUnits_reach ..) rfl

theorem State.storeZero_reach (s : State) (a n : Nat) : Reach 0xb000000000 s (State.storeZero s a n) := by
  unfold State.storeZero
  exact Reach.step (Reach.step (Reach.refl _ _) (State.blank_reach ..) rfl) (State.markUnits_reach ..) rfl

theorem State.zeroLines_reach (s : State) (lo n : Nat) : Reach 0xb000000000 s (s.zeroLines lo n) := by
  unfold State.zeroLines
  refine ⟨fun p hp => ?_, fun _ _ => rfl, fun c => ?_, fun d => d, fun _ h => h⟩
  · cases p <;> first | rfl | exact absurd hp (by decide)
  · simp only [State.canonical, Bool.and_eq_true] at c ⊢
    obtain ⟨⟨⟨⟨⟨⟨⟨h1, h2⟩, h3⟩, h4⟩, h5⟩, h6⟩, h7⟩, h8⟩ := c
    refine ⟨⟨⟨⟨⟨⟨⟨h1, h2⟩, h3⟩, ?_⟩, Tab.sorted_filter _ _ h5⟩, h6⟩, ?_⟩, h8⟩
    · rw [clearRange_eq]
      exact Tab.wf_filter _ _ _ h4
    · exact Marks.sorted_addAll _ id _ h7

theorem State.firstMem_reach (s : State) (source loc addr : Nat) : Reach 0x200 s (State.firstMem s source loc addr)
    := by
  unfold State.firstMem
  exact Reach.ite (Reach.refl _ _) (Reach.set (Reach.set (Reach.trans (Reach.refl _ _) (State.set64_reach _ _ _ _ _ rfl rfl)) _ _ rfl) _ _ rfl)

theorem State.firstQrn_reach (s : State) (r source loc : Nat) (tile : Nat) : Reach 0x10 s
    (State.firstQrn s r source loc tile) := by
  unfold State.firstQrn
  extract_lets d l
  clear_value d l
  exact Reach.ite (Reach.refl _ _) (Reach.set (Reach.set (Reach.set (Reach.refl _ _) _ _ ((Fld.ok_ix ..).trans rfl)) _ _ ((Fld.ok_ix ..).trans rfl)) _ _ ((Fld.ok_ix ..).trans rfl))

theorem State.raiseQrn_reach (s : State) (r source : Nat) (cls : FClass) (loc : Nat) (desc : Nat) (info : Nat)
    (info2 : Nat) (retirement : Bool) (force : Bool) : Reach 0x420208800010 s
    (State.raiseQrn s r source cls loc desc info info2 retirement force) := by
  unfold State.raiseQrn
  exact Reach.step (Reach.step (Reach.refl _ _) (State.firstQrn_reach ..) rfl) (State.raise_reach ..) rfl

theorem State.raiseMem_reach (m : Nat) (s : State) (source : Nat) (bit : Fld) (loc desc addr : Nat)
    (hbit : bit.ok m = true) (hm : Nat.land 0x420208800200 m = 0x420208800200) : Reach m s (s.raiseMem source bit loc desc addr) := by
  unfold State.raiseMem
  exact Reach.step (Reach.step (Reach.trans (Reach.refl _ _) (State.evt_reach _ _ _ (hbit) (land_sub hm rfl))) (State.firstMem_reach ..) (land_sub hm rfl)) (State.raise_reach ..) (land_sub hm rfl)

theorem State.readError_reach (s : State) (desc : Nat) (e : ReadError) : Reach 0x42a208800210 s
    (State.readError s desc e) := by
  unfold State.readError
  extract_lets loc s1
  clear_value loc
  have h_s1 : Reach 0x42a208800210 s s1 := Reach.ite (Reach.refl _ _) (Reach.step (Reach.refl _ _) (State.markUnit_reach ..) rfl)
  clear_value s1
  split
  · extract_lets d l
    clear_value d l
    exact Reach.ite (Reach.step (Reach.trans (h_s1) (State.bump_reach _ _ _ _ ((Fld.ok_ix ..).trans rfl))) (State.raiseQrn_reach ..) rfl) (Reach.step (Reach.trans (h_s1) (State.bump_reach _ _ _ _ ((Fld.ok_ix ..).trans rfl))) (State.raiseQrn_reach ..) rfl)
  · exact Reach.ite (Reach.step (Reach.trans (h_s1) (State.bump_reach _ _ _ _ ((Fld.ok_ix ..).trans rfl))) (State.raise_reach ..) rfl) (Reach.trans (Reach.trans (h_s1) (State.bump_reach _ _ _ _ ((Fld.ok_ix ..).trans rfl))) (State.raiseMem_reach _ _ _ _ _ _ _ rfl rfl))
  · exact Reach.ite (Reach.step (Reach.trans (h_s1) (State.bump_reach _ _ _ _ ((Fld.ok_ix ..).trans rfl))) (State.raise_reach ..) rfl) (Reach.trans (Reach.trans (h_s1) (State.bump_reach _ _ _ _ ((Fld.ok_ix ..).trans rfl))) (State.raiseMem_reach _ _ _ _ _ _ _ rfl rfl))
  · exact Reach.ite (Reach.step (Reach.trans (h_s1) (State.bump_reach _ _ _ _ ((Fld.ok_ix ..).trans rfl))) (State.raise_reach ..) rfl) (Reach.trans (Reach.trans (h_s1) (State.bump_reach _ _ _ _ ((Fld.ok_ix ..).trans rfl))) (State.raiseMem_reach _ _ _ _ _ _ _ rfl rfl))
  · exact h_s1

theorem State.readErrors_reach (s : State) (desc : Nat) (l : List ReadError) : Reach 0x42a208800210 s
    (State.readErrors s desc l) := by
  induction l generalizing s desc with
  | nil =>
    rw [State.readErrors]
    exact Reach.refl _ _
  | cons x l ih =>
    rw [State.readErrors]
    exact Reach.trans (Reach.step (Reach.refl _ _) (State.readError_reach ..) rfl) (ih ..)

theorem State.addrBad_reach (s : State) (desc addr : Nat) : Reach 0x420208800200 s (State.addrBad s desc addr) := by
  unfold State.addrBad
  exact Reach.trans (Reach.refl _ _) (State.raiseMem_reach _ _ _ _ _ _ _ rfl rfl)

end Sys2Proof.Machine
end

