-- ==== Sys2Proof/Laws/ReachWindow.lean ====
section
/-! SUPPORT. What each operation and each command of Machine/Window.lean reaches. -/

namespace Sys2Proof.Machine

theorem State.firstCmp_reach (s : State) (source cause hub flow value : Nat) : Reach 0x40000 s
    (State.firstCmp s source cause hub flow value) := by
  unfold State.firstCmp
  exact Reach.ite (Reach.refl _ _) (Reach.trans (Reach.trans (Reach.refl _ _) (State.setAll_reach _ _ _ (okAll.cons rfl (okAll.cons rfl (okAll.cons rfl (okAll.cons rfl okAll.nil)))))) (State.set64_reach _ _ _ _ _ rfl rfl))

theorem State.shapeMem_reach (s : State) (desc a cause : Nat) : Reach 0x420208840000 s
    (State.shapeMem s desc a cause) := by
  unfold State.shapeMem
  extract_lets hub blk
  clear_value hub blk
  exact Reach.step (Reach.trans (Reach.step (Reach.trans (Reach.refl _ _) (State.evt_reach _ _ _ rfl rfl)) (State.firstCmp_reach ..) rfl) (State.bump_reach _ _ _ _ ((Fld.ok_ix ..).trans rfl))) (State.raise_reach ..) rfl

theorem State.cmpPartial_reach (s : State) (desc a : Nat) : Reach 0x420208840000 s (State.cmpPartial s desc a) := by
  unfold State.cmpPartial
  extract_lets hub blk
  clear_value hub blk
  exact Reach.step (Reach.step (Reach.trans (Reach.refl _ _) (State.evt_reach _ _ _ rfl rfl)) (State.firstCmp_reach ..) rfl) (State.raise_reach ..) rfl

theorem State.countRaw_reach (s : State) (hub : Nat) : Reach 0x4000000000040000 s (State.countRaw s hub) := by
  unfold State.countRaw
  extract_lets n __src s1
  clear_value n __src
  have h_s1 : Reach 0x4000000000040000 s s1 := Reach.with_cmp (Reach.refl _ _) _ rfl
  clear_value s1
  exact Reach.ite (Reach.trans (h_s1) (State.bump_reach _ _ _ _ ((Fld.ok_ix ..).trans rfl))) (h_s1)

theorem State.countBlock_reach (s : State) (hub out : Nat) (slot : Option Nat) : Reach 0x4000000000040000 s
    (State.countBlock s hub out slot) := by
  unfold State.countBlock
  extract_lets s1
  have h_s1 : Reach 0x4000000000040000 s s1 := Reach.trans (Reach.trans (Reach.refl _ _) (State.add64_reach _ _ _ _ _ ((Fld.ok_ix ..).trans rfl) ((Fld.ok_ix ..).trans rfl))) (State.add64_reach _ _ _ _ _ ((Fld.ok_ix ..).trans rfl) ((Fld.ok_ix ..).trans rfl))
  clear_value s1
  split
  · exact Reach.trans (h_s1) (State.add64_reach _ _ _ _ _ ((Fld.ok_ix ..).trans rfl) ((Fld.ok_ix ..).trans rfl))
  · exact Reach.step (h_s1) (State.countRaw_reach ..) rfl

theorem State.setMap_reach (s : State) (w : BWindow) (blk kind len : Nat) : Reach 0x1000000000 s
    (State.setMap s w blk kind len) := by
  unfold State.setMap
  exact Reach.step (Reach.refl _ _) (State.writeBytes_reach ..) rfl

theorem State.writeBlock_reach (s : State) (slot : Nat) (t : BTable) (w : BWindow) (blk : Nat) (xs : List
    (Byte × Bool)) : Reach 0x400000b000040000 s (State.writeBlock s slot t w blk xs) := by
  unfold State.writeBlock
  extract_lets data hub
  clear_value data hub
  refine Reach.ite (Reach.refl _ _) (Reach.ite (Reach.step (Reach.refl _ _) (State.setMap_reach ..) rfl) (Reach.ite (Reach.step (Reach.refl _ _) (State.setMap_reach ..) rfl) (?_)))
  split
  · exact Reach.step (Reach.step (Reach.step (Reach.step (Reach.refl _ _) (State.store_reach ..) rfl) (State.markUnits_reach ..) rfl) (State.setMap_reach ..) rfl) (State.countBlock_reach ..) rfl
  · exact Reach.step (Reach.step (Reach.step (Reach.refl _ _) (State.store_reach ..) rfl) (State.setMap_reach ..) rfl) (State.countBlock_reach ..) rfl

theorem State.writeWindows_reach (s : State) (a : Nat) (xs : List (Byte × Bool)) (l : List Nat) : Reach
    0x400000b000040000 s (State.writeWindows s a xs l) := by
  induction l generalizing s a xs with
  | nil =>
    rw [State.writeWindows]
    exact Reach.refl _ _
  | cons x l ih =>
    rw [State.writeWindows]
    refine Reach.trans (?_) (ih ..)
    split
    · exact Reach.step (Reach.refl _ _) (State.writeBlock_reach ..) rfl
    · exact Reach.refl _ _

end Sys2Proof.Machine
end

