-- ==== Sys2Proof/Laws/ReachAccess.lean ====
section
/-! SUPPORT. What each operation and each command of Machine/Access.lean reaches. -/

namespace Sys2Proof.Machine

theorem State.writeReached_reach (s : State) (a : Nat) (l : List (Byte × Bool)) : Reach 0x1000000000 s
    (State.writeReached s a l) := by
  induction l generalizing s a with
  | nil =>
    rw [State.writeReached]
    exact Reach.refl _ _
  | cons x l ih =>
    rw [State.writeReached]
    exact Reach.trans (Reach.ite (Reach.step (Reach.refl _ _) (State.writeByte_reach ..) rfl) (Reach.refl _ _)) (ih ..)

theorem State.markReached_reach (s : State) (a : Nat) (xs : List (Byte × Bool)) : Reach 0xa000000000 s
    (State.markReached s a xs) := by
  unfold State.markReached
  extract_lets n units
  clear_value n units
  refine Reach.foldl (Reach.refl _ _) (?_)
  intro u x
  extract_lets g
  clear_value g
  exact Reach.ite (Reach.step (Reach.refl _ _) (State.markUnit_reach ..) rfl) (Reach.ite (Reach.step (Reach.refl _ _) (State.markUnit_reach ..) rfl) (Reach.refl _ _))

theorem State.deposit_reach (s : State) (a : Nat) (xs : List (Byte × Bool)) : Reach 0x400000b000040000 s
    (State.deposit s a xs) := by
  unfold State.deposit
  extract_lets blocks
  clear_value blocks
  exact Reach.ite (Reach.step (Reach.step (Reach.refl _ _) (State.writeReached_reach ..) rfl) (State.markReached_reach ..) rfl) (Reach.ite (Reach.refl _ _) (Reach.step (Reach.step (Reach.step (Reach.refl _ _) (State.writeReached_reach ..) rfl) (State.markReached_reach ..) rfl) (State.writeWindows_reach ..) rfl))

theorem State.countFar_reach (m : Nat) (s : State) (lo hi : Fld) (ranges : List (Nat × Nat)) (hlo : lo.ok m = true)
    (hhi : hi.ok m = true) (hm : Nat.land 0x0 m = 0x0) : Reach m s (State.countFar s lo hi ranges) := by
  unfold State.countFar
  refine Reach.foldl (Reach.refl _ _) (?_)
  intro u x
  extract_lets n
  clear_value n
  exact Reach.ite (Reach.refl _ _) (Reach.trans (Reach.refl _ _) (State.add64_reach _ _ _ _ _ ((Fld.ok_ix ..).trans (hlo)) ((Fld.ok_ix ..).trans (hhi))))

theorem State.farDown_reach (s : State) (desc addr : Nat) : Reach 0x420208800400 s (State.farDown s desc addr) := by
  unfold State.farDown
  extract_lets l
  clear_value l
  exact Reach.step (Reach.trans (Reach.refl _ _) (State.evtOf_reach _ _ _ _ rfl rfl)) (State.raise_reach ..) rfl

theorem State.rangeFaults_reach (s : State) (desc : Nat) (reads writes : List (Nat × Nat)) : Reach 0x420208840600 s
    (State.rangeFaults s desc reads writes).2 := by
  unfold State.rangeFaults
  extract_lets ranges bad down shape part s1 s2 s3 s4 failed
  clear_value ranges bad down shape part failed
  have h_s1 : Reach 0x420208840600 s s1 := by
    unfold s1
    split
    · exact Reach.step (Reach.refl _ _) (State.addrBad_reach ..) rfl
    · exact Reach.refl _ _
  clear_value s1
  have h_s2 : Reach 0x420208840600 s s2 := by
    unfold s2
    split
    · exact Reach.step (h_s1) (State.farDown_reach ..) rfl
    · exact h_s1
  clear_value s2
  have h_s3 : Reach 0x420208840600 s s3 := by
    unfold s3
    split
    · exact Reach.step (h_s2) (State.shapeMem_reach ..) rfl
    · exact h_s2
  clear_value s3
  have h_s4 : Reach 0x420208840600 s s4 := by
    unfold s4
    split
    · exact Reach.step (h_s3) (State.cmpPartial_reach ..) rfl
    · exact h_s3
  clear_value s4
  dsimp only
  exact Reach.ite (h_s4) (Reach.trans (Reach.trans (h_s4) (State.countFar_reach _ _ _ _ _ rfl rfl rfl)) (State.countFar_reach _ _ _ _ _ rfl rfl rfl))

end Sys2Proof.Machine
end

