-- ==== Sys2Proof/Laws/Memory.lean ====
section
/-! SUPPORT. Laws of device memory: every operation keeps its canonical form, a byte written reads as written, and no
other byte changes. -/

namespace Sys2Proof.Machine

theorem State.writeByte_wf (s : State) (a : Nat) (b : Byte) (h : Memory.wf s.mem = true) :
    Memory.wf (s.writeByte a b).mem = true := Tab.wf_put _ _ _ _ h

theorem State.writeBytes_wf (s : State) (a : Nat) (bs : List Byte) (h : Memory.wf s.mem = true) :
    Memory.wf (s.writeBytes a bs).mem = true := by
  induction bs generalizing s a with
  | nil => exact h
  | cons b t ih => exact ih _ _ (s.writeByte_wf a b h)

theorem State.blank_wf (s : State) (lo n : Nat) (h : Memory.wf s.mem = true) : Memory.wf (s.blank lo n).mem = true := by
  show Memory.wf (clearRange lo n s.mem) = true
  rw [clearRange_eq]
  exact Tab.wf_filter _ _ _ h

theorem State.reset_wf : Memory.wf State.reset.mem = true := rfl

theorem State.readByte_writeByte_same (s : State) (a : Nat) (b : Byte) : (s.writeByte a b).readByte a = b :=
  Tab.get_put_same _ _ _ _

theorem State.readByte_writeByte_ne (s : State) (a c : Nat) (b : Byte) (h : a ≠ c) :
    (s.writeByte a b).readByte c = s.readByte c := Tab.get_put_ne _ _ _ _ _ h

theorem State.readByte_writeBytes_out (s : State) (a c : Nat) (bs : List Byte) (h : c < a ∨ a + bs.length ≤ c) :
    (s.writeBytes a bs).readByte c = s.readByte c := by
  induction bs generalizing s a with
  | nil => rfl
  | cons b t ih =>
    simp only [List.length_cons] at h
    exact (ih (s.writeByte a b) (a + 1) (by omega)).trans (s.readByte_writeByte_ne a c b (by omega))

theorem State.markUnits_mem (s : State) (b : Bool) (l : List Nat) : (s.markUnits b l).mem = s.mem := by
  induction l generalizing s with
  | nil => rfl
  | cons u t ih => exact ih _

theorem State.store_wf (s : State) (a : Nat) (bs : List Byte) (h : Memory.wf s.mem = true) :
    Memory.wf (s.store a bs).mem = true := by
  show Memory.wf ((s.writeBytes a bs).markUnits false _).mem = true
  rw [State.markUnits_mem]
  exact s.writeBytes_wf a bs h

theorem State.readByte_store_out (s : State) (a c : Nat) (bs : List Byte) (h : c < a ∨ a + bs.length ≤ c) :
    (s.store a bs).readByte c = s.readByte c := by
  show Tab.get blankByte ((s.writeBytes a bs).markUnits false _).mem c = _
  rw [State.markUnits_mem]
  exact s.readByte_writeBytes_out a c bs h

theorem State.writeReached_wf (s : State) (a : Nat) (xs : List (Byte × Bool)) (h : Memory.wf s.mem = true) :
    Memory.wf (s.writeReached a xs).mem = true := by
  induction xs generalizing s a with
  | nil => exact h
  | cons x t ih =>
    refine ih _ _ ?_
    split
    · exact s.writeByte_wf a x.1 h
    · exact h

end Sys2Proof.Machine
end

