-- ==== Sys2Proof/Laws/ReachBolterCmd.lean ====
section
/-! SUPPORT. What each operation and each command of Machine/BolterCmd.lean reaches. -/

namespace Sys2Proof.Machine

theorem State.putTable_reach (s : State) (n : Nat) (body : List Byte) : Reach 0x4000000000040000 s
    (State.putTable s n body) := by
  unfold State.putTable
  extract_lets t __src s1
  clear_value t __src
  have h_s1 : Reach 0x4000000000040000 s s1 := Reach.with_cmp (Reach.refl _ _) _ rfl
  clear_value s1
  exact Reach.trans (h_s1) (State.setAll_reach _ _ _ (okAll.cons ((Fld.ok_ix ..).trans rfl) (okAll.cons ((Fld.ok_ix ..).trans rfl) (okAll.cons rfl (okAll.cons rfl (okAll.cons ((Fld.ok_ix ..).trans rfl) (okAll.cons ((Fld.ok_ix ..).trans rfl) (okAll.cons ((Fld.ok_ix ..).trans rfl) (okAll.cons ((Fld.ok_ix ..).trans rfl) (okAll.cons ((Fld.ok_ix ..).trans rfl) (okAll.cons ((Fld.ok_ix ..).trans rfl) okAll.nil)))))))))))

theorem State.stageTable_reach (s : State) (n : Nat) (body : List Byte) : Reach 0x4000000000040000 s
    (State.stageTable s n body) := by
  unfold State.stageTable
  extract_lets __src s1
  clear_value __src
  have h_s1 : Reach 0x4000000000040000 s s1 := Reach.with_cmp (Reach.refl _ _) _ rfl
  clear_value s1
  exact Reach.set (h_s1) _ _ rfl

theorem execBolterTableInstall_reach (slot : Nat) (s : State) : ∃ t, execBolterTableInstall slot s = .next t ∧ Reach
    0x4000000000040000 s t := by
  refine ⟨_, rfl, ?_⟩
  split
  · exact Reach.refl _ _
  · exact Reach.ite (Reach.step (Reach.refl _ _) (State.putTable_reach ..) rfl) (Reach.refl _ _)

theorem execWindowRead_reach (addr len : Nat) (s : State) : ∃ t, execWindowRead addr len s = .next t ∧ Reach
    0x100420208840600 s t := by
  refine ⟨_, rfl, ?_⟩
  exact Reach.step (Reach.step (Reach.refl _ _) (State.rangeFaults_reach ..) rfl) (State.emit_reach ..) rfl

theorem execWindowWrite_reach (addr : Nat) (data : List Byte) (poison : Bool) (s : State) : ∃ t, execWindowWrite
    addr data poison s = .next t ∧ Reach 0x400042b208840600 s t := by
  refine ⟨_, rfl, ?_⟩
  extract_lets x
  exact Reach.ite (Reach.step (Reach.refl _ _) (State.rangeFaults_reach ..) rfl) (Reach.step (Reach.step (Reach.refl _ _) (State.rangeFaults_reach ..) rfl) (State.deposit_reach ..) rfl)

theorem execCmpCntClr_reach (s : State) : ∃ t, execCmpCntClr s = .next t ∧ Reach 0x4000420208840001 s t := by
  refine ⟨_, rfl, ?_⟩
  refine Reach.trans (Reach.refl _ _) (State.hostWrite_reach _ _ _ _ _ _ (?_) rfl)
  intro t
  extract_lets __src
  clear_value __src
  exact Reach.trans (Reach.trans (Reach.with_cmp (Reach.refl _ _) _ rfl) (State.clearAll_reach _ _ _ (okFlds.append (okFlds.cons rfl (okFlds.cons rfl (okFlds.cons rfl (okFlds.cons rfl (okFlds.cons rfl (okFlds.cons rfl okFlds.nil)))))) (okFlds.flatMap fun _ => (okFlds.cons ((Fld.ok_ix ..).trans rfl) (okFlds.cons ((Fld.ok_ix ..).trans rfl) okFlds.nil)))))) (State.evtEndAll_reach _ _ _ (okFlds.cons rfl (okFlds.cons rfl (okFlds.cons rfl okFlds.nil))) rfl)

end Sys2Proof.Machine
end

