-- ==== Sys2Proof/Laws/ReachDigest.lean ====
section
/-! SUPPORT. What each operation and each command of Machine/Digest.lean reaches. -/

namespace Sys2Proof.Machine

theorem State.digestFault_reach (s : State) : Reach 0x420208800001 s (State.digestFault s) := by
  unfold State.digestFault
  exact Reach.step (Reach.trans (Reach.refl _ _) (State.evt_reach _ _ _ rfl rfl)) (State.raise_reach ..) rfl

theorem State.computeDigest_reach (s : State) : Reach 0xc20208800001 s (State.computeDigest s) := by
  unfold State.computeDigest
  extract_lets d s1 again __src s2 s3
  clear_value d again __src
  have h_s1 : Reach 0xc20208800001 s s1 := Reach.set (Reach.refl _ _) _ _ rfl
  clear_value s1
  have h_s2 : Reach 0xc20208800001 s s2 := Reach.with_gen (h_s1) _ rfl
  clear_value s2
  have h_s3 : Reach 0xc20208800001 s s3 := Reach.set (Reach.trans (h_s2) (State.bump_reach _ _ _ _ rfl)) _ _ rfl
  clear_value s3
  exact Reach.ite (h_s1) (Reach.ite (Reach.set (h_s2) _ _ rfl) (Reach.ite (Reach.step (h_s3) (State.digestFault_reach ..) rfl) (h_s3)))

/-- What a change by the device reaches, given what the change itself reaches. -/
theorem State.deviceChange_reach (m : Nat) (s : State) (f : State → State) (hf : ∀ t, Reach m t (f t))
    (hm : Nat.land 0xc20208800001 m = 0xc20208800001) : Reach m s (s.deviceChange f) := by
  unfold State.deviceChange
  extract_lets s1 s2
  have h_s1 : Reach m s s1 := Reach.step (Reach.refl _ _) (State.computeDigest_reach ..) (land_sub hm rfl)
  clear_value s1
  have h_s2 : Reach m s s2 := Reach.trans (h_s1) (hf ..)
  clear_value s2
  exact Reach.ite (Reach.ite (Reach.set (Reach.set (h_s2) _ _ ((Fld.ok_sub hm rfl))) _ _ ((Fld.ok_sub hm rfl))) (Reach.trans (h_s1) (hf ..))) (Reach.trans (Reach.refl _ _) (hf ..))

end Sys2Proof.Machine
end

