-- ==== Sys2Proof/Laws/ReachQueue.lean ====
section
/-! SUPPORT. What each operation and each command of Machine/Queue.lean reaches. -/

namespace Sys2Proof.Machine

theorem State.setCtr_reach (s : State) (q : QueueId) (c v : Nat) : Reach 0x2000000000008 s (State.setCtr s q c v) :=
    by
  unfold State.setCtr
  extract_lets __src
  clear_value __src
  exact Reach.ite (Reach.set (Reach.refl _ _) _ _ ((Fld.ok_ix ..).trans rfl)) (Reach.with_sched (Reach.refl _ _) _ rfl)

theorem State.setCtrPoison_reach (s : State) (q : QueueId) (c : Nat) (b : Bool) : Reach 0x2000000000008 s
    (State.setCtrPoison s q c b) := by
  unfold State.setCtrPoison
  extract_lets __src
  clear_value __src
  exact Reach.ite (Reach.trans (Reach.refl _ _) (State.setBit_reach _ _ _ _ _ ((Fld.ok_ix ..).trans rfl))) (Reach.with_sched (Reach.refl _ _) _ rfl)

theorem State.addCtr_reach (s : State) (q : QueueId) (c k : Nat) : Reach 0x2000000000008 s (State.addCtr s q c k) :=
    by
  unfold State.addCtr
  exact Reach.step (Reach.refl _ _) (State.setCtr_reach ..) rfl

theorem State.addGlobal_reach (s : State) (n k : Nat) (failed : Bool) : Reach 0x2000000000008 s
    (State.addGlobal s n k failed) := by
  unfold State.addGlobal
  extract_lets s1
  have h_s1 : Reach 0x2000000000008 s s1 := Reach.step (Reach.refl _ _) (State.addCtr_reach ..) rfl
  clear_value s1
  exact Reach.ite (Reach.step (h_s1) (State.setCtrPoison_reach ..) rfl) (h_s1)

theorem qCount_ok (q : QueueId) (f : Fld) (h : qCount q = some f) : f.ok 0x2000000000008 = true := by
  cases q <;> simp only [qCount, Option.some.injEq, reduceCtorEq] at h
  all_goals subst h; first | rfl | exact (Fld.ok_ix ..).trans rfl

theorem State.setQueue_reach (s : State) (q : QueueId) (l : List QEntry) : Reach 0x2000000000008 s (s.setQueue q l) := by
  unfold State.setQueue
  have k := Reach.with_sched (Reach.refl 0x2000000000008 s) { s.sched with queues := Tab.put [] s.sched.queues (qKey q) l } rfl
  dsimp only
  split
  · rename_i f hf
    exact Reach.set k f _ (qCount_ok q f hf)
  · exact k

theorem State.setRegionState_reach (s : State) (r v : Nat) : Reach 0x10 s (State.setRegionState s r v) := by
  unfold State.setRegionState
  exact Reach.set (Reach.refl _ _) _ _ ((Fld.ok_ix ..).trans rfl)

theorem State.countItems_reach (s : State) : Reach 0x8 s (State.countItems s) := by
  unfold State.countItems
  extract_lets live
  clear_value live
  exact Reach.set (Reach.refl _ _) _ _ rfl

theorem State.keepSeq_reach (s : State) (source : Nat) (region : Option Nat) (desc item : Nat) : Reach 0x8 s
    (State.keepSeq s source region desc item) := by
  unfold State.keepSeq
  exact Reach.ite (Reach.refl _ _) (Reach.trans (Reach.refl _ _) (State.setAll_reach _ _ _ (okAll.cons rfl (okAll.cons rfl (okAll.cons rfl (okAll.cons rfl (okAll.cons rfl okAll.nil)))))))

theorem State.firstSeq_reach (s : State) (source : Nat) (q : QueueId) (e : QEntry) : Reach 0x8 s
    (State.firstSeq s source q e) := by
  unfold State.firstSeq
  exact Reach.step (Reach.refl _ _) (State.keepSeq_reach ..) rfl

theorem State.missDeadline_reach (s : State) (q : QueueId) (e : QEntry) : Reach 0x420208800008 s
    (State.missDeadline s q e) := by
  unfold State.missDeadline
  exact Reach.step (Reach.step (Reach.trans (Reach.trans (Reach.refl _ _) (State.bump_reach _ _ _ _ rfl)) (State.evt_reach _ _ _ rfl rfl)) (State.firstSeq_reach ..) rfl) (State.raise_reach ..) rfl

theorem State.lateEnd_reach (s : State) (q : QueueId) (e : QEntry) : Reach 0x420208800008 s (State.lateEnd s q e) :=
    by
  unfold State.lateEnd
  exact Reach.ite (Reach.step (Reach.refl _ _) (State.missDeadline_reach ..) rfl) (Reach.refl _ _)

theorem State.finish_reach (s : State) (q : QueueId) (e : QEntry) (failed : Bool) : Reach 0x2420208800008 s
    (State.finish s q e failed) := by
  unfold State.finish
  extract_lets s0 s2 s1
  have h_s0 : Reach 0x2420208800008 s s0 := Reach.step (Reach.refl _ _) (State.lateEnd_reach ..) rfl
  clear_value s0
  have h_s2 : Reach 0x2420208800008 s s2 := Reach.step (h_s0) (State.addCtr_reach ..) rfl
  clear_value s2
  have h_s1 : Reach 0x2420208800008 s s1 := Reach.ite (Reach.ite (Reach.step (h_s2) (State.setCtrPoison_reach ..) rfl) (h_s2)) (h_s0)
  clear_value s1
  exact Reach.step (Reach.trans (h_s1) (State.add64_reach _ _ _ _ _ rfl rfl)) (State.countItems_reach ..) rfl

theorem State.finishAll_reach (s : State) (q : QueueId) (l : List QEntry) : Reach 0x2420208800008 s
    (State.finishAll s q l) := by
  induction l generalizing s q with
  | nil =>
    rw [State.finishAll]
    exact Reach.refl _ _
  | cons x l ih =>
    rw [State.finishAll]
    exact Reach.trans (Reach.step (Reach.refl _ _) (State.finish_reach ..) rfl) (ih ..)

theorem State.failQueues_reach (s : State) (l : List QueueId) : Reach 0x2420208800008 s (State.failQueues s l) := by
  induction l generalizing s with
  | nil =>
    rw [State.failQueues]
    exact Reach.refl _ _
  | cons x l ih =>
    rw [State.failQueues]
    exact Reach.trans (Reach.step (Reach.step (Reach.refl _ _) (State.setQueue_reach ..) rfl) (State.finishAll_reach ..) rfl) (ih ..)

theorem State.descBad_reach (s : State) (q : QueueId) (e : QEntry) : Reach 0x2420208800008 s (State.descBad s q e)
    := by
  unfold State.descBad
  exact Reach.step (Reach.step (Reach.trans (Reach.step (Reach.refl _ _) (State.finish_reach ..) rfl) (State.evt_reach _ _ _ rfl rfl)) (State.firstSeq_reach ..) rfl) (State.raise_reach ..) rfl

/-- What issuing the head of a queue reaches, given what running its descriptor reaches. -/
theorem State.issue_reach (m : Nat) (s : State) (q : QueueId) (mine ok : QEntry → Bool) (run : QEntry → State → State)
    (hrun : ∀ e t, Reach m t (run e t)) (hm : Nat.land 0x2420208800008 m = 0x2420208800008) : Reach m s (s.issue q mine ok run) := by
  unfold State.issue
  split
  · exact Reach.refl _ _
  · exact Reach.trans (Reach.step (Reach.step (Reach.refl _ _) (State.setQueue_reach ..) (land_sub hm rfl)) (State.finish_reach ..) (land_sub hm rfl)) (State.bump_reach _ _ _ _ ((Fld.ok_sub hm rfl)))
  · exact Reach.ite (Reach.step (Reach.step (Reach.refl _ _) (State.setQueue_reach ..) (land_sub hm rfl)) (State.descBad_reach ..) (land_sub hm rfl)) (Reach.ite (Reach.refl _ _) (Reach.ite (Reach.step (Reach.step (Reach.refl _ _) (State.setQueue_reach ..) (land_sub hm rfl)) (State.descBad_reach ..) (land_sub hm rfl)) (Reach.trans (Reach.step (Reach.refl _ _) (State.setQueue_reach ..) (land_sub hm rfl)) (hrun ..))))

theorem State.fly_reach (s : State) (q : QueueId) (e : QEntry) (unit : Nat) (done failed : Bool) : Reach
    0x2000000000010 s (State.fly s q e unit done failed) := by
  unfold State.fly
  extract_lets __src s1
  clear_value __src
  have h_s1 : Reach 0x2000000000010 s s1 := Reach.with_sched (Reach.refl _ _) _ rfl
  clear_value s1
  split
  · exact Reach.ite (Reach.step (h_s1) (State.setRegionState_reach ..) rfl) (h_s1)
  · exact h_s1

theorem State.onFlight_reach (s : State) (sid : Nat) (f : Flight → Flight) : Reach 0x2000000000000 s
    (State.onFlight s sid f) := by
  unfold State.onFlight
  extract_lets __src
  clear_value __src
  exact Reach.with_sched (Reach.refl _ _) _ rfl

theorem State.failFlight_reach (s : State) (sid : Nat) : Reach 0x2000000000000 s (State.failFlight s sid) := by
  unfold State.failFlight
  exact Reach.step (Reach.refl _ _) (State.onFlight_reach ..) rfl

end Sys2Proof.Machine
end

