-- ==== Sys2Proof/Laws/ReachTile.lean ====
section
/-! SUPPORT. What each operation and each command of Machine/Tile.lean reaches. -/

namespace Sys2Proof.Machine

theorem State.storeRows_reach (s : State) (l : List (Nat × List Byte)) : Reach 0xb000000000 s (State.storeRows s l)
    := by
  induction l generalizing s with
  | nil =>
    rw [State.storeRows]
    exact Reach.refl _ _
  | cons x l ih =>
    rw [State.storeRows]
    exact Reach.trans (Reach.step (Reach.refl _ _) (State.store_reach ..) rfl) (ih ..)

theorem State.poisonRowsAt_reach (s : State) (l : List (Nat × List Byte)) : Reach 0xa000000000 s
    (State.poisonRowsAt s l) := by
  induction l generalizing s with
  | nil =>
    rw [State.poisonRowsAt]
    exact Reach.refl _ _
  | cons x l ih =>
    rw [State.poisonRowsAt]
    exact Reach.trans (Reach.step (Reach.refl _ _) (State.storePoison_reach ..) rfl) (ih ..)

end Sys2Proof.Machine
end

