-- ==== Sys2Proof/Laws/ReachRegions.lean ====
section
/-! SUPPORT. What each operation and each command of Machine/Regions.lean reaches. -/

namespace Sys2Proof.Machine

theorem Fld.ok_reg (f : Fld) (r m : Nat) : (f.reg r).ok m = f.ok m := rfl

theorem State.regionEvents_reach (s : State) (r : Nat) : Reach 0x20200000010 s (State.regionEvents s r) := by
  unfold State.regionEvents
  extract_lets spareGone
  clear_value spareGone
  exact Reach.trans (Reach.trans (Reach.trans (Reach.trans (Reach.trans (Reach.refl _ _) (State.evtIs_reach _ _ _ _ ((Fld.ok_reg ..).trans rfl) rfl)) (State.evtIs_reach _ _ _ _ ((Fld.ok_reg ..).trans rfl) rfl)) (State.evtIs_reach _ _ _ _ ((Fld.ok_reg ..).trans rfl) rfl)) (State.evtIs_reach _ _ _ _ ((Fld.ok_reg ..).trans rfl) rfl)) (State.evtIs_reach _ _ _ _ ((Fld.ok_reg ..).trans rfl) rfl)

theorem State.entryOf_reach (s : State) (q : QueueId) (raw : List Byte) (rep : Nat) : Reach 0x2000000000000 s
    (State.entryOf s q raw rep).2 := by
  unfold State.entryOf
  extract_lets item thr __src s1 bases __srcx5
  clear_value item thr __src bases __srcx5
  have h_s1 : Reach 0x2000000000000 s s1 := Reach.ite (Reach.with_sched (Reach.refl _ _) _ rfl) (Reach.refl _ _)
  clear_value s1
  dsimp only
  exact Reach.with_sched (h_s1) _ rfl

theorem State.place_reach (s : State) (q : QueueId) (raw : List Byte) (rep : Nat) : Reach 0x2420208800008 s
    (State.place s q raw rep) := by
  unfold State.place
  extract_lets x gone
  clear_value gone
  exact Reach.ite (Reach.step (Reach.step (Reach.refl _ _) (State.entryOf_reach ..) rfl) (State.finish_reach ..) rfl) (Reach.step (Reach.step (Reach.step (Reach.refl _ _) (State.entryOf_reach ..) rfl) (State.setQueue_reach ..) rfl) (State.countItems_reach ..) rfl)

theorem State.feedFrom_reach (s : State) (r ref : Nat) (n : Nat) : Reach 0x2420208800008 s
    (State.feedFrom s r ref n) := by
  induction n generalizing s r ref with
  | zero =>
    rw [State.feedFrom]
    extract_lets __src
    clear_value __src
    exact Reach.with_sched (Reach.refl _ _) _ rfl
  | succ n ih =>
    rw [State.feedFrom]
    split
    · extract_lets __src
      clear_value __src
      exact Reach.with_sched (Reach.refl _ _) _ rfl
    · extract_lets __src
      clear_value __src
      exact Reach.ite (Reach.trans (Reach.step (Reach.refl _ _) (State.place_reach ..) rfl) (ih ..)) (Reach.with_sched (Reach.refl _ _) _ rfl)

theorem State.failFrom_reach (s : State) (r ref : Nat) (n : Nat) : Reach 0x2420208800008 s
    (State.failFrom s r ref n) := by
  induction n generalizing s r ref with
  | zero =>
    rw [State.failFrom]
    exact Reach.refl _ _
  | succ n ih =>
    rw [State.failFrom]
    split
    · exact Reach.refl _ _
    · extract_lets q x
      clear_value q
      exact Reach.trans (Reach.step (Reach.step (Reach.refl _ _) (State.entryOf_reach ..) rfl) (State.finish_reach ..) rfl) (ih ..)

theorem State.failFeed_reach (s : State) (r : Nat) : Reach 0x2420208800008 s (State.failFeed s r) := by
  unfold State.failFeed
  split
  · exact Reach.refl _ _
  · extract_lets __src
    clear_value __src
    exact Reach.step (Reach.with_sched (Reach.refl _ _) _ rfl) (State.failFrom_reach ..) rfl

theorem State.runProgram_reach (s : State) (i : Nat) : Reach 0x2420208800008 s (State.runProgram s i) := by
  unfold State.runProgram
  extract_lets __src
  clear_value __src
  refine Reach.ite (Reach.with_sched (Reach.refl _ _) _ rfl) (Reach.foldl (Reach.refl _ _) (?_))
  intro u x
  split
  · exact Reach.step (Reach.refl _ _) (State.place_reach ..) rfl
  · exact Reach.refl _ _

theorem State.runWaiting_reach (s : State) : Reach 0x2420208800008 s (State.runWaiting s) := by
  unfold State.runWaiting
  extract_lets __src
  clear_value __src
  refine Reach.foldl (Reach.with_sched (Reach.refl _ _) _ rfl) (?_)
  intro u x
  exact Reach.step (Reach.refl _ _) (State.runProgram_reach ..) rfl

theorem State.feed_reach (s : State) (r : Nat) : Reach 0x2420208800008 s (State.feed s r) := by
  unfold State.feed
  split
  · exact Reach.refl _ _
  · exact Reach.ite (Reach.refl _ _) (Reach.step (Reach.refl _ _) (State.feedFrom_reach ..) rfl)

theorem State.enter_reach (s : State) (r ref : Nat) : Reach 0x2420208800008 s (State.enter s r ref) := by
  unfold State.enter
  extract_lets __src
  clear_value __src
  exact Reach.ite (Reach.refl _ _) (Reach.step (Reach.with_sched (Reach.refl _ _) _ rfl) (State.feed_reach ..) rfl)

theorem State.enterDue_reach (s : State) (r : Nat) : Reach 0x2420208800008 s (State.enterDue s r) := by
  unfold State.enterDue
  split
  · exact Reach.refl _ _
  · extract_lets __src
    clear_value __src
    exact Reach.step (Reach.with_sched (Reach.refl _ _) _ rfl) (State.enter_reach ..) rfl

/-- What issuing in a region reaches, given what running the descriptor reaches. -/
theorem State.issueIn_reach (m : Nat) (s : State) (q : QueueId) (mine ok : QEntry → Bool)
    (run : QEntry → State → State) (hrun : ∀ e t, Reach m t (run e t)) (hm : Nat.land 0x2420208800008 m = 0x2420208800008) :
    Reach m s (s.issueIn q mine ok run) := by
  unfold State.issueIn
  have k := State.issue_reach m s q mine ok run hrun (land_sub hm rfl)
  dsimp only
  split
  · exact Reach.step k (State.feed_reach ..) (land_sub hm rfl)
  · exact k

theorem State.setSpare_reach (s : State) (r phys : Nat) (free : Option Nat) (repl : Option (Nat × Nat)) : Reach 0x10
    s (State.setSpare s r phys free repl) := by
  unfold State.setSpare
  exact Reach.trans (Reach.refl _ _) (State.setAll_reach _ _ _ (okAll.cons ((Fld.ok_reg ..).trans rfl) (okAll.cons ((Fld.ok_reg ..).trans rfl) (okAll.cons ((Fld.ok_reg ..).trans rfl) (okAll.cons ((Fld.ok_reg ..).trans rfl) (okAll.cons ((Fld.ok_reg ..).trans rfl) (okAll.cons ((Fld.ok_reg ..).trans rfl) okAll.nil)))))))

theorem State.loadPhase_reach (s : State) (r n : Nat) (img : List Byte) (gen : Nat) : Reach 0x1020200000018 s
    (State.loadPhase s r n img gen) := by
  unfold State.loadPhase
  extract_lets res spare dead want x __src s1
  clear_value res spare dead want x __src
  have h_s1 : Reach 0x1020200000018 s s1 := Reach.with_qrn (Reach.refl _ _) _ rfl
  clear_value s1
  exact Reach.step (Reach.trans (Reach.step (h_s1) (State.setSpare_reach ..) rfl) (State.setAll_reach _ _ _ (okAll.cons ((Fld.ok_reg ..).trans rfl) (okAll.cons ((Fld.ok_reg ..).trans rfl) (okAll.cons ((Fld.ok_ix ..).trans rfl) (okAll.cons ((Fld.ok_ix ..).trans rfl) (okAll.cons ((Fld.ok_ix ..).trans rfl) okAll.nil))))))) (State.regionEvents_reach ..) rfl

theorem State.setDrains_reach (s : State) (r : Nat) (l : List DrainReq) : Reach 0x2000000000008 s
    (State.setDrains s r l) := by
  unfold State.setDrains
  extract_lets __src t
  clear_value __src
  have h_t : Reach 0x2000000000008 s t := Reach.with_sched (Reach.refl _ _) _ rfl
  clear_value t
  split
  · exact Reach.trans (h_t) (State.setAll_reach _ _ _ (okAll.cons ((Fld.ok_ix ..).trans rfl) (okAll.cons ((Fld.ok_ix ..).trans rfl) okAll.nil)))
  · exact Reach.set (h_t) _ _ ((Fld.ok_ix ..).trans rfl)

theorem State.settleRegion_reach (s : State) (r : Nat) : Reach 0x10 s (State.settleRegion s r) := by
  unfold State.settleRegion
  extract_lets st tiles
  clear_value st tiles
  exact Reach.ite (Reach.refl _ _) (Reach.ite (Reach.refl _ _) (Reach.step (Reach.refl _ _) (State.setRegionState_reach ..) rfl))

theorem State.askDrain_reach (s : State) (r : Nat) (q : DrainReq) : Reach 0x2000000000018 s (State.askDrain s r q)
    := by
  unfold State.askDrain
  extract_lets s1 s2
  have h_s1 : Reach 0x2000000000018 s s1 := Reach.ite (Reach.step (Reach.refl _ _) (State.setRegionState_reach ..) rfl) (Reach.refl _ _)
  clear_value s1
  have h_s2 : Reach 0x2000000000018 s s2 := Reach.step (h_s1) (State.setDrains_reach ..) rfl
  clear_value s2
  split
  · exact Reach.set (h_s2) _ _ ((Fld.ok_ix ..).trans rfl)
  · exact h_s2
  · exact h_s2

theorem State.endDrain_reach (s : State) (r : Nat) : Reach 0x2000000000018 s (State.endDrain s r) := by
  unfold State.endDrain
  extract_lets rest s1
  clear_value rest
  have h_s1 : Reach 0x2000000000018 s s1 := Reach.step (Reach.refl _ _) (State.setDrains_reach ..) rfl
  clear_value s1
  exact Reach.ite (Reach.step (h_s1) (State.setRegionState_reach ..) rfl) (Reach.step (h_s1) (State.setRegionState_reach ..) rfl)

theorem State.phaseRefused_reach (s : State) (r : Nat) (desc : Nat) (item : Nat) : Reach 0x420208800008 s
    (State.phaseRefused s r desc item) := by
  unfold State.phaseRefused
  exact Reach.step (Reach.step (Reach.trans (Reach.set (Reach.refl _ _) _ _ ((Fld.ok_ix ..).trans rfl)) (State.evt_reach _ _ _ rfl rfl)) (State.keepSeq_reach ..) rfl) (State.raise_reach ..) rfl

theorem State.phaseDone_reach (s : State) (asker : Option Nat) : Reach 0x2000000000000 s (State.phaseDone s asker)
    := by
  unfold State.phaseDone
  split
  · exact Reach.refl _ _
  · extract_lets waits
    clear_value waits
    exact Reach.ite (Reach.refl _ _) (Reach.step (Reach.refl _ _) (State.onFlight_reach ..) rfl)

theorem State.dropQueued_reach (s : State) (r : Nat) : Reach 0x2420208800008 s (State.dropQueued s r) := by
  unfold State.dropQueued
  exact Reach.step (Reach.step (Reach.refl _ _) (State.failQueues_reach ..) rfl) (State.failFeed_reach ..) rfl

theorem State.finishFlights_reach (s : State) (l : List Flight) : Reach 0x2420208800008 s (State.finishFlights s l)
    := by
  induction l generalizing s with
  | nil =>
    rw [State.finishFlights]
    exact Reach.refl _ _
  | cons x l ih =>
    rw [State.finishFlights]
    exact Reach.trans (Reach.step (Reach.refl _ _) (State.finish_reach ..) rfl) (ih ..)

theorem State.clearTiles_reach (s : State) (gone : Nat → Bool) : Reach 0x1000000000000 s (State.clearTiles s gone)
    := by
  unfold State.clearTiles
  extract_lets __src
  clear_value __src
  exact Reach.with_qrn (Reach.refl _ _) _ rfl

theorem State.dropAll_reach (s : State) (r : Nat) : Reach 0x3420208800008 s (State.dropAll s r) := by
  unfold State.dropAll
  extract_lets mine __src s1
  clear_value mine __src
  have h_s1 : Reach 0x3420208800008 s s1 := Reach.step (Reach.with_sched (Reach.refl _ _) _ rfl) (State.clearTiles_reach ..) rfl
  clear_value s1
  exact Reach.step (Reach.step (h_s1) (State.finishFlights_reach ..) rfl) (State.dropQueued_reach ..) rfl

theorem State.drainReached_reach (s : State) (r : Nat) : Reach 0x13420208800018 s (State.drainReached s r) := by
  unfold State.drainReached
  split
  · exact Reach.refl _ _
  · exact Reach.step (Reach.refl _ _) (State.setRegionState_reach ..) rfl
  · extract_lets s1
    have h_s1 : Reach 0x13420208800018 s s1 := Reach.step (Reach.step (Reach.refl _ _) (State.dropQueued_reach ..) rfl) (State.loadPhase_reach ..) rfl
    clear_value s1
    exact Reach.step (Reach.step (Reach.step (h_s1) (State.endDrain_reach ..) rfl) (State.enter_reach ..) rfl) (State.phaseDone_reach ..) rfl
  · extract_lets img s1 __src s2
    clear_value img __src
    have h_s1 : Reach 0x13420208800018 s s1 := Reach.step (Reach.step (Reach.refl _ _) (State.dropQueued_reach ..) rfl) (State.loadPhase_reach ..) rfl
    clear_value s1
    have h_s2 : Reach 0x13420208800018 s s2 := Reach.with_img (h_s1) _ rfl
    clear_value s2
    exact Reach.step (Reach.step (h_s2) (State.endDrain_reach ..) rfl) (State.enter_reach ..) rfl

theorem State.switchStopped_reach (s : State) (r n : Nat) : Reach 0x13420208800018 s (State.switchStopped s r n) := by
  unfold State.switchStopped
  extract_lets img s1 due __src __srcx4
  clear_value img due __src __srcx4
  have h_s1 : Reach 0x13420208800018 s s1 := Reach.step (Reach.step (Reach.refl _ _) (State.dropAll_reach ..) rfl) (State.loadPhase_reach ..) rfl
  clear_value s1
  exact Reach.with_sched_img (h_s1) _ _ rfl

theorem State.switchDue_reach (s : State) (r : Nat) : Reach 0x13420208800018 s (State.switchDue s r) := by
  unfold State.switchDue
  extract_lets new
  clear_value new
  split
  · exact Reach.step (Reach.step (Reach.refl _ _) (State.setDrains_reach ..) rfl) (State.switchStopped_reach ..) rfl
  · exact Reach.refl _ _

theorem State.restart_reach (s : State) (r : Nat) : Reach 0x3420208800018 s (State.restart s r) := by
  unfold State.restart
  extract_lets s1 s2
  have h_s1 : Reach 0x3420208800018 s s1 := Reach.step (Reach.step (Reach.refl _ _) (State.dropAll_reach ..) rfl) (State.setRegionState_reach ..) rfl
  clear_value s1
  have h_s2 : Reach 0x3420208800018 s s2 := Reach.step (Reach.step (Reach.trans (Reach.step (h_s1) (State.regionEvents_reach ..) rfl) (State.evt_reach _ _ _ rfl rfl)) (State.keepSeq_reach ..) rfl) (State.raise_reach ..) rfl
  clear_value s2
  exact Reach.ite (Reach.step (h_s2) (State.enterDue_reach ..) rfl) (Reach.refl _ _)

theorem State.restartStopped_reach (s : State) : Reach 0x3420208800018 s (State.restartStopped s) := by
  unfold State.restartStopped
  refine Reach.foldl (Reach.refl _ _) (?_)
  intro u x
  exact Reach.ite (Reach.step (Reach.refl _ _) (State.restart_reach ..) rfl) (Reach.refl _ _)

end Sys2Proof.Machine
end

