-- ==== Sys2Proof/Laws/ReachUpdate.lean ====
section
/-! SUPPORT. What each operation and each command of Machine/Update.lean reaches. -/

namespace Sys2Proof.Machine

theorem State.firstUpd_reach (s : State) (source matrix iter product : Nat) : Reach 0x100 s
    (State.firstUpd s source matrix iter product) := by
  unfold State.firstUpd
  exact Reach.ite (Reach.refl _ _) (Reach.trans (Reach.refl _ _) (State.setAll_reach _ _ _ (okAll.cons rfl (okAll.cons rfl (okAll.cons rfl (okAll.cons rfl okAll.nil))))))

theorem State.matFail_reach (s : State) (r desc : Nat) (matrix : Option Nat) : Reach 0x8420208800100 s
    (State.matFail s r desc matrix) := by
  unfold State.matFail
  split
  · exact Reach.refl _ _
  · extract_lets here __src s1 s2
    clear_value here __src
    have h_s1 : Reach 0x8420208800100 s s1 := Reach.with_step (Reach.refl _ _) _ rfl
    clear_value s1
    have h_s2 : Reach 0x8420208800100 s s2 := Reach.trans (Reach.trans (Reach.step (h_s1) (State.firstUpd_reach ..) rfl) (State.bump_reach _ _ _ _ rfl)) (State.evt_reach _ _ _ rfl rfl)
    clear_value s2
    exact Reach.ite (Reach.refl _ _) (Reach.step (h_s2) (State.raise_reach ..) rfl)

theorem State.matFails_reach (s : State) (r : Nat) (l : List (Option Nat)) : Reach 0x8420208800100 s
    (State.matFails s r l) := by
  induction l generalizing s r with
  | nil =>
    rw [State.matFails]
    exact Reach.refl _ _
  | cons x l ih =>
    rw [State.matFails]
    exact Reach.trans (Reach.step (Reach.refl _ _) (State.matFail_reach ..) rfl) (ih ..)

theorem State.nonFinite_reach (s : State) (r desc m iter product : Nat) : Reach 0x2428420208804100 s
    (State.nonFinite s r desc m iter product) := by
  unfold State.nonFinite
  extract_lets __src s1 s2 s3
  clear_value __src
  have h_s1 : Reach 0x2428420208804100 s s1 := Reach.with_step (Reach.refl _ _) _ rfl
  clear_value s1
  have h_s2 : Reach 0x2428420208804100 s s2 := Reach.trans (Reach.trans (Reach.step (h_s1) (State.firstUpd_reach ..) rfl) (State.bump_reach _ _ _ _ rfl)) (State.evt_reach _ _ _ rfl rfl)
  clear_value s2
  have h_s3 : Reach 0x2428420208804100 s s3 := Reach.step (h_s2) (State.raise_reach ..) rfl
  clear_value s3
  exact Reach.ite (Reach.refl _ _) (Reach.ite (Reach.step (h_s3) (State.abandonStep_reach ..) rfl) (h_s3))

end Sys2Proof.Machine
end

