-- ==== Sys2Proof/Laws/ReachMember.lean ====
section
/-! SUPPORT. What each operation and each command of Machine/Member.lean reaches. -/

namespace Sys2Proof.Machine

theorem State.fence_reach (s : State) : Reach 0x242842020a804100 s (State.fence s) := by
  unfold State.fence
  exact Reach.ite (Reach.refl _ _) (Reach.step (Reach.step (Reach.trans (Reach.step (Reach.set (Reach.refl _ _) _ _ rfl) (State.abandonStep_reach ..) rfl) (State.evt_reach _ _ _ rfl rfl)) (State.raise_reach ..) rfl) (State.holdGrants_reach ..) rfl)

theorem State.seeEpoch_reach (s : State) (mepoch : Nat) : Reach 0x242842020a804100 s (State.seeEpoch s mepoch) := by
  unfold State.seeEpoch
  exact Reach.ite (Reach.step (Reach.refl _ _) (State.fence_reach ..) rfl) (Reach.refl _ _)

theorem State.setOuterEpoch_reach (s : State) (e : Nat) : Reach 0x100 s (State.setOuterEpoch s e) := by
  unfold State.setOuterEpoch
  exact Reach.trans (Reach.refl _ _) (State.set64_reach _ _ _ _ _ rfl rfl)

theorem State.addTokens_reach (s : State) : Reach 0x2000000 s (State.addTokens s) := by
  unfold State.addTokens
  exact Reach.ite (Reach.trans (Reach.refl _ _) (State.add64_reach _ _ _ _ _ rfl rfl)) (Reach.refl _ _)

theorem State.growAges_reach (s : State) : Reach 0x2000000 s (State.growAges s) := by
  unfold State.growAges
  extract_lets now
  clear_value now
  exact Reach.trans (Reach.refl _ _) (State.setAll_reach _ _ _ (okAll.map fun _ => (Fld.ok_ix ..).trans rfl))

theorem State.restored_reach (s : State) (a n : Nat) : Reach 0x8000000004000 s (State.restored s a n) := by
  unfold State.restored
  extract_lets back left __src
  clear_value back left __src
  exact Reach.ite (Reach.refl _ _) (Reach.step (Reach.with_step (Reach.refl _ _) _ rfl) (State.holdGrants_reach ..) rfl)

theorem State.replicaIn_reach (s : State) (a n : Nat) : Reach 0x120000000000400 s (State.replicaIn s a n) := by
  unfold State.replicaIn
  extract_lets all left v __src
  clear_value all left v __src
  exact Reach.ite (Reach.refl _ _) (Reach.ite (Reach.refl _ _) (Reach.ite (Reach.trans (Reach.step (Reach.with_mbr (Reach.refl _ _) _ rfl) (State.emit_reach ..) rfl) (State.setBit_reach _ _ _ _ _ rfl)) (Reach.with_mbr (Reach.refl _ _) _ rfl)))

theorem State.commitAs_reach (s : State) (mask : Nat) : Reach 0x528400208004100 s (State.commitAs s mask) := by
  unfold State.commitAs
  extract_lets e partner s1 s2 __src __srcx5 s3
  clear_value e partner __src __srcx5
  have h_s1 : Reach 0x528400208004100 s s1 := Reach.trans (Reach.step (Reach.set (Reach.step (Reach.refl _ _) (State.setOuterEpoch_reach ..) rfl) _ _ rfl) (State.journal_reach ..) rfl) (State.evtEndAll_reach _ _ _ (okFlds.cons rfl (okFlds.cons rfl (okFlds.cons rfl (okFlds.cons rfl okFlds.nil)))) rfl)
  clear_value s1
  have h_s2 : Reach 0x528400208004100 s s2 := Reach.set (Reach.step (h_s1) (State.setStep_reach ..) rfl) _ _ rfl
  clear_value s2
  have h_s3 : Reach 0x528400208004100 s s3 := Reach.with_step_mbr (h_s2) _ _ rfl
  clear_value s3
  exact Reach.ite (Reach.step (h_s3) (State.emit_reach ..) rfl) (h_s3)

theorem State.copyPin_reach (s : State) : Reach 0x400000b000040000 s (State.copyPin s) := by
  unfold State.copyPin
  split
  · exact Reach.refl _ _
  · exact Reach.step (Reach.refl _ _) (State.deposit_reach ..) rfl

end Sys2Proof.Machine
end

