-- ==== Sys2Proof/Laws/ReachStamp.lean ====
section
/-! SUPPORT. What each operation and each command of Machine/Stamp.lean reaches. -/

namespace Sys2Proof.Machine

theorem State.captureTx_reach (s : State) (p opId : Nat) : Reach 0x10000000000100000 s (State.captureTx s p opId) :=
    by
  unfold State.captureTx
  extract_lets x __src
  clear_value x __src
  exact Reach.ite (Reach.set (Reach.trans (Reach.with_time (Reach.refl _ _) _ rfl) (State.set64_reach _ _ _ _ _ ((Fld.ok_ix ..).trans rfl) ((Fld.ok_ix ..).trans rfl))) _ _ ((Fld.ok_ix ..).trans rfl)) (Reach.refl _ _)

theorem State.captureRx_reach (s : State) (p opId : Nat) : Reach 0x10000000000100000 s (State.captureRx s p opId) :=
    by
  unfold State.captureRx
  extract_lets x __src
  clear_value x __src
  exact Reach.ite (Reach.set (Reach.trans (Reach.with_time (Reach.refl _ _) _ rfl) (State.set64_reach _ _ _ _ _ ((Fld.ok_ix ..).trans rfl) ((Fld.ok_ix ..).trans rfl))) _ _ ((Fld.ok_ix ..).trans rfl)) (Reach.refl _ _)

end Sys2Proof.Machine
end

