-- ==== Sys2Proof/Laws/ReachFabric.lean ====
section
/-! SUPPORT. What each operation and each command of Machine/Fabric.lean reaches. -/

namespace Sys2Proof.Machine

theorem State.setFabPort_reach (s : State) (p : Nat) (x : PortSt) : Reach 0x200000000000000 s
    (State.setFabPort s p x) := by
  unfold State.setFabPort
  extract_lets __src
  clear_value __src
  exact Reach.with_fab (Reach.refl _ _) _ rfl

theorem State.setFabState_reach (s : State) (p st : Nat) : Reach 0x1000 s (State.setFabState s p st) := by
  unfold State.setFabState
  extract_lets s1
  have h_s1 : Reach 0x1000 s s1 := Reach.ite (Reach.set (Reach.refl _ _) _ _ ((Fld.ok_ix ..).trans rfl)) (Reach.refl _ _)
  clear_value s1
  exact Reach.trans (Reach.trans (Reach.set (h_s1) _ _ ((Fld.ok_ix ..).trans rfl)) (State.setBit_reach _ _ _ _ _ rfl)) (State.setBit_reach _ _ _ _ _ rfl)

theorem State.raiseFab_reach (m : Nat) (s : State) (source : Nat) (cls : FClass) (ev : Option Fld)
    (loc port peer opId : Nat) (hev : ∀ f, ev = some f → f.ok m = true)
    (hm : Nat.land 0x420208801000 m = 0x420208801000) : Reach m s
    (State.raiseFab s source cls ev loc port peer opId) := by
  unfold State.raiseFab
  extract_lets s1 s2
  have h_s1 : Reach m s s1 := by
    unfold s1
    split
    · exact Reach.trans (Reach.refl _ _) (State.evt_reach _ _ _ ((hev _ rfl)) (land_sub hm rfl))
    · exact Reach.refl _ _
  clear_value s1
  have h_s2 : Reach m s s2 := Reach.ite (h_s1) (Reach.trans (h_s1) (State.setAll_reach _ _ _ (okAll.cons ((Fld.ok_sub hm rfl)) (okAll.cons ((Fld.ok_sub hm rfl)) (okAll.cons ((Fld.ok_sub hm rfl)) (okAll.cons ((Fld.ok_sub hm rfl)) okAll.nil))))))
  clear_value s2
  exact Reach.step (h_s2) (State.raise_reach ..) (land_sub hm rfl)

theorem State.portDown_reach (s : State) (p : Nat) : Reach 0x420208801000 s (State.portDown s p) := by
  unfold State.portDown
  exact Reach.trans (Reach.refl _ _) (State.raiseFab_reach _ _ _ _ _ _ _ _ _ (by intro _ h; cases h; exact rfl) rfl)

theorem State.countInUse_reach (s : State) : Reach 0x2000 s (State.countInUse s) := by
  unfold State.countInUse
  exact Reach.trans (Reach.refl _ _) (State.setAll_reach _ _ _ (okAll.cons rfl (okAll.cons rfl okAll.nil)))

theorem State.setHeld7_reach (s : State) (ingress vc : Nat) (l : List HeldPkt) : Reach 0x200000000002000 s
    (State.setHeld7 s ingress vc l) := by
  unfold State.setHeld7
  extract_lets __src
  clear_value __src
  exact Reach.step (Reach.with_fab (Reach.refl _ _) _ rfl) (State.countInUse_reach ..) rfl

theorem State.giveCredits_reach (s : State) (p v n : Nat) : Reach 0x200000000000000 s (State.giveCredits s p v n) :=
    by
  unfold State.giveCredits
  extract_lets x
  clear_value x
  exact Reach.step (Reach.refl _ _) (State.setFabPort_reach ..) rfl

theorem State.freeBuffer_reach (s : State) (ingress vc : Nat) (k : Packet) : Reach 0x200000000000000 s
    (State.freeBuffer s ingress vc k) := by
  unfold State.freeBuffer
  exact Reach.ite (Reach.step (Reach.refl _ _) (State.giveCredits_reach ..) rfl) (Reach.refl _ _)

theorem State.freeHeld_reach (s : State) (h : HeldPkt) : Reach 0x200000000000000 s (State.freeHeld s h) := by
  unfold State.freeHeld
  exact Reach.ite (Reach.step (Reach.refl _ _) (State.freeBuffer_reach ..) rfl) (Reach.refl _ _)

theorem State.dropHeld_reach (s : State) (p : Nat) : Reach 0x200000000002000 s (State.dropHeld s p) := by
  unfold State.dropHeld
  extract_lets qs gone inbox __src
  clear_value qs gone inbox __src
  refine Reach.foldl (Reach.step (Reach.with_fab (Reach.refl _ _) _ rfl) (State.countInUse_reach ..) rfl) (?_)
  intro u x
  exact Reach.step (Reach.refl _ _) (State.freeHeld_reach ..) rfl

theorem State.fabFail_reach (s : State) (p reason : Nat) : Reach 0x200420208803000 s (State.fabFail s p reason) := by
  unfold State.fabFail
  extract_lets active s1 s2 __src
  clear_value active __src
  have h_s1 : Reach 0x200420208803000 s s1 := Reach.step (Reach.set (Reach.step (Reach.refl _ _) (State.setFabState_reach ..) rfl) _ _ ((Fld.ok_ix ..).trans rfl)) (State.setFabPort_reach ..) rfl
  clear_value s1
  have h_s2 : Reach 0x200420208803000 s s2 := Reach.trans (h_s1) (State.setAll_reach _ _ _ (okAll.map fun _ => (Fld.ok_ix ..).trans rfl))
  clear_value s2
  exact Reach.ite (Reach.step (Reach.trans (Reach.step (Reach.with_fab (h_s2) _ rfl) (State.dropHeld_reach ..) rfl) (State.bump_reach _ _ _ _ ((Fld.ok_ix ..).trans rfl))) (State.portDown_reach ..) rfl) (h_s2)

theorem State.discard_reach (m : Nat) (s : State) (ingress : Nat) (cnt : Fld) (k : Packet) (hcnt : cnt.ok m = true)
    (hm : Nat.land 0x200420208801000 m = 0x200420208801000) : Reach m s (State.discard s ingress cnt k) := by
  unfold State.discard
  extract_lets __src s1 n __srcx3 s2 limit __srcx6
  clear_value __src n __srcx3 limit __srcx6
  have h_s1 : Reach m s s1 := Reach.ite (Reach.refl _ _) (Reach.trans (Reach.with_fab (Reach.refl _ _) _ (land_sub hm rfl)) (State.setAll_reach _ _ _ (okAll.map fun _ => (Fld.ok_ix ..).trans (Fld.ok_sub hm rfl))))
  clear_value s1
  have h_s2 : Reach m s s2 := Reach.trans (Reach.with_fab (h_s1) _ (land_sub hm rfl)) (State.bump_reach _ _ _ _ ((Fld.ok_ix ..).trans (hcnt)))
  clear_value s2
  exact Reach.ite (Reach.ite (Reach.trans (Reach.with_fab (h_s2) _ (land_sub hm rfl)) (State.raiseFab_reach _ _ _ _ _ _ _ _ _ (by intro _ h; cases h; exact (Fld.ok_sub hm rfl)) (land_sub hm rfl))) (h_s2)) (h_s1)

theorem State.deliver_reach (s : State) (ingress vc : Nat) (owes : Bool) (k : Packet) : Reach 0x200000000002000 s
    (State.deliver s ingress vc owes k) := by
  unfold State.deliver
  extract_lets nacks __src
  clear_value nacks __src
  exact Reach.ite (Reach.ite (Reach.step (Reach.refl _ _) (State.freeBuffer_reach ..) rfl) (Reach.refl _ _)) (Reach.step (Reach.with_fab (Reach.refl _ _) _ rfl) (State.countInUse_reach ..) rfl)

theorem State.routePacket_reach (s : State) (ingress vc : Nat) (k : Packet) : Reach 0x200420208803000 s
    (State.routePacket s ingress vc k) := by
  unfold State.routePacket
  extract_lets lose e branches s1 ex4
  clear_value e branches ex4
  have h_s1 : Reach 0x200420208803000 s s1 := Reach.ite (Reach.step (Reach.refl _ _) (State.deliver_reach ..) rfl) (Reach.refl _ _)
  clear_value s1
  exact Reach.ite (Reach.trans (Reach.step (Reach.refl _ _) (State.freeBuffer_reach ..) rfl) (State.discard_reach _ _ _ _ _ rfl rfl)) (Reach.ite (Reach.ite (Reach.trans (Reach.step (Reach.refl _ _) (State.freeBuffer_reach ..) rfl) (State.discard_reach _ _ _ _ _ rfl rfl)) (Reach.ite (Reach.trans (Reach.step (Reach.refl _ _) (State.freeBuffer_reach ..) rfl) (State.discard_reach _ _ _ _ _ rfl rfl)) (Reach.ite (Reach.ite (h_s1) (Reach.trans (Reach.step (Reach.refl _ _) (State.freeBuffer_reach ..) rfl) (State.discard_reach _ _ _ _ _ rfl rfl))) (Reach.step (h_s1) (State.setHeld7_reach ..) rfl)))) (Reach.ite (Reach.trans (Reach.step (Reach.refl _ _) (State.freeBuffer_reach ..) rfl) (State.discard_reach _ _ _ _ _ rfl rfl)) (Reach.ite (Reach.step (Reach.refl _ _) (State.deliver_reach ..) rfl) (Reach.step (Reach.refl _ _) (State.setHeld7_reach ..) rfl))))

theorem State.countRound_reach (s : State) (p v : Nat) : Reach 0x200000000000000 s (State.countRound s p v) := by
  unfold State.countRound
  extract_lets r __src
  clear_value r __src
  exact Reach.with_fab (Reach.refl _ _) _ rfl

theorem State.sendOn_reach (s0 : State) (ingress p : Nat) (k : Packet) : Reach 0x10300000000101000 s0
    (State.sendOn s0 ingress p k) := by
  unfold State.sendOn
  extract_lets v s out f
  clear_value v out
  have h_s : Reach 0x10300000000101000 s0 s := Reach.step (Reach.refl _ _) (State.countRound_reach ..) rfl
  clear_value s
  exact Reach.step (Reach.step (Reach.trans (Reach.set (h_s) _ _ ((Fld.ok_ix ..).trans rfl)) (State.add64_reach _ _ _ _ _ ((Fld.ok_ix ..).trans rfl) ((Fld.ok_ix ..).trans rfl))) (State.captureTx_reach ..) rfl) (State.emit_reach ..) rfl

theorem State.sendBranches_reach (s : State) (ingress : Nat) (k : Packet) (l : List Nat) :
    Reach 0x10300420208901000 s (s.sendBranches ingress k l).1 := by
  induction l generalizing s with
  | nil =>
    rw [State.sendBranches]
    exact Reach.refl _ _
  | cons p t ih =>
    rw [State.sendBranches]
    split
    · exact Reach.trans (Reach.trans (Reach.refl _ _) (State.discard_reach _ _ _ _ _ rfl rfl)) (ih ..)
    · split
      · exact Reach.trans (Reach.step (Reach.refl _ _) (State.sendOn_reach ..) rfl) (ih ..)
      · exact ih s

theorem State.inject_reach (s : State) (hub : Nat) (k : Packet) : Reach 0x200420208803000 s (State.inject s hub k)
    := by
  unfold State.inject
  extract_lets x
  clear_value x
  exact Reach.ite (Reach.refl _ _) (Reach.step (Reach.refl _ _) (State.routePacket_reach ..) rfl)

theorem State.injectAll_reach (s : State) (hub : Nat) (l : List Packet) : Reach 0x200420208803000 s
    (State.injectAll s hub l) := by
  induction l generalizing s hub with
  | nil =>
    rw [State.injectAll]
    exact Reach.refl _ _
  | cons x l ih =>
    rw [State.injectAll]
    exact Reach.trans (Reach.step (Reach.refl _ _) (State.inject_reach ..) rfl) (ih ..)

theorem State.takePacket_reach (s : State) (hub op : Nat) (x : InPkt × State) (h : s.takePacket hub op = some x) :
    Reach 0x200000000002000 s x.2 := by
  unfold State.takePacket at h
  split at h
  · exact nomatch h
  · obtain ⟨i, _, rfl⟩ := Option.map_eq_some_iff.mp h
    exact Reach.step (Reach.with_fab (Reach.refl _ _) _ rfl) (State.countInUse_reach ..) rfl

theorem State.consumed_reach (s : State) (i : InPkt) (throughPool : Bool) : Reach 0x200000000000000 s
    (State.consumed s i throughPool) := by
  unfold State.consumed
  extract_lets n __src
  clear_value n __src
  exact Reach.ite (Reach.ite (Reach.with_fab (Reach.refl _ _) _ rfl) (Reach.step (Reach.refl _ _) (State.freeBuffer_reach ..) rfl)) (Reach.refl _ _)

theorem State.releaseCredits_reach (s : State) (p : Nat) : Reach 0x200000000000000 s (State.releaseCredits s p) := by
  unfold State.releaseCredits
  extract_lets go __src s1
  clear_value go __src
  have h_s1 : Reach 0x200000000000000 s s1 := Reach.with_fab (Reach.refl _ _) _ rfl
  clear_value s1
  refine Reach.foldl (h_s1) (?_)
  intro u x
  exact Reach.step (Reach.refl _ _) (State.giveCredits_reach ..) rfl

theorem State.countCtx_reach (s : State) : Reach 0x1000 s (State.countCtx s) := by
  unfold State.countCtx
  exact Reach.trans (Reach.refl _ _) (State.setAll_reach _ _ _ (okAll.cons rfl (okAll.cons rfl okAll.nil)))

theorem State.countPacket_reach (s : State) (hub : Nat) (k : Packet) (status : Nat) : Reach 0x200000000001000 s
    (State.countPacket s hub k status).2.2 := by
  unfold State.countPacket
  extract_lets key c x full __src
  clear_value key c x full __src
  dsimp only
  exact Reach.step (Reach.with_fab (Reach.refl _ _) _ rfl) (State.countCtx_reach ..) rfl

theorem State.setOp_reach (s : State) (id : Nat) (o : Option FabOp) : Reach 0x200000000000000 s (State.setOp s id o)
    := by
  unfold State.setOp
  extract_lets __src
  clear_value __src
  exact Reach.with_fab (Reach.refl _ _) _ rfl

theorem State.signalOp_reach (s : State) (q : FabReq) (failed : Bool) : Reach 0x2000000000008 s
    (State.signalOp s q failed) := by
  unfold State.signalOp
  split
  · exact Reach.step (Reach.refl _ _) (State.addGlobal_reach ..) rfl
  · exact Reach.refl _ _

theorem State.opFail_reach (s : State) (id : Nat) (o : FabOp) : Reach 0x202420208801008 s (State.opFail s id o) := by
  unfold State.opFail
  exact Reach.step (Reach.trans (Reach.trans (Reach.step (Reach.refl _ _) (State.setOp_reach ..) rfl) (State.bump_reach _ _ _ _ rfl)) (State.raiseFab_reach _ _ _ _ _ _ _ _ _ (by intro _ h; cases h; exact rfl) rfl)) (State.signalOp_reach ..) rfl

theorem State.sendOp_reach (s : State) (o : FabOp) : Reach 0x202420208843608 s (State.sendOp s o) := by
  unfold State.sendOp
  extract_lets n x
  clear_value n
  refine Reach.ite (Reach.step (?_) (State.opFail_reach ..) rfl) (Reach.step (?_) (State.injectAll_reach ..) rfl)
  · unfold x
    split
    · exact Reach.step (Reach.refl _ _) (State.rangeFaults_reach ..) rfl
    · dsimp only
      exact Reach.refl _ _
  · unfold x
    split
    · exact Reach.step (Reach.refl _ _) (State.rangeFaults_reach ..) rfl
    · dsimp only
      exact Reach.refl _ _

theorem State.issueOp_reach (s : State) (kind : OpKind) (q : FabReq) : Reach 0x202420208843608 s
    (State.issueOp s kind q) := by
  unfold State.issueOp
  extract_lets o
  clear_value o
  exact Reach.ite (Reach.refl _ _) (Reach.step (Reach.ite (Reach.refl _ _) (Reach.step (Reach.refl _ _) (State.setOp_reach ..) rfl)) (State.sendOp_reach ..) rfl)

theorem State.staleReply_reach (s : State) : Reach 0x1000 s (State.staleReply s) := by
  unfold State.staleReply
  exact Reach.trans (Reach.refl _ _) (State.bump_reach _ _ _ _ rfl)

theorem State.endOp_reach (s : State) (kind : OpKind) (k : Packet) (status : Nat) : Reach 0x202420208801008 s
    (State.endOp s kind k status) := by
  unfold State.endOp
  split
  · exact Reach.step (Reach.refl _ _) (State.staleReply_reach ..) rfl
  · exact Reach.ite (Reach.step (Reach.step (Reach.refl _ _) (State.setOp_reach ..) rfl) (State.signalOp_reach ..) rfl) (Reach.step (Reach.refl _ _) (State.opFail_reach ..) rfl)

end Sys2Proof.Machine
end

