-- ==== Sys2Proof/Laws/ReachFabricCmd.lean ====
section
/-! SUPPORT. What each operation and each command of Machine/FabricCmd.lean reaches. -/

namespace Sys2Proof.Machine

theorem execFabRetrain_reach (port : Nat) (auto : Bool) (s : State) : ∃ t, execFabRetrain port auto s = .next t ∧
    Reach 0x40000420208801001 s t := by
  refine ⟨_, rfl, ?_⟩
  extract_lets go
  refine Reach.ite (Reach.ite (Reach.ite (Reach.step (Reach.step (Reach.refl _ _) (State.setFabState_reach ..) rfl) (State.lightPort_reach ..) rfl) (Reach.refl _ _)) (Reach.refl _ _)) (Reach.trans (Reach.refl _ _) (State.hostWrite_reach _ _ _ _ _ _ (?_) rfl))
  intro t
  exact Reach.ite (Reach.step (Reach.step (Reach.refl _ _) (State.setFabState_reach ..) rfl) (State.lightPort_reach ..) rfl) (Reach.refl _ _)

theorem execFabDown_reach (port : Nat) (s : State) : ∃ t, execFabDown port s = .next t ∧ Reach 0x200420208803001 s t
    := by
  refine ⟨_, rfl, ?_⟩
  refine Reach.trans (Reach.refl _ _) (State.hostWrite_reach _ _ _ _ _ _ (?_) rfl)
  intro t
  exact Reach.step (Reach.refl _ _) (State.fabFail_reach ..) rfl

theorem execFabLanesLocked_reach (port : Nat) (s : State) : ∃ t, execFabLanesLocked port s = .next t ∧ Reach 0x1000
    s t := by
  refine ⟨_, rfl, ?_⟩
  exact Reach.ite (Reach.step (Reach.refl _ _) (State.setFabState_reach ..) rfl) (Reach.refl _ _)

theorem execFabAligned_reach (port : Nat) (s : State) : ∃ t, execFabAligned port s = .next t ∧ Reach
    0x300000000001000 s t := by
  refine ⟨_, rfl, ?_⟩
  exact Reach.ite (Reach.step (Reach.step (Reach.step (Reach.refl _ _) (State.setFabState_reach ..) rfl) (State.setFabPort_reach ..) rfl) (State.emit_reach ..) rfl) (Reach.refl _ _)

theorem execFabIdent_reach (port : Nat) (ident : FabIdent) (s : State) : ∃ t, execFabIdent port ident s = .next t ∧
    Reach 0x200420208803000 s t := by
  refine ⟨_, rfl, ?_⟩
  extract_lets __src
  clear_value __src
  exact Reach.ite (Reach.ite (Reach.trans (Reach.trans (Reach.step (Reach.step (Reach.with_fab (Reach.refl _ _) _ rfl) (State.setFabPort_reach ..) rfl) (State.setFabState_reach ..) rfl) (State.setAll_reach _ _ _ (okAll.cons ((Fld.ok_ix ..).trans rfl) (okAll.cons ((Fld.ok_ix ..).trans rfl) okAll.nil)))) (State.setAll_reach _ _ _ (okAll.map fun _ => (Fld.ok_ix ..).trans rfl))) (Reach.step (Reach.trans (Reach.refl _ _) (State.raiseFab_reach _ _ _ _ _ _ _ _ _ (by intro _ h; cases h; exact rfl) rfl)) (State.fabFail_reach ..) rfl)) (Reach.refl _ _)

theorem execFabSilence_reach (port : Nat) (s : State) : ∃ t, execFabSilence port s = .next t ∧ Reach
    0x200420208803000 s t := by
  refine ⟨_, rfl, ?_⟩
  exact Reach.ite (Reach.step (Reach.refl _ _) (State.fabFail_reach ..) rfl) (Reach.refl _ _)

theorem execFabTrainingTimeout_reach (port : Nat) (s : State) : ∃ t, execFabTrainingTimeout port s = .next t ∧ Reach
    0x200420208803000 s t := by
  refine ⟨_, rfl, ?_⟩
  extract_lets st
  clear_value st
  exact Reach.ite (Reach.step (Reach.refl _ _) (State.fabFail_reach ..) rfl) (Reach.refl _ _)

theorem execFabBackoffEnd_reach (port : Nat) (s : State) : ∃ t, execFabBackoffEnd port s = .next t ∧ Reach 0x1000 s
    t := by
  refine ⟨_, rfl, ?_⟩
  exact Reach.ite (Reach.step (Reach.refl _ _) (State.setFabState_reach ..) rfl) (Reach.refl _ _)

theorem execFabActiveDeadline_reach (port : Nat) (s : State) : ∃ t, execFabActiveDeadline port s = .next t ∧ Reach
    0x420208801000 s t := by
  refine ⟨_, rfl, ?_⟩
  exact Reach.ite (Reach.step (Reach.refl _ _) (State.portDown_reach ..) rfl) (Reach.refl _ _)

theorem execLinkControlBlock_reach (port : Nat) (block : List Byte) (s : State) : ∃ t, execLinkControlBlock port
    block s = .next t ∧ Reach 0x200420208803000 s t := by
  refine ⟨_, rfl, ?_⟩
  extract_lets x totals gain
  clear_value x totals gain
  exact Reach.ite (Reach.step (Reach.refl _ _) (State.fabFail_reach ..) rfl) (Reach.ite (Reach.ite (Reach.ite (Reach.trans (Reach.step (Reach.refl _ _) (State.setFabPort_reach ..) rfl) (State.setAll_reach _ _ _ (okAll.map fun _ => (Fld.ok_ix ..).trans rfl))) (Reach.step (Reach.refl _ _) (State.setFabPort_reach ..) rfl)) (Reach.ite (Reach.step (Reach.refl _ _) (State.fabFail_reach ..) rfl) (Reach.step (Reach.refl _ _) (State.setFabPort_reach ..) rfl))) (Reach.refl _ _))

theorem execControlBlockSend_reach (port : Nat) (s : State) : ∃ t, execControlBlockSend port s = .next t ∧ Reach
    0x300000000000000 s t := by
  refine ⟨_, rfl, ?_⟩
  extract_lets s1 x
  clear_value x
  have h_s1 : Reach 0x300000000000000 s s1 := Reach.step (Reach.refl _ _) (State.releaseCredits_reach ..) rfl
  clear_value s1
  exact Reach.ite (Reach.step (Reach.step (h_s1) (State.setFabPort_reach ..) rfl) (State.emit_reach ..) rfl) (Reach.refl _ _)

theorem execPacketArrival_reach (port : Nat) (packet : Packet) (s : State) : ∃ t, execPacketArrival port packet s =
    .next t ∧ Reach 0x1262842020a907100 s t := by
  refine ⟨_, rfl, ?_⟩
  extract_lets vc s1 lose s2
  clear_value vc
  have h_s1 : Reach 0x1262842020a907100 s s1 := Reach.step (Reach.trans (Reach.refl _ _) (State.add64_reach _ _ _ _ _ ((Fld.ok_ix ..).trans rfl) ((Fld.ok_ix ..).trans rfl))) (State.captureRx_reach ..) rfl
  clear_value s1
  have h_s2 : Reach 0x1262842020a907100 s s2 := Reach.step (h_s1) (State.seeEpoch_reach ..) rfl
  clear_value s2
  exact Reach.ite (Reach.ite (Reach.trans (Reach.step (h_s1) (State.freeBuffer_reach ..) rfl) (State.discard_reach _ _ _ _ _ rfl rfl)) (Reach.ite (Reach.trans (Reach.step (h_s1) (State.freeBuffer_reach ..) rfl) (State.discard_reach _ _ _ _ _ rfl rfl)) (Reach.ite (Reach.trans (Reach.step (h_s2) (State.freeBuffer_reach ..) rfl) (State.discard_reach _ _ _ _ _ rfl rfl)) (Reach.step (h_s2) (State.routePacket_reach ..) rfl)))) (Reach.refl _ _)

theorem execPacketForward_reach (ingress vc : Nat) (s : State) : ∃ t, execPacketForward ingress vc s = .next t ∧
    Reach 0x10300420208903000 s t := by
  refine ⟨_, rfl, ?_⟩
  refine Reach.ite (Reach.refl _ _) (?_)
  split
  · exact Reach.refl _ _
  · extract_lets r
    refine Reach.ite (Reach.ite (Reach.step (Reach.step (Reach.step (Reach.refl _ _) (State.sendBranches_reach ..) rfl) (State.setHeld7_reach ..) rfl) (State.freeHeld_reach ..) rfl) (Reach.step (Reach.step (Reach.refl _ _) (State.sendBranches_reach ..) rfl) (State.setHeld7_reach ..) rfl)) (?_)
    split
    · exact Reach.trans (Reach.step (Reach.step (Reach.refl _ _) (State.setHeld7_reach ..) rfl) (State.freeHeld_reach ..) rfl) (State.discard_reach _ _ _ _ _ rfl rfl)
    · exact Reach.ite (Reach.step (Reach.step (Reach.step (Reach.refl _ _) (State.setHeld7_reach ..) rfl) (State.sendOn_reach ..) rfl) (State.freeHeld_reach ..) rfl) (Reach.step (Reach.refl _ _) (State.setHeld7_reach ..) rfl)

theorem execHopLifeExpiry_reach (ingress vc : Nat) (s : State) : ∃ t, execHopLifeExpiry ingress vc s = .next t ∧
    Reach 0x200420208803000 s t := by
  refine ⟨_, rfl, ?_⟩
  split
  · exact Reach.refl _ _
  · exact Reach.trans (Reach.step (Reach.step (Reach.refl _ _) (State.setHeld7_reach ..) rfl) (State.freeHeld_reach ..) rfl) (State.discard_reach _ _ _ _ _ rfl rfl)

theorem State.putPacket_reach (s : State) (i : InPkt) : Reach 0x432842b208847600 s (State.putPacket s i) := by
  unfold State.putPacket
  extract_lets k n far f x r
  clear_value k n far
  refine Reach.ite (Reach.step (Reach.step (Reach.refl _ _) (State.consumed_reach ..) rfl) (State.staleReply_reach ..) rfl) (Reach.ite (Reach.step (Reach.step (Reach.step (?_) (State.consumed_reach ..) rfl) (State.countPacket_reach ..) rfl) (State.inject_reach ..) rfl) (Reach.step (Reach.step (?_) (State.consumed_reach ..) rfl) (State.countPacket_reach ..) rfl))
  · unfold x
    split
    · dsimp only
      exact Reach.step (Reach.step (Reach.step (Reach.step (Reach.refl _ _) (State.rangeFaults_reach ..) rfl) (State.deposit_reach ..) rfl) (State.restored_reach ..) rfl) (State.replicaIn_reach ..) rfl
    · dsimp only
      exact Reach.refl _ _
  · unfold x
    split
    · dsimp only
      exact Reach.step (Reach.step (Reach.step (Reach.step (Reach.refl _ _) (State.rangeFaults_reach ..) rfl) (State.deposit_reach ..) rfl) (State.restored_reach ..) rfl) (State.replicaIn_reach ..) rfl
    · dsimp only
      exact Reach.refl _ _

theorem State.getPacket_reach (s : State) (i : InPkt) : Reach 0x200420208843600 s (State.getPacket s i) := by
  unfold State.getPacket
  extract_lets k ok f r xs
  clear_value k ok xs
  refine Reach.ite (Reach.step (Reach.step (Reach.refl _ _) (State.consumed_reach ..) rfl) (State.staleReply_reach ..) rfl) (Reach.step (Reach.step (Reach.step (?_) (State.consumed_reach ..) rfl) (State.countPacket_reach ..) rfl) (State.inject_reach ..) rfl)
  unfold f
  split
  · exact Reach.step (Reach.refl _ _) (State.rangeFaults_reach ..) rfl
  · dsimp only
    exact Reach.refl _ _

theorem execGet_reach (c : FabCmd) (s : State) : ∃ t, execGet c s = .next t ∧ Reach 0x202420208843608 s t := by
  refine ⟨_, rfl, ?_⟩
  split
  · exact Reach.step (Reach.refl _ _) (State.issueOp_reach ..) rfl
  · split
    · rename_i c_i hub_i x_i x_i3 heq_i
      have h_t : Reach 0x202420208843608 s (x_i3).2 := Reach.step (Reach.refl _ _) (State.takePacket_reach _ _ _ _ heq_i) rfl
      clear heq_i
      exact Reach.step (h_t) (State.getPacket_reach ..) rfl
    · exact Reach.refl _ _

theorem State.ctrPacket_reach (s : State) (i : InPkt) : Reach 0x202420208803008 s (State.ctrPacket s i) := by
  unfold State.ctrPacket
  extract_lets k n ok s1 r
  clear_value k n ok
  have h_s1 : Reach 0x202420208803008 s s1 := Reach.ite (Reach.step (Reach.refl _ _) (State.addGlobal_reach ..) rfl) (Reach.refl _ _)
  clear_value s1
  exact Reach.ite (Reach.step (Reach.step (Reach.refl _ _) (State.consumed_reach ..) rfl) (State.staleReply_reach ..) rfl) (Reach.ite (Reach.step (Reach.step (Reach.step (h_s1) (State.consumed_reach ..) rfl) (State.countPacket_reach ..) rfl) (State.inject_reach ..) rfl) (Reach.step (Reach.step (h_s1) (State.consumed_reach ..) rfl) (State.countPacket_reach ..) rfl))

theorem execCtrAdd_reach (c : FabCmd) (s : State) : ∃ t, execCtrAdd c s = .next t ∧ Reach 0x202420208843608 s t := by
  refine ⟨_, rfl, ?_⟩
  split
  · exact Reach.step (Reach.refl _ _) (State.issueOp_reach ..) rfl
  · split
    · rename_i c_i hub_i x_i x_i3 heq_i
      have h_t : Reach 0x202420208843608 s (x_i3).2 := Reach.step (Reach.refl _ _) (State.takePacket_reach _ _ _ _ heq_i) rfl
      clear heq_i
      exact Reach.step (h_t) (State.ctrPacket_reach ..) rfl
    · exact Reach.refl _ _

theorem execPutAck_reach (hub : Nat) (s : State) : ∃ t, execPutAck hub s = .next t ∧ Reach 0x202420208803008 s t := by
  refine ⟨_, rfl, ?_⟩
  split
  · rename_i x_i x_i1 heq_i
    have h_t : Reach 0x202420208803008 s (x_i1).2 := Reach.step (Reach.refl _ _) (State.takePacket_reach _ _ _ _ heq_i) rfl
    clear heq_i
    exact Reach.step (Reach.step (h_t) (State.consumed_reach ..) rfl) (State.endOp_reach ..) rfl
  · exact Reach.refl _ _

theorem execCtrAck_reach (hub : Nat) (s : State) : ∃ t, execCtrAck hub s = .next t ∧ Reach 0x202420208803008 s t := by
  refine ⟨_, rfl, ?_⟩
  split
  · rename_i x_i x_i1 heq_i
    have h_t : Reach 0x202420208803008 s (x_i1).2 := Reach.step (Reach.refl _ _) (State.takePacket_reach _ _ _ _ heq_i) rfl
    clear heq_i
    exact Reach.step (Reach.step (h_t) (State.consumed_reach ..) rfl) (State.endOp_reach ..) rfl
  · exact Reach.refl _ _

theorem execOpTimeout_reach (opId newOpId : Nat) (s : State) : ∃ t, execOpTimeout opId newOpId s = .next t ∧ Reach
    0x202420208843608 s t := by
  refine ⟨_, rfl, ?_⟩
  split
  · exact Reach.refl _ _
  · extract_lets __src q o1
    clear_value __src q o1
    exact Reach.ite (Reach.step (Reach.trans (Reach.trans (Reach.step (Reach.step (Reach.refl _ _) (State.setOp_reach ..) rfl) (State.setOp_reach ..) rfl) (State.bump_reach _ _ _ _ rfl)) (State.raiseFab_reach _ _ _ _ _ _ _ _ _ (by intro _ h; exact nomatch h) rfl)) (State.sendOp_reach ..) rfl) (Reach.step (Reach.refl _ _) (State.opFail_reach ..) rfl)

theorem execContextExpiry_reach (hub src opId : Nat) (s : State) : ∃ t, execContextExpiry hub src opId s = .next t ∧
    Reach 0x200000000001000 s t := by
  refine ⟨_, rfl, ?_⟩
  extract_lets __src
  clear_value __src
  exact Reach.ite (Reach.trans (Reach.step (Reach.with_fab (Reach.refl _ _) _ rfl) (State.countCtx_reach ..) rfl) (State.bump_reach _ _ _ _ rfl)) (Reach.refl _ _)

theorem execFabCntClr_reach (s : State) : ∃ t, execFabCntClr s = .next t ∧ Reach 0x200420208801001 s t := by
  refine ⟨_, rfl, ?_⟩
  refine Reach.trans (Reach.refl _ _) (State.hostWrite_reach _ _ _ _ _ _ (?_) rfl)
  intro t
  extract_lets __src
  clear_value __src
  exact Reach.trans (Reach.trans (Reach.with_fab (Reach.refl _ _) _ rfl) (State.clearAll_reach _ _ _ (okFlds.append (okFlds.cons rfl (okFlds.cons rfl (okFlds.cons rfl (okFlds.cons rfl (okFlds.cons rfl (okFlds.cons rfl (okFlds.cons rfl (okFlds.cons rfl okFlds.nil)))))))) (okFlds.map fun _ => (Fld.ok_ix ..).trans rfl)))) (State.evtEndAll_reach _ _ _ (okFlds.cons rfl (okFlds.cons rfl (okFlds.cons rfl (okFlds.cons rfl okFlds.nil)))) rfl)

theorem execFabPortCntClr_reach (port : Nat) (s : State) : ∃ t, execFabPortCntClr port s = .next t ∧ Reach
    0x420208801001 s t := by
  refine ⟨_, rfl, ?_⟩
  refine Reach.trans (Reach.refl _ _) (State.hostWrite_reach _ _ _ _ _ _ (?_) rfl)
  intro t
  exact Reach.trans (Reach.refl _ _) (State.clearAll_reach _ _ _ (okFlds.cons ((Fld.ok_ix ..).trans rfl) (okFlds.cons ((Fld.ok_ix ..).trans rfl) (okFlds.cons ((Fld.ok_ix ..).trans rfl) (okFlds.cons ((Fld.ok_ix ..).trans rfl) (okFlds.cons ((Fld.ok_ix ..).trans rfl) (okFlds.cons ((Fld.ok_ix ..).trans rfl) okFlds.nil)))))))

theorem State.selectVersion_reach (s : State) (v : Nat) : Reach 0x200000000002000 s (State.selectVersion s v) := by
  unfold State.selectVersion
  extract_lets __src
  clear_value __src
  exact Reach.ite (Reach.refl _ _) (Reach.set (Reach.with_fab (Reach.refl _ _) _ rfl) _ _ rfl)

theorem execRteSel_reach (sel : Nat) (s : State) : ∃ t, execRteSel sel s = .next t ∧ Reach 0x200c20208802001 s t := by
  refine ⟨_, rfl, ?_⟩
  refine Reach.trans (Reach.refl _ _) (State.hostWrite_reach _ _ _ _ _ _ (?_) rfl)
  intro t
  exact Reach.step (Reach.step (Reach.refl _ _) (State.selectVersion_reach ..) rfl) (State.coveredWrite_reach ..) rfl

theorem execRteValid_reach (valid : Nat) (s : State) : ∃ t, execRteValid valid s = .next t ∧ Reach 0xc20208802001 s
    t := by
  refine ⟨_, rfl, ?_⟩
  refine Reach.trans (Reach.refl _ _) (State.hostWrite_reach _ _ _ _ _ _ (?_) rfl)
  intro t
  exact Reach.ite (Reach.step (Reach.trans (Reach.refl _ _) (State.setAll_reach _ _ _ (okAll.cons rfl (okAll.cons rfl okAll.nil)))) (State.coveredWrite_reach ..) rfl) (Reach.refl _ _)

theorem execRteWindowWrite_reach (multicast : Bool) (index entry : Nat) (s : State) : ∃ t, execRteWindowWrite
    multicast index entry s = .next t ∧ Reach 0x200420208802001 s t := by
  refine ⟨_, rfl, ?_⟩
  refine Reach.trans (Reach.refl _ _) (State.hostWrite_reach _ _ _ _ _ _ (?_) rfl)
  intro t
  extract_lets v __src k
  clear_value v __src k
  exact Reach.ite (Reach.trans (Reach.refl _ _) (State.evt_reach _ _ _ rfl rfl)) (Reach.ite (Reach.with_fab (Reach.refl _ _) _ rfl) (Reach.with_fab (Reach.refl _ _) _ rfl))

theorem State.stageRoutes_reach (s : State) (v : Nat) (body : List Byte) : Reach 0x200000000002000 s
    (State.stageRoutes s v body) := by
  unfold State.stageRoutes
  extract_lets nu nm uc mc __src
  clear_value nu nm uc mc __src
  exact Reach.set (Reach.with_fab (Reach.refl _ _) _ rfl) _ _ ((by split; (exact rfl); (exact rfl)))

theorem execRoutesStaging_reach (s : State) : ∃ t, execRoutesStaging s = .next t ∧ Reach 0x200c20208802001 s t := by
  refine ⟨_, rfl, ?_⟩
  split
  · exact Reach.refl _ _
  · extract_lets v
    clear_value v
    refine Reach.ite (Reach.trans (Reach.refl _ _) (State.deviceChange_reach _ _ _ (?_) rfl)) (Reach.refl _ _)
    intro t
    exact Reach.step (Reach.refl _ _) (State.stageRoutes_reach ..) rfl

end Sys2Proof.Machine
end

