-- ==== Sys2Proof/Laws/ReachRetain.lean ====
section
/-! SUPPORT. What each operation and each command of Machine/Retain.lean reaches. -/

namespace Sys2Proof.Machine

theorem State.setTxFlow_reach (s : State) (f : Nat) (x : TxFlow) : Reach 0x2000000000000000 s
    (State.setTxFlow s f x) := by
  unfold State.setTxFlow
  extract_lets __src
  clear_value __src
  exact Reach.with_mlr (Reach.refl _ _) _ rfl

theorem State.setRxFlow_reach (s : State) (f : Nat) (x : RxFlow) : Reach 0x2000000000000000 s
    (State.setRxFlow s f x) := by
  unfold State.setRxFlow
  extract_lets __src
  clear_value __src
  exact Reach.with_mlr (Reach.refl _ _) _ rfl

theorem State.setFlowState_reach (s : State) (f st : Nat) : Reach 0x20000 s (State.setFlowState s f st) := by
  unfold State.setFlowState
  extract_lets s1
  have h_s1 : Reach 0x20000 s s1 := Reach.set (Reach.refl _ _) _ _ ((Fld.ok_ix ..).trans rfl)
  clear_value s1
  exact Reach.set (h_s1) _ _ rfl

theorem State.firstMlr_reach (s : State) (source f : Nat) : Reach 0x20000 s (State.firstMlr s source f) := by
  unfold State.firstMlr
  exact Reach.ite (Reach.refl _ _) (Reach.trans (Reach.refl _ _) (State.setAll_reach _ _ _ (okAll.cons rfl (okAll.cons rfl okAll.nil))))

theorem State.setRetain_reach (s : State) (l : List Seg) : Reach 0x2000000000060000 s (State.setRetain s l) := by
  unfold State.setRetain
  extract_lets __src s1
  clear_value __src
  have h_s1 : Reach 0x2000000000060000 s s1 := Reach.trans (Reach.with_mlr (Reach.refl _ _) _ rfl) (State.set64_reach _ _ _ _ _ rfl rfl)
  clear_value s1
  exact Reach.trans (h_s1) (State.setAll_reach _ _ _ (okAll.map fun _ => (Fld.ok_ix ..).trans rfl))

theorem State.writeRetain_reach (s : State) (x : Seg) : Reach 0x400000b000040000 s (State.writeRetain s x) := by
  unfold State.writeRetain
  split
  · exact Reach.refl _ _
  · extract_lets first put s1
    clear_value first
    have h_s1 : Reach 0x400000b000040000 s s1 := Reach.step (Reach.refl _ _) (State.deposit_reach ..) rfl
    clear_value s1
    exact Reach.ite (Reach.step (h_s1) (State.deposit_reach ..) rfl) (h_s1)

theorem State.settleLost_reach (s : State) : Reach 0x400 s (State.settleLost s) := by
  unfold State.settleLost
  exact Reach.ite (Reach.trans (Reach.refl _ _) (State.setBit_reach _ _ _ _ _ rfl)) (Reach.refl _ _)

theorem State.dropWaiting_reach (s : State) (f : Nat) (keepNew : Bool) : Reach 0x20000000000200000 s
    (State.dropWaiting s f keepNew) := by
  unfold State.dropWaiting
  extract_lets cut queues __src s1
  clear_value cut queues __src
  have h_s1 : Reach 0x20000000000200000 s s1 := Reach.with_slu (Reach.refl _ _) _ rfl
  clear_value s1
  exact Reach.trans (h_s1) (State.setAll_reach _ _ _ (okAll.map fun _ => (Fld.ok_ix ..).trans rfl))

theorem State.voidFlow_reach (s : State) (f : Nat) (again : Bool) : Reach 0x22000000000260000 s
    (State.voidFlow s f again) := by
  unfold State.voidFlow
  extract_lets mine tx owed old
  clear_value mine tx owed old
  split
  · exact Reach.refl _ _
  · extract_lets low high n s1
    clear_value low high n
    have h_s1 : Reach 0x22000000000260000 s s1 := Reach.step (Reach.step (Reach.refl _ _) (State.setRetain_reach ..) rfl) (State.setTxFlow_reach ..) rfl
    clear_value s1
    exact Reach.trans (Reach.step (h_s1) (State.dropWaiting_reach ..) rfl) (State.bump_reach _ _ _ _ ((Fld.ok_ix ..).trans rfl))

theorem State.loseRetain_reach (s : State) : Reach 0x22000420208a60400 s (State.loseRetain s) := by
  unfold State.loseRetain
  extract_lets flows f s1
  clear_value flows f
  have h_s1 : Reach 0x22000420208a60400 s s1 := by
    unfold s1
    refine Reach.foldl (Reach.refl _ _) (?_)
    intro u x
    exact Reach.step (Reach.refl _ _) (State.voidFlow_reach ..) rfl
  clear_value s1
  exact Reach.ite (Reach.step (Reach.refl _ _) (State.settleLost_reach ..) rfl) (Reach.step (Reach.step (Reach.trans (h_s1) (State.evt_reach _ _ _ rfl rfl)) (State.firstMlr_reach ..) rfl) (State.raise_reach ..) rfl)

theorem State.losePeer_reach (s : State) (f : Nat) : Reach 0x22000000000260000 s (State.losePeer s f) := by
  unfold State.losePeer
  exact Reach.step (Reach.step (Reach.refl _ _) (State.voidFlow_reach ..) rfl) (State.setFlowState_reach ..) rfl

theorem State.restartFlows_reach (s : State) : Reach 0x22000000000260000 s (State.restartFlows s) := by
  unfold State.restartFlows
  refine Reach.foldl (Reach.refl _ _) (?_)
  intro u x
  exact Reach.ite (Reach.step (Reach.step (Reach.refl _ _) (State.voidFlow_reach ..) rfl) (State.setFlowState_reach ..) rfl) (Reach.refl _ _)

theorem State.regainPeers_reach (s : State) (mask : Nat) : Reach 0x20000 s (State.regainPeers s mask) := by
  unfold State.regainPeers
  refine Reach.foldl (Reach.refl _ _) (?_)
  intro u x
  exact Reach.ite (Reach.step (Reach.refl _ _) (State.setFlowState_reach ..) rfl) (Reach.refl _ _)

end Sys2Proof.Machine
end

