-- ==== Sys2Proof/Laws/ReachPond.lean ====
section
/-! SUPPORT. What each operation and each command of Machine/Pond.lean reaches. -/

namespace Sys2Proof.Machine

theorem State.areasLost_reach (s : State) (l : Nat) : Reach 0x22100420208a60400 s (State.areasLost s l) := by
  unfold State.areasLost
  extract_lets bits_ s1 s2 s3
  clear_value bits_
  have h_s1 : Reach 0x22100420208a60400 s s1 := Reach.set (Reach.refl _ _) _ _ rfl
  clear_value s1
  have h_s2 : Reach 0x22100420208a60400 s s2 := Reach.ite (Reach.step (h_s1) (State.emit_reach ..) rfl) (h_s1)
  clear_value s2
  have h_s3 : Reach 0x22100420208a60400 s s3 := Reach.ite (Reach.step (h_s2) (State.loseRetain_reach ..) rfl) (h_s2)
  clear_value s3
  exact Reach.ite (Reach.refl _ _) (Reach.trans (h_s3) (State.evtOf_reach _ _ _ _ rfl rfl))

theorem State.lostClear_reach (s : State) (n : Nat) : Reach 0x400 s (State.lostClear s n) := by
  unfold State.lostClear
  exact Reach.trans (Reach.refl _ _) (State.setBit_reach _ _ _ _ _ rfl)

theorem State.setPondLink_reach (s : State) (l : Nat) (p : PondLink) : Reach 0x40000000000400 s
    (State.setPondLink s l p) := by
  unfold State.setPondLink
  exact Reach.trans (Reach.with_pond (Reach.refl _ _) _ rfl) (State.setAll_reach _ _ _ (okAll.cons ((Fld.ok_ix ..).trans rfl) (okAll.cons ((Fld.ok_ix ..).trans rfl) okAll.nil)))

theorem State.setPondState_reach (s : State) (l st : Nat) : Reach 0x400 s (State.setPondState s l st) := by
  unfold State.setPondState
  exact Reach.trans (Reach.set (Reach.refl _ _) _ _ ((Fld.ok_ix ..).trans rfl)) (State.setBit_reach _ _ _ _ _ rfl)

theorem State.failReads_reach (s : State) (l : List (Nat × PondRead)) : Reach 0xa000000000 s (State.failReads s l)
    := by
  induction l generalizing s with
  | nil =>
    rw [State.failReads]
    exact Reach.refl _ _
  | cons x l ih =>
    rw [State.failReads]
    exact Reach.trans (Reach.ite (Reach.refl _ _) (Reach.step (Reach.refl _ _) (State.storePoison_reach ..) rfl)) (ih ..)

theorem State.plDown_reach (s : State) (l : Nat) : Reach 0x420208800400 s (State.plDown s l) := by
  unfold State.plDown
  exact Reach.step (Reach.trans (Reach.refl _ _) (State.evtOf_reach _ _ _ _ rfl rfl)) (State.raise_reach ..) rfl

theorem State.pondFail_reach (s : State) (l reason : Nat) : Reach 0x2214042a208a60400 s (State.pondFail s l reason)
    := by
  unfold State.pondFail
  extract_lets active p s1
  clear_value active p
  have h_s1 : Reach 0x2214042a208a60400 s s1 := Reach.step (Reach.set (Reach.step (Reach.refl _ _) (State.setPondState_reach ..) rfl) _ _ ((Fld.ok_ix ..).trans rfl)) (State.setPondLink_reach ..) rfl
  clear_value s1
  exact Reach.ite (Reach.step (Reach.step (Reach.step (Reach.trans (h_s1) (State.bump_reach _ _ _ _ ((Fld.ok_ix ..).trans rfl))) (State.failReads_reach ..) rfl) (State.plDown_reach ..) rfl) (State.areasLost_reach ..) rfl) (h_s1)

theorem execPatrolScrub_reach (addr : Nat) (error : Option Bool) (_overwritten : Bool) (s : State) : ∃ t,
    execPatrolScrub addr error _overwritten s = .next t ∧ Reach 0x42a208800200 s t := by
  refine ⟨_, rfl, ?_⟩
  extract_lets k s1 uc
  clear_value k uc
  have h_s1 : Reach 0x42a208800200 s s1 := Reach.trans (Reach.refl _ _) (State.put_reach _ _ _ _ rfl)
  clear_value s1
  exact Reach.ite (Reach.refl _ _) (Reach.ite (Reach.trans (Reach.trans (Reach.step (h_s1) (State.markUnit_reach ..) rfl) (State.bump_reach _ _ _ _ ((Fld.ok_ix ..).trans rfl))) (State.raiseMem_reach _ _ _ _ _ _ _ rfl rfl)) (Reach.ite (Reach.step (Reach.trans (h_s1) (State.bump_reach _ _ _ _ ((Fld.ok_ix ..).trans rfl))) (State.raise_reach ..) rfl) (h_s1)))

theorem execPndRetrain_reach (link : Nat) (auto : Bool) (s : State) : ∃ t, execPndRetrain link auto s = .next t ∧
    Reach 0x40000420208800401 s t := by
  refine ⟨_, rfl, ?_⟩
  extract_lets go
  refine Reach.ite (Reach.ite (Reach.ite (Reach.step (Reach.step (Reach.refl _ _) (State.setPondState_reach ..) rfl) (State.lightPort_reach ..) rfl) (Reach.refl _ _)) (Reach.refl _ _)) (Reach.trans (Reach.refl _ _) (State.hostWrite_reach _ _ _ _ _ _ (?_) rfl))
  intro t
  exact Reach.ite (Reach.step (Reach.step (Reach.refl _ _) (State.setPondState_reach ..) rfl) (State.lightPort_reach ..) rfl) (Reach.refl _ _)

theorem execPndDown_reach (link : Nat) (s : State) : ∃ t, execPndDown link s = .next t ∧ Reach 0x2214042a208a60401 s
    t := by
  refine ⟨_, rfl, ?_⟩
  refine Reach.trans (Reach.refl _ _) (State.hostWrite_reach _ _ _ _ _ _ (?_) rfl)
  intro t
  exact Reach.step (Reach.refl _ _) (State.pondFail_reach ..) rfl

theorem execPondLanesLocked_reach (link : Nat) (s : State) : ∃ t, execPondLanesLocked link s = .next t ∧ Reach 0x400
    s t := by
  refine ⟨_, rfl, ?_⟩
  exact Reach.ite (Reach.step (Reach.refl _ _) (State.setPondState_reach ..) rfl) (Reach.refl _ _)

theorem State.pondSend_reach (s : State) (l : Nat) (p : PondLink) (x : PondMsg) : Reach 0x140000000000400 s
    (State.pondSend s l p x) := by
  unfold State.pondSend
  extract_lets m
  clear_value m
  exact Reach.step (Reach.step (Reach.refl _ _) (State.setPondLink_reach ..) rfl) (State.emit_reach ..) rfl

theorem State.pondSendNop_reach (s : State) (l : Nat) (nak : Bool) : Reach 0x100000000000000 s
    (State.pondSendNop s l nak) := by
  unfold State.pondSendNop
  exact Reach.step (Reach.refl _ _) (State.emit_reach ..) rfl

theorem execPondAligned_reach (link : Nat) (s : State) : ∃ t, execPondAligned link s = .next t ∧ Reach
    0x140000000000400 s t := by
  refine ⟨_, rfl, ?_⟩
  exact Reach.ite (Reach.step (Reach.step (Reach.refl _ _) (State.setPondState_reach ..) rfl) (State.pondSend_reach ..) rfl) (Reach.refl _ _)

theorem execRd_reach (link tag addr granules dst : Nat) (s : State) : ∃ t, execRd link tag addr granules dst s =
    .next t ∧ Reach 0x140000000000400 s t := by
  refine ⟨_, rfl, ?_⟩
  extract_lets p
  clear_value p
  exact Reach.ite (Reach.step (Reach.refl _ _) (State.pondSend_reach ..) rfl) (Reach.refl _ _)

theorem execWr_reach (link addr : Nat) (data : List Byte) (poison : Nat) (s : State) : ∃ t, execWr link addr data
    poison s = .next t ∧ Reach 0x140000000000400 s t := by
  refine ⟨_, rfl, ?_⟩
  extract_lets p n
  clear_value p n
  exact Reach.ite (Reach.step (Reach.refl _ _) (State.pondSend_reach ..) rfl) (Reach.refl _ _)

theorem State.pondReplay_reach (s : State) (l : Nat) : Reach 0x2214042a208a60400 s (State.pondReplay s l) := by
  unfold State.pondReplay
  extract_lets p s1 s2
  clear_value p
  have h_s1 : Reach 0x2214042a208a60400 s s1 := Reach.step (Reach.refl _ _) (State.setPondLink_reach ..) rfl
  clear_value s1
  have h_s2 : Reach 0x2214042a208a60400 s s2 := by
    unfold s2
    refine Reach.foldl (h_s1) (?_)
    intro u x
    exact Reach.step (Reach.refl _ _) (State.emit_reach ..) rfl
  clear_value s2
  exact Reach.ite (Reach.refl _ _) (Reach.ite (Reach.step (Reach.refl _ _) (State.pondFail_reach ..) rfl) (Reach.step (Reach.trans (h_s2) (State.bump_reach _ _ _ _ ((Fld.ok_ix ..).trans rfl))) (State.raise_reach ..) rfl))

theorem State.pondHeader_reach (s : State) (l : Nat) (m : List Byte) : Reach 0x2214042a208a60400 s
    (State.pondHeader s l m) := by
  unfold State.pondHeader
  extract_lets p rest s1
  clear_value p rest
  have h_s1 : Reach 0x2214042a208a60400 s s1 := Reach.step (Reach.refl _ _) (State.setPondLink_reach ..) rfl
  clear_value s1
  exact Reach.ite (Reach.step (h_s1) (State.pondReplay_reach ..) rfl) (h_s1)

theorem State.pondTake_reach (m : Nat) (s : State) (l op : Nat) (msg : List Byte) (f : State → State) (hf : ∀ t,
    Reach m t (f t)) (hm : Nat.land 0x2214042a208a60400 m = 0x2214042a208a60400) : Reach m s
    (State.pondTake s l op msg f) := by
  unfold State.pondTake
  extract_lets __src s1 s2
  clear_value __src
  have h_s1 : Reach m s s1 := Reach.step (Reach.refl _ _) (State.setPondLink_reach ..) (land_sub hm rfl)
  clear_value s1
  have h_s2 : Reach m s s2 := Reach.step (h_s1) (State.pondHeader_reach ..) (land_sub hm rfl)
  clear_value s2
  exact Reach.ite (Reach.refl _ _) (Reach.ite (Reach.step (Reach.refl _ _) (State.pondSendNop_reach ..) (land_sub hm rfl)) (Reach.ite (Reach.step (Reach.refl _ _) (State.pondFail_reach ..) (land_sub hm rfl)) (Reach.ite (Reach.refl _ _) (Reach.ite (Reach.step (Reach.refl _ _) (State.pondHeader_reach ..) (land_sub hm rfl)) (Reach.ite (Reach.step (Reach.refl _ _) (State.pondSendNop_reach ..) (land_sub hm rfl)) (Reach.ite (Reach.trans (h_s2) (hf ..)) (h_s2)))))))

theorem State.takeIdent_reach (s : State) (l : Nat) (x : PondIdent) : Reach 0x2214042a208a60400 s
    (State.takeIdent s l x) := by
  unfold State.takeIdent
  extract_lets s1 old p s2
  clear_value old p
  have h_s1 : Reach 0x2214042a208a60400 s s1 := Reach.trans (Reach.refl _ _) (State.setAll_reach _ _ _ (okAll.cons ((Fld.ok_ix ..).trans rfl) (okAll.cons ((Fld.ok_ix ..).trans rfl) okAll.nil)))
  clear_value s1
  have h_s2 : Reach 0x2214042a208a60400 s s2 := Reach.step (Reach.set (Reach.step (h_s1) (State.setPondLink_reach ..) rfl) _ _ ((Fld.ok_ix ..).trans rfl)) (State.setPondState_reach ..) rfl
  clear_value s2
  refine Reach.ite (?_) (Reach.step (Reach.step (Reach.trans (h_s1) (State.evtOf_reach _ _ _ _ rfl rfl)) (State.raise_reach ..) rfl) (State.pondFail_reach ..) rfl)
  split
  · exact Reach.ite (h_s2) (Reach.set (h_s2) _ _ ((Fld.ok_ix ..).trans rfl))
  · exact h_s2

theorem execPondIdent_reach (link : Nat) (msg : List Byte) (s : State) : ∃ t, execPondIdent link msg s = .next t ∧
    Reach 0x2214042a208a60400 s t := by
  refine ⟨_, rfl, ?_⟩
  refine Reach.trans (Reach.refl _ _) (State.pondTake_reach _ _ _ _ _ _ (?_) rfl)
  intro t
  exact Reach.ite (Reach.step (Reach.refl _ _) (State.takeIdent_reach ..) rfl) (Reach.refl _ _)

theorem execPondTrainingTimeout_reach (link : Nat) (s : State) : ∃ t, execPondTrainingTimeout link s = .next t ∧
    Reach 0x2214042a208a60400 s t := by
  refine ⟨_, rfl, ?_⟩
  extract_lets st
  clear_value st
  exact Reach.ite (Reach.step (Reach.refl _ _) (State.pondFail_reach ..) rfl) (Reach.refl _ _)

theorem execPondSilence_reach (link : Nat) (s : State) : ∃ t, execPondSilence link s = .next t ∧ Reach
    0x2214042a208a60400 s t := by
  refine ⟨_, rfl, ?_⟩
  exact Reach.ite (Reach.step (Reach.refl _ _) (State.pondFail_reach ..) rfl) (Reach.refl _ _)

theorem execPondBackoffEnd_reach (link : Nat) (s : State) : ∃ t, execPondBackoffEnd link s = .next t ∧ Reach 0x400 s
    t := by
  refine ⟨_, rfl, ?_⟩
  exact Reach.ite (Reach.step (Reach.refl _ _) (State.setPondState_reach ..) rfl) (Reach.refl _ _)

theorem execPondActiveDeadline_reach (link : Nat) (s : State) : ∃ t, execPondActiveDeadline link s = .next t ∧ Reach
    0x22100420208a60400 s t := by
  refine ⟨_, rfl, ?_⟩
  exact Reach.ite (Reach.step (Reach.step (Reach.refl _ _) (State.plDown_reach ..) rfl) (State.areasLost_reach ..) rfl) (Reach.refl _ _)

theorem State.pondStatus_reach (s : State) (l status addr : Nat) : Reach 0x420208800400 s
    (State.pondStatus s l status addr) := by
  unfold State.pondStatus
  exact Reach.ite (Reach.refl _ _) (Reach.step (Reach.trans (Reach.trans (Reach.refl _ _) (State.bump_reach _ _ _ _ ((Fld.ok_ix ..).trans rfl))) (State.evtOf_reach _ _ _ _ rfl rfl)) (State.raise_reach ..) rfl)

theorem State.timedOut_reach (s : State) (l addr : Nat) : Reach 0x420208800400 s (State.timedOut s l addr) := by
  unfold State.timedOut
  exact Reach.step (Reach.trans (Reach.trans (Reach.refl _ _) (State.bump_reach _ _ _ _ ((Fld.ok_ix ..).trans rfl))) (State.evtOf_reach _ _ _ _ rfl rfl)) (State.raise_reach ..) rfl

theorem State.timeoutRead_reach (s : State) (l tag : Nat) (r : PondRead) : Reach 0x4042a208800400 s
    (State.timeoutRead s l tag r) := by
  unfold State.timeoutRead
  extract_lets p
  clear_value p
  exact Reach.step (Reach.step (Reach.step (Reach.refl _ _) (State.setPondLink_reach ..) rfl) (State.storePoison_reach ..) rfl) (State.timedOut_reach ..) rfl

theorem execRdc_reach (link : Nat) (msg : List Byte) (s : State) : ∃ t, execRdc link msg s = .next t ∧ Reach
    0x2614042b208a60400 s t := by
  refine ⟨_, rfl, ?_⟩
  refine Reach.trans (Reach.refl _ _) (State.pondTake_reach _ _ _ _ _ _ (?_) rfl)
  intro t
  extract_lets p tag p1
  clear_value p tag p1
  split
  · exact Reach.refl _ _
  · extract_lets t1 n
    clear_value n
    have h_t1 : Reach 0x2614042b208a60400 t t1 := Reach.step (Reach.step (Reach.refl _ _) (State.setPondLink_reach ..) rfl) (State.pondStatus_reach ..) rfl
    clear_value t1
    exact Reach.ite (Reach.step (Reach.refl _ _) (State.setPondLink_reach ..) rfl) (Reach.ite (Reach.step (Reach.step (Reach.refl _ _) (State.timeoutRead_reach ..) rfl) (State.setPondLink_reach ..) rfl) (Reach.ite (Reach.step (h_t1) (State.storePoison_reach ..) rfl) (Reach.trans (Reach.step (h_t1) (State.deposit_reach ..) rfl) (State.add64_reach _ _ _ _ _ ((Fld.ok_ix ..).trans rfl) ((Fld.ok_ix ..).trans rfl)))))

theorem State.storeGranules_reach (s : State) (l maddr poison n : Nat) (bs : List Byte) :
    Reach 0xb000000000 s (s.storeGranules l maddr poison n bs) := by
  induction n generalizing s maddr poison bs with
  | zero =>
    rw [State.storeGranules]
    exact Reach.refl _ _
  | succ n ih =>
    rw [State.storeGranules]
    exact Reach.trans (Reach.step (Reach.step (Reach.refl _ _) (State.writeBytes_reach ..) rfl)
      (State.markUnit_reach ..) rfl) (ih ..)

theorem execWra_reach (link : Nat) (msg : List Byte) (s : State) : ∃ t, execWra link msg s = .next t ∧ Reach
    0x2214042b208a60400 s t := by
  refine ⟨_, rfl, ?_⟩
  refine Reach.trans (Reach.refl _ _) (State.pondTake_reach _ _ _ _ _ _ (?_) rfl)
  intro t
  extract_lets p
  clear_value p
  split
  · exact Reach.refl _ _
  · extract_lets t0 t1
    have h_t0 : Reach 0x2214042b208a60400 t t0 := Reach.step (Reach.refl _ _) (State.setPondLink_reach ..) rfl
    clear_value t0
    have h_t1 : Reach 0x2214042b208a60400 t t1 := Reach.step (h_t0) (State.pondStatus_reach ..) rfl
    clear_value t1
    exact Reach.ite (h_t0) (Reach.ite (Reach.step (h_t0) (State.timedOut_reach ..) rfl) (Reach.ite (h_t1) (Reach.trans (Reach.step (h_t1) (State.storeGranules_reach ..) rfl) (State.add64_reach _ _ _ _ _ ((Fld.ok_ix ..).trans rfl) ((Fld.ok_ix ..).trans rfl)))))

theorem execPondNop_reach (link : Nat) (msg : List Byte) (s : State) : ∃ t, execPondNop link msg s = .next t ∧ Reach
    0x2214042a208a60400 s t := by
  refine ⟨_, rfl, ?_⟩
  refine Reach.trans (Reach.refl _ _) (State.pondTake_reach _ _ _ _ _ _ (?_) rfl)
  intro t
  exact Reach.refl _ _

theorem execPondMessageDiscard_reach (link : Nat) (msg : List Byte) (s : State) : ∃ t, execPondMessageDiscard link
    msg s = .next t ∧ Reach 0x2214042a208a60400 s t := by
  refine ⟨_, rfl, ?_⟩
  refine Reach.ite (Reach.refl _ _) (Reach.trans (Reach.refl _ _) (State.pondTake_reach _ _ _ _ _ _ (?_) rfl))
  intro t
  exact Reach.refl _ _

theorem execPondReplayTimer_reach (link : Nat) (s : State) : ∃ t, execPondReplayTimer link s = .next t ∧ Reach
    0x2214042a208a60400 s t := by
  refine ⟨_, rfl, ?_⟩
  exact Reach.ite (Reach.step (Reach.refl _ _) (State.pondReplay_reach ..) rfl) (Reach.refl _ _)

theorem execPondIdleNop_reach (link : Nat) (s : State) : ∃ t, execPondIdleNop link s = .next t ∧ Reach
    0x2214042a208a60400 s t := by
  refine ⟨_, rfl, ?_⟩
  exact Reach.ite (Reach.step (Reach.refl _ _) (State.pondFail_reach ..) rfl) (Reach.ite (Reach.step (Reach.refl _ _) (State.pondSendNop_reach ..) rfl) (Reach.refl _ _))

theorem execPlTimeout_reach (link : Nat) (read : Bool) (tag : Nat) (s : State) : ∃ t, execPlTimeout link read tag s
    = .next t ∧ Reach 0x4042a208800400 s t := by
  refine ⟨_, rfl, ?_⟩
  extract_lets p
  clear_value p
  refine Reach.ite (?_) (?_)
  · split
    · exact Reach.refl _ _
    · exact Reach.ite (Reach.refl _ _) (Reach.step (Reach.refl _ _) (State.timeoutRead_reach ..) rfl)
  · split
    · exact Reach.refl _ _
    · exact Reach.step (Reach.step (Reach.refl _ _) (State.setPondLink_reach ..) rfl) (State.timedOut_reach ..) rfl

theorem execMemCntClr_reach (s : State) : ∃ t, execMemCntClr s = .next t ∧ Reach 0x420208800201 s t := by
  refine ⟨_, rfl, ?_⟩
  refine Reach.trans (Reach.refl _ _) (State.hostWrite_reach _ _ _ _ _ _ (?_) rfl)
  intro t
  exact Reach.trans (Reach.trans (Reach.refl _ _) (State.clearAll_reach _ _ _ (okFlds.append (okFlds.append (okFlds.append (okFlds.flatMap fun _ => (okFlds.cons ((Fld.ok_ix ..).trans rfl) (okFlds.cons ((Fld.ok_ix ..).trans rfl) okFlds.nil))) (okFlds.flatMap fun _ => (okFlds.cons ((Fld.ok_ix ..).trans rfl) (okFlds.cons ((Fld.ok_ix ..).trans rfl) okFlds.nil)))) (okFlds.flatMap fun _ => (okFlds.cons ((Fld.ok_ix ..).trans rfl) (okFlds.cons ((Fld.ok_ix ..).trans rfl) okFlds.nil)))) (okFlds.cons rfl (okFlds.cons rfl (okFlds.cons rfl (okFlds.cons rfl okFlds.nil))))))) (State.evtEndAll_reach _ _ _ (okFlds.cons rfl (okFlds.cons rfl (okFlds.cons rfl okFlds.nil))) rfl)

theorem execPndCntClr_reach (link : Nat) (s : State) : ∃ t, execPndCntClr link s = .next t ∧ Reach 0x420208800401 s
    t := by
  refine ⟨_, rfl, ?_⟩
  refine Reach.trans (Reach.refl _ _) (State.hostWrite_reach _ _ _ _ _ _ (?_) rfl)
  intro t
  exact Reach.trans (Reach.trans (Reach.refl _ _) (State.clearAll_reach _ _ _ (okFlds.cons ((Fld.ok_ix ..).trans rfl) (okFlds.cons ((Fld.ok_ix ..).trans rfl) (okFlds.cons ((Fld.ok_ix ..).trans rfl) (okFlds.cons ((Fld.ok_ix ..).trans rfl) (okFlds.cons ((Fld.ok_ix ..).trans rfl) okFlds.nil))))))) (State.evtEndAllOf_reach _ _ _ _ (okFlds.cons rfl (okFlds.cons rfl (okFlds.cons rfl (okFlds.cons rfl okFlds.nil)))) rfl)

theorem execClrStage_reach (s : State) : ∃ t, execClrStage s = .next t ∧ Reach 0x420208800401 s t := by
  refine ⟨_, rfl, ?_⟩
  refine Reach.trans (Reach.refl _ _) (State.hostWrite_reach _ _ _ _ _ _ (?_) rfl)
  intro t
  exact Reach.step (Reach.refl _ _) (State.lostClear_reach ..) rfl

end Sys2Proof.Machine
end

