-- ==== Sys2Proof/Laws/ReachHopper.lean ====
section
/-! SUPPORT. What each operation and each command of Machine/Hopper.lean reaches. -/

namespace Sys2Proof.Machine

theorem State.setPool_reach (s : State) (n : Nat) (p : HopPool) : Reach 0x80000000000800 s (State.setPool s n p) := by
  unfold State.setPool
  exact Reach.set (Reach.with_hop (Reach.refl _ _) _ rfl) _ _ ((Fld.ok_ix ..).trans rfl)

theorem State.hopEvents_reach (s : State) : Reach 0x20200000800 s (State.hopEvents s) := by
  unfold State.hopEvents
  extract_lets any
  clear_value any
  exact Reach.trans (Reach.trans (Reach.trans (Reach.trans (Reach.refl _ _) (State.evtIs_reach _ _ _ _ rfl rfl)) (State.evtIs_reach _ _ _ _ rfl rfl)) (State.evtIs_reach _ _ _ _ rfl rfl)) (State.put_reach _ _ _ _ rfl)

theorem State.showLevel_reach (s : State) (n lvl : Nat) : Reach 0x20200000800 s (State.showLevel s n lvl) := by
  unfold State.showLevel
  extract_lets v
  clear_value v
  exact Reach.step (Reach.set (Reach.set (Reach.refl _ _) _ _ ((Fld.ok_ix ..).trans rfl)) _ _ rfl) (State.hopEvents_reach ..) rfl

theorem State.levelEvent_reach (s : State) (n : Nat) : Reach 0x420208800000 s (State.levelEvent s n) := by
  unfold State.levelEvent
  exact Reach.step (Reach.refl _ _) (State.raise_reach ..) rfl

theorem State.relevel_reach (s : State) (n : Nat) : Reach 0x420208800800 s (State.relevel s n) := by
  unfold State.relevel
  extract_lets lvl
  clear_value lvl
  exact Reach.ite (Reach.refl _ _) (Reach.ite (Reach.ite (Reach.step (Reach.refl _ _) (State.levelEvent_reach ..) rfl) (Reach.refl _ _)) (Reach.ite (Reach.step (Reach.step (Reach.refl _ _) (State.showLevel_reach ..) rfl) (State.levelEvent_reach ..) rfl) (Reach.step (Reach.refl _ _) (State.showLevel_reach ..) rfl)))

theorem State.grant_reach (s : State) (n o : Nat) : Reach 0x180420208800800 s (State.grant s n o) := by
  unfold State.grant
  extract_lets p x s1 inc s2
  clear_value p x
  have h_s1 : Reach 0x180420208800800 s s1 := Reach.step (Reach.refl _ _) (State.setPool_reach ..) rfl
  clear_value s1
  have h_s2 : Reach 0x180420208800800 s s2 := Reach.set (Reach.set (Reach.set (h_s1) _ _ ((Fld.ok_ix ..).trans rfl)) _ _ ((Fld.ok_ix ..).trans rfl)) _ _ ((Fld.ok_ix ..).trans rfl)
  clear_value s2
  exact Reach.step (Reach.step (h_s2) (State.emit_reach ..) rfl) (State.relevel_reach ..) rfl

theorem State.serve_reach (s : State) (n low : Nat) (count : Nat) : Reach 0x180420208800800 s
    (State.serve s n low count) := by
  induction count generalizing s n low with
  | zero =>
    rw [State.serve]
    exact Reach.refl _ _
  | succ n ih =>
    rw [State.serve]
    refine Reach.ite (?_) (Reach.refl _ _)
    split
    · exact Reach.refl _ _
    · extract_lets p
      clear_value p
      exact Reach.trans (Reach.step (Reach.step (Reach.refl _ _) (State.setPool_reach ..) rfl) (State.grant_reach ..) rfl) (ih ..)

theorem State.serveQueue_reach (s : State) (n low : Nat) : Reach 0x180420208800800 s (State.serveQueue s n low) := by
  unfold State.serveQueue
  exact Reach.step (Reach.refl _ _) (State.serve_reach ..) rfl

theorem State.refuse_reach (s : State) (n o : Nat) : Reach 0x100000000000800 s (State.refuse s n o) := by
  unfold State.refuse
  exact Reach.step (Reach.trans (Reach.refl _ _) (State.bump_reach _ _ _ _ ((Fld.ok_ix ..).trans rfl))) (State.emit_reach ..) rfl

theorem State.breakPool_reach (s : State) (n : Nat) : Reach 0x180420208800800 s (State.breakPool s n) := by
  unfold State.breakPool
  extract_lets p s1
  clear_value p
  have h_s1 : Reach 0x180420208800800 s s1 := Reach.step (Reach.step (Reach.set (Reach.refl _ _) _ _ ((Fld.ok_ix ..).trans rfl)) (State.hopEvents_reach ..) rfl) (State.raise_reach ..) rfl
  clear_value s1
  refine Reach.foldl (Reach.step (h_s1) (State.setPool_reach ..) rfl) (?_)
  intro u x
  exact Reach.step (Reach.refl _ _) (State.refuse_reach ..) rfl

theorem State.askPool_reach (s : State) (n owner : Nat) (listError : Bool) : Reach 0x180420208800800 s
    (State.askPool s n owner listError) := by
  unfold State.askPool
  extract_lets s1 p
  clear_value p
  have h_s1 : Reach 0x180420208800800 s s1 := Reach.ite (Reach.step (Reach.refl _ _) (State.breakPool_reach ..) rfl) (Reach.refl _ _)
  clear_value s1
  exact Reach.ite (Reach.step (h_s1) (State.refuse_reach ..) rfl) (Reach.ite (Reach.step (h_s1) (State.grant_reach ..) rfl) (Reach.trans (Reach.step (h_s1) (State.setPool_reach ..) rfl) (State.bump_reach _ _ _ _ ((Fld.ok_ix ..).trans rfl))))

theorem State.releaseHandle_reach (s : State) (owner handle : Nat) : Reach 0x180420208800800 s
    (State.releaseHandle s owner handle) := by
  unfold State.releaseHandle
  extract_lets n dec s1 p s2
  clear_value n p
  have h_s1 : Reach 0x180420208800800 s s1 := Reach.set (Reach.set (Reach.refl _ _) _ _ ((Fld.ok_ix ..).trans rfl)) _ _ ((Fld.ok_ix ..).trans rfl)
  clear_value s1
  have h_s2 : Reach 0x180420208800800 s s2 := Reach.set (Reach.step (h_s1) (State.setPool_reach ..) rfl) _ _ ((Fld.ok_ix ..).trans rfl)
  clear_value s2
  exact Reach.ite (Reach.step (h_s1) (State.relevel_reach ..) rfl) (Reach.step (Reach.step (h_s2) (State.relevel_reach ..) rfl) (State.serveQueue_reach ..) rfl)

theorem State.releaseHandles_reach (s : State) (owner : Nat) (handles : List Nat) : Reach 0x180420208800800 s
    (State.releaseHandles s owner handles) := by
  unfold State.releaseHandles
  refine Reach.foldl (Reach.refl _ _) (?_)
  intro u x
  exact Reach.step (Reach.refl _ _) (State.releaseHandle_reach ..) rfl

theorem execHopAudit_reach (pool : Nat) (s : State) : ∃ t, execHopAudit pool s = .next t ∧ Reach 0x420208800801 s t
    := by
  refine ⟨_, rfl, ?_⟩
  refine Reach.trans (Reach.refl _ _) (State.hostWrite_reach _ _ _ _ _ _ (?_) rfl)
  intro t
  exact Reach.set (Reach.refl _ _) _ _ ((Fld.ok_ix ..).trans rfl)

theorem State.auditDone_reach (s : State) (n : Nat) : Reach 0x180420208800800 s (State.auditDone s n) := by
  unfold State.auditDone
  extract_lets p c
  clear_value p c
  exact Reach.step (Reach.trans (Reach.refl _ _) (State.setAll_reach _ _ _ (okAll.cons ((Fld.ok_ix ..).trans rfl) (okAll.cons ((Fld.ok_ix ..).trans rfl) (okAll.cons ((Fld.ok_ix ..).trans rfl) okAll.nil))))) (State.serveQueue_reach ..) rfl

theorem State.rebuildPool_reach (s : State) (n : Nat) : Reach 0x180420208800800 s (State.rebuildPool s n) := by
  unfold State.rebuildPool
  extract_lets __src
  clear_value __src
  exact Reach.step (Reach.step (Reach.trans (Reach.step (Reach.refl _ _) (State.setPool_reach ..) rfl) (State.setAll_reach _ _ _ (okAll.cons ((Fld.ok_ix ..).trans rfl) (okAll.cons ((Fld.ok_ix ..).trans rfl) okAll.nil)))) (State.hopEvents_reach ..) rfl) (State.serveQueue_reach ..) rfl

theorem execHopCntClr_reach (pool : Nat) (s : State) : ∃ t, execHopCntClr pool s = .next t ∧ Reach 0x420208800801 s
    t := by
  refine ⟨_, rfl, ?_⟩
  refine Reach.trans (Reach.refl _ _) (State.hostWrite_reach _ _ _ _ _ _ (?_) rfl)
  intro t
  exact Reach.trans (Reach.refl _ _) (State.clearAll_reach _ _ _ (okFlds.cons ((Fld.ok_ix ..).trans rfl) (okFlds.cons ((Fld.ok_ix ..).trans rfl) okFlds.nil)))

theorem State.makePool_reach (s : State) (img : List Byte) (n : Nat) : Reach 0x20200000800 s
    (State.makePool s img n) := by
  unfold State.makePool
  extract_lets b o c mins s1
  clear_value b o c mins
  have h_s1 : Reach 0x20200000800 s s1 := Reach.trans (Reach.trans (Reach.refl _ _) (State.setAll_reach _ _ _ (okAll.cons ((Fld.ok_ix ..).trans rfl) (okAll.cons ((Fld.ok_ix ..).trans rfl) (okAll.cons ((Fld.ok_ix ..).trans rfl) (okAll.cons ((Fld.ok_ix ..).trans rfl) (okAll.cons ((Fld.ok_ix ..).trans rfl) (okAll.cons ((Fld.ok_ix ..).trans rfl) (okAll.cons ((Fld.ok_ix ..).trans rfl) okAll.nil))))))))) (State.setAll_reach _ _ _ (okAll.map fun _ => (Fld.ok_ix ..).trans rfl))
  clear_value s1
  exact Reach.step (h_s1) (State.showLevel_reach ..) rfl

theorem State.makePools_reach (s : State) (img : List Byte) : Reach 0x20200000800 s (State.makePools s img) := by
  unfold State.makePools
  refine Reach.foldl (Reach.refl _ _) (?_)
  intro u x
  exact Reach.step (Reach.refl _ _) (State.makePool_reach ..) rfl

end Sys2Proof.Machine
end

