-- ==== Sys2Proof/Laws/ReachColl.lean ====
section
/-! SUPPORT. What each operation and each command of Machine/Coll.lean reaches. -/

namespace Sys2Proof.Machine

theorem State.setColl_reach (s : State) (c : Coll) : Reach 0x800000000000000 s (State.setColl s c) := by
  unfold State.setColl
  extract_lets __src
  clear_value __src
  exact Reach.with_col (Reach.refl _ _) _ rfl

theorem State.onElem_reach (s : State) (g q i : Nat) (f : Elem → Elem) : Reach 0x800000000000000 s
    (State.onElem s g q i f) := by
  unfold State.onElem
  split
  · exact Reach.refl _ _
  · exact Reach.step (Reach.refl _ _) (State.setColl_reach ..) rfl

theorem State.countSlots_reach (s : State) : Reach 0x4000 s (State.countSlots s) := by
  unfold State.countSlots
  refine Reach.trans (Reach.refl _ _) (State.setAll_reach _ _ _ (okAll.flatMap fun _ => ?_))
  dsimp only
  exact (okAll.cons ((Fld.ok_ix ..).trans rfl) (okAll.cons ((Fld.ok_ix ..).trans rfl) (okAll.cons ((Fld.ok_ix ..).trans rfl) (okAll.cons ((Fld.ok_ix ..).trans rfl) okAll.nil))))

theorem State.setSlot_reach (s : State) (n : Nat) (x : Slot) : Reach 0x800000000000000 s (State.setSlot s n x) := by
  unfold State.setSlot
  extract_lets __src
  clear_value __src
  exact Reach.with_col (Reach.refl _ _) _ rfl

theorem State.freeSlot_reach (s : State) (n : Nat) : Reach 0x800000000000000 s (State.freeSlot s n) := by
  unfold State.freeSlot
  extract_lets __src
  clear_value __src
  exact Reach.with_col (Reach.refl _ _) _ rfl

theorem State.raiseCol_reach (m : Nat) (s : State) (source : Nat) (cls : FClass) (ev : Option Fld)
    (hub g q attempt chunk : Nat) (hev : ∀ f, ev = some f → f.ok m = true)
    (hm : Nat.land 0x420208804000 m = 0x420208804000) : Reach m s
    (State.raiseCol s source cls ev hub g q attempt chunk) := by
  unfold State.raiseCol
  extract_lets s1 s2
  have h_s1 : Reach m s s1 := by
    unfold s1
    split
    · exact Reach.trans (Reach.refl _ _) (State.evt_reach _ _ _ ((hev _ rfl)) (land_sub hm rfl))
    · exact Reach.refl _ _
  clear_value s1
  have h_s2 : Reach m s s2 := Reach.ite (h_s1) (Reach.trans (h_s1) (State.setAll_reach _ _ _ (okAll.cons ((Fld.ok_sub hm rfl)) (okAll.cons ((Fld.ok_sub hm rfl)) (okAll.cons ((Fld.ok_sub hm rfl)) (okAll.cons ((Fld.ok_sub hm rfl)) (okAll.cons ((Fld.ok_sub hm rfl)) (okAll.cons ((Fld.ok_sub hm rfl)) okAll.nil))))))))
  clear_value s2
  exact Reach.step (h_s2) (State.raise_reach ..) (land_sub hm rfl)

theorem State.settleColl_reach (s : State) (g q : Nat) : Reach 0x802000000000000 s (State.settleColl s g q) := by
  unfold State.settleColl
  split
  · exact Reach.refl _ _
  · exact Reach.ite (Reach.step (Reach.step (Reach.refl _ _) (State.setColl_reach ..) rfl) (State.onFlight_reach ..) rfl) (Reach.refl _ _)

theorem State.endElem_reach (s : State) (g q i : Nat) (failed : Bool) : Reach 0x802000000000008 s
    (State.endElem s g q i failed) := by
  unfold State.endElem
  split
  · exact Reach.refl _ _
  · split
    · exact Reach.refl _ _
    · extract_lets s1 s2
      have h_s1 : Reach 0x802000000000008 s s1 := Reach.step (Reach.refl _ _) (State.onElem_reach ..) rfl
      clear_value s1
      have h_s2 : Reach 0x802000000000008 s s2 := Reach.ite (Reach.step (h_s1) (State.addGlobal_reach ..) rfl) (h_s1)
      clear_value s2
      exact Reach.ite (Reach.refl _ _) (Reach.step (h_s2) (State.settleColl_reach ..) rfl)

theorem State.collAccess_reach (s : State) (c : Coll) (i : Nat) (reads writes : List (Nat × Nat)) : Reach
    0x802420208840600 s (State.collAccess s c i reads writes) := by
  unfold State.collAccess
  extract_lets x
  refine Reach.ite (Reach.step (Reach.refl _ _) (State.rangeFaults_reach ..) rfl) (?_)
  split
  · exact Reach.refl _ _
  · extract_lets t
    have h_t : Reach 0x802420208840600 s t := Reach.ite (Reach.refl _ _) (Reach.step (Reach.refl _ _) (State.rangeFaults_reach ..) rfl)
    clear_value t
    exact Reach.step (Reach.step (h_t) (State.setColl_reach ..) rfl) (State.failFlight_reach ..) rfl

theorem State.sendChunk_reach (s0 : State) (c : Coll) (i hub op dst : Nat) (mcast : Bool) (attempt k : Nat) : Reach
    0xa02420208843600 s0 (State.sendChunk s0 c i hub op dst mcast attempt k) := by
  unfold State.sendChunk
  extract_lets n s
  clear_value n
  have h_s : Reach 0xa02420208843600 s0 s := Reach.step (Reach.refl _ _) (State.collAccess_reach ..) rfl
  clear_value s
  exact Reach.step (h_s) (State.injectAll_reach ..) rfl

theorem State.preloadAccess_reach (s : State) (c : Coll) (i : Nat) (e : Elem) (k : Nat) : Reach 0x802420208840600 s
    (State.preloadAccess s c i e k) := by
  unfold State.preloadAccess
  exact Reach.ite (Reach.step (Reach.refl _ _) (State.collAccess_reach ..) rfl) (Reach.refl _ _)

theorem State.takeSlot_reach (s0 : State) (n : Nat) (c : Coll) (i : Nat) (e : Elem) : Reach 0xb82420208843e00 s0
    (State.takeSlot s0 n c i e) := by
  unfold State.takeSlot
  extract_lets k s p pool h1 s1 h2 s2 x
  clear_value k p pool h1 h2 x
  have h_s : Reach 0xb82420208843e00 s0 s := Reach.step (Reach.refl _ _) (State.preloadAccess_reach ..) rfl
  clear_value s
  have h_s1 : Reach 0xb82420208843e00 s0 s1 := Reach.ite (Reach.step (h_s) (State.grant_reach ..) rfl) (h_s)
  clear_value s1
  have h_s2 : Reach 0xb82420208843e00 s0 s2 := Reach.ite (Reach.step (h_s1) (State.grant_reach ..) rfl) (h_s1)
  clear_value s2
  exact Reach.step (Reach.step (Reach.step (h_s2) (State.setSlot_reach ..) rfl) (State.onElem_reach ..) rfl) (State.inject_reach ..) rfl

theorem State.giveSlot_reach (s : State) (hub : Nat) (t : State) (h : s.giveSlot hub = some t) : Reach 0xb82420208843e00 s t := by
  unfold State.giveSlot at h
  dsimp only at h
  split at h
  · cases h
    exact Reach.step (Reach.refl _ _) (State.takeSlot_reach ..) rfl
  · split at h
    · cases h
      exact Reach.step (Reach.refl _ _) (State.takeSlot_reach ..) rfl
    · exact nomatch h

theorem State.giveSlots_reach (s : State) (hub n : Nat) : Reach 0xb82420208843e00 s (s.giveSlots hub n) := by
  induction n generalizing s with
  | zero =>
    rw [State.giveSlots]
    exact Reach.refl _ _
  | succ n ih =>
    rw [State.giveSlots]
    split
    · exact Reach.refl _ _
    · rename_i t h
      exact Reach.trans (Reach.step (Reach.refl _ _) (State.giveSlot_reach s hub t h) rfl) (ih t)

theorem State.writeBack_reach (s : State) (c : Coll) (e : Elem) (x : Slot) : Reach 0x480242b208840600 s
    (State.writeBack s c e x) := by
  unfold State.writeBack
  extract_lets a
  clear_value a
  exact Reach.step (Reach.step (Reach.refl _ _) (State.collAccess_reach ..) rfl) (State.deposit_reach ..) rfl

theorem State.chunkEnd_reach (s : State) (c : Coll) (x : Slot) (failed : Bool) : Reach 0x982420208800808 s
    (State.chunkEnd s c x failed) := by
  unfold State.chunkEnd
  extract_lets s1
  have h_s1 : Reach 0x982420208800808 s s1 := Reach.step (Reach.step (Reach.refl _ _) (State.releaseHandles_reach ..) rfl) (State.onElem_reach ..) rfl
  clear_value s1
  split
  · exact h_s1
  · exact Reach.ite (Reach.step (h_s1) (State.endElem_reach ..) rfl) (h_s1)

theorem State.refuseChunk_reach (s0 : State) (hub : Nat) (c : Coll) (i : Nat) (e : Elem) : Reach 0x498242b208844e08
    s0 (State.refuseChunk s0 hub c i e) := by
  unfold State.refuseChunk
  extract_lets k s x s1
  clear_value k x
  have h_s : Reach 0x498242b208844e08 s0 s := Reach.step (Reach.refl _ _) (State.preloadAccess_reach ..) rfl
  clear_value s
  have h_s1 : Reach 0x498242b208844e08 s0 s1 := Reach.trans (Reach.trans (Reach.step (h_s) (State.refuse_reach ..) rfl) (State.bump_reach _ _ _ _ rfl)) (State.raiseCol_reach _ _ _ _ _ _ _ _ _ _ (by intro _ h; cases h; exact rfl) rfl)
  clear_value s1
  exact Reach.step (Reach.step (Reach.step (h_s1) (State.writeBack_reach ..) rfl) (State.onElem_reach ..) rfl) (State.chunkEnd_reach ..) rfl

theorem State.refuseChunks_reach (s : State) (hub : Nat) (n : Nat) : Reach 0x498242b208844e08 s
    (State.refuseChunks s hub n) := by
  induction n generalizing s hub with
  | zero =>
    rw [State.refuseChunks]
    exact Reach.refl _ _
  | succ n ih =>
    rw [State.refuseChunks]
    split
    · exact Reach.refl _ _
    · exact Reach.trans (Reach.step (Reach.refl _ _) (State.refuseChunk_reach ..) rfl) (ih ..)

theorem State.giveAll_reach (s : State) : Reach 0x4b8242b208847e08 s (State.giveAll s) := by
  unfold State.giveAll
  extract_lets n t
  clear_value n
  have h_t : Reach 0x4b8242b208847e08 s t := Reach.ite (Reach.refl _ _) (Reach.step (Reach.step (Reach.step (Reach.step (Reach.refl _ _) (State.refuseChunks_reach ..) rfl) (State.refuseChunks_reach ..) rfl) (State.giveSlots_reach ..) rfl) (State.giveSlots_reach ..) rfl)
  clear_value t
  exact Reach.step (Reach.step (Reach.step (h_t) (State.serveQueue_reach ..) rfl) (State.serveQueue_reach ..) rfl) (State.countSlots_reach ..) rfl

theorem State.noteLate_reach (s : State) (srcs : List Nat) : Reach 0x400000000000000 s (State.noteLate s srcs) := by
  unfold State.noteLate
  exact Reach.ite (Reach.with_late (Reach.refl _ _) _ rfl) (Reach.refl _ _)

theorem State.chunkDone_reach (s : State) (n : Nat) (c : Coll) (e : Elem) (x : Slot) (srcs : List Nat) : Reach
    0x4f8242b208847e08 s (State.chunkDone s n c e x srcs) := by
  unfold State.chunkDone
  extract_lets s1
  have h_s1 : Reach 0x4f8242b208847e08 s s1 := Reach.ite (Reach.step (Reach.refl _ _) (State.noteLate_reach ..) rfl) (Reach.refl _ _)
  clear_value s1
  exact Reach.step (Reach.step (Reach.step (Reach.step (h_s1) (State.writeBack_reach ..) rfl) (State.freeSlot_reach ..) rfl) (State.chunkEnd_reach ..) rfl) (State.giveAll_reach ..) rfl

theorem State.firstGather_reach (s : State) (c : Coll) : Reach 0xc0a000000004108 s (State.firstGather s c) := by
  unfold State.firstGather
  extract_lets st s1 __src __srcx3
  clear_value st __src __srcx3
  have h_s1 : Reach 0xc0a000000004108 s s1 := Reach.ite (Reach.step (Reach.refl _ _) (State.addGlobal_reach ..) rfl) (Reach.refl _ _)
  clear_value s1
  exact Reach.ite (Reach.step (Reach.with_step_late_col (h_s1) _ _ _ rfl) (State.setStep_reach ..) rfl) (Reach.refl _ _)

theorem State.sumPacket_reach (s : State) (n : Nat) (c : Coll) (e : Elem) (x : Slot) (k : Packet) : Reach
    0x4f8242b208847e08 s (State.sumPacket s n c e x k) := by
  unfold State.sumPacket
  extract_lets y z s1
  clear_value y z
  have h_s1 : Reach 0x4f8242b208847e08 s s1 := Reach.trans (Reach.refl _ _) (State.add64_reach _ _ _ _ _ rfl rfl)
  clear_value s1
  exact Reach.ite (Reach.step (h_s1) (State.chunkDone_reach ..) rfl) (Reach.step (h_s1) (State.setSlot_reach ..) rfl)

theorem State.dup_reach (s : State) (k : Nat) : Reach 0x4000 s (State.dup s k) := by
  unfold State.dup
  exact Reach.trans (Reach.refl _ _) (State.bump_reach _ _ _ _ rfl)

theorem State.colStale_reach (s : State) : Reach 0x4000 s (State.colStale s) := by
  unfold State.colStale
  exact Reach.trans (Reach.refl _ _) (State.bump_reach _ _ _ _ rfl)

theorem State.stagePacket_reach (s : State) (n : Nat) (c : Coll) (e : Elem) (x : Slot) (k : Packet) : Reach
    0x4f8242b208847e08 s (State.stagePacket s n c e x k) := by
  unfold State.stagePacket
  extract_lets known old st others y n64
  clear_value known old st others y n64
  exact Reach.ite (Reach.step (Reach.refl _ _) (State.colStale_reach ..) rfl) (Reach.ite (Reach.step (Reach.step (Reach.trans (Reach.refl _ _) (State.add64_reach _ _ _ _ _ rfl rfl)) (State.dup_reach ..) rfl) (State.chunkDone_reach ..) rfl) (Reach.step (Reach.refl _ _) (State.setSlot_reach ..) rfl))

theorem State.sendReady_reach (s : State) (g q i : Nat) (n : Nat) : Reach 0xa02420208843608 s
    (State.sendReady s g q i n) := by
  induction n generalizing s g q i with
  | zero =>
    rw [State.sendReady]
    exact Reach.refl _ _
  | succ n ih =>
    rw [State.sendReady]
    split
    · exact Reach.refl _ _
    · split
      · exact Reach.refl _ _
      · split
        · exact Reach.refl _ _
        · extract_lets s1
          have h_s1 : Reach 0xa02420208843608 s s1 := Reach.step (Reach.step (Reach.refl _ _) (State.sendChunk_reach ..) rfl) (State.onElem_reach ..) rfl
          clear_value s1
          exact Reach.ite (Reach.step (h_s1) (State.endElem_reach ..) rfl) (Reach.trans (h_s1) (ih ..))

theorem State.takeGrant_reach (s : State) (c : Coll) (i : Nat) (e : Elem) (k attempt : Nat) : Reach
    0xa02420208843608 s (State.takeGrant s c i e k attempt) := by
  unfold State.takeGrant
  extract_lets s1
  have h_s1 : Reach 0xa02420208843608 s s1 := Reach.step (Reach.refl _ _) (State.onElem_reach ..) rfl
  clear_value s1
  exact Reach.ite (Reach.ite (Reach.refl _ _) (Reach.step (Reach.step (Reach.refl _ _) (State.sendChunk_reach ..) rfl) (State.onElem_reach ..) rfl)) (Reach.ite (Reach.step (h_s1) (State.sendReady_reach ..) rfl) (h_s1))

theorem State.claimEarly_reach (s : State) (g q : Nat) (l : List Early) : Reach 0xa02420208847608 s
    (State.claimEarly s g q l) := by
  induction l generalizing s g q with
  | nil =>
    rw [State.claimEarly]
    exact Reach.refl _ _
  | cons x l ih =>
    rw [State.claimEarly]
    refine Reach.trans (?_) (ih ..)
    split
    · exact Reach.refl _ _
    · split
      · exact Reach.step (Reach.refl _ _) (State.colStale_reach ..) rfl
      · exact Reach.step (Reach.refl _ _) (State.takeGrant_reach ..) rfl

theorem State.postColl_reach (s : State) (e : QEntry) (slot : Nat) : Reach 0xa02420208847608 s
    (State.postColl s e slot) := by
  unfold State.postColl
  extract_lets c mine __src s1
  clear_value c mine __src
  have h_s1 : Reach 0xa02420208847608 s s1 := Reach.with_col (Reach.refl _ _) _ rfl
  clear_value s1
  exact Reach.step (Reach.step (h_s1) (State.claimEarly_reach ..) rfl) (State.countSlots_reach ..) rfl

theorem State.elemBad_reach (s : State) (c : Coll) : Reach 0x420208800008 s (State.elemBad s c) := by
  unfold State.elemBad
  extract_lets s1 s2
  have h_s1 : Reach 0x420208800008 s s1 := Reach.trans (Reach.refl _ _) (State.evt_reach _ _ _ rfl rfl)
  clear_value s1
  have h_s2 : Reach 0x420208800008 s s2 := Reach.ite (h_s1) (Reach.trans (h_s1) (State.setAll_reach _ _ _ (okAll.cons rfl (okAll.cons rfl (okAll.cons rfl okAll.nil)))))
  clear_value s2
  exact Reach.step (h_s2) (State.raise_reach ..) rfl

theorem State.fireElem_reach (m : Nat) (s : State) (g q i kind : Nat) (run : Coll → Elem → State → State) (hrun : ∀
    x y t, Reach m t (run x y t)) (hm : Nat.land 0x802420208800008 m = 0x802420208800008) : Reach m s
    (State.fireElem s g q i kind run) := by
  unfold State.fireElem
  split
  · exact Reach.refl _ _
  · split
    · exact Reach.refl _ _
    · exact Reach.ite (Reach.ite (Reach.step (Reach.refl _ _) (State.endElem_reach ..) (land_sub hm rfl)) (Reach.ite (Reach.step (Reach.step (Reach.refl _ _) (State.elemBad_reach ..) (land_sub hm rfl)) (State.endElem_reach ..) (land_sub hm rfl)) (Reach.trans (Reach.step (Reach.refl _ _) (State.onElem_reach ..) (land_sub hm rfl)) (hrun ..)))) (Reach.refl _ _)

theorem State.tryRelease_reach (s : State) (g q i : Nat) : Reach 0xa02420208803008 s (State.tryRelease s g q i) := by
  unfold State.tryRelease
  split
  · exact Reach.refl _ _
  · split
    · exact Reach.refl _ _
    · extract_lets k __src s1
      clear_value k __src
      have h_s1 : Reach 0xa02420208803008 s s1 := Reach.with_col (Reach.refl _ _) _ rfl
      clear_value s1
      exact Reach.ite (Reach.step (Reach.step (h_s1) (State.inject_reach ..) rfl) (State.endElem_reach ..) rfl) (Reach.refl _ _)

theorem State.releaseAll_reach (s : State) : Reach 0xa02420208803008 s (State.releaseAll s) := by
  unfold State.releaseAll
  refine Reach.foldl (Reach.refl _ _) (?_)
  intro u x
  refine Reach.foldl (Reach.refl _ _) (?_)
  intro u_1 x_1
  exact Reach.step (Reach.refl _ _) (State.tryRelease_reach ..) rfl

theorem State.failElems_reach (s : State) (g q : Nat) (l : List Nat) : Reach 0x802000000000008 s
    (State.failElems s g q l) := by
  induction l generalizing s g q with
  | nil =>
    rw [State.failElems]
    exact Reach.refl _ _
  | cons x l ih =>
    rw [State.failElems]
    exact Reach.trans (Reach.step (Reach.refl _ _) (State.endElem_reach ..) rfl) (ih ..)

theorem State.cancelColl_reach (s : State) (g q : Nat) : Reach 0x4b8242b208847e08 s (State.cancelColl s g q) := by
  unfold State.cancelColl
  split
  · exact Reach.refl _ _
  · extract_lets s1 mine handles __src s2
    clear_value mine handles __src
    have h_s1 : Reach 0x4b8242b208847e08 s s1 := Reach.step (Reach.step (Reach.refl _ _) (State.failElems_reach ..) rfl) (State.onFlight_reach ..) rfl
    clear_value s1
    have h_s2 : Reach 0x4b8242b208847e08 s s2 := Reach.with_col (h_s1) _ rfl
    clear_value s2
    exact Reach.step (Reach.trans (Reach.step (h_s2) (State.releaseHandles_reach ..) rfl) (State.raiseCol_reach _ _ _ _ _ _ _ _ _ _ (by intro _ h; cases h; exact rfl) rfl)) (State.giveAll_reach ..) rfl

theorem State.tallyShort_reach (s : State) (g q : Nat) : Reach 0x802420208804008 s (State.tallyShort s g q) := by
  unfold State.tallyShort
  split
  · exact Reach.refl _ _
  · split
    · exact Reach.refl _ _
    · exact Reach.step (Reach.trans (Reach.refl _ _) (State.raiseCol_reach _ _ _ _ _ _ _ _ _ _ (by intro _ h; cases h; exact rfl) rfl)) (State.endElem_reach ..) rfl

theorem State.tallyMiss_reach (s : State) (g q : Nat) : Reach 0x2c2a420208804108 s (State.tallyMiss s g q) := by
  unfold State.tallyMiss
  extract_lets t st
  clear_value st
  have h_t : Reach 0x2c2a420208804108 s t := Reach.step (Reach.refl _ _) (State.tallyShort_reach ..) rfl
  clear_value t
  exact Reach.ite (Reach.step (h_t) (State.abandonStep_reach ..) rfl) (h_t)

theorem State.resendChunk_reach (s : State) (c : Coll) (i : Nat) (e : Elem) (dst : Nat) (mcast : Bool) (k : Nat) :
    Reach 0xa02420208847600 s (State.resendChunk s c i e dst mcast k) := by
  unfold State.resendChunk
  exact Reach.step (Reach.trans (Reach.trans (Reach.refl _ _) (State.bump_reach _ _ _ _ rfl)) (State.raiseCol_reach _ _ _ _ _ _ _ _ _ _ (by intro _ h; exact nomatch h) rfl)) (State.sendChunk_reach ..) rfl

theorem State.flipRoutes_reach (s : State) : Reach 0x200c20208806001 s (State.flipRoutes s) := by
  unfold State.flipRoutes
  refine Reach.ite (Reach.set (Reach.trans (Reach.refl _ _) (State.deviceChange_reach _ _ _ (?_) rfl)) _ _ rfl) (Reach.refl _ _)
  intro t
  exact Reach.step (Reach.refl _ _) (State.selectVersion_reach ..) rfl

end Sys2Proof.Machine
end

