-- ==== Sys2Proof/Laws/ReachCipher.lean ====
section
/-! SUPPORT. What each operation and each command of Machine/Cipher.lean reaches. -/

namespace Sys2Proof.Machine

theorem State.firstCry_reach (s : State) (source who slot flow : Nat) : Reach 0x80000 s
    (State.firstCry s source who slot flow) := by
  unfold State.firstCry
  exact Reach.ite (Reach.refl _ _) (Reach.trans (Reach.refl _ _) (State.setAll_reach _ _ _ (okAll.cons rfl (okAll.cons rfl (okAll.cons rfl (okAll.cons rfl okAll.nil))))))

theorem State.keyAbsent_reach (s : State) (hub who slot flow : Nat) : Reach 0x420208880000 s
    (State.keyAbsent s hub who slot flow) := by
  unfold State.keyAbsent
  exact Reach.step (Reach.trans (Reach.step (Reach.trans (Reach.refl _ _) (State.evt_reach _ _ _ rfl rfl)) (State.firstCry_reach ..) rfl) (State.bump_reach _ _ _ _ rfl)) (State.raise_reach ..) rfl

theorem State.keyReject_reach (s : State) (hub slot flow : Nat) : Reach 0x420208880000 s
    (State.keyReject s hub slot flow) := by
  unfold State.keyReject
  exact Reach.step (Reach.trans (Reach.step (Reach.trans (Reach.refl _ _) (State.evt_reach _ _ _ rfl rfl)) (State.firstCry_reach ..) rfl) (State.bump_reach _ _ _ _ rfl)) (State.raise_reach ..) rfl

theorem State.keyExhausted_reach (s : State) (hub who slot flow : Nat) : Reach 0x420208880000 s
    (State.keyExhausted s hub who slot flow) := by
  unfold State.keyExhausted
  exact Reach.step (Reach.step (Reach.trans (Reach.refl _ _) (State.evt_reach _ _ _ rfl rfl)) (State.firstCry_reach ..) rfl) (State.raise_reach ..) rfl

theorem State.cryBlocks_reach (s : State) (hub n : Nat) : Reach 0x8000000000080000 s (State.cryBlocks s hub n) := by
  unfold State.cryBlocks
  extract_lets __src
  clear_value __src
  exact Reach.trans (Reach.with_cry (Reach.refl _ _) _ rfl) (State.add64_reach _ _ _ _ _ ((Fld.ok_ix ..).trans rfl) ((Fld.ok_ix ..).trans rfl))

theorem State.entropyFails_reach (s : State) (proportion : Bool) : Reach 0x420208880000 s
    (State.entropyFails s proportion) := by
  unfold State.entropyFails
  exact Reach.step (Reach.step (Reach.trans (Reach.trans (Reach.trans (Reach.refl _ _) (State.setAll_reach _ _ _ (okAll.cons rfl (okAll.cons rfl okAll.nil)))) (State.bump_reach _ _ _ _ ((by split; (exact rfl); (exact rfl))))) (State.evt_reach _ _ _ rfl rfl)) (State.firstCry_reach ..) rfl) (State.raise_reach ..) rfl

theorem execEntropyFail_reach (proportion : Bool) (s : State) : ∃ t, execEntropyFail proportion s = .next t ∧ Reach
    0x420208880000 s t := by
  refine ⟨_, rfl, ?_⟩
  exact Reach.step (Reach.refl _ _) (State.entropyFails_reach ..) rfl

theorem execEntropyRecovery_reach (s : State) : ∃ t, execEntropyRecovery s = .next t ∧ Reach 0x80000 s t := by
  refine ⟨_, rfl, ?_⟩
  exact Reach.trans (Reach.refl _ _) (State.setAll_reach _ _ _ (okAll.cons rfl (okAll.cons rfl okAll.nil)))

theorem execMaskReseed_reach (hub : Nat) (s : State) : ∃ t, execMaskReseed hub s = .next t ∧ Reach
    0x8000c20208880000 s t := by
  refine ⟨_, rfl, ?_⟩
  extract_lets __src __srcx1
  clear_value __src __srcx1
  exact Reach.ite (Reach.refl _ _) (Reach.ite (Reach.step (Reach.refl _ _) (State.entropyFails_reach ..) rfl) (Reach.with_gen_cry (Reach.refl _ _) _ _ rfl))

theorem State.setCryQueue_reach (s : State) (q : List CryReq) : Reach 0x8000000000080000 s (State.setCryQueue s q)
    := by
  unfold State.setCryQueue
  extract_lets __src
  clear_value __src
  exact Reach.set (Reach.with_cry (Reach.refl _ _) _ rfl) _ _ rfl

theorem State.setHout_reach (s : State) (bs : List Byte) : Reach 0x80000 s (State.setHout s bs) := by
  unfold State.setHout
  exact Reach.trans (Reach.refl _ _) (State.setAll_reach _ _ _ (okAll.map fun _ => (Fld.ok_ix ..).trans rfl))

theorem State.endHost_reach (s : State) (out : Option (List Byte)) : Reach 0x80000 s (State.endHost s out) := by
  unfold State.endHost
  exact Reach.step (Reach.trans (Reach.refl _ _) (State.setAll_reach _ _ _ (okAll.cons rfl (okAll.cons rfl okAll.nil)))) (State.setHout_reach ..) rfl

theorem State.failRequests_reach (s : State) (slot : Nat) : Reach 0x8000000000080000 s (State.failRequests s slot)
    := by
  unfold State.failRequests
  exact Reach.ite (Reach.step (Reach.step (Reach.refl _ _) (State.setCryQueue_reach ..) rfl) (State.endHost_reach ..) rfl) (Reach.refl _ _)

theorem execCipherRequest_reach (hub : Nat) (s : State) : ∃ t, execCipherRequest hub s = .next t ∧ Reach
    0x8000420208880000 s t := by
  refine ⟨_, rfl, ?_⟩
  split
  · exact Reach.refl _ _
  · extract_lets s1
    have h_s1 : Reach 0x8000420208880000 s s1 := Reach.step (Reach.refl _ _) (State.setCryQueue_reach ..) rfl
    clear_value s1
    refine Reach.ite (Reach.refl _ _) (?_)
    split
    · exact Reach.step (Reach.step (h_s1) (State.keyAbsent_reach ..) rfl) (State.endHost_reach ..) rfl
    · extract_lets key
      clear_value key
      exact Reach.ite (Reach.step (Reach.step (h_s1) (State.keyAbsent_reach ..) rfl) (State.endHost_reach ..) rfl) (Reach.step (Reach.step (h_s1) (State.cryBlocks_reach ..) rfl) (State.endHost_reach ..) rfl)

theorem execInstall_reach (index : Nat) (reset : Bool) (s : State) : ∃ t, execInstall index reset s = .next t ∧
    Reach 0x8000c20208880001 s t := by
  refine ⟨_, rfl, ?_⟩
  refine Reach.trans (Reach.refl _ _) (State.hostWrite_reach _ _ _ _ _ _ (?_) rfl)
  intro t
  extract_lets t_1 i key __src t1 mine __srcx6
  clear_value i key __src mine __srcx6
  have h_t_1 : Reach 0x8000c20208880001 t t_1 := Reach.trans (Reach.refl _ _) (State.setAll_reach _ _ _ (okAll.cons rfl (okAll.cons rfl okAll.nil)))
  clear_value t_1
  have h_t1 : Reach 0x8000c20208880001 t t1 := Reach.trans (Reach.trans (Reach.with_cry (h_t_1) _ rfl) (State.setBit_reach _ _ _ _ _ rfl)) (State.clearAll_reach _ _ _ (okFlds.map fun _ => (Fld.ok_ix ..).trans rfl))
  clear_value t1
  refine Reach.ite (h_t_1) (Reach.ite (Reach.step (Reach.trans (Reach.with_cry (h_t1) _ rfl) (State.deviceChange_reach _ _ _ (?_) rfl)) (State.journal_reach ..) rfl) (h_t1))
  intro t_2
  exact Reach.trans (Reach.refl _ _) (State.clearAll_reach _ _ _ (okFlds.flatMap fun _ => (okFlds.cons ((Fld.ok_ix ..).trans rfl) (okFlds.cons ((Fld.ok_ix ..).trans rfl) okFlds.nil))))

theorem execAdvance_reach (slot : Nat) (s : State) : ∃ t, execAdvance slot s = .next t ∧ Reach 0x420208880001 s t :=
    by
  refine ⟨_, rfl, ?_⟩
  refine Reach.trans (Reach.refl _ _) (State.hostWrite_reach _ _ _ _ _ _ (?_) rfl)
  intro t
  extract_lets n
  clear_value n
  exact Reach.ite (Reach.refl _ _) (Reach.ite (Reach.step (Reach.refl _ _) (State.keyExhausted_reach ..) rfl) (Reach.step (Reach.set (Reach.refl _ _) _ _ ((Fld.ok_ix ..).trans rfl)) (State.journal_reach ..) rfl))

theorem State.freeSlotOf_reach (s : State) (slot : Nat) : Reach 0x80000 s (State.freeSlotOf s slot) := by
  unfold State.freeSlotOf
  exact Reach.trans (Reach.refl _ _) (State.setAll_reach _ _ _ (okAll.cons ((Fld.ok_ix ..).trans rfl) (okAll.cons ((Fld.ok_ix ..).trans rfl) okAll.nil)))

theorem State.endLease_reach (s : State) (slot : Nat) : Reach 0x8000000000080000 s (State.endLease s slot) := by
  unfold State.endLease
  extract_lets __src
  clear_value __src
  exact Reach.set (Reach.with_cry (Reach.refl _ _) _ rfl) _ _ ((Fld.ok_ix ..).trans rfl)

theorem execKslotClear_reach (slot : Nat) (s : State) : ∃ t, execKslotClear slot s = .next t ∧ Reach
    0x8000c20208880001 s t := by
  refine ⟨_, rfl, ?_⟩
  refine Reach.trans (Reach.refl _ _) (State.hostWrite_reach _ _ _ _ _ _ (?_) rfl)
  intro t
  refine Reach.ite (Reach.refl _ _) (Reach.step (Reach.step (Reach.trans (Reach.refl _ _) (State.deviceChange_reach _ _ _ (?_) rfl)) (State.endLease_reach ..) rfl) (State.failRequests_reach ..) rfl)
  intro t_1
  exact Reach.step (Reach.refl _ _) (State.freeSlotOf_reach ..) rfl

theorem execKslotOpen_reach (slot : Nat) (s : State) : ∃ t, execKslotOpen slot s = .next t ∧ Reach
    0x8000420208880001 s t := by
  refine ⟨_, rfl, ?_⟩
  refine Reach.trans (Reach.refl _ _) (State.hostWrite_reach _ _ _ _ _ _ (?_) rfl)
  intro t
  extract_lets __src
  clear_value __src
  exact Reach.ite (Reach.refl _ _) (Reach.set (Reach.with_cry (Reach.refl _ _) _ rfl) _ _ ((Fld.ok_ix ..).trans rfl))

theorem State.leaseLapses_reach (s : State) (slot : Nat) : Reach 0x8000c20208880001 s (State.leaseLapses s slot) := by
  unfold State.leaseLapses
  refine Reach.step (Reach.step (Reach.trans (Reach.step (Reach.step (Reach.trans (Reach.refl _ _) (State.deviceChange_reach _ _ _ (?_) rfl)) (State.endLease_reach ..) rfl) (State.failRequests_reach ..) rfl) (State.evt_reach _ _ _ rfl rfl)) (State.firstCry_reach ..) rfl) (State.raise_reach ..) rfl
  intro t
  exact Reach.step (Reach.refl _ _) (State.freeSlotOf_reach ..) rfl

theorem execKslotLease_reach (slot : Nat) (s : State) : ∃ t, execKslotLease slot s = .next t ∧ Reach
    0x8000c20208880001 s t := by
  refine ⟨_, rfl, ?_⟩
  exact Reach.ite (Reach.step (Reach.refl _ _) (State.leaseLapses_reach ..) rfl) (Reach.refl _ _)

theorem execHostRequest_reach (slot blocks : Nat) (s : State) : ∃ t, execHostRequest slot blocks s = .next t ∧ Reach
    0x8000c20208880001 s t := by
  refine ⟨_, rfl, ?_⟩
  refine Reach.trans (Reach.refl _ _) (State.hostWrite_reach _ _ _ _ _ _ (?_) rfl)
  intro t
  extract_lets t1 n k t_1 bytes label use
  clear_value n k bytes label use
  have h_t1 : Reach 0x8000c20208880001 t t1 := Reach.trans (Reach.refl _ _) (State.setAll_reach _ _ _ (okAll.cons rfl (okAll.cons rfl okAll.nil)))
  clear_value t1
  have h_t_1 : Reach 0x8000c20208880001 t t_1 := Reach.ite (Reach.step (h_t1) (State.leaseLapses_reach ..) rfl) (h_t1)
  clear_value t_1
  exact Reach.ite (Reach.refl _ _) (Reach.ite (Reach.step (h_t_1) (State.endHost_reach ..) rfl) (Reach.step (Reach.trans (h_t_1) (State.setAll_reach _ _ _ (okAll.cons rfl (okAll.cons rfl okAll.nil)))) (State.setCryQueue_reach ..) rfl))

theorem execCryCntClr_reach (s : State) : ∃ t, execCryCntClr s = .next t ∧ Reach 0x420208880001 s t := by
  refine ⟨_, rfl, ?_⟩
  refine Reach.trans (Reach.refl _ _) (State.hostWrite_reach _ _ _ _ _ _ (?_) rfl)
  intro t
  exact Reach.trans (Reach.trans (Reach.refl _ _) (State.clearAll_reach _ _ _ (okFlds.cons rfl (okFlds.cons rfl (okFlds.cons rfl (okFlds.cons rfl (okFlds.cons rfl (okFlds.cons rfl (okFlds.cons rfl (okFlds.cons rfl okFlds.nil)))))))))) (State.evtEndAll_reach _ _ _ (okFlds.cons rfl (okFlds.cons rfl (okFlds.cons rfl (okFlds.cons rfl (okFlds.cons rfl okFlds.nil))))) rfl)

end Sys2Proof.Machine
end

