-- ==== Sys2Proof/Laws/ReachSegment.lean ====
section
/-! SUPPORT. What each operation and each command of Machine/Segment.lean reaches. -/

namespace Sys2Proof.Machine

theorem State.codeLine_reach (s : State) (hub : Nat) (fp32 rawf : Bool) (data : List Byte) : Reach
    0x4000000000040000 s (State.codeLine s hub fp32 rawf data).2.2 := by
  unfold State.codeLine
  extract_lets coded
  clear_value coded
  split
  · dsimp only
    exact Reach.step (Reach.refl _ _) (State.countBlock_reach ..) rfl
  · dsimp only
    exact Reach.step (Reach.refl _ _) (State.countBlock_reach ..) rfl

theorem State.codeAll_reach (s : State) (hub : Nat) (fp32 rawf : Bool) (l : List (List Byte)) :
    Reach 0x4000000000040000 s (s.codeAll hub fp32 rawf l).2.2 := by
  induction l generalizing s with
  | nil => exact Reach.refl _ _
  | cons d t ih => exact Reach.trans (Reach.step (Reach.refl _ _) (State.codeLine_reach ..) rfl) (ih _)

theorem State.makeSeg_reach (s : State) (r : FlowRec) (q : SegReq) (key : List Byte) (kepoch : Nat) : Reach
    0xc0000000000e0000 s (State.makeSeg s r q key kepoch).2 := by
  unfold State.makeSeg
  extract_lets data x seq h iv ct wire
  clear_value data seq h iv ct wire
  dsimp only
  exact Reach.trans (Reach.step (Reach.step (Reach.refl _ _) (State.codeAll_reach ..) rfl) (State.cryBlocks_reach ..) rfl) (State.set64_reach _ _ _ _ _ ((Fld.ok_ix ..).trans rfl) ((Fld.ok_ix ..).trans rfl))

theorem State.markSeq_reach (s : State) (f seq : Nat) : Reach 0x2000000000020000 s (State.markSeq s f seq) := by
  unfold State.markSeq
  extract_lets x got cum
  clear_value x got cum
  exact Reach.ite (Reach.refl _ _) (Reach.trans (Reach.step (Reach.refl _ _) (State.setRxFlow_reach ..) rfl) (State.set64_reach _ _ _ _ _ ((Fld.ok_ix ..).trans rfl) ((Fld.ok_ix ..).trans rfl)))

theorem State.shapeLine_reach (s : State) (f seq cause : Nat) : Reach 0x2000420208860000 s
    (State.shapeLine s f seq cause) := by
  unfold State.shapeLine
  extract_lets hub s1 s2 x
  clear_value hub x
  have h_s1 : Reach 0x2000420208860000 s s1 := Reach.step (Reach.trans (Reach.step (Reach.trans (Reach.refl _ _) (State.evt_reach _ _ _ rfl rfl)) (State.firstCmp_reach ..) rfl) (State.bump_reach _ _ _ _ ((Fld.ok_ix ..).trans rfl))) (State.raise_reach ..) rfl
  clear_value s1
  have h_s2 : Reach 0x2000420208860000 s s2 := Reach.step (h_s1) (State.markSeq_reach ..) rfl
  clear_value s2
  exact Reach.step (h_s2) (State.setRxFlow_reach ..) rfl

theorem State.staleSeg_reach (s : State) (f : Nat) : Reach 0x20000 s (State.staleSeg s f) := by
  unfold State.staleSeg
  exact Reach.trans (Reach.refl _ _) (State.bump_reach _ _ _ _ ((Fld.ok_ix ..).trans rfl))

theorem State.putBlocks_reach (s : State) (p : SegPlace) (k : Nat) (l : List (List Byte)) : Reach 0x400042b208840600
    s (State.putBlocks s p k l) := by
  unfold State.putBlocks
  extract_lets data
  clear_value data
  exact Reach.step (Reach.step (Reach.refl _ _) (State.rangeFaults_reach ..) rfl) (State.deposit_reach ..) rfl

theorem State.signalPlace_reach (s : State) (p : SegPlace) : Reach 0x2000000000008 s (State.signalPlace s p) := by
  unfold State.signalPlace
  split
  · exact Reach.step (Reach.refl _ _) (State.addGlobal_reach ..) rfl
  · exact Reach.refl _ _

theorem State.countBlocks_reach (s : State) (h : SegHead) (p : SegPlace) (n : Nat) : Reach 0x2002000000000008 s
    (State.countBlocks s h p n) := by
  unfold State.countBlocks
  extract_lets same old new rest __src
  clear_value same old new rest __src
  exact Reach.ite (Reach.step (Reach.with_mlr (Reach.refl _ _) _ rfl) (State.signalPlace_reach ..) rfl) (Reach.with_mlr (Reach.refl _ _) _ rfl)

theorem State.takeBlocks_reach (s : State) (r : FlowRec) (h : SegHead) (p : SegPlace) (data : List (List Byte)) :
    Reach 0x602a42b208844608 s (State.takeBlocks s r h p data) := by
  unfold State.takeBlocks
  extract_lets first __src __srcx2 s1 __srcx4
  clear_value first __src __srcx2 __srcx4
  have h_s1 : Reach 0x602a42b208844608 s s1 := Reach.step (Reach.step (Reach.refl _ _) (State.putBlocks_reach ..) rfl) (State.countBlocks_reach ..) rfl
  clear_value s1
  exact Reach.ite (Reach.with_mlr (Reach.refl _ _) _ rfl) (Reach.ite (Reach.with_mbr (Reach.refl _ _) _ rfl) (Reach.ite (h_s1) (Reach.ite (Reach.with_mbr (h_s1) _ rfl) (Reach.step (h_s1) (State.restored_reach ..) rfl))))

theorem State.zeroPlace_reach (s : State) (f : Nat) (p : SegPlace) : Reach 0x600242b208840608 s
    (State.zeroPlace s f p) := by
  unfold State.zeroPlace
  extract_lets t __src
  clear_value __src
  have h_t : Reach 0x600242b208840608 s t := Reach.step (Reach.step (Reach.refl _ _) (State.rangeFaults_reach ..) rfl) (State.deposit_reach ..) rfl
  clear_value t
  exact Reach.ite (Reach.refl _ _) (Reach.step (Reach.with_mlr (h_t) _ rfl) (State.signalPlace_reach ..) rfl)

theorem State.takeSeg_reach (s : State) (r : FlowRec) (p : SegPlace) (wire : List Byte) : Reach 0xe02a42b2088e4608 s
    (State.takeSeg s r p wire) := by
  unfold State.takeSeg
  extract_lets h f ct tag iv s1
  clear_value h f ct tag iv
  have h_s1 : Reach 0xe02a42b2088e4608 s s1 := Reach.step (Reach.refl _ _) (State.cryBlocks_reach ..) rfl
  clear_value s1
  refine Reach.ite (Reach.step (Reach.refl _ _) (State.keyReject_reach ..) rfl) (?_)
  split
  · exact Reach.step (Reach.refl _ _) (State.keyAbsent_reach ..) rfl
  · refine Reach.ite (Reach.trans (h_s1) (State.bump_reach _ _ _ _ ((Fld.ok_ix ..).trans rfl))) (Reach.ite (Reach.step (h_s1) (State.staleSeg_reach ..) rfl) (Reach.ite (h_s1) (Reach.ite (Reach.step (Reach.step (h_s1) (State.markSeq_reach ..) rfl) (State.staleSeg_reach ..) rfl) (?_))))
    split
    · exact Reach.step (h_s1) (State.shapeLine_reach ..) rfl
    · exact Reach.ite (Reach.step (h_s1) (State.shapeLine_reach ..) rfl) (Reach.step (Reach.step (h_s1) (State.takeBlocks_reach ..) rfl) (State.markSeq_reach ..) rfl)

end Sys2Proof.Machine
end

