-- ==== Sys2Proof/Laws/ReachSluice.lean ====
section
/-! SUPPORT. What each operation and each command of Machine/Sluice.lean reaches. -/

namespace Sys2Proof.Machine

theorem State.setLine_reach (s : State) (p : Nat) (x : LineSt) : Reach 0x1000000000000000 s (State.setLine s p x) :=
    by
  unfold State.setLine
  extract_lets __src
  clear_value __src
  exact Reach.with_lhl (Reach.refl _ _) _ rfl

theorem State.onLine_reach (s : State) (p : Nat) (f : LineSt → LineSt) : Reach 0x1000000000000000 s
    (State.onLine s p f) := by
  unfold State.onLine
  exact Reach.step (Reach.refl _ _) (State.setLine_reach ..) rfl

theorem State.countFlows_reach (s : State) : Reach 0x10000 s (State.countFlows s) := by
  unfold State.countFlows
  exact Reach.trans (Reach.refl _ _) (State.setAll_reach _ _ _ (okAll.flatMap fun _ => (okAll.cons ((Fld.ok_ix ..).trans rfl) (okAll.cons ((Fld.ok_ix ..).trans rfl) okAll.nil))))

theorem State.updateCap_reach (s : State) : Reach 0x20000020200020000 s (State.updateCap s) := by
  unfold State.updateCap
  extract_lets flows slots ns cap binds s1 __src
  clear_value flows slots ns cap binds __src
  have h_s1 : Reach 0x20000020200020000 s s1 := Reach.trans (Reach.refl _ _) (State.setAll_reach _ _ _ (okAll.cons rfl (okAll.cons rfl okAll.nil)))
  clear_value s1
  exact Reach.ite (Reach.trans (Reach.with_slu (h_s1) _ rfl) (State.evt_reach _ _ _ rfl rfl)) (h_s1)

theorem State.setSluQueue_reach (s : State) (p q : Nat) (l : List QSeg) : Reach 0x20000000000200000 s
    (State.setSluQueue s p q l) := by
  unfold State.setSluQueue
  extract_lets __src
  clear_value __src
  exact Reach.set (Reach.with_slu (Reach.refl _ _) _ rfl) _ _ ((Fld.ok_ix ..).trans rfl)

theorem State.meter_reach (s : State) (f kind b : Nat) : Reach 0x20000000000200000 s (State.meter s f kind b).2 := by
  unfold State.meter
  extract_lets pre tp tc n setTp s1 __src
  clear_value pre tp tc n __src
  have h_s1 : Reach 0x20000000000200000 s s1 := Reach.with_slu (Reach.refl _ _) _ rfl
  clear_value s1
  split
  · dsimp only
    exact Reach.refl _ _
  · split
    · dsimp only
      exact Reach.refl _ _
    · split
      · dsimp only
        exact Reach.trans (Reach.with_slu (Reach.refl _ _) _ rfl) (State.bump_reach _ _ _ _ ((Fld.ok_ix ..).trans rfl))
      · dsimp only
        exact Reach.with_slu (h_s1) _ rfl

theorem State.enqueue_reach (s : State) (x : Seg) (resend : Bool) (q : Nat) (t : State)
    (h : s.enqueue x resend q = some t) : Reach 0x20000000000200000 s t := by
  unfold State.enqueue at h
  obtain ⟨p, _, rfl⟩ := Option.map_eq_some_iff.mp h
  exact Reach.step (Reach.refl _ _) (State.setSluQueue_reach ..) rfl

theorem State.admitOne_reach (s : State) (x : Seg) (t : State) (h : s.admitOne x = some t) : Reach 0x20000000000200000 s t := by
  unfold State.admitOne at h
  have k : Reach 0x20000000000200000 s (s.meter x.flow x.req.kind x.wire.length).2 :=
    Reach.step (Reach.refl _ _) (State.meter_reach ..) rfl
  split at h
  · exact nomatch h
  · dsimp only at h
    split at h
    · exact nomatch h
    · exact Reach.step k (State.enqueue_reach _ _ _ _ _ h) rfl
    · exact Reach.step k (State.enqueue_reach _ _ _ _ _ h) rfl

theorem State.admitHeld_reach (s : State) (f : Nat) (l : List QSeg) : Reach 0x20000000000200000 s
    (State.admitHeld s f l) := by
  induction l generalizing s f with
  | nil =>
    rw [State.admitHeld]
    extract_lets __src
    clear_value __src
    exact Reach.with_slu (Reach.refl _ _) _ rfl
  | cons x l ih =>
    rw [State.admitHeld]
    split
    · rename_i x_i s1_i heq_i
      have h_t : Reach 0x20000000000200000 s s1_i := Reach.step (Reach.refl _ _) (State.admitOne_reach _ _ _ heq_i) rfl
      clear heq_i
      exact Reach.trans (h_t) (ih ..)
    · extract_lets __src
      clear_value __src
      exact Reach.with_slu (Reach.refl _ _) _ rfl

theorem State.admitSeg_reach (s : State) (x : Seg) : Reach 0x20000000000200000 s (State.admitSeg s x) := by
  unfold State.admitSeg
  extract_lets held __src
  clear_value held __src
  refine Reach.ite (?_) (Reach.with_slu (Reach.refl _ _) _ rfl)
  split
  · rename_i x_i s1_i heq_i
    have h_t : Reach 0x20000000000200000 s s1_i := Reach.step (Reach.refl _ _) (State.admitOne_reach _ _ _ heq_i) rfl
    clear heq_i
    exact h_t
  · exact Reach.with_slu (Reach.refl _ _) _ rfl

theorem State.showGate_reach (s : State) (p e : Nat) (g : GateList) : Reach 0x200000 s (State.showGate s p e g) := by
  unfold State.showGate
  exact Reach.trans (Reach.refl _ _) (State.setAll_reach _ _ _ (okAll.cons ((Fld.ok_ix ..).trans rfl) (okAll.cons ((Fld.ok_ix ..).trans rfl) okAll.nil)))

theorem State.followGates_reach (s : State) : Reach 0x200000 s (State.followGates s) := by
  unfold State.followGates
  refine Reach.foldl (Reach.refl _ _) (?_)
  intro u x
  exact Reach.step (Reach.refl _ _) (State.showGate_reach ..) rfl

theorem State.setCredit_reach (s : State) (p q : Nat) (c : Int) : Reach 0x20000000000200000 s
    (State.setCredit s p q c) := by
  unfold State.setCredit
  extract_lets __src
  clear_value __src
  exact Reach.set (Reach.with_slu (Reach.refl _ _) _ rfl) _ _ ((Fld.ok_ix ..).trans rfl)

theorem State.stream_reach (s : State) (p : Nat) (x : Seg) : Reach 0x1000000000000000 s (State.stream s p x) := by
  unfold State.stream
  exact Reach.step (Reach.refl _ _) (State.onLine_reach ..) rfl

theorem State.sentAgain_reach (s : State) (x : Seg) : Reach 0x2000420208860000 s (State.sentAgain s x) := by
  unfold State.sentAgain
  extract_lets f s1
  clear_value f
  have h_s1 : Reach 0x2000420208860000 s s1 := Reach.step (Reach.refl _ _) (State.setRetain_reach ..) rfl
  clear_value s1
  exact Reach.step (Reach.step (Reach.trans (h_s1) (State.bump_reach _ _ _ _ ((Fld.ok_ix ..).trans rfl))) (State.firstMlr_reach ..) rfl) (State.raise_reach ..) rfl

theorem State.forcedSend_reach (s : State) (p : Nat) (x : Seg) : Reach 0x23000420208a60400 s
    (State.forcedSend s p x) := by
  unfold State.forcedSend
  extract_lets s1 f
  clear_value f
  have h_s1 : Reach 0x23000420208a60400 s s1 := Reach.ite (Reach.step (Reach.step (Reach.refl _ _) (State.stream_reach ..) rfl) (State.sentAgain_reach ..) rfl) (Reach.refl _ _)
  clear_value s1
  exact Reach.ite (Reach.step (h_s1) (State.loseRetain_reach ..) rfl) (h_s1)

theorem State.dispatchSeg_reach (s : State) (p q i : Nat) (x : QSeg) : Reach 0x2700042b208a60400 s
    (State.dispatchSeg s p q i x) := by
  unfold State.dispatchSeg
  extract_lets s1 n __src s2 low s3 __srcx6
  clear_value n __src low __srcx6
  have h_s1 : Reach 0x2700042b208a60400 s s1 := Reach.step (Reach.step (Reach.refl _ _) (State.setSluQueue_reach ..) rfl) (State.stream_reach ..) rfl
  clear_value s1
  have h_s2 : Reach 0x2700042b208a60400 s s2 := Reach.step (Reach.step (h_s1) (State.writeRetain_reach ..) rfl) (State.setRetain_reach ..) rfl
  clear_value s2
  have h_s3 : Reach 0x2700042b208a60400 s s3 := Reach.ite (Reach.step (h_s2) (State.setCredit_reach ..) rfl) (h_s2)
  clear_value s3
  exact Reach.ite (Reach.step (h_s1) (State.sentAgain_reach ..) rfl) (Reach.step (Reach.ite (Reach.with_slu (h_s3) _ rfl) (h_s3)) (State.forcedSend_reach ..) rfl)

theorem State.dispatchAll_reach (s : State) (p : Nat) (n : Nat) : Reach 0x2700042b208a60400 s
    (State.dispatchAll s p n) := by
  induction n generalizing s p with
  | zero =>
    rw [State.dispatchAll]
    exact Reach.refl _ _
  | succ n ih =>
    rw [State.dispatchAll]
    split
    · exact Reach.refl _ _
    · exact Reach.trans (Reach.step (Reach.refl _ _) (State.dispatchSeg_reach ..) rfl) (ih ..)

theorem State.resend_reach (s : State) (x : Seg) : Reach 0x20000000000200000 s (s.resend x) := by
  unfold State.resend
  extract_lets waits
  refine Reach.ite (Reach.refl _ _) ?_
  cases h : s.enqueue x true (s.flowQueue x.flow) with
  | none => exact Reach.refl _ _
  | some t => exact Reach.step (Reach.refl _ _) (State.enqueue_reach _ _ _ _ _ h) rfl

theorem State.fillSlot_reach (s : State) (p page n : Nat) (send : Bool) : Reach 0x2700042b208a60400 s
    (State.fillSlot s p page n send).2 := by
  unfold State.fillSlot
  extract_lets s1
  have h_s1 : Reach 0x2700042b208a60400 s s1 := Reach.ite (Reach.step (Reach.refl _ _) (State.dispatchAll_reach ..) rfl) (Reach.refl _ _)
  clear_value s1
  split
  · dsimp only
    exact h_s1
  · extract_lets r
    clear_value r
    split
    · dsimp only
      exact h_s1
    · dsimp only
      exact Reach.step (h_s1) (State.onLine_reach ..) rfl

theorem State.fillSlots_reach (s : State) (p page : Nat) (send : Bool) (l : List Nat) :
    Reach 0x2700042b208a60400 s (s.fillSlots p page send l).2 := by
  induction l generalizing s with
  | nil => exact Reach.refl _ _
  | cons n t ih => exact Reach.trans (Reach.step (Reach.refl _ _) (State.fillSlot_reach ..) rfl) (ih _)

end Sys2Proof.Machine
end

