-- ==== Sys2Proof/Laws/ReachLine.lean ====
section
/-! SUPPORT. What each operation and each command of Machine/Line.lean reaches. -/

namespace Sys2Proof.Machine

theorem State.raiseLine_reach (s : State) (source : Nat) (cls : FClass) (p : Nat) : Reach 0x420208800000 s
    (State.raiseLine s source cls p) := by
  unfold State.raiseLine
  exact Reach.step (Reach.refl _ _) (State.raise_reach ..) rfl

theorem State.setGroup_reach (s : State) (g : Nat) (x : GroupSt) : Reach 0x1000000000000000 s (State.setGroup s g x)
    := by
  unfold State.setGroup
  extract_lets __src
  clear_value __src
  exact Reach.with_lhl (Reach.refl _ _) _ rfl

theorem State.groupDown_reach (s : State) (g : Nat) : Reach 0x420208808000 s (State.groupDown s g) := by
  unfold State.groupDown
  extract_lets down s1
  clear_value down
  have h_s1 : Reach 0x420208808000 s s1 := Reach.trans (Reach.refl _ _) (State.put_reach _ _ _ _ ((Fld.ok_ix ..).trans rfl))
  clear_value s1
  exact Reach.ite (Reach.refl _ _) (Reach.ite (Reach.step (Reach.trans (h_s1) (State.evtOf_reach _ _ _ _ rfl rfl)) (State.raiseLine_reach ..) rfl) (Reach.trans (h_s1) (State.evtEndOf_reach _ _ _ _ rfl rfl)))

theorem State.settleGroup_reach (s : State) (g : Nat) : Reach 0x1000420208808000 s (State.settleGroup s g) := by
  unfold State.settleGroup
  extract_lets r x y s1
  clear_value r x y
  have h_s1 : Reach 0x1000420208808000 s s1 := Reach.set (Reach.step (Reach.refl _ _) (State.setGroup_reach ..) rfl) _ _ ((Fld.ok_ix ..).trans rfl)
  clear_value s1
  exact Reach.ite (Reach.refl _ _) (Reach.step (Reach.ite (h_s1) (Reach.set (h_s1) _ _ ((Fld.ok_ix ..).trans rfl))) (State.groupDown_reach ..) rfl)

theorem State.askGroup_reach (s : State) (p : Nat) (degrade b : Bool) : Reach 0x1000420208808000 s
    (State.askGroup s p degrade b) := by
  unfold State.askGroup
  extract_lets g x y eased
  clear_value g x y eased
  exact Reach.ite (Reach.ite (Reach.step (Reach.set (Reach.step (Reach.refl _ _) (State.setGroup_reach ..) rfl) _ _ ((Fld.ok_ix ..).trans rfl)) (State.settleGroup_reach ..) rfl) (Reach.step (Reach.step (Reach.refl _ _) (State.setGroup_reach ..) rfl) (State.settleGroup_reach ..) rfl)) (Reach.step (Reach.step (Reach.refl _ _) (State.setGroup_reach ..) rfl) (State.settleGroup_reach ..) rfl)

theorem State.followSignal_reach (s : State) (p : Nat) (degrade bad : Bool) : Reach 0x1000420208808000 s
    (State.followSignal s p degrade bad) := by
  unfold State.followSignal
  extract_lets f ev source now s1 s2
  clear_value source now
  have h_s1 : Reach 0x1000420208808000 s s1 := Reach.trans (Reach.refl _ _) (State.setBit_reach _ _ _ _ _ ((by unfold f; split; (exact rfl); (exact rfl))))
  clear_value s1
  have h_s2 : Reach 0x1000420208808000 s s2 := Reach.step (Reach.trans (h_s1) (State.evtOf_reach _ _ _ _ ((by unfold ev; split; (exact rfl); (exact rfl))) rfl)) (State.raiseLine_reach ..) rfl
  clear_value s2
  exact Reach.ite (Reach.refl _ _) (Reach.ite (Reach.ite (Reach.step (h_s2) (State.askGroup_reach ..) rfl) (h_s2)) (Reach.step (Reach.trans (h_s1) (State.evtEndOf_reach _ _ _ _ ((by unfold ev; split; (exact rfl); (exact rfl))) rfl)) (State.askGroup_reach ..) rfl))

theorem State.lineDefects_reach (s : State) (p : Nat) : Reach 0x1000420208808000 s (State.lineDefects s p) := by
  unfold State.lineDefects
  extract_lets sf s1
  clear_value sf
  have h_s1 : Reach 0x1000420208808000 s s1 := Reach.step (Reach.step (Reach.step (Reach.refl _ _) (State.followSignal_reach ..) rfl) (State.followSignal_reach ..) rfl) (State.groupDown_reach ..) rfl
  clear_value s1
  exact Reach.step (h_s1) (State.onLine_reach ..) rfl

theorem State.setFramer_reach (s : State) (p st : Nat) : Reach 0x8000 s (State.setFramer s p st) := by
  unfold State.setFramer
  exact Reach.trans (Reach.set (Reach.refl _ _) _ _ ((Fld.ok_ix ..).trans rfl)) (State.setBit_reach _ _ _ _ _ rfl)

theorem State.setCands_reach (s : State) (p : Nat) (l : List Cand) : Reach 0x1000000000008000 s
    (State.setCands s p l) := by
  unfold State.setCands
  exact Reach.set (Reach.step (Reach.refl _ _) (State.onLine_reach ..) rfl) _ _ ((Fld.ok_ix ..).trans rfl)

theorem State.dropAlign_reach (s : State) (p st : Nat) : Reach 0x1000000000008000 s (State.dropAlign s p st) := by
  unfold State.dropAlign
  exact Reach.step (Reach.set (Reach.step (Reach.step (Reach.refl _ _) (State.setFramer_reach ..) rfl) (State.setCands_reach ..) rfl) _ _ ((Fld.ok_ix ..).trans rfl)) (State.onLine_reach ..) rfl

theorem State.losDeclare_reach (s : State) (p : Nat) : Reach 0x1000420208808000 s (State.losDeclare s p) := by
  unfold State.losDeclare
  exact Reach.step (Reach.set (Reach.step (Reach.refl _ _) (State.dropAlign_reach ..) rfl) _ _ ((Fld.ok_ix ..).trans rfl)) (State.lineDefects_reach ..) rfl

theorem State.losClear_reach (s : State) (p : Nat) : Reach 0x1000420208808000 s (State.losClear s p) := by
  unfold State.losClear
  extract_lets s1
  have h_s1 : Reach 0x1000420208808000 s s1 := Reach.step (Reach.set (Reach.refl _ _) _ _ ((Fld.ok_ix ..).trans rfl)) (State.onLine_reach ..) rfl
  clear_value s1
  exact Reach.step (Reach.ite (Reach.step (h_s1) (State.setFramer_reach ..) rfl) (h_s1)) (State.lineDefects_reach ..) rfl

theorem State.msgSent_reach (s : State) (p stamp : Nat) (x : LineMsg) : Reach 0x2000000000100000 s
    (State.msgSent s p stamp x) := by
  unfold State.msgSent
  split
  · extract_lets __src
    clear_value __src
    exact Reach.with_mlr (Reach.refl _ _) _ rfl
  · extract_lets s1
    have h_s1 : Reach 0x2000000000100000 s s1 := Reach.set (Reach.refl _ _) _ _ rfl
    clear_value s1
    exact Reach.ite (Reach.set (Reach.trans (h_s1) (State.set64_reach _ _ _ _ _ rfl rfl)) _ _ rfl) (h_s1)
  · exact Reach.refl _ _

theorem State.msgsSent_reach (s : State) (p stamp : Nat) (l : List LineMsg) : Reach 0x2000000000100000 s
    (State.msgsSent s p stamp l) := by
  induction l generalizing s p stamp with
  | nil =>
    rw [State.msgsSent]
    exact Reach.refl _ _
  | cons x l ih =>
    rw [State.msgsSent]
    exact Reach.trans (Reach.step (Reach.refl _ _) (State.msgSent_reach ..) rfl) (ih ..)

theorem State.sayOn_reach (s : State) (p : Nat) (m : LineMsg) : Reach 0x1000000000000000 s (State.sayOn s p m) := by
  unfold State.sayOn
  exact Reach.step (Reach.refl _ _) (State.onLine_reach ..) rfl

theorem State.sendNotice_reach (s : State) (p : Nat) : Reach 0x1000000002000000 s (State.sendNotice s p) := by
  unfold State.sendNotice
  extract_lets s1
  have h_s1 : Reach 0x1000000002000000 s s1 := Reach.step (Reach.refl _ _) (State.growAges_reach ..) rfl
  clear_value s1
  exact Reach.step (Reach.step (h_s1) (State.onLine_reach ..) rfl) (State.sayOn_reach ..) rfl

theorem State.txSwap_reach (s : State) (p : Nat) : Reach 0x21000020200030000 s (State.txSwap s p) := by
  unfold State.txSwap
  exact Reach.ite (Reach.trans (Reach.step (Reach.step (Reach.step (Reach.trans (Reach.trans (Reach.refl _ _) (State.setBit_reach _ _ _ _ _ rfl)) (State.setBit_reach _ _ _ _ _ rfl)) (State.onLine_reach ..) rfl) (State.countFlows_reach ..) rfl) (State.updateCap_reach ..) rfl) (State.evt_reach _ _ _ rfl rfl)) (Reach.refl _ _)

theorem State.noticeDue_reach (s : State) (p : Nat) : Reach 0x1000000002000000 s (State.noticeDue s p) := by
  unfold State.noticeDue
  exact Reach.ite (Reach.refl _ _) (Reach.step (Reach.refl _ _) (State.sendNotice_reach ..) rfl)

theorem State.sendFrame_reach (s0 : State) (p w n : Nat) (slots : List (List Byte)) : Reach 0x3100000002108000 s0
    (State.sendFrame s0 p w n slots) := by
  unfold State.sendFrame
  extract_lets s stamp out ordered mute acks mgmt units s1
  clear_value stamp out ordered mute acks mgmt units
  have h_s : Reach 0x3100000002108000 s0 s := Reach.step (Reach.refl _ _) (State.noticeDue_reach ..) rfl
  clear_value s
  have h_s1 : Reach 0x3100000002108000 s0 s1 := Reach.step (Reach.step (h_s) (State.onLine_reach ..) rfl) (State.msgsSent_reach ..) rfl
  clear_value s1
  exact Reach.step (Reach.trans (h_s1) (State.set64_reach _ _ _ _ _ ((Fld.ok_ix ..).trans rfl) ((Fld.ok_ix ..).trans rfl))) (State.emit_reach ..) rfl

theorem State.countFrame_reach (s : State) (p n : Nat) : Reach 0x1000000000000000 s (State.countFrame s p n) := by
  unfold State.countFrame
  exact Reach.step (Reach.refl _ _) (State.onLine_reach ..) rfl

theorem State.sendCopy_reach (s : State) (p n : Nat) (slots : List (List Byte)) : Reach 0x3100000002108000 s
    (State.sendCopy s p n slots) := by
  unfold State.sendCopy
  extract_lets m
  clear_value m
  exact Reach.step (Reach.step (Reach.refl _ _) (State.sendFrame_reach ..) rfl) (State.countFrame_reach ..) rfl

theorem State.transmit_reach (s : State) (p : Nat) : Reach 0x2710042b20ab78400 s (State.transmit s p) := by
  unfold State.transmit
  extract_lets s1 x n s2
  clear_value n
  have h_s1 : Reach 0x2710042b20ab78400 s s1 := Reach.step (Reach.refl _ _) (State.txSwap_reach ..) rfl
  clear_value s1
  have h_s2 : Reach 0x2710042b20ab78400 s s2 := Reach.step (Reach.step (h_s1) (State.fillSlots_reach ..) rfl) (State.sendFrame_reach ..) rfl
  clear_value s2
  exact Reach.step (Reach.ite (Reach.step (h_s2) (State.sendCopy_reach ..) rfl) (h_s2)) (State.countFrame_reach ..) rfl

theorem State.transmitCopy_reach (s : State) (p : Nat) : Reach 0x2710042b20ab78400 s (State.transmitCopy s p) := by
  unfold State.transmitCopy
  extract_lets w s1 x n s2
  clear_value w n
  have h_s1 : Reach 0x2710042b20ab78400 s s1 := Reach.step (Reach.refl _ _) (State.txSwap_reach ..) rfl
  clear_value s1
  have h_s2 : Reach 0x2710042b20ab78400 s s2 := Reach.step (Reach.step (h_s1) (State.fillSlots_reach ..) rfl) (State.sendCopy_reach ..) rfl
  clear_value s2
  exact Reach.ite (Reach.step (h_s2) (State.countFrame_reach ..) rfl) (h_s2)

theorem State.runDefects_reach (s : State) (p : Nat) : Reach 0x8000 s (State.runDefects s p) := by
  unfold State.runDefects
  extract_lets l hold
  clear_value l
  exact Reach.ite (Reach.set (Reach.ite (Reach.set (Reach.refl _ _) _ _ ((Fld.ok_ix ..).trans rfl)) (Reach.ite (Reach.set (Reach.refl _ _) _ _ ((Fld.ok_ix ..).trans rfl)) (Reach.refl _ _))) _ _ ((Fld.ok_ix ..).trans rfl)) (Reach.ite (Reach.set (Reach.ite (Reach.set (Reach.refl _ _) _ _ ((Fld.ok_ix ..).trans rfl)) (Reach.ite (Reach.set (Reach.refl _ _) _ _ ((Fld.ok_ix ..).trans rfl)) (Reach.refl _ _))) _ _ ((Fld.ok_ix ..).trans rfl)) (Reach.ite (Reach.set (Reach.refl _ _) _ _ ((Fld.ok_ix ..).trans rfl)) (Reach.ite (Reach.set (Reach.refl _ _) _ _ ((Fld.ok_ix ..).trans rfl)) (Reach.refl _ _))))

theorem State.hear_reach (s : State) (p stamp : Nat) (h : FrameHead) (ok : Bool) : Reach 0x1000000000008000 s
    (State.hear s p stamp h ok) := by
  unfold State.hear
  extract_lets mgmt ack good bad take __src
  clear_value mgmt ack good bad take __src
  exact Reach.trans (Reach.with_lhl (Reach.refl _ _) _ rfl) (State.bump_reach _ _ _ _ ((Fld.ok_ix ..).trans rfl))

theorem State.takeHead_reach (s : State) (p : Nat) (h : FrameHead) : Reach 0x1000420208808000 s
    (State.takeHead s p h) := by
  unfold State.takeHead
  extract_lets l jump match_ s1 s2 s3 s4
  clear_value l jump match_
  have h_s1 : Reach 0x1000420208808000 s s1 := Reach.ite (Reach.trans (Reach.refl _ _) (State.bump_reach _ _ _ _ ((Fld.ok_ix ..).trans rfl))) (Reach.refl _ _)
  clear_value s1
  have h_s2 : Reach 0x1000420208808000 s s2 := Reach.trans (Reach.trans (h_s1) (State.setAll_reach _ _ _ (okAll.cons ((Fld.ok_ix ..).trans rfl) (okAll.cons ((Fld.ok_ix ..).trans rfl) okAll.nil)))) (State.set64_reach _ _ _ _ _ ((Fld.ok_ix ..).trans rfl) ((Fld.ok_ix ..).trans rfl))
  clear_value s2
  have h_s3 : Reach 0x1000420208808000 s s3 := Reach.step (h_s2) (State.onLine_reach ..) rfl
  clear_value s3
  have h_s4 : Reach 0x1000420208808000 s s4 := Reach.step (h_s3) (State.runDefects_reach ..) rfl
  clear_value s4
  exact Reach.ite (Reach.step (Reach.set (h_s4) _ _ ((Fld.ok_ix ..).trans rfl)) (State.settleGroup_reach ..) rfl) (h_s4)

theorem State.rxSwap_reach (s : State) (p page : Nat) : Reach 0x1000420208810000 s (State.rxSwap s p page) := by
  unfold State.rxSwap
  extract_lets ready s1
  clear_value ready
  have h_s1 : Reach 0x1000420208810000 s s1 := Reach.trans (Reach.step (Reach.step (Reach.trans (Reach.trans (Reach.refl _ _) (State.setBit_reach _ _ _ _ _ rfl)) (State.setBit_reach _ _ _ _ _ rfl)) (State.onLine_reach ..) rfl) (State.countFlows_reach ..) rfl) (State.evt_reach _ _ _ rfl rfl)
  clear_value s1
  exact Reach.ite (Reach.refl _ _) (Reach.ite (h_s1) (Reach.step (Reach.trans (h_s1) (State.evt_reach _ _ _ rfl rfl)) (State.raiseLine_reach ..) rfl))

theorem State.noteDelivered_reach (s : State) (p w fnum : Nat) : Reach 0x1000000000000000 s
    (State.noteDelivered s p w fnum) := by
  unfold State.noteDelivered
  extract_lets x
  clear_value x
  exact Reach.ite (Reach.step (Reach.refl _ _) (State.setGroup_reach ..) rfl) (Reach.refl _ _)

theorem State.deliverSlots_reach (s : State) (w : Nat) (x : RxFrame) : Reach 0x1000000000000000 s
    (State.deliverSlots s w x) := by
  unfold State.deliverSlots
  extract_lets page rx
  clear_value page rx
  exact Reach.step (Reach.refl _ _) (State.onLine_reach ..) rfl

theorem State.countMiss_reach (s : State) (p : Nat) (good : Bool) : Reach 0x1000420208808000 s
    (State.countMiss s p good) := by
  unfold State.countMiss
  extract_lets misses
  clear_value misses
  exact Reach.ite (Reach.step (Reach.trans (Reach.set (Reach.step (Reach.refl _ _) (State.dropAlign_reach ..) rfl) _ _ ((Fld.ok_ix ..).trans rfl)) (State.bump_reach _ _ _ _ ((Fld.ok_ix ..).trans rfl))) (State.lineDefects_reach ..) rfl) (Reach.step (Reach.set (Reach.refl _ _) _ _ ((Fld.ok_ix ..).trans rfl)) (State.lineDefects_reach ..) rfl)

theorem State.receive_reach (s : State) (p : Nat) (x : RxFrame) (skew : Nat) : Reach 0x342842020a81c100 s
    (State.receive s p x skew) := by
  unfold State.receive
  extract_lets h fnum s1 w page t ok s2 s3 s4
  clear_value h fnum w page ok
  have h_s1 : Reach 0x342842020a81c100 s s1 := Reach.set (Reach.step (Reach.refl _ _) (State.onLine_reach ..) rfl) _ _ ((Fld.ok_ix ..).trans rfl)
  clear_value s1
  have h_t : Reach 0x342842020a81c100 s t := Reach.step (Reach.step (h_s1) (State.takeHead_reach ..) rfl) (State.seeEpoch_reach ..) rfl
  clear_value t
  have h_s2 : Reach 0x342842020a81c100 s s2 := Reach.ite (Reach.step (Reach.step (h_t) (State.onLine_reach ..) rfl) (State.hear_reach ..) rfl) (Reach.step (h_s1) (State.onLine_reach ..) rfl)
  clear_value s2
  have h_s3 : Reach 0x342842020a81c100 s s3 := Reach.ite (h_s2) (Reach.step (h_s2) (State.onLine_reach ..) rfl)
  clear_value s3
  have h_s4 : Reach 0x342842020a81c100 s s4 := by
    unfold s4
    split
    · exact h_s3
    · extract_lets t_1 u
      have h_t_1 : Reach 0x342842020a81c100 s t_1 := Reach.step (h_s3) (State.rxSwap_reach ..) rfl
      clear_value t_1
      have h_u : Reach 0x342842020a81c100 s u := Reach.step (h_t_1) (State.noteDelivered_reach ..) rfl
      clear_value u
      exact Reach.ite (Reach.ite (Reach.step (h_u) (State.deliverSlots_reach ..) rfl) (h_u)) (h_t_1)
  clear_value s4
  exact Reach.step (h_s4) (State.countMiss_reach ..) rfl

end Sys2Proof.Machine
end

