-- ==== Sys2Proof/Laws/ReachLineCmd.lean ====
section
/-! SUPPORT. What each operation and each command of Machine/LineCmd.lean reaches. -/

namespace Sys2Proof.Machine

theorem execFrameTransmit_reach (port : Nat) (s : State) : ∃ t, execFrameTransmit port s = .next t ∧ Reach
    0x2710042b20ab78400 s t := by
  refine ⟨_, rfl, ?_⟩
  exact Reach.ite (Reach.ite (Reach.step (Reach.refl _ _) (State.transmit_reach ..) rfl) (Reach.ite (Reach.refl _ _) (Reach.step (Reach.refl _ _) (State.transmitCopy_reach ..) rfl))) (Reach.refl _ _)

theorem execFrameReceive_reach (port : Nat) (lanes : List (List Nat)) (skew : Nat) (s : State) : ∃ t,
    execFrameReceive port lanes skew s = .next t ∧ Reach 0x342842020a81c100 s t := by
  refine ⟨_, rfl, ?_⟩
  exact Reach.ite (Reach.step (Reach.refl _ _) (State.receive_reach ..) rfl) (Reach.refl _ _)

theorem execAlignmentSighting_reach (port pos : Nat) (markers : List Nat) (skew : Nat) (s : State) : ∃ t,
    execAlignmentSighting port pos markers skew s = .next t ∧ Reach 0x1000420208808000 s t := by
  refine ⟨_, rfl, ?_⟩
  extract_lets st tol s1 usable l expected
  clear_value st tol usable l expected
  have h_s1 : Reach 0x1000420208808000 s s1 := Reach.trans (Reach.refl _ _) (State.put_reach _ _ _ _ ((Fld.ok_ix ..).trans rfl))
  clear_value s1
  exact Reach.ite (Reach.ite (h_s1) (Reach.ite (Reach.step (Reach.trans (h_s1) (State.bump_reach _ _ _ _ ((Fld.ok_ix ..).trans rfl))) (State.raiseLine_reach ..) rfl) (Reach.step (Reach.step (h_s1) (State.setCands_reach ..) rfl) (State.setFramer_reach ..) rfl))) (Reach.refl _ _)

theorem execCandidateCheck_reach (port pos : Nat) (lanes : List (List Nat)) (s : State) : ∃ t, execCandidateCheck
    port pos lanes s = .next t ∧ Reach 0x1000420208808000 s t := by
  refine ⟨_, rfl, ?_⟩
  extract_lets l here x n s1 rest s1x6
  clear_value l here x n rest
  have h_s1 : Reach 0x1000420208808000 s s1 := Reach.step (Reach.step (Reach.refl _ _) (State.setCands_reach ..) rfl) (State.setFramer_reach ..) rfl
  clear_value s1
  have h_s1x6 : Reach 0x1000420208808000 s s1x6 := Reach.step (Reach.refl _ _) (State.setCands_reach ..) rfl
  clear_value s1x6
  refine Reach.ite (Reach.refl _ _) (?_)
  split
  · exact Reach.refl _ _
  · exact Reach.ite (Reach.ite (Reach.step (Reach.step (Reach.trans (h_s1) (State.setAll_reach _ _ _ (okAll.cons ((Fld.ok_ix ..).trans rfl) (okAll.cons ((Fld.ok_ix ..).trans rfl) okAll.nil)))) (State.onLine_reach ..) rfl) (State.lineDefects_reach ..) rfl) (Reach.step (Reach.refl _ _) (State.setCands_reach ..) rfl)) (Reach.ite (Reach.step (h_s1x6) (State.setFramer_reach ..) rfl) (h_s1x6))

theorem execPreFecWindow_reach (port : Nat) (s : State) : ∃ t, execPreFecWindow port s = .next t ∧ Reach
    0x1000420208808000 s t := by
  refine ⟨_, rfl, ?_⟩
  extract_lets l exc deg m x s1 s2 s3
  clear_value l exc deg m x
  have h_s1 : Reach 0x1000420208808000 s s1 := Reach.step (Reach.refl _ _) (State.setLine_reach ..) rfl
  clear_value s1
  have h_s2 : Reach 0x1000420208808000 s s2 := Reach.ite (Reach.set (h_s1) _ _ ((Fld.ok_ix ..).trans rfl)) (Reach.ite (Reach.set (h_s1) _ _ ((Fld.ok_ix ..).trans rfl)) (h_s1))
  clear_value s2
  have h_s3 : Reach 0x1000420208808000 s s3 := Reach.ite (Reach.set (h_s2) _ _ ((Fld.ok_ix ..).trans rfl)) (Reach.ite (Reach.set (h_s2) _ _ ((Fld.ok_ix ..).trans rfl)) (h_s2))
  clear_value s3
  exact Reach.ite (Reach.step (Reach.step (h_s3) (State.runDefects_reach ..) rfl) (State.lineDefects_reach ..) rfl) (Reach.refl _ _)

theorem execRehunt_reach (port : Nat) (s : State) : ∃ t, execRehunt port s = .next t ∧ Reach 0x1000420208808001 s t
    := by
  refine ⟨_, rfl, ?_⟩
  refine Reach.trans (Reach.refl _ _) (State.hostWrite_reach _ _ _ _ _ _ (?_) rfl)
  intro t
  exact Reach.ite (Reach.refl _ _) (Reach.step (Reach.refl _ _) (State.dropAlign_reach ..) rfl)

theorem execSwapArm_reach (port : Nat) (s : State) : ∃ t, execSwapArm port s = .next t ∧ Reach 0x1000420208810001 s
    t := by
  refine ⟨_, rfl, ?_⟩
  refine Reach.trans (Reach.refl _ _) (State.hostWrite_reach _ _ _ _ _ _ (?_) rfl)
  intro t
  extract_lets t1 n
  clear_value n
  have h_t1 : Reach 0x1000420208810001 t t1 := Reach.trans (Reach.refl _ _) (State.evtEndAll_reach _ _ _ (okFlds.cons rfl (okFlds.cons rfl (okFlds.cons rfl (okFlds.cons rfl okFlds.nil)))) rfl)
  clear_value t1
  exact Reach.ite (Reach.step (Reach.trans (h_t1) (State.evt_reach _ _ _ rfl rfl)) (State.raiseLine_reach ..) rfl) (Reach.trans (Reach.step (h_t1) (State.onLine_reach ..) rfl) (State.setBit_reach _ _ _ _ _ rfl))

theorem execSwapCancel_reach (port : Nat) (s : State) : ∃ t, execSwapCancel port s = .next t ∧ Reach
    0x1000420208810001 s t := by
  refine ⟨_, rfl, ?_⟩
  refine Reach.trans (Reach.refl _ _) (State.hostWrite_reach _ _ _ _ _ _ (?_) rfl)
  intro t
  split
  · exact Reach.refl _ _
  · exact Reach.ite (Reach.trans (Reach.step (Reach.refl _ _) (State.onLine_reach ..) rfl) (State.setBit_reach _ _ _ _ _ rfl)) (Reach.refl _ _)

theorem execRxReady_reach (port : Nat) (s : State) : ∃ t, execRxReady port s = .next t ∧ Reach 0x420208810001 s t :=
    by
  refine ⟨_, rfl, ?_⟩
  refine Reach.trans (Reach.refl _ _) (State.hostWrite_reach _ _ _ _ _ _ (?_) rfl)
  intro t
  exact Reach.trans (Reach.refl _ _) (State.setBit_reach _ _ _ _ _ rfl)

theorem execTsiWindowWrite_reach (receive : Bool) (port slot entry : Nat) (s : State) : ∃ t, execTsiWindowWrite
    receive port slot entry s = .next t ∧ Reach 0x1000420208800001 s t := by
  refine ⟨_, rfl, ?_⟩
  refine Reach.trans (Reach.refl _ _) (State.hostWrite_reach _ _ _ _ _ _ (?_) rfl)
  intro t
  extract_lets dir k __src
  clear_value dir k __src
  exact Reach.with_lhl (Reach.refl _ _) _ rfl

theorem State.loadPages_reach (s : State) (p txPage rxPage : Nat) (body : List Byte) : Reach 0x21000020200030000 s
    (State.loadPages s p txPage rxPage body) := by
  unfold State.loadPages
  extract_lets put pages __src
  clear_value put pages __src
  exact Reach.step (Reach.step (Reach.trans (Reach.with_lhl (Reach.refl _ _) _ rfl) (State.setBit_reach _ _ _ _ _ rfl)) (State.countFlows_reach ..) rfl) (State.updateCap_reach ..) rfl

theorem execHoldOffEnd_reach (port : Nat) (degrade : Bool) (s : State) : ∃ t, execHoldOffEnd port degrade s = .next
    t ∧ Reach 0x1000420208808000 s t := by
  refine ⟨_, rfl, ?_⟩
  exact Reach.ite (Reach.step (Reach.refl _ _) (State.askGroup_reach ..) rfl) (Reach.refl _ _)

theorem execWtrExpiry_reach (group : Nat) (s : State) : ∃ t, execWtrExpiry group s = .next t ∧ Reach
    0x1000420208808000 s t := by
  refine ⟨_, rfl, ?_⟩
  extract_lets __src
  clear_value __src
  exact Reach.ite (Reach.step (Reach.set (Reach.step (Reach.refl _ _) (State.setGroup_reach ..) rfl) _ _ ((Fld.ok_ix ..).trans rfl)) (State.settleGroup_reach ..) rfl) (Reach.refl _ _)

theorem execLhlPgCmd_reach (group cmd : Nat) (s : State) : ∃ t, execLhlPgCmd group cmd s = .next t ∧ Reach
    0x1000c20208808001 s t := by
  refine ⟨_, rfl, ?_⟩
  refine Reach.trans (Reach.refl _ _) (State.hostWrite_reach _ _ _ _ _ _ (?_) rfl)
  intro t
  exact Reach.step (Reach.step (Reach.set (Reach.refl _ _) _ _ ((Fld.ok_ix ..).trans rfl)) (State.settleGroup_reach ..) rfl) (State.coveredWrite_reach ..) rfl

theorem execProtectionSwitch_reach (group us : Nat) (s : State) : ∃ t, execProtectionSwitch group us s = .next t ∧
    Reach 0x420208808000 s t := by
  refine ⟨_, rfl, ?_⟩
  extract_lets cur forced want s1 s2
  clear_value cur forced want
  have h_s1 : Reach 0x420208808000 s s1 := Reach.trans (Reach.refl _ _) (State.setAll_reach _ _ _ (okAll.cons ((Fld.ok_ix ..).trans rfl) (okAll.cons ((Fld.ok_ix ..).trans rfl) (okAll.cons ((Fld.ok_ix ..).trans rfl) okAll.nil))))
  clear_value s1
  have h_s2 : Reach 0x420208808000 s s2 := Reach.step (Reach.trans (Reach.trans (h_s1) (State.bump_reach _ _ _ _ ((Fld.ok_ix ..).trans rfl))) (State.evt_reach _ _ _ rfl rfl)) (State.raiseLine_reach ..) rfl
  clear_value s2
  exact Reach.ite (Reach.refl _ _) (Reach.step (h_s2) (State.groupDown_reach ..) rfl)

theorem execLhlCntClr_reach (port : Nat) (s : State) : ∃ t, execLhlCntClr port s = .next t ∧ Reach 0x420208808001 s
    t := by
  refine ⟨_, rfl, ?_⟩
  refine Reach.trans (Reach.refl _ _) (State.hostWrite_reach _ _ _ _ _ _ (?_) rfl)
  intro t
  extract_lets t1
  have h_t1 : Reach 0x420208808001 t t1 := Reach.trans (Reach.refl _ _) (State.clearAll_reach _ _ _ (okFlds.cons ((Fld.ok_ix ..).trans rfl) (okFlds.cons ((Fld.ok_ix ..).trans rfl) (okFlds.cons ((Fld.ok_ix ..).trans rfl) (okFlds.cons ((Fld.ok_ix ..).trans rfl) (okFlds.cons ((Fld.ok_ix ..).trans rfl) (okFlds.cons ((Fld.ok_ix ..).trans rfl) (okFlds.cons ((Fld.ok_ix ..).trans rfl) okFlds.nil))))))))
  clear_value t1
  exact Reach.ite (Reach.trans (h_t1) (State.evtEndAll_reach _ _ _ (okFlds.cons rfl (okFlds.cons rfl okFlds.nil)) rfl)) (h_t1)

theorem State.latchPort_reach (s : State) (p : Nat) : Reach 0x1000000000008000 s (State.latchPort s p) := by
  unfold State.latchPort
  extract_lets l es ses fe count s1 s2
  clear_value l es ses fe
  have h_s1 : Reach 0x1000000000008000 s s1 := Reach.trans (Reach.trans (Reach.refl _ _) (State.set64_reach _ _ _ _ _ ((Fld.ok_ix ..).trans rfl) ((Fld.ok_ix ..).trans rfl))) (State.setAll_reach _ _ _ (okAll.cons ((Fld.ok_ix ..).trans rfl) (okAll.cons ((Fld.ok_ix ..).trans rfl) (okAll.cons ((Fld.ok_ix ..).trans rfl) (okAll.cons ((Fld.ok_ix ..).trans rfl) (okAll.cons ((Fld.ok_ix ..).trans rfl) (okAll.cons ((Fld.ok_ix ..).trans rfl) okAll.nil)))))))
  clear_value s1
  have h_s2 : Reach 0x1000000000008000 s s2 := Reach.ite (Reach.trans (Reach.ite (Reach.trans (Reach.ite (Reach.trans (h_s1) (State.bump_reach _ _ _ _ ((Fld.ok_ix ..).trans rfl))) (h_s1)) (State.bump_reach _ _ _ _ ((Fld.ok_ix ..).trans rfl))) (Reach.ite (Reach.trans (h_s1) (State.bump_reach _ _ _ _ ((Fld.ok_ix ..).trans rfl))) (h_s1))) (State.bump_reach _ _ _ _ ((Fld.ok_ix ..).trans rfl))) (Reach.ite (Reach.trans (Reach.ite (Reach.trans (h_s1) (State.bump_reach _ _ _ _ ((Fld.ok_ix ..).trans rfl))) (h_s1)) (State.bump_reach _ _ _ _ ((Fld.ok_ix ..).trans rfl))) (Reach.ite (Reach.trans (h_s1) (State.bump_reach _ _ _ _ ((Fld.ok_ix ..).trans rfl))) (h_s1)))
  clear_value s2
  exact Reach.step (h_s2) (State.onLine_reach ..) rfl

theorem State.secondBoundary_reach (s : State) : Reach 0x1201020200008000 s (State.secondBoundary s) := by
  unfold State.secondBoundary
  extract_lets __src __srcx1 __srcx2 s1 s2
  clear_value __src __srcx1 __srcx2
  have h_s1 : Reach 0x1201020200008000 s s1 := Reach.with_flt_qrn_fab (Reach.refl _ _) _ _ _ rfl
  clear_value s1
  have h_s2 : Reach 0x1201020200008000 s s2 := Reach.trans (h_s1) (State.put_reach _ _ _ _ rfl)
  clear_value s2
  exact Reach.ite (Reach.trans (Reach.set (Reach.set (Reach.step (Reach.step (Reach.step (Reach.step (h_s2) (State.latchPort_reach ..) rfl) (State.latchPort_reach ..) rfl) (State.latchPort_reach ..) rfl) (State.latchPort_reach ..) rfl) _ _ rfl) _ _ rfl) (State.evt_reach _ _ _ rfl rfl)) (h_s2)

end Sys2Proof.Machine
end

