-- ==== Sys2Proof/Laws/ReachMove.lean ====
section
/-! SUPPORT. What each operation and each command of Machine/Move.lean reaches. -/

namespace Sys2Proof.Machine

theorem State.copyRows_reach (s : State) (src dst sp dp len : Nat) (n : Nat) : Reach 0x400000b000040000 s
    (State.copyRows s src dst sp dp len n) := by
  induction n generalizing s src dst sp dp len with
  | zero =>
    rw [State.copyRows]
    exact Reach.refl _ _
  | succ n ih =>
    rw [State.copyRows]
    exact Reach.trans (Reach.step (Reach.refl _ _) (State.deposit_reach ..) rfl) (ih ..)

theorem State.putRows_reach (s : State) (dst dp : Nat) (l : List (List (Byte × Bool))) : Reach 0x400000b000040000 s
    (State.putRows s dst dp l) := by
  induction l generalizing s dst dp with
  | nil =>
    rw [State.putRows]
    exact Reach.refl _ _
  | cons x l ih =>
    rw [State.putRows]
    exact Reach.trans (Reach.step (Reach.refl _ _) (State.deposit_reach ..) rfl) (ih ..)

theorem State.moveBytes_reach (s : State) (e : QEntry) : Reach 0x400000b000040000 s (State.moveBytes s e) := by
  unfold State.moveBytes
  split
  · exact Reach.step (Reach.refl _ _) (State.deposit_reach ..) rfl
  · exact Reach.step (Reach.refl _ _) (State.copyRows_reach ..) rfl
  · extract_lets rows
    clear_value rows
    exact Reach.step (Reach.refl _ _) (State.putRows_reach ..) rfl
  · exact Reach.step (Reach.refl _ _) (State.deposit_reach ..) rfl

theorem State.keepOwned_reach (s old : State) (l : List (Nat × Nat)) : Reach 0x400000b000040000 s
    (State.keepOwned s old l) := by
  induction l generalizing s old with
  | nil =>
    rw [State.keepOwned]
    exact Reach.refl _ _
  | cons x l ih =>
    rw [State.keepOwned]
    refine Reach.trans (Reach.foldl (Reach.refl _ _) (?_)) (ih ..)
    intro u x_1
    exact Reach.step (Reach.refl _ _) (State.deposit_reach ..) rfl

theorem State.runMove_reach (s : State) (r k : Nat) (e : QEntry) (errors : List ReadError) : Reach
    0x400242b208840610 s (State.runMove s r k e errors) := by
  unfold State.runMove
  extract_lets s1 x t s2
  have h_s1 : Reach 0x400242b208840610 s s1 := Reach.step (Reach.refl _ _) (State.readErrors_reach ..) rfl
  clear_value s1
  have h_t : Reach 0x400242b208840610 s t := Reach.step (Reach.step (h_s1) (State.rangeFaults_reach ..) rfl) (State.fly_reach ..) rfl
  clear_value t
  have h_s2 : Reach 0x400242b208840610 s s2 := Reach.step (Reach.step (h_t) (State.moveBytes_reach ..) rfl) (State.keepOwned_reach ..) rfl
  clear_value s2
  exact Reach.trans (h_s2) (State.add64_reach _ _ _ _ _ ((Fld.ok_reg ..).trans rfl) ((Fld.ok_reg ..).trans rfl))

theorem State.issueMove_reach (s : State) (r op : Nat) (errors : List ReadError) : Reach 0x400242b208840618 s
    (State.issueMove s r op errors) := by
  unfold State.issueMove
  refine Reach.trans (Reach.refl _ _) (State.issueIn_reach _ _ _ _ _ _ (?_) rfl)
  intro e t
  split
  · exact Reach.step (Reach.refl _ _) (State.runMove_reach ..) rfl
  · exact Reach.refl _ _

theorem execMoveLinear_reach (region : Nat) (errors : List ReadError) (s : State) : ∃ t, execMoveLinear region
    errors s = .next t ∧ Reach 0x400242b208840618 s t := by
  refine ⟨_, rfl, ?_⟩
  exact Reach.step (Reach.refl _ _) (State.issueMove_reach ..) rfl

theorem execMoveTwoDimensional_reach (region : Nat) (errors : List ReadError) (s : State) : ∃ t,
    execMoveTwoDimensional region errors s = .next t ∧ Reach 0x400242b208840618 s t := by
  refine ⟨_, rfl, ?_⟩
  exact Reach.step (Reach.refl _ _) (State.issueMove_reach ..) rfl

theorem execMoveTranspose_reach (region : Nat) (errors : List ReadError) (s : State) : ∃ t, execMoveTranspose region
    errors s = .next t ∧ Reach 0x400242b208840618 s t := by
  refine ⟨_, rfl, ?_⟩
  exact Reach.step (Reach.refl _ _) (State.issueMove_reach ..) rfl

theorem execMoveZeroFill_reach (region : Nat) (s : State) : ∃ t, execMoveZeroFill region s = .next t ∧ Reach
    0x400242b208840618 s t := by
  refine ⟨_, rfl, ?_⟩
  exact Reach.step (Reach.refl _ _) (State.issueMove_reach ..) rfl

end Sys2Proof.Machine
end

