-- ==== Sys2Proof/Laws/ReachMill.lean ====
section
/-! SUPPORT. What each operation and each command of Machine/Mill.lean reaches. -/

namespace Sys2Proof.Machine

theorem State.failItem_reach (s : State) (item : Nat) : Reach 0x2000000000000 s (State.failItem s item) := by
  unfold State.failItem
  extract_lets __src
  clear_value __src
  exact Reach.with_sched (Reach.refl _ _) _ rfl

theorem State.handOne_reach (s : State) (r : FlowRec) (q : SegReq) : Reach 0x2e002420208ae0600 s
    (State.handOne s r q).1 := by
  unfold State.handOne
  split
  · dsimp only
    exact Reach.refl _ _
  · split
    · dsimp only
      exact Reach.step (Reach.refl _ _) (State.keyAbsent_reach ..) rfl
    · dsimp only
      exact Reach.step (Reach.refl _ _) (State.keyExhausted_reach ..) rfl
    · dsimp only
      exact Reach.refl _ _
    · extract_lets f x n __src __srcx4 t
      clear_value n __srcx4
      have h___src : Reach 0x2e002420208ae0600 s __src := Reach.step (Reach.step (Reach.refl _ _) (State.rangeFaults_reach ..) rfl) (State.makeSeg_reach ..) rfl
      clear_value __src
      have h_t : Reach 0x2e002420208ae0600 s t := Reach.with_mlr (h___src) _ rfl
      clear_value t
      split
      · dsimp only
        exact Reach.step (Reach.step (Reach.refl _ _) (State.rangeFaults_reach ..) rfl) (State.failItem_reach ..) rfl
      · split
        · dsimp only
          exact Reach.set (Reach.refl _ _) _ _ rfl
        · dsimp only
          exact Reach.step (h_t) (State.admitSeg_reach ..) rfl

theorem State.handCtl_reach (s : State) (r : FlowRec) (q : SegReq) : Reach 0x2e002420208ae0600 s
    (State.handCtl s r q).1 := by
  unfold State.handCtl
  extract_lets step x __src
  clear_value step __src
  split
  · split
    · exact Reach.step (Reach.step (Reach.step (Reach.refl _ _) (State.handOne_reach ..) rfl) (State.setTxFlow_reach ..) rfl) (State.handOne_reach ..) rfl
    · exact Reach.step (Reach.refl _ _) (State.handOne_reach ..) rfl
  · exact Reach.step (Reach.refl _ _) (State.handOne_reach ..) rfl

theorem State.payOwed_reach (s : State) (r : FlowRec) (n : Nat) : Reach 0x2e002420208ae0600 s (State.payOwed s r n)
    := by
  induction n generalizing s r with
  | zero =>
    rw [State.payOwed]
    exact Reach.refl _ _
  | succ n ih =>
    rw [State.payOwed]
    split
    · exact Reach.refl _ _
    · extract_lets x __src
      clear_value __src
      exact Reach.ite (Reach.trans (Reach.step (Reach.step (Reach.refl _ _) (State.handCtl_reach ..) rfl) (State.setTxFlow_reach ..) rfl) (ih ..)) (Reach.step (Reach.refl _ _) (State.handCtl_reach ..) rfl)

theorem State.settleOwed_reach (s : State) (f : Nat) : Reach 0x2e002420208ae0600 s (State.settleOwed s f) := by
  unfold State.settleOwed
  split
  · exact Reach.refl _ _
  · exact Reach.ite (Reach.step (Reach.refl _ _) (State.payOwed_reach ..) rfl) (Reach.refl _ _)

theorem State.owe_reach (s : State) (f : Nat) (l : List SegReq) : Reach 0x2e002420208ae0600 s (State.owe s f l) := by
  unfold State.owe
  extract_lets __src
  clear_value __src
  exact Reach.step (Reach.step (Reach.refl _ _) (State.setTxFlow_reach ..) rfl) (State.settleOwed_reach ..) rfl

theorem State.handoff_reach (s : State) (q : SegReq) : Reach 0x2e002420208ae0600 s (State.handoff s q) := by
  unfold State.handoff
  split
  · exact Reach.refl _ _
  · extract_lets t
    have h_t : Reach 0x2e002420208ae0600 s t := Reach.step (Reach.refl _ _) (State.settleOwed_reach ..) rfl
    clear_value t
    exact Reach.ite (Reach.refl _ _) (Reach.ite (Reach.step (h_t) (State.handCtl_reach ..) rfl) (h_t))

theorem State.takeHeard_reach (s : State) (p : Heard → Bool) (x : Heard × State) (h : s.takeHeard p = some x) :
    Reach 0x1000000000000000 s x.2 := by
  unfold State.takeHeard at h
  split at h
  · exact nomatch h
  · cases h
    exact Reach.with_lhl (Reach.refl _ _) _ rfl

theorem State.heardFrom_reach (s : State) (site : Nat) : Reach 0x2000000 s (State.heardFrom s site) := by
  unfold State.heardFrom
  exact Reach.trans (Reach.refl _ _) (State.setBit_reach _ _ _ _ _ rfl)

theorem State.failFlow_reach (s : State) (x : Seg) : Reach 0x2420208820000 s (State.failFlow s x) := by
  unfold State.failFlow
  extract_lets f
  clear_value f
  exact Reach.step (Reach.step (Reach.step (Reach.trans (Reach.step (Reach.refl _ _) (State.setFlowState_reach ..) rfl) (State.evt_reach _ _ _ rfl rfl)) (State.firstMlr_reach ..) rfl) (State.raise_reach ..) rfl) (State.failItem_reach ..) rfl

theorem State.sendAgain_reach (s : State) (x : Seg) : Reach 0x20002420208a20000 s (State.sendAgain s x) := by
  unfold State.sendAgain
  extract_lets limit
  clear_value limit
  exact Reach.ite (Reach.refl _ _) (Reach.ite (Reach.step (Reach.refl _ _) (State.failFlow_reach ..) rfl) (Reach.step (Reach.refl _ _) (State.resend_reach ..) rfl))

theorem State.sendAllAgain_reach (s : State) (l : List Seg) : Reach 0x20002420208a20000 s (State.sendAllAgain s l)
    := by
  induction l generalizing s with
  | nil =>
    rw [State.sendAllAgain]
    exact Reach.refl _ _
  | cons x l ih =>
    rw [State.sendAllAgain]
    exact Reach.trans (Reach.step (Reach.refl _ _) (State.sendAgain_reach ..) rfl) (ih ..)

theorem State.settleVoids_reach (s : State) (f : Nat) : Reach 0x2e002420208ae0600 s (State.settleVoids s f) := by
  unfold State.settleVoids
  extract_lets x done
  clear_value x done
  exact Reach.step (Reach.step (Reach.step (Reach.refl _ _) (State.setTxFlow_reach ..) rfl) (State.owe_reach ..) rfl) (State.settleLost_reach ..) rfl

theorem State.releaseSources_reach (s : State) : Reach 0x2000000000000000 s (State.releaseSources s) := by
  unfold State.releaseSources
  extract_lets open_ __src
  clear_value open_ __src
  exact Reach.with_mlr (Reach.refl _ _) _ rfl

theorem State.ackTake_reach (s0 : State) (f cum : Nat) (map : List Nat) : Reach 0x2e002420208ae0600 s0
    (State.ackTake s0 f cum map) := by
  unfold State.ackTake
  extract_lets s x top acked covered gone s1 s2
  clear_value x top acked covered gone
  have h_s : Reach 0x2e002420208ae0600 s0 s := Reach.step (Reach.refl _ _) (State.releaseSources_reach ..) rfl
  clear_value s
  have h_s1 : Reach 0x2e002420208ae0600 s0 s1 := Reach.trans (Reach.step (h_s) (State.setTxFlow_reach ..) rfl) (State.set64_reach _ _ _ _ _ ((Fld.ok_ix ..).trans rfl) ((Fld.ok_ix ..).trans rfl))
  clear_value s1
  have h_s2 : Reach 0x2e002420208ae0600 s0 s2 := Reach.step (h_s1) (State.setRetain_reach ..) rfl
  clear_value s2
  exact Reach.step (Reach.step (Reach.ite (h_s2) (Reach.set (h_s2) _ _ rfl)) (State.settleVoids_reach ..) rfl) (State.settleOwed_reach ..) rfl

theorem State.takeAck_reach (s : State) (h : Heard) (withMap : Bool) : Reach 0x2e00242020aae0600 s
    (State.takeAck s h withMap) := by
  unfold State.takeAck
  extract_lets f cum map missing
  clear_value f cum map missing
  split
  · exact Reach.refl _ _
  · extract_lets s1
    have h_s1 : Reach 0x2e00242020aae0600 s s1 := Reach.step (Reach.step (Reach.refl _ _) (State.heardFrom_reach ..) rfl) (State.ackTake_reach ..) rfl
    clear_value s1
    exact Reach.ite (Reach.refl _ _) (Reach.ite (Reach.step (h_s1) (State.sendAllAgain_reach ..) rfl) (h_s1))

theorem execAck_reach (s : State) : ∃ t, execAck s = .next t ∧ Reach 0x2f00242020aae0600 s t := by
  refine ⟨_, rfl, ?_⟩
  split
  · rename_i x_i x_i1 heq_i
    have h_t : Reach 0x2f00242020aae0600 s (x_i1).2 := Reach.step (Reach.refl _ _) (State.takeHeard_reach _ _ _ heq_i) rfl
    clear heq_i
    exact Reach.step (h_t) (State.takeAck_reach ..) rfl
  · exact Reach.refl _ _

theorem execAckMap_reach (s : State) : ∃ t, execAckMap s = .next t ∧ Reach 0x2f00242020aae0600 s t := by
  refine ⟨_, rfl, ?_⟩
  split
  · rename_i x_i x_i1 heq_i
    have h_t : Reach 0x2f00242020aae0600 s (x_i1).2 := Reach.step (Reach.refl _ _) (State.takeHeard_reach _ _ _ heq_i) rfl
    clear heq_i
    exact Reach.step (h_t) (State.takeAck_reach ..) rfl
  · exact Reach.refl _ _

theorem State.takeSource_reach (s : State) (f seq : Nat) (x : SegReq × State) (h : s.takeSource f seq = some x) :
    Reach 0x2000000000060000 s x.2 := by
  unfold State.takeSource at h
  dsimp only at h
  split at h
  · cases h
    exact Reach.step (Reach.refl _ _) (State.setRetain_reach ..) rfl
  · obtain ⟨q, _, rfl⟩ := Option.map_eq_some_iff.mp h
    exact Reach.step (Reach.refl _ _) (State.setTxFlow_reach ..) rfl

theorem State.replaceRaw_reach (s : State) (f : Nat) (l : List Nat) : Reach 0x2e002420208ae0600 s
    (State.replaceRaw s f l) := by
  induction l generalizing s f with
  | nil =>
    rw [State.replaceRaw]
    exact Reach.refl _ _
  | cons x l ih =>
    rw [State.replaceRaw]
    split
    · rename_i x_i x_i1 heq_i
      have h_t : Reach 0x2e002420208ae0600 s (x_i1).2 := Reach.step (Reach.refl _ _) (State.takeSource_reach _ _ _ _ heq_i) rfl
      clear heq_i
      extract_lets __src
      clear_value __src
      exact Reach.trans (Reach.step (Reach.trans (h_t) (State.bump_reach _ _ _ _ ((Fld.ok_ix ..).trans rfl))) (State.owe_reach ..) rfl) (ih ..)
    · exact Reach.trans (Reach.refl _ _) (ih ..)

theorem execRawReq_reach (s : State) : ∃ t, execRawReq s = .next t ∧ Reach 0x2f002420208ae0600 s t := by
  refine ⟨_, rfl, ?_⟩
  split
  · rename_i x_i x_i1 heq_i
    have h_t : Reach 0x2f002420208ae0600 s (x_i1).2 := Reach.step (Reach.refl _ _) (State.takeHeard_reach _ _ _ heq_i) rfl
    clear heq_i
    extract_lets n
    clear_value n
    exact Reach.step (h_t) (State.replaceRaw_reach ..) rfl
  · exact Reach.refl _ _

theorem execVoidRange_reach (s : State) : ∃ t, execVoidRange s = .next t ∧ Reach 0x3000000000020000 s t := by
  refine ⟨_, rfl, ?_⟩
  split
  · rename_i x_i x_i1 heq_i
    have h_t : Reach 0x3000000000020000 s (x_i1).2 := Reach.step (Reach.refl _ _) (State.takeHeard_reach _ _ _ heq_i) rfl
    clear heq_i
    extract_lets f first
    clear_value f first
    refine Reach.ite (Reach.foldl (h_t) (?_)) (h_t)
    intro u x
    exact Reach.step (Reach.refl _ _) (State.markSeq_reach ..) rfl
  · exact Reach.refl _ _

theorem State.sayFlow_reach (s : State) (f dir : Nat) (m : LineMsg) : Reach 0x1000000000000000 s
    (State.sayFlow s f dir m) := by
  unfold State.sayFlow
  refine Reach.foldl (Reach.refl _ _) (?_)
  intro u x
  exact Reach.step (Reach.refl _ _) (State.sayOn_reach ..) rfl

theorem State.sendAck_reach (s : State) (f : Nat) : Reach 0x3000000000000000 s (State.sendAck s f) := by
  unfold State.sendAck
  extract_lets x s1
  clear_value x
  have h_s1 : Reach 0x3000000000000000 s s1 := by
    unfold s1
    refine Reach.foldl (Reach.refl _ _) (?_)
    intro u x_1
    exact Reach.step (Reach.refl _ _) (State.sayFlow_reach ..) rfl
  clear_value s1
  exact Reach.step (Reach.step (h_s1) (State.sayFlow_reach ..) rfl) (State.setRxFlow_reach ..) rfl

theorem execAckTimer_reach (flow : Nat) (s : State) : ∃ t, execAckTimer flow s = .next t ∧ Reach 0x3000000000000000
    s t := by
  refine ⟨_, rfl, ?_⟩
  exact Reach.ite (Reach.step (Reach.refl _ _) (State.sendAck_reach ..) rfl) (Reach.refl _ _)

theorem execRtoExpiry_reach (flow seq : Nat) (s : State) : ∃ t, execRtoExpiry flow seq s = .next t ∧ Reach
    0x20002420208a20000 s t := by
  refine ⟨_, rfl, ?_⟩
  split
  · exact Reach.ite (Reach.refl _ _) (Reach.step (Reach.refl _ _) (State.sendAgain_reach ..) rfl)
  · exact Reach.refl _ _

theorem execVoidRepeat_reach (flow : Nat) (s : State) : ∃ t, execVoidRepeat flow s = .next t ∧ Reach
    0x1000000000000000 s t := by
  refine ⟨_, rfl, ?_⟩
  refine Reach.ite (Reach.foldl (Reach.refl _ _) (?_)) (Reach.refl _ _)
  intro u x
  exact Reach.step (Reach.refl _ _) (State.sayFlow_reach ..) rfl

theorem execSegmentHandoff_reach (req : SegReq) (s : State) : ∃ t, execSegmentHandoff req s = .next t ∧ Reach
    0x2e002420208ae0600 s t := by
  refine ⟨_, rfl, ?_⟩
  split
  · exact Reach.refl _ _
  · exact Reach.ite (Reach.step (Reach.refl _ _) (State.handoff_reach ..) rfl) (Reach.refl _ _)

theorem execEchoTimer_reach (port : Nat) (s : State) : ∃ t, execEchoTimer port s = .next t ∧ Reach
    0x3000000000020000 s t := by
  refine ⟨_, rfl, ?_⟩
  extract_lets limit l live __src
  clear_value limit l live __src
  exact Reach.ite (Reach.refl _ _) (Reach.step (Reach.trans (Reach.with_mlr (Reach.refl _ _) _ rfl) (State.bump_reach _ _ _ _ ((Fld.ok_ix ..).trans rfl))) (State.sayOn_reach ..) rfl)

theorem execEchoRequest_reach (s : State) : ∃ t, execEchoRequest s = .next t ∧ Reach 0x1000000000000000 s t := by
  refine ⟨_, rfl, ?_⟩
  split
  · rename_i x_i x_i1 heq_i
    have h_t : Reach 0x1000000000000000 s (x_i1).2 := Reach.step (Reach.refl _ _) (State.takeHeard_reach _ _ _ heq_i) rfl
    clear heq_i
    exact Reach.ite (Reach.refl _ _) (Reach.step (h_t) (State.sayOn_reach ..) rfl)
  · exact Reach.refl _ _

theorem State.takeRtt_reach (s : State) (p m : Nat) : Reach 0x2000420208820000 s (State.takeRtt s p m) := by
  unfold State.takeRtt
  extract_lets srtt var step side old __src s1 __srcx7 s2 d
  clear_value srtt var step side old __src __srcx7 d
  have h_s1 : Reach 0x2000420208820000 s s1 := Reach.with_mlr (Reach.refl _ _) _ rfl
  clear_value s1
  have h_s2 : Reach 0x2000420208820000 s s2 := Reach.with_mlr (h_s1) _ rfl
  clear_value s2
  exact Reach.ite (Reach.step (Reach.step (Reach.trans (Reach.trans (Reach.trans (h_s2) (State.setAll_reach _ _ _ (okAll.cons ((Fld.ok_ix ..).trans rfl) (okAll.cons ((Fld.ok_ix ..).trans rfl) okAll.nil)))) (State.bump_reach _ _ _ _ ((Fld.ok_ix ..).trans rfl))) (State.evt_reach _ _ _ rfl rfl)) (State.firstMlr_reach ..) rfl) (State.raise_reach ..) rfl) (Reach.trans (h_s1) (State.setAll_reach _ _ _ (okAll.cons ((Fld.ok_ix ..).trans rfl) (okAll.cons ((Fld.ok_ix ..).trans rfl) okAll.nil))))

theorem execEchoReply_reach (s : State) : ∃ t, execEchoReply s = .next t ∧ Reach 0x2300042020a820000 s t := by
  refine ⟨_, rfl, ?_⟩
  split
  · exact Reach.refl _ _
  · rename_i x_i x_i1 heq_i
    have h_t : Reach 0x2300042020a820000 s (x_i1).2 := Reach.step (Reach.refl _ _) (State.takeHeard_reach _ _ _ heq_i) rfl
    clear heq_i
    extract_lets p t1 l __src __srcx4 s1 m
    clear_value p t1 l __srcx4 m
    have h___src : Reach 0x2300042020a820000 s __src := h_t
    clear_value __src
    have h_s1 : Reach 0x2300042020a820000 s s1 := Reach.with_mlr (h___src) _ rfl
    clear_value s1
    exact Reach.ite (Reach.step (Reach.step (Reach.step (h_s1) (State.takeRtt_reach ..) rfl) (State.heardFrom_reach ..) rfl) (State.updateCap_reach ..) rfl) (h_t)

theorem execMlrFlowCntClr_reach (flow : Nat) (s : State) : ∃ t, execMlrFlowCntClr flow s = .next t ∧ Reach
    0x420208820001 s t := by
  refine ⟨_, rfl, ?_⟩
  refine Reach.trans (Reach.refl _ _) (State.hostWrite_reach _ _ _ _ _ _ (?_) rfl)
  intro t
  extract_lets t1
  have h_t1 : Reach 0x420208820001 t t1 := Reach.trans (Reach.refl _ _) (State.clearAll_reach _ _ _ (okFlds.cons ((Fld.ok_ix ..).trans rfl) (okFlds.cons ((Fld.ok_ix ..).trans rfl) (okFlds.cons ((Fld.ok_ix ..).trans rfl) (okFlds.cons ((Fld.ok_ix ..).trans rfl) (okFlds.cons ((Fld.ok_ix ..).trans rfl) okFlds.nil))))))
  clear_value t1
  exact Reach.ite (Reach.trans (Reach.trans (h_t1) (State.clearAll_reach _ _ _ (okFlds.cons rfl (okFlds.cons rfl okFlds.nil)))) (State.evtEndAll_reach _ _ _ (okFlds.cons rfl (okFlds.cons rfl (okFlds.cons rfl (okFlds.cons rfl okFlds.nil)))) rfl)) (h_t1)

end Sys2Proof.Machine
end

