-- ==== Sys2Proof/Laws/ReachPartition.lean ====
section
/-! SUPPORT. What each operation and each command of Machine/Partition.lean reaches. -/

namespace Sys2Proof.Machine

theorem State.scanStream_reach (s : State) (port flow : Nat) (bs : List Byte) : Reach 0x1000000000020000 s
    (State.scanStream s port flow bs) := by
  unfold State.scanStream
  extract_lets lost t
  clear_value lost
  have h_t : Reach 0x1000000000020000 s t := Reach.step (Reach.refl _ _) (State.onLine_reach ..) rfl
  clear_value t
  exact Reach.ite (h_t) (Reach.trans (h_t) (State.bump_reach _ _ _ _ ((Fld.ok_ix ..).trans rfl)))

theorem execSegmentReceive_reach (port flow : Nat) (place : SegPlace) (s : State) : ∃ t, execSegmentReceive port
    flow place s = .next t ∧ Reach 0xfbaa42b2088e7e08 s t := by
  refine ⟨_, rfl, ?_⟩
  split
  · exact Reach.refl _ _
  · extract_lets put x bs n s1 s2
    clear_value x bs n
    have h_s1 : Reach 0xfbaa42b2088e7e08 s s1 := Reach.step (Reach.step (Reach.refl _ _) (State.onLine_reach ..) rfl) (State.onLine_reach ..) rfl
    clear_value s1
    have h_s2 : Reach 0xfbaa42b2088e7e08 s s2 := Reach.step (h_s1) (State.takeSeg_reach ..) rfl
    clear_value s2
    refine Reach.ite (Reach.refl _ _) (Reach.ite (Reach.step (Reach.step (Reach.refl _ _) (State.zeroPlace_reach ..) rfl) (State.giveAll_reach ..) rfl) (Reach.ite (Reach.step (Reach.refl _ _) (State.onLine_reach ..) rfl) (Reach.ite (Reach.step (Reach.refl _ _) (State.scanStream_reach ..) rfl) (Reach.ite (Reach.step (Reach.refl _ _) (State.onLine_reach ..) rfl) (?_)))))
    split
    · exact Reach.trans (h_s1) (State.bump_reach _ _ _ _ ((Fld.ok_ix ..).trans rfl))
    · exact Reach.step (Reach.ite (Reach.step (h_s2) (State.sendAck_reach ..) rfl) (h_s2)) (State.giveAll_reach ..) rfl

theorem execStepCtl_reach (s : State) : ∃ t, execStepCtl s = .next t ∧ Reach 0x6faa42b208867f08 s t := by
  refine ⟨_, rfl, ?_⟩
  split
  · exact Reach.refl _ _
  · extract_lets __src s1 site __srcx3
    clear_value __src site __srcx3
    have h_s1 : Reach 0x6faa42b208867f08 s s1 := Reach.with_mlr (Reach.refl _ _) _ rfl
    clear_value s1
    exact Reach.ite (Reach.with_mbr (h_s1) _ rfl) (Reach.step (Reach.step (Reach.step (Reach.step (h_s1) (State.firstMlr_reach ..) rfl) (State.raise_reach ..) rfl) (State.abandonStep_reach ..) rfl) (State.giveAll_reach ..) rfl)

theorem State.startPin_reach (s : State) : Reach 0x20000002000000 s (State.startPin s) := by
  unfold State.startPin
  extract_lets __src
  clear_value __src
  exact Reach.ite (Reach.refl _ _) (Reach.trans (Reach.with_mbr (Reach.refl _ _) _ rfl) (State.set64_reach _ _ _ _ _ rfl rfl))

theorem State.losePeers_reach (s : State) (side : Nat) : Reach 0x22000000000260000 s (State.losePeers s side) := by
  unfold State.losePeers
  extract_lets gone
  clear_value gone
  refine Reach.foldl (Reach.refl _ _) (?_)
  intro u x
  exact Reach.ite (Reach.step (Reach.refl _ _) (State.losePeer_reach ..) rfl) (Reach.refl _ _)

theorem State.becomeHeld_reach (s : State) : Reach 0x2428000000004100 s (State.becomeHeld s) := by
  unfold State.becomeHeld
  extract_lets st
  clear_value st
  exact Reach.ite (Reach.refl _ _) (Reach.step (Reach.step (Reach.refl _ _) (State.abandonStep_reach ..) rfl) (State.setStep_reach ..) rfl)

theorem State.restartExchange_reach (s : State) : Reach 0x2028000000000000 s (State.restartExchange s) := by
  unfold State.restartExchange
  extract_lets __src __srcx1 __srcx2
  clear_value __src __srcx1 __srcx2
  exact Reach.with_step_mbr_mlr (Reach.refl _ _) _ _ _ rfl

theorem State.declare_reach (s : State) : Reach 0x2242842020aa64100 s (State.declare s) := by
  unfold State.declare
  extract_lets side maj st __src s0 s1 s2
  clear_value side maj st __src
  have h_s0 : Reach 0x2242842020aa64100 s s0 := Reach.ite (Reach.with_mbr (Reach.refl _ _) _ rfl) (Reach.refl _ _)
  clear_value s0
  have h_s1 : Reach 0x2242842020aa64100 s s1 := Reach.step (Reach.trans (Reach.trans (h_s0) (State.setAll_reach _ _ _ (okAll.cons rfl (okAll.cons rfl (okAll.cons rfl okAll.nil))))) (State.evt_reach _ _ _ rfl rfl)) (State.raise_reach ..) rfl
  clear_value s1
  have h_s2 : Reach 0x2242842020aa64100 s s2 := Reach.step (Reach.step (h_s1) (State.losePeers_reach ..) rfl) (State.startPin_reach ..) rfl
  clear_value s2
  exact Reach.step (Reach.ite (Reach.step (h_s2) (State.becomeHeld_reach ..) rfl) (Reach.ite (Reach.step (h_s2) (State.restartExchange_reach ..) rfl) (h_s2))) (State.holdGrants_reach ..) rfl

theorem State.releasePin_reach (s : State) : Reach 0x20000002000400 s (State.releasePin s) := by
  unfold State.releasePin
  extract_lets __src
  clear_value __src
  exact Reach.trans (Reach.trans (Reach.with_mbr (Reach.refl _ _) _ rfl) (State.setAll_reach _ _ _ (okAll.cons rfl (okAll.cons rfl (okAll.cons rfl (okAll.cons rfl (okAll.cons rfl (okAll.cons rfl okAll.nil)))))))) (State.setBit_reach _ _ _ _ _ rfl)

theorem State.takeCommitSet_reach (s : State) : Reach 0x20000002000400 s (State.takeCommitSet s) := by
  unfold State.takeCommitSet
  extract_lets st mask s1 __src
  clear_value st mask __src
  have h_s1 : Reach 0x20000002000400 s s1 := Reach.set (Reach.refl _ _) _ _ rfl
  clear_value s1
  exact Reach.ite (Reach.set (Reach.refl _ _) _ _ rfl) (Reach.ite (Reach.step (Reach.trans (Reach.with_mbr (h_s1) _ rfl) (State.setAll_reach _ _ _ (okAll.cons rfl (okAll.cons rfl okAll.nil)))) (State.releasePin_reach ..) rfl) (h_s1))

theorem State.installEpoch_reach (s : State) (e : Nat) : Reach 0x6faac2b20a847f09 s (State.installEpoch s e) := by
  unfold State.installEpoch
  extract_lets s0 words __src __srcx3 s1 s2 s3
  clear_value __srcx3
  have h_s0 : Reach 0x6faac2b20a847f09 s s0 := Reach.trans (Reach.refl _ _) (State.evtEndAll_reach _ _ _ (okFlds.cons rfl (okFlds.cons rfl (okFlds.cons rfl (okFlds.cons rfl (okFlds.cons rfl okFlds.nil))))) rfl)
  clear_value s0
  have h___src : Reach 0x6faac2b20a847f09 s __src := Reach.step (h_s0) (State.coveredWrite_reach ..) rfl
  clear_value __src
  have h_s1 : Reach 0x6faac2b20a847f09 s s1 := Reach.with_mbr (h___src) _ rfl
  clear_value s1
  have h_s2 : Reach 0x6faac2b20a847f09 s s2 := Reach.step (Reach.trans (h_s1) (State.setAll_reach _ _ _ (okAll.cons rfl (okAll.cons rfl okAll.nil)))) (State.journal_reach ..) rfl
  clear_value s2
  have h_s3 : Reach 0x6faac2b20a847f09 s s3 := Reach.ite (Reach.step (Reach.set (h_s2) _ _ rfl) (State.holdGrants_reach ..) rfl) (h_s2)
  clear_value s3
  exact Reach.ite (Reach.ite (Reach.step (Reach.ite (Reach.step (h_s3) (State.takeCommitSet_reach ..) rfl) (h_s3)) (State.giveAll_reach ..) rfl) (Reach.step (h_s2) (State.fence_reach ..) rfl)) (Reach.step (Reach.trans (h_s0) (State.evt_reach _ _ _ rfl rfl)) (State.raise_reach ..) rfl)

theorem execMbrEpoch_reach (epoch : Nat) (s : State) : ∃ t, execMbrEpoch epoch s = .next t ∧ Reach
    0x6faac2b20a847f09 s t := by
  refine ⟨_, rfl, ?_⟩
  refine Reach.trans (Reach.refl _ _) (State.hostWrite_reach _ _ _ _ _ _ (?_) rfl)
  intro t
  exact Reach.step (Reach.refl _ _) (State.installEpoch_reach ..) rfl

theorem State.takeReach_reach (s : State) (i : Nat) (l : List (Nat × Nat)) : Reach 0x20000002000000 s
    (State.takeReach s i l) := by
  induction l generalizing s i with
  | nil =>
    rw [State.takeReach]
    exact Reach.refl _ _
  | cons x l ih =>
    rw [State.takeReach]
    extract_lets __src
    clear_value __src
    exact Reach.trans (Reach.ite (Reach.refl _ _) (Reach.trans (Reach.with_mbr (Reach.refl _ _) _ rfl) (State.setAll_reach _ _ _ (okAll.cons ((Fld.ok_ix ..).trans rfl) (okAll.cons ((Fld.ok_ix ..).trans rfl) okAll.nil))))) (ih ..)

theorem State.beginMerge_reach (s : State) : Reach 0x4faa42b208847f08 s (State.beginMerge s) := by
  unfold State.beginMerge
  extract_lets far low all __src s1 __srcx5 __srcx6
  clear_value far low all __src __srcx5 __srcx6
  have h_s1 : Reach 0x4faa42b208847f08 s s1 := Reach.with_mbr (Reach.refl _ _) _ rfl
  clear_value s1
  exact Reach.ite (Reach.ite (Reach.step (Reach.step (Reach.with_step_mbr (h_s1) _ _ rfl) (State.setStep_reach ..) rfl) (State.giveAll_reach ..) rfl) (h_s1)) (Reach.refl _ _)

theorem execRejoin_reach (s : State) : ∃ t, execRejoin s = .next t ∧ Reach 0x4faa42b20a867f08 s t := by
  refine ⟨_, rfl, ?_⟩
  extract_lets __src
  clear_value __src
  exact Reach.ite (Reach.step (Reach.step (Reach.set (Reach.with_mbr (Reach.refl _ _) _ rfl) _ _ rfl) (State.regainPeers_reach ..) rfl) (State.beginMerge_reach ..) rfl) (Reach.refl _ _)

theorem execMembershipNotice_reach (namesAbsent : Bool) (s : State) : ∃ t, execMembershipNotice namesAbsent s =
    .next t ∧ Reach 0x7faa42b20a847f08 s t := by
  refine ⟨_, rfl, ?_⟩
  split
  · exact Reach.refl _ _
  · rename_i x_i x_i1 heq_i
    have h_t : Reach 0x7faa42b20a847f08 s (x_i1).2 := Reach.step (Reach.refl _ _) (State.takeHeard_reach _ _ _ heq_i) rfl
    clear heq_i
    extract_lets b s1 site i __src
    clear_value b site i __src
    have h_s1 : Reach 0x7faa42b20a847f08 s s1 := Reach.step (h_t) (State.seeEpoch_reach ..) rfl
    clear_value s1
    exact Reach.ite (Reach.step (h_s1) (State.fence_reach ..) rfl) (Reach.step (Reach.step (Reach.with_mbr (h_s1) _ rfl) (State.takeReach_reach ..) rfl) (State.beginMerge_reach ..) rfl)

theorem execNoticeTimer_reach (port : Nat) (s : State) : ∃ t, execNoticeTimer port s = .next t ∧ Reach
    0x1000000002000000 s t := by
  refine ⟨_, rfl, ?_⟩
  exact Reach.step (Reach.refl _ _) (State.sendNotice_reach ..) rfl

theorem execNoticeEntryExpiry_reach (site : Nat) (s : State) : ∃ t, execNoticeEntryExpiry site s = .next t ∧ Reach
    0x2000000 s t := by
  refine ⟨_, rfl, ?_⟩
  exact Reach.trans (Reach.refl _ _) (State.setAll_reach _ _ _ (okAll.cons ((Fld.ok_ix ..).trans rfl) (okAll.cons ((Fld.ok_ix ..).trans rfl) okAll.nil)))

theorem execReachTimeout_reach (site : Nat) (s : State) : ∃ t, execReachTimeout site s = .next t ∧ Reach 0x2000000 s
    t := by
  refine ⟨_, rfl, ?_⟩
  exact Reach.ite (Reach.refl _ _) (Reach.trans (Reach.refl _ _) (State.setBit_reach _ _ _ _ _ rfl))

theorem execPartition_reach (site : Nat) (s : State) : ∃ t, execPartition site s = .next t ∧ Reach
    0x2242842020aa64100 s t := by
  refine ⟨_, rfl, ?_⟩
  exact Reach.ite (Reach.step (Reach.refl _ _) (State.declare_reach ..) rfl) (Reach.refl _ _)

theorem execPinComplete_reach (s : State) : ∃ t, execPinComplete s = .next t ∧ Reach 0x402040b00a040500 s t := by
  refine ⟨_, rfl, ?_⟩
  split
  · exact Reach.refl _ _
  · extract_lets __src s1
    clear_value __src
    have h_s1 : Reach 0x402040b00a040500 s s1 := Reach.step (Reach.with_mbr (Reach.refl _ _) _ rfl) (State.copyPin_reach ..) rfl
    clear_value s1
    exact Reach.step (Reach.trans (Reach.trans (Reach.trans (h_s1) (State.set64_reach _ _ _ _ _ rfl rfl)) (State.setAll_reach _ _ _ (okAll.cons rfl (okAll.cons rfl (okAll.cons rfl okAll.nil))))) (State.setBit_reach _ _ _ _ _ rfl)) (State.journal_reach ..) rfl

theorem execPinFetch_reach (epoch mask : Nat) (s : State) : ∃ t, execPinFetch epoch mask s = .next t ∧ Reach
    0x42020a800400 s t := by
  refine ⟨_, rfl, ?_⟩
  exact Reach.step (Reach.step (Reach.trans (Reach.trans (Reach.trans (Reach.refl _ _) (State.set64_reach _ _ _ _ _ rfl rfl)) (State.setAll_reach _ _ _ (okAll.cons rfl (okAll.cons rfl okAll.nil)))) (State.setBit_reach _ _ _ _ _ rfl)) (State.journal_reach ..) rfl) (State.raise_reach ..) rfl

theorem execMergeClose_reach (s : State) : ∃ t, execMergeClose s = .next t ∧ Reach 0x420000002004100 s t := by
  refine ⟨_, rfl, ?_⟩
  extract_lets s1 __src
  clear_value __src
  have h_s1 : Reach 0x420000002004100 s s1 := Reach.ite (Reach.step (Reach.refl _ _) (State.addTokens_reach ..) rfl) (Reach.refl _ _)
  clear_value s1
  exact Reach.ite (Reach.step (Reach.step (Reach.with_mbr (h_s1) _ rfl) (State.setStep_reach ..) rfl) (State.holdGrants_reach ..) rfl) (Reach.refl _ _)

theorem execMerge_reach (s : State) : ∃ t, execMerge s = .next t ∧ Reach 0x100 s t := by
  refine ⟨_, rfl, ?_⟩
  extract_lets sides w
  clear_value sides w
  exact Reach.ite (Reach.trans (Reach.refl _ _) (State.setAll_reach _ _ _ (okAll.map fun _ => (Fld.ok_ix ..).trans rfl))) (Reach.refl _ _)

theorem execMergeCommit_reach (s : State) : ∃ t, execMergeCommit s = .next t ∧ Reach 0x4faa42b20a847f08 s t := by
  refine ⟨_, rfl, ?_⟩
  extract_lets sides union own s1 far s2 whole s3 s4 __src
  clear_value sides union own far whole __src
  have h_s1 : Reach 0x4faa42b20a847f08 s s1 := Reach.step (Reach.refl _ _) (State.commitAs_reach ..) rfl
  clear_value s1
  have h_s2 : Reach 0x4faa42b20a847f08 s s2 := Reach.trans (h_s1) (State.setAll_reach _ _ _ (okAll.map fun _ => (Fld.ok_ix ..).trans rfl))
  clear_value s2
  have h_s3 : Reach 0x4faa42b20a847f08 s s3 := Reach.trans (h_s2) (State.setAll_reach _ _ _ (okAll.cons rfl (okAll.cons rfl (okAll.cons rfl okAll.nil))))
  clear_value s3
  have h_s4 : Reach 0x4faa42b20a847f08 s s4 := Reach.ite (Reach.step (h_s3) (State.releasePin_reach ..) rfl) (h_s3)
  clear_value s4
  exact Reach.ite (Reach.step (Reach.step (Reach.step (Reach.step (Reach.trans (Reach.with_mbr (h_s4) _ rfl) (State.evt_reach _ _ _ rfl rfl)) (State.raise_reach ..) rfl) (State.holdGrants_reach ..) rfl) (State.releaseAll_reach ..) rfl) (State.giveAll_reach ..) rfl) (Reach.refl _ _)

theorem execMbrAdmit_reach (site : Nat) (fromRemote : Bool) (s : State) : ∃ t, execMbrAdmit site fromRemote s =
    .next t ∧ Reach 0x42042020a804101 s t := by
  refine ⟨_, rfl, ?_⟩
  refine Reach.trans (Reach.refl _ _) (State.hostWrite_reach _ _ _ _ _ _ (?_) rfl)
  intro t
  extract_lets t1 __src
  clear_value __src
  have h_t1 : Reach 0x42042020a804101 t t1 := Reach.trans (Reach.refl _ _) (State.setAll_reach _ _ _ (okAll.cons rfl (okAll.cons rfl okAll.nil)))
  clear_value t1
  exact Reach.step (Reach.with_mbr (h_t1) _ rfl) (State.setStep_reach ..) rfl

theorem State.admitAtBoundary_reach (s : State) : Reach 0x428420208804100 s (State.admitAtBoundary s) := by
  unfold State.admitAtBoundary
  extract_lets __src __srcx1 done
  clear_value __src __srcx1
  have h_done : Reach 0x428420208804100 s done := Reach.with_step_mbr (Reach.refl _ _) _ _ rfl
  clear_value done
  refine Reach.ite (Reach.refl _ _) (?_)
  split
  · exact Reach.refl _ _
  · extract_lets ok
    clear_value ok
    exact Reach.ite (Reach.step (Reach.step (Reach.set (Reach.step (h_done) (State.setOuterEpoch_reach ..) rfl) _ _ rfl) (State.setStep_reach ..) rfl) (State.journal_reach ..) rfl) (Reach.step (Reach.step (h_done) (State.setStep_reach ..) rfl) (State.raise_reach ..) rfl)

end Sys2Proof.Machine
end

