-- ==== Sys2Proof/Laws/ReachSluiceCmd.lean ====
section
/-! SUPPORT. What each operation and each command of Machine/SluiceCmd.lean reaches. -/

namespace Sys2Proof.Machine

theorem State.fillMeter_reach (s : State) (f : Nat) : Reach 0x20000000000000000 s (State.fillMeter s f) := by
  unfold State.fillMeter
  extract_lets up tc tp __src
  clear_value up tc tp __src
  exact Reach.with_slu (Reach.refl _ _) _ rfl

theorem State.fillShaper_reach (s : State) (p q : Nat) : Reach 0x20000000000200000 s (State.fillShaper s p q) := by
  unfold State.fillShaper
  extract_lets c hi lo clamp
  clear_value c hi lo clamp
  exact Reach.ite (Reach.refl _ _) (Reach.ite (Reach.step (Reach.refl _ _) (State.setCredit_reach ..) rfl) (Reach.ite (Reach.refl _ _) (Reach.ite (Reach.step (Reach.refl _ _) (State.setCredit_reach ..) rfl) (Reach.step (Reach.refl _ _) (State.setCredit_reach ..) rfl))))

theorem State.fillCap_reach (s : State) : Reach 0x20000000000000000 s (State.fillCap s) := by
  unfold State.fillCap
  extract_lets full up __src
  clear_value full up __src
  exact Reach.with_slu (Reach.refl _ _) _ rfl

theorem State.refillFlow_reach (s : State) (f : Nat) : Reach 0x20000000000200000 s (State.refillFlow s f) := by
  unfold State.refillFlow
  extract_lets t
  have h_t : Reach 0x20000000000200000 s t := Reach.step (Reach.refl _ _) (State.admitHeld_reach ..) rfl
  clear_value t
  exact Reach.ite (h_t) (Reach.trans (h_t) (State.bump_reach _ _ _ _ ((Fld.ok_ix ..).trans rfl)))

theorem State.refillFlows_reach (s : State) (l : List Nat) : Reach 0x20000000000200000 s (State.refillFlows s l) := by
  induction l generalizing s with
  | nil =>
    rw [State.refillFlows]
    exact Reach.refl _ _
  | cons x l ih =>
    rw [State.refillFlows]
    exact Reach.trans (Reach.step (Reach.refl _ _) (State.refillFlow_reach ..) rfl) (ih ..)

theorem execRefill_reach (s : State) : ∃ t, execRefill s = .next t ∧ Reach 0x20000000000200000 s t := by
  refine ⟨_, rfl, ?_⟩
  extract_lets s1 s2 __src s3 s4 s5
  clear_value __src
  have h_s1 : Reach 0x20000000000200000 s s1 := by
    unfold s1
    refine Reach.foldl (Reach.refl _ _) (?_)
    intro u x
    exact Reach.step (Reach.refl _ _) (State.fillMeter_reach ..) rfl
  clear_value s1
  have h_s2 : Reach 0x20000000000200000 s s2 := by
    unfold s2
    refine Reach.foldl (h_s1) (?_)
    intro u x
    exact Reach.step (Reach.refl _ _) (State.fillShaper_reach ..) rfl
  clear_value s2
  have h_s3 : Reach 0x20000000000200000 s s3 := Reach.step (Reach.with_slu (h_s2) _ rfl) (State.fillCap_reach ..) rfl
  clear_value s3
  have h_s4 : Reach 0x20000000000200000 s s4 := Reach.step (h_s3) (State.refillFlows_reach ..) rfl
  clear_value s4
  have h_s5 : Reach 0x20000000000200000 s s5 := Reach.ite (Reach.trans (h_s4) (State.bump_reach _ _ _ _ rfl)) (h_s4)
  clear_value s5
  exact Reach.ite (Reach.refl _ _) (Reach.ite (Reach.trans (h_s5) (State.bump_reach _ _ _ _ rfl)) (h_s5))

theorem State.installGate_reach (s : State) (p e : Nat) (g : GateList) : Reach 0x20000000000200000 s
    (State.installGate s p e g) := by
  unfold State.installGate
  extract_lets __src s1
  clear_value __src
  have h_s1 : Reach 0x20000000000200000 s s1 := Reach.with_slu (Reach.refl _ _) _ rfl
  clear_value s1
  exact Reach.step (Reach.trans (Reach.trans (h_s1) (State.setBit_reach _ _ _ _ _ rfl)) (State.setBit_reach _ _ _ _ _ rfl)) (State.showGate_reach ..) rfl

theorem State.armGate_reach (s : State) (p : Nat) (g : GateList) : Reach 0x20000000000200000 s (State.armGate s p g)
    := by
  unfold State.armGate
  extract_lets __src
  clear_value __src
  exact Reach.trans (Reach.with_slu (Reach.refl _ _) _ rfl) (State.setBit_reach _ _ _ _ _ rfl)

theorem execGateEntryChange_reach (port : Nat) (s : State) : ∃ t, execGateEntryChange port s = .next t ∧ Reach
    0x200000 s t := by
  refine ⟨_, rfl, ?_⟩
  split
  · exact Reach.refl _ _
  · exact Reach.step (Reach.refl _ _) (State.showGate_reach ..) rfl

theorem execGateListSwitch_reach (port : Nat) (s : State) : ∃ t, execGateListSwitch port s = .next t ∧ Reach
    0x20000020200200000 s t := by
  refine ⟨_, rfl, ?_⟩
  split
  · exact Reach.refl _ _
  · exact Reach.trans (Reach.step (Reach.refl _ _) (State.installGate_reach ..) rfl) (State.evt_reach _ _ _ rfl rfl)

theorem execGateArm_reach (port : Nat) (s : State) : ∃ t, execGateArm port s = .next t ∧ Reach 0x20000420208a00001 s
    t := by
  refine ⟨_, rfl, ?_⟩
  refine Reach.trans (Reach.refl _ _) (State.hostWrite_reach _ _ _ _ _ _ (?_) rfl)
  intro t
  extract_lets t_1 g loc
  clear_value g loc
  have h_t_1 : Reach 0x20000420208a00001 t t_1 := Reach.trans (Reach.refl _ _) (State.evtEndAll_reach _ _ _ (okFlds.cons rfl (okFlds.cons rfl okFlds.nil)) rfl)
  clear_value t_1
  exact Reach.ite (Reach.step (h_t_1) (State.armGate_reach ..) rfl) (Reach.step (Reach.trans (h_t_1) (State.evt_reach _ _ _ rfl rfl)) (State.raise_reach ..) rfl)

theorem execGateCancel_reach (port : Nat) (s : State) : ∃ t, execGateCancel port s = .next t ∧ Reach
    0x20000420208a00001 s t := by
  refine ⟨_, rfl, ?_⟩
  refine Reach.trans (Reach.refl _ _) (State.hostWrite_reach _ _ _ _ _ _ (?_) rfl)
  intro t
  extract_lets __src
  clear_value __src
  exact Reach.trans (Reach.with_slu (Reach.refl _ _) _ rfl) (State.setBit_reach _ _ _ _ _ rfl)

theorem State.sampleQueue_reach (s : State) (p q : Nat) : Reach 0x200000 s (State.sampleQueue s p q) := by
  unfold State.sampleQueue
  extract_lets l age
  clear_value l age
  exact Reach.trans (Reach.trans (Reach.refl _ _) (State.bump_reach _ _ _ _ ((Fld.ok_ix ..).trans rfl))) (State.bump_reach _ _ _ _ ((Fld.ok_ix ..).trans rfl))

theorem execHistogramSample_reach (s : State) : ∃ t, execHistogramSample s = .next t ∧ Reach 0x200000 s t := by
  refine ⟨_, rfl, ?_⟩
  refine Reach.ite (Reach.foldl (Reach.refl _ _) (?_)) (Reach.refl _ _)
  intro u x
  exact Reach.step (Reach.refl _ _) (State.sampleQueue_reach ..) rfl

theorem execSluHistClr_reach (s : State) : ∃ t, execSluHistClr s = .next t ∧ Reach 0x420208a00001 s t := by
  refine ⟨_, rfl, State.hostWrite_reach _ _ _ _ _ _ (fun t => ?_) rfl⟩
  refine Reach.with_regs_filter (Reach.refl _ _) _ (fun k v hk => ?_) fun v => by
    show (!(F.FLT_STAT_FATAL.key % 2 ^ 30 == F.SLU_HDEPTH_SAMPLES.key ||
      F.FLT_STAT_FATAL.key % 2 ^ 30 == F.SLU_HDELAY_SAMPLES.key)) = true
    decide
  by_cases h1 : k % 2 ^ 30 = F.SLU_HDEPTH_SAMPLES.key
  · rw [keyBlock, h1] at hk
    exact absurd hk (by decide)
  · by_cases h2 : k % 2 ^ 30 = F.SLU_HDELAY_SAMPLES.key
    · rw [keyBlock, h2] at hk
      exact absurd hk (by decide)
    · show (!(k % 2 ^ 30 == F.SLU_HDEPTH_SAMPLES.key || k % 2 ^ 30 == F.SLU_HDELAY_SAMPLES.key)) = true
      rw [Bool.not_eq_true', Bool.or_eq_false_iff, beq_eq_false_iff_ne, beq_eq_false_iff_ne]
      exact ⟨h1, h2⟩

end Sys2Proof.Machine
end

