-- ==== Sys2Proof/Laws/ReachSpindle.lean ====
section
/-! SUPPORT. What each operation and each command of Machine/Spindle.lean reaches. -/

namespace Sys2Proof.Machine

theorem State.issueSpin_reach (s : State) (r code unit : Nat) (f : QEntry → State → SpinOut) : Reach 0xe42b208800118
    s (State.issueSpin s r code unit f) := by
  unfold State.issueSpin
  refine Reach.trans (Reach.refl _ _) (State.issueIn_reach _ _ _ _ _ _ (?_) rfl)
  intro e t
  extract_lets bad t1 x
  clear_value bad x
  have h_t1 : Reach 0xe42b208800118 t t1 := Reach.step (Reach.refl _ _) (State.fly_reach ..) rfl
  clear_value t1
  exact Reach.ite (Reach.step (Reach.step (Reach.step (h_t1) (State.storePoison_reach ..) rfl) (State.storePoison_reach ..) rfl) (State.matFail_reach ..) rfl) (Reach.step (Reach.step (Reach.with_red (h_t1) _ rfl) (State.store_reach ..) rfl) (State.store_reach ..) rfl)

theorem execSpinNop_reach (region : Nat) (s : State) : ∃ t, execSpinNop region s = .next t ∧ Reach 0xe42b208800118 s
    t := by
  refine ⟨_, rfl, ?_⟩
  exact Reach.step (Reach.refl _ _) (State.issueSpin_reach ..) rfl

theorem execMov_reach (region : Nat) (s : State) : ∃ t, execMov region s = .next t ∧ Reach 0xe42b208800118 s t := by
  refine ⟨_, rfl, ?_⟩
  exact Reach.step (Reach.refl _ _) (State.issueSpin_reach ..) rfl

theorem execScl_reach (region : Nat) (s : State) : ∃ t, execScl region s = .next t ∧ Reach 0xe42b208800118 s t := by
  refine ⟨_, rfl, ?_⟩
  exact Reach.step (Reach.refl _ _) (State.issueSpin_reach ..) rfl

theorem execFma_reach (region : Nat) (s : State) : ∃ t, execFma region s = .next t ∧ Reach 0xe42b208800118 s t := by
  refine ⟨_, rfl, ?_⟩
  exact Reach.step (Reach.refl _ _) (State.issueSpin_reach ..) rfl

theorem execAdd_reach (region : Nat) (s : State) : ∃ t, execAdd region s = .next t ∧ Reach 0xe42b208800118 s t := by
  refine ⟨_, rfl, ?_⟩
  exact Reach.step (Reach.refl _ _) (State.issueSpin_reach ..) rfl

theorem execMul_reach (region : Nat) (s : State) : ∃ t, execMul region s = .next t ∧ Reach 0xe42b208800118 s t := by
  refine ⟨_, rfl, ?_⟩
  exact Reach.step (Reach.refl _ _) (State.issueSpin_reach ..) rfl

theorem execFil_reach (region : Nat) (s : State) : ∃ t, execFil region s = .next t ∧ Reach 0xe42b208800118 s t := by
  refine ⟨_, rfl, ?_⟩
  exact Reach.step (Reach.refl _ _) (State.issueSpin_reach ..) rfl

theorem execSsq_reach (region : Nat) (s : State) : ∃ t, execSsq region s = .next t ∧ Reach 0xe42b208800118 s t := by
  refine ⟨_, rfl, ?_⟩
  exact Reach.step (Reach.refl _ _) (State.issueSpin_reach ..) rfl

theorem execAmax_reach (region : Nat) (s : State) : ∃ t, execAmax region s = .next t ∧ Reach 0xe42b208800118 s t := by
  refine ⟨_, rfl, ?_⟩
  exact Reach.step (Reach.refl _ _) (State.issueSpin_reach ..) rfl

theorem execFin_reach (region : Nat) (s : State) : ∃ t, execFin region s = .next t ∧ Reach 0xe42b208800118 s t := by
  refine ⟨_, rfl, ?_⟩
  exact Reach.step (Reach.refl _ _) (State.issueSpin_reach ..) rfl

theorem execQmx4_reach (region : Nat) (s : State) : ∃ t, execQmx4 region s = .next t ∧ Reach 0xe42b208800118 s t := by
  refine ⟨_, rfl, ?_⟩
  exact Reach.step (Reach.refl _ _) (State.issueSpin_reach ..) rfl

theorem execQmx8_reach (region : Nat) (s : State) : ∃ t, execQmx8 region s = .next t ∧ Reach 0xe42b208800118 s t := by
  refine ⟨_, rfl, ?_⟩
  exact Reach.step (Reach.refl _ _) (State.issueSpin_reach ..) rfl

theorem State.waitPartner_reach (s : State) : Reach 0x20200000100 s (State.waitPartner s) := by
  unfold State.waitPartner
  exact Reach.trans (Reach.set (Reach.refl _ _) _ _ rfl) (State.evt_reach _ _ _ rfl rfl)

theorem State.issueApply_reach (s : State) (r code tensor : Nat) (f : QEntry → State → SpinOut) : Reach
    0xe42b208800118 s (State.issueApply s r code tensor f) := by
  unfold State.issueApply
  extract_lets t __src
  clear_value __src
  have h_t : Reach 0xe42b208800118 s t := Reach.step (Reach.refl _ _) (State.issueSpin_reach ..) rfl
  clear_value t
  exact Reach.ite (Reach.step (Reach.refl _ _) (State.waitPartner_reach ..) rfl) (Reach.ite (Reach.refl _ _) (Reach.ite (h_t) (Reach.with_step (h_t) _ rfl)))

theorem execOavg_reach (region tensor : Nat) (s : State) : ∃ t, execOavg region tensor s = .next t ∧ Reach
    0xe42b208800118 s t := by
  refine ⟨_, rfl, ?_⟩
  exact Reach.step (Reach.refl _ _) (State.issueApply_reach ..) rfl

theorem execOmom_reach (region tensor : Nat) (s : State) : ∃ t, execOmom region tensor s = .next t ∧ Reach
    0xe42b208800118 s t := by
  refine ⟨_, rfl, ?_⟩
  exact Reach.step (Reach.refl _ _) (State.issueApply_reach ..) rfl

theorem execOnes_reach (region tensor : Nat) (s : State) : ∃ t, execOnes region tensor s = .next t ∧ Reach
    0xe42b208800118 s t := by
  refine ⟨_, rfl, ?_⟩
  exact Reach.step (Reach.refl _ _) (State.issueApply_reach ..) rfl

theorem execOdir_reach (region : Nat) (s : State) : ∃ t, execOdir region s = .next t ∧ Reach 0xe42b208800118 s t := by
  refine ⟨_, rfl, ?_⟩
  exact Reach.step (Reach.refl _ _) (State.issueSpin_reach ..) rfl

theorem execOqx_reach (region : Nat) (s : State) : ∃ t, execOqx region s = .next t ∧ Reach 0xe42b208800118 s t := by
  refine ⟨_, rfl, ?_⟩
  exact Reach.step (Reach.refl _ _) (State.issueSpin_reach ..) rfl

theorem execOapp_reach (region tensor : Nat) (s : State) : ∃ t, execOapp region tensor s = .next t ∧ Reach
    0xe42b208800118 s t := by
  refine ⟨_, rfl, ?_⟩
  exact Reach.step (Reach.refl _ _) (State.issueApply_reach ..) rfl

theorem execMdlt_reach (region : Nat) (s : State) : ∃ t, execMdlt region s = .next t ∧ Reach 0xe42b208800118 s t := by
  refine ⟨_, rfl, ?_⟩
  exact Reach.step (Reach.refl _ _) (State.issueSpin_reach ..) rfl

theorem execSpnOpcode_reach (region : Nat) (s : State) : ∃ t, execSpnOpcode region s = .next t ∧ Reach
    0x2420208800108 s t := by
  refine ⟨_, rfl, ?_⟩
  refine Reach.trans (Reach.refl _ _) (State.issueIn_reach _ _ _ _ _ _ (?_) rfl)
  intro e t
  exact Reach.step (Reach.step (Reach.step (Reach.refl _ _) (State.finish_reach ..) rfl) (State.firstUpd_reach ..) rfl) (State.raise_reach ..) rfl

theorem execSpinBatch_reach (region : Nat) (failed rerunFailed : Bool) (s : State) : ∃ t, execSpinBatch region
    failed rerunFailed s = .next t ∧ Reach 0xa420208800100 s t := by
  refine ⟨_, rfl, ?_⟩
  extract_lets loc
  clear_value loc
  split
  · exact Reach.refl _ _
  · extract_lets m it pr
    clear_value m it pr
    exact Reach.ite (Reach.step (Reach.step (Reach.step (Reach.trans (Reach.step (Reach.refl _ _) (State.firstUpd_reach ..) rfl) (State.evt_reach _ _ _ rfl rfl)) (State.raise_reach ..) rfl) (State.failFlight_reach ..) rfl) (State.matFail_reach ..) rfl) (Reach.ite (Reach.step (Reach.step (Reach.refl _ _) (State.firstUpd_reach ..) rfl) (State.raise_reach ..) rfl) (Reach.refl _ _))

end Sys2Proof.Machine
end

