-- ==== Sys2Proof/Laws/ReachLoader.lean ====
section
/-! SUPPORT. What each operation and each command of Machine/Loader.lean reaches. -/

namespace Sys2Proof.Machine

theorem State.showLoader_reach (s : State) (applying : Bool) : Reach 0x4 s (State.showLoader s applying) := by
  unfold State.showLoader
  extract_lets st
  clear_value st
  exact Reach.trans (Reach.set (Reach.refl _ _) _ _ rfl) (State.set64_reach _ _ _ _ _ rfl rfl)

theorem State.reject_reach (s : State) (reason sec : Nat) : Reach 0x20200000004 s (State.reject s reason sec) := by
  unfold State.reject
  exact Reach.trans (Reach.trans (Reach.refl _ _) (State.setAll_reach _ _ _ (okAll.cons rfl (okAll.cons rfl (okAll.cons rfl okAll.nil))))) (State.evt_reach _ _ _ rfl rfl)

theorem State.closeSlot_reach (s : State) (n : Nat) (expired : Bool) : Reach 0x1000b000000004 s
    (State.closeSlot s n expired) := by
  unfold State.closeSlot
  extract_lets __src s1
  clear_value __src
  have h_s1 : Reach 0x1000b000000004 s s1 := Reach.with_img (Reach.refl _ _) _ rfl
  clear_value s1
  exact Reach.set (Reach.trans (Reach.step (h_s1) (State.zeroLines_reach ..) rfl) (State.setBit_reach _ _ _ _ _ rfl)) _ _ ((Fld.ok_ix ..).trans rfl)

theorem State.openSlot_reach (s : State) (n : Nat) : Reach 0x1000b000000004 s (State.openSlot s n) := by
  unfold State.openSlot
  exact Reach.ite (Reach.refl _ _) (Reach.set (Reach.trans (Reach.step (Reach.refl _ _) (State.closeSlot_reach ..) rfl) (State.setBit_reach _ _ _ _ _ rfl)) _ _ ((Fld.ok_ix ..).trans rfl))

theorem execSlotOpen_reach (mask : Nat) (s : State) : ∃ t, execSlotOpen mask s = .next t ∧ Reach 0x1042b208800005 s
    t := by
  refine ⟨_, rfl, ?_⟩
  refine Reach.trans (Reach.refl _ _) (State.hostWrite_reach _ _ _ _ _ _ (?_) rfl)
  intro t
  refine Reach.foldl (Reach.refl _ _) (?_)
  intro u x
  exact Reach.step (Reach.refl _ _) (State.openSlot_reach ..) rfl

theorem execSlotClose_reach (mask : Nat) (s : State) : ∃ t, execSlotClose mask s = .next t ∧ Reach 0x1042b208800005
    s t := by
  refine ⟨_, rfl, ?_⟩
  refine Reach.trans (Reach.refl _ _) (State.hostWrite_reach _ _ _ _ _ _ (?_) rfl)
  intro t
  refine Reach.foldl (Reach.refl _ _) (?_)
  intro u x
  exact Reach.step (Reach.refl _ _) (State.closeSlot_reach ..) rfl

theorem State.expireLease_reach (s : State) (slot : Nat) : Reach 0x1042b20880000c s (State.expireLease s slot) := by
  unfold State.expireLease
  exact Reach.step (Reach.step (Reach.trans (Reach.step (Reach.refl _ _) (State.closeSlot_reach ..) rfl) (State.evt_reach _ _ _ rfl rfl)) (State.keepSeq_reach ..) rfl) (State.raise_reach ..) rfl

theorem execSlotLease_reach (slot : Nat) (s : State) : ∃ t, execSlotLease slot s = .next t ∧ Reach 0x1042b20880000c
    s t := by
  refine ⟨_, rfl, ?_⟩
  exact Reach.ite (Reach.step (Reach.refl _ _) (State.expireLease_reach ..) rfl) (Reach.refl _ _)

theorem State.extend_reach (s : State) (n top : Nat) : Reach 0x10000000000000 s (State.extend s n top) := by
  unfold State.extend
  extract_lets __src
  clear_value __src
  exact Reach.with_img (Reach.refl _ _) _ rfl

theorem State.slotWrite_reach (s : State) (offset : Nat) (l : List Byte) : Reach 0x10001000000000 s
    (State.slotWrite s offset l) := by
  induction l generalizing s offset with
  | nil =>
    rw [State.slotWrite]
    exact Reach.refl _ _
  | cons x l ih =>
    rw [State.slotWrite]
    exact Reach.trans (Reach.ite (Reach.step (Reach.step (Reach.refl _ _) (State.writeByte_reach ..) rfl) (State.extend_reach ..) rfl) (Reach.refl _ _)) (ih ..)

theorem execBar2SlotWrite_reach (offset : Nat) (data : List Byte) (s : State) : ∃ t, execBar2SlotWrite offset data s
    = .next t ∧ Reach 0x1000b000000000 s t := by
  refine ⟨_, rfl, ?_⟩
  extract_lets t
  have h_t : Reach 0x1000b000000000 s t := Reach.step (Reach.refl _ _) (State.slotWrite_reach ..) rfl
  clear_value t
  exact Reach.ite (Reach.refl _ _) (Reach.step (h_t) (State.markUnits_reach ..) rfl)

theorem execLoaderDma_reach (slot : Nat) (s : State) : ∃ t, execLoaderDma slot s = .next t ∧ Reach 0x10420208800005
    s t := by
  refine ⟨_, rfl, ?_⟩
  refine Reach.trans (Reach.refl _ _) (State.hostWrite_reach _ _ _ _ _ _ (?_) rfl)
  intro t
  extract_lets t1 __src
  clear_value __src
  have h_t1 : Reach 0x10420208800005 t t1 := Reach.set (Reach.refl _ _) _ _ rfl
  clear_value t1
  exact Reach.ite (Reach.refl _ _) (Reach.ite (Reach.trans (Reach.with_img (h_t1) _ rfl) (State.setAll_reach _ _ _ (okAll.cons rfl (okAll.cons rfl (okAll.cons rfl okAll.nil))))) (Reach.trans (h_t1) (State.setAll_reach _ _ _ (okAll.cons rfl (okAll.cons rfl okAll.nil)))))

theorem execLoaderDmaDone_reach (error : Bool) (s : State) : ∃ t, execLoaderDmaDone error s = .next t ∧ Reach
    0x1001b000000004 s t := by
  refine ⟨_, rfl, ?_⟩
  split
  · exact Reach.refl _ _
  · extract_lets len bad x kib data t got t1 __src
    clear_value len bad kib data got __src
    have h_t : Reach 0x1001b000000004 s t := Reach.ite (Reach.step (Reach.refl _ _) (State.free_reach ..) rfl) (Reach.refl _ _)
    clear_value t
    have h_t1 : Reach 0x1001b000000004 s t1 := Reach.ite (Reach.step (Reach.step (h_t) (State.store_reach ..) rfl) (State.extend_reach ..) rfl) (h_t)
    clear_value t1
    exact Reach.trans (Reach.with_img (h_t1) _ rfl) (State.setAll_reach _ _ _ (okAll.cons rfl (okAll.cons rfl (okAll.cons rfl okAll.nil))))

theorem execLoad_reach (slot : Nat) (applyAtEn : Bool) (s : State) : ∃ t, execLoad slot applyAtEn s = .next t ∧
    Reach 0x1042b20880000d s t := by
  refine ⟨_, rfl, ?_⟩
  refine Reach.trans (Reach.refl _ _) (State.hostWrite_reach _ _ _ _ _ _ (?_) rfl)
  intro t
  extract_lets t1 t_1 at_ __src img1
  clear_value at_ __src img1
  have h_t1 : Reach 0x1042b20880000d t t1 := Reach.trans (Reach.trans (Reach.refl _ _) (State.evtEndAll_reach _ _ _ (okFlds.cons rfl (okFlds.cons rfl (okFlds.cons rfl (okFlds.cons rfl (okFlds.cons rfl okFlds.nil))))) rfl)) (State.setAll_reach _ _ _ (okAll.cons rfl (okAll.cons rfl okAll.nil)))
  clear_value t1
  have h_t_1 : Reach 0x1042b20880000d t t_1 := Reach.ite (Reach.step (h_t1) (State.expireLease_reach ..) rfl) (h_t1)
  clear_value t_1
  split
  · exact Reach.step (h_t_1) (State.reject_reach ..) rfl
  · exact Reach.step (Reach.with_img (h_t_1) _ rfl) (State.showLoader_reach ..) rfl

theorem State.endCheck_reach (s : State) : Reach 0x1000b000000004 s (State.endCheck s) := by
  unfold State.endCheck
  extract_lets s1 __src
  clear_value __src
  have h_s1 : Reach 0x1000b000000004 s s1 := by
    unfold s1
    split
    · exact Reach.step (Reach.refl _ _) (State.closeSlot_reach ..) rfl
    · exact Reach.refl _ _
  clear_value s1
  exact Reach.with_img (h_s1) _ rfl

theorem State.discardHeld_reach (s : State) (reason : Nat) : Reach 0x10020200000004 s (State.discardHeld s reason)
    := by
  unfold State.discardHeld
  extract_lets __src
  clear_value __src
  exact Reach.step (Reach.step (Reach.with_img (Reach.refl _ _) _ rfl) (State.showLoader_reach ..) rfl) (State.reject_reach ..) rfl

theorem execAbort_reach (s : State) : ∃ t, execAbort s = .next t ∧ Reach 0x1042b208800005 s t := by
  refine ⟨_, rfl, ?_⟩
  refine Reach.trans (Reach.refl _ _) (State.hostWrite_reach _ _ _ _ _ _ (?_) rfl)
  intro t
  exact Reach.ite (Reach.refl _ _) (Reach.ite (Reach.step (Reach.step (Reach.step (Reach.refl _ _) (State.endCheck_reach ..) rfl) (State.showLoader_reach ..) rfl) (State.reject_reach ..) rfl) (Reach.ite (Reach.step (Reach.refl _ _) (State.discardHeld_reach ..) rfl) (Reach.refl _ _)))

theorem State.suspendDigest_reach (s : State) : Reach 0x800000000001 s (State.suspendDigest s) := by
  unfold State.suspendDigest
  extract_lets __src __srcx1
  clear_value __srcx1
  have h___src : Reach 0x800000000001 s __src := Reach.set (Reach.refl _ _) _ _ rfl
  clear_value __src
  exact Reach.ite (Reach.refl _ _) (Reach.with_gen (h___src) _ rfl)

theorem State.installRule_reach (s : State) (img : List Byte) : Reach 0x104 s (State.installRule s img) := by
  unfold State.installRule
  extract_lets b fl owned dig
  clear_value b fl owned dig
  exact Reach.trans (Reach.trans (Reach.refl _ _) (State.setAll_reach _ _ _ (okAll.append (okAll.cons rfl (okAll.cons rfl (okAll.cons rfl (okAll.cons rfl (okAll.cons rfl (okAll.cons rfl (okAll.cons rfl (okAll.cons rfl (okAll.cons rfl (okAll.cons rfl (okAll.cons rfl (okAll.cons rfl (okAll.cons rfl (okAll.cons rfl (okAll.cons rfl (okAll.cons rfl okAll.nil)))))))))))))))) (okAll.flatMap fun _ => (okAll.cons ((Fld.ok_ix ..).trans rfl) (okAll.cons ((Fld.ok_ix ..).trans rfl) (okAll.cons ((Fld.ok_ix ..).trans rfl) (okAll.cons ((Fld.ok_ix ..).trans rfl) okAll.nil)))))))) (State.setAll_reach _ _ _ (okAll.map fun _ => (Fld.ok_ix ..).trans rfl))

theorem State.pondLeave_reach (s : State) (l : Nat) : Reach 0x4000a000000400 s (State.pondLeave s l) := by
  unfold State.pondLeave
  extract_lets p s1
  clear_value p
  have h_s1 : Reach 0x4000a000000400 s s1 := Reach.ite (Reach.trans (Reach.refl _ _) (State.bump_reach _ _ _ _ ((Fld.ok_ix ..).trans rfl))) (Reach.refl _ _)
  clear_value s1
  exact Reach.step (Reach.step (Reach.step (h_s1) (State.failReads_reach ..) rfl) (State.setPondState_reach ..) rfl) (State.setPondLink_reach ..) rfl

theorem State.changeMask_reach (s : State) (mask : Nat) : Reach 0x2214042a208a60400 s (State.changeMask s mask) := by
  unfold State.changeMask
  extract_lets old gone s1
  clear_value old gone
  have h_s1 : Reach 0x2214042a208a60400 s s1 := by
    unfold s1
    refine Reach.set (Reach.foldl (Reach.refl _ _) (?_)) _ _ rfl
    intro u x
    exact Reach.step (Reach.refl _ _) (State.pondLeave_reach ..) rfl
  clear_value s1
  exact Reach.ite (Reach.refl _ _) (Reach.step (h_s1) (State.areasLost_reach ..) rfl)

theorem State.stageLive_reach (s : State) (img : List Byte) : Reach 0x25200020200270000 s (State.stageLive s img) :=
    by
  unfold State.stageLive
  extract_lets __src s1 s2 s3
  clear_value __src
  have h_s1 : Reach 0x25200020200270000 s s1 := by
    unfold s1
    split
    · exact Reach.with_fab (Reach.refl _ _) _ rfl
    · exact Reach.refl _ _
  clear_value s1
  have h_s2 : Reach 0x25200020200270000 s s2 := by
    unfold s2
    refine Reach.foldl (h_s1) (?_)
    intro u x
    split
    · exact Reach.step (Reach.refl _ _) (State.loadPages_reach ..) rfl
    · exact Reach.refl _ _
  clear_value s2
  have h_s3 : Reach 0x25200020200270000 s s3 := by
    unfold s3
    refine Reach.foldl (h_s2) (?_)
    intro u x
    split
    · exact Reach.step (Reach.refl _ _) (State.armGate_reach ..) rfl
    · exact Reach.refl _ _
  clear_value s3
  refine Reach.foldl (h_s3) (?_)
  intro u x
  split
  · exact Reach.step (Reach.refl _ _) (State.stageTable_reach ..) rfl
  · exact Reach.refl _ _

theorem State.askImage_reach (s : State) (r : Nat) : Reach 0x13420208800018 s (State.askImage s r) := by
  unfold State.askImage
  extract_lets n asked
  clear_value n asked
  exact Reach.ite (Reach.refl _ _) (Reach.ite (Reach.step (Reach.refl _ _) (State.switchStopped_reach ..) rfl) (Reach.ite (Reach.refl _ _) (Reach.step (Reach.refl _ _) (State.askDrain_reach ..) rfl)))

theorem State.askImages_reach (s : State) : Reach 0x13420208800018 s (State.askImages s) := by
  unfold State.askImages
  refine Reach.foldl (Reach.refl _ _) (?_)
  intro u x
  exact Reach.step (Reach.refl _ _) (State.askImage_reach ..) rfl

theorem State.startApply_reach (s : State) (img : List Byte) : Reach 0x27353c2a208a7451d s (State.startApply s img)
    := by
  unfold State.startApply
  extract_lets __src s1 s2
  clear_value __src
  have h_s1 : Reach 0x27353c2a208a7451d s s1 := Reach.with_img (Reach.refl _ _) _ rfl
  clear_value s1
  have h_s2 : Reach 0x27353c2a208a7451d s s2 := Reach.step (Reach.trans (Reach.step (Reach.step (h_s1) (State.suspendDigest_reach ..) rfl) (State.showLoader_reach ..) rfl) (State.put_reach _ _ _ _ rfl)) (State.holdGrants_reach ..) rfl
  clear_value s2
  exact Reach.step (Reach.step (Reach.step (Reach.step (h_s2) (State.installRule_reach ..) rfl) (State.changeMask_reach ..) rfl) (State.stageLive_reach ..) rfl) (State.askImages_reach ..) rfl

theorem State.applyDue_reach (s : State) : Reach 0x27353c2a208a7451d s (State.applyDue s) := by
  unfold State.applyDue
  split
  · exact Reach.refl _ _
  · extract_lets atOk
    clear_value atOk
    exact Reach.ite (Reach.step (Reach.refl _ _) (State.startApply_reach ..) rfl) (Reach.refl _ _)

theorem State.showImage_reach (s : State) (img : List Byte) : Reach 0x420208000004 s (State.showImage s img) := by
  unfold State.showImage
  exact Reach.trans (Reach.step (Reach.trans (Reach.trans (Reach.refl _ _) (State.set64_reach _ _ _ _ _ rfl rfl)) (State.setAll_reach _ _ _ (okAll.append (okAll.cons rfl (okAll.cons rfl okAll.nil)) (okAll.map fun _ => (Fld.ok_ix ..).trans rfl)))) (State.journal_reach ..) rfl) (State.evt_reach _ _ _ rfl rfl)

theorem State.endApply_reach (s : State) (img : List Byte) : Reach 0x4b9242b208847e0c s (State.endApply s img) := by
  unfold State.endApply
  extract_lets same __src s1 s2
  clear_value same __src
  have h_s1 : Reach 0x4b9242b208847e0c s s1 := Reach.with_img (Reach.refl _ _) _ rfl
  clear_value s1
  have h_s2 : Reach 0x4b9242b208847e0c s s2 := Reach.set (Reach.step (Reach.step (h_s1) (State.showLoader_reach ..) rfl) (State.showImage_reach ..) rfl) _ _ rfl
  clear_value s2
  exact Reach.step (Reach.step (Reach.step (Reach.ite (Reach.step (h_s2) (State.lostClear_reach ..) rfl) (h_s2)) (State.holdGrants_reach ..) rfl) (State.runProgram_reach ..) rfl) (State.giveAll_reach ..) rfl

theorem execApplying_reach (s : State) : ∃ t, execApplying s = .next t ∧ Reach 0x27353c2a208a7451d s t := by
  refine ⟨_, rfl, ?_⟩
  exact Reach.step (Reach.refl _ _) (State.applyDue_reach ..) rfl

theorem execApplied_reach (s : State) : ∃ t, execApplied s = .next t ∧ Reach 0x4b9242b208847e0c s t := by
  refine ⟨_, rfl, ?_⟩
  split
  · exact Reach.refl _ _
  · exact Reach.ite (Reach.step (Reach.refl _ _) (State.endApply_reach ..) rfl) (Reach.refl _ _)

theorem State.installPorts_reach (s : State) (img : List Byte) : Reach 0x1000 s (State.installPorts s img) := by
  unfold State.installPorts
  extract_lets b
  clear_value b
  refine Reach.trans (Reach.refl _ _) (State.setAll_reach _ _ _ (okAll.append (okAll.cons rfl (okAll.cons rfl (okAll.cons rfl (okAll.cons rfl (okAll.cons rfl (okAll.cons rfl (okAll.cons rfl okAll.nil))))))) (okAll.flatMap fun _ => ?_)))
  dsimp only
  exact (okAll.append (okAll.cons ((Fld.ok_ix ..).trans rfl) (okAll.cons ((Fld.ok_ix ..).trans rfl) (okAll.cons ((Fld.ok_ix ..).trans rfl) okAll.nil))) (okAll.map fun _ => (Fld.ok_ix ..).trans rfl))

theorem State.installLine_reach (s : State) (img : List Byte) : Reach 0x28000 s (State.installLine s img) := by
  unfold State.installLine
  extract_lets b on
  clear_value b on
  refine Reach.foldl (Reach.trans (Reach.refl _ _) (State.setAll_reach _ _ _ (okAll.append (okAll.append (okAll.append (okAll.cons rfl okAll.nil) (okAll.flatMap fun _ => (okAll.cons ((Fld.ok_ix ..).trans rfl) (okAll.cons ((Fld.ok_ix ..).trans rfl) (okAll.cons ((Fld.ok_ix ..).trans rfl) okAll.nil))))) (okAll.flatMap fun _ => (okAll.cons ((Fld.ok_ix ..).trans rfl) (okAll.cons ((Fld.ok_ix ..).trans rfl) (okAll.cons ((Fld.ok_ix ..).trans rfl) (okAll.cons ((Fld.ok_ix ..).trans rfl) okAll.nil)))))) (okAll.flatMap fun _ => (okAll.cons ((Fld.ok_ix ..).trans rfl) (okAll.cons ((Fld.ok_ix ..).trans rfl) (okAll.cons ((Fld.ok_ix ..).trans rfl) (okAll.cons ((Fld.ok_ix ..).trans rfl) okAll.nil)))))))) (?_)
  intro u x
  exact Reach.step (Reach.refl _ _) (State.setFlowState_reach ..) rfl

theorem State.installPlan_reach (s : State) (img : List Byte) : Reach 0x40000000000400000 s
    (State.installPlan s img) := by
  unfold State.installPlan
  extract_lets ports lasers s1
  clear_value ports lasers
  have h_s1 : Reach 0x40000000000400000 s s1 := by
    unfold s1
    refine Reach.foldl (Reach.refl _ _) (?_)
    intro u x
    exact Reach.trans (Reach.refl _ _) (State.setBit_reach _ _ _ _ _ ((Fld.ok_ix ..).trans rfl))
  clear_value s1
  refine Reach.foldl (Reach.trans (h_s1) (State.setAll_reach _ _ _ (okAll.map fun _ => (Fld.ok_ix ..).trans rfl))) (?_)
  intro u x
  exact Reach.step (Reach.refl _ _) (State.lightPort_reach ..) rfl

theorem State.installLive_reach (s : State) (img : List Byte) : Reach 0x25200020200272000 s
    (State.installLive s img) := by
  unfold State.installLive
  extract_lets s1 s2 s3
  have h_s1 : Reach 0x25200020200272000 s s1 := by
    unfold s1
    split
    · exact Reach.set (Reach.step (Reach.refl _ _) (State.stageRoutes_reach ..) rfl) _ _ rfl
    · exact Reach.set (Reach.refl _ _) _ _ rfl
  clear_value s1
  have h_s2 : Reach 0x25200020200272000 s s2 := by
    unfold s2
    refine Reach.foldl (h_s1) (?_)
    intro u x
    split
    · exact Reach.step (Reach.refl _ _) (State.loadPages_reach ..) rfl
    · exact Reach.refl _ _
  clear_value s2
  have h_s3 : Reach 0x25200020200272000 s s3 := by
    unfold s3
    refine Reach.foldl (h_s2) (?_)
    intro u x
    split
    · exact Reach.step (Reach.refl _ _) (State.installGate_reach ..) rfl
    · exact Reach.refl _ _
  clear_value s3
  refine Reach.foldl (h_s3) (?_)
  intro u x
  exact Reach.step (Reach.refl _ _) (State.putTable_reach ..) rfl

theorem State.firstMembers_reach (s : State) (img : List Byte) : Reach 0x2000000 s (State.firstMembers s img) := by
  unfold State.firstMembers
  extract_lets all
  clear_value all
  exact Reach.ite (Reach.trans (Reach.refl _ _) (State.setBit_reach _ _ _ _ _ rfl)) (Reach.trans (Reach.set (Reach.set (Reach.refl _ _) _ _ rfl) _ _ rfl) (State.setBit_reach _ _ _ _ _ rfl))

theorem State.firstPhase_reach (s : State) (img : List Byte) (r : Nat) : Reach 0x3420208800018 s
    (State.firstPhase s img r) := by
  unfold State.firstPhase
  extract_lets n s1 ref __src
  clear_value n ref __src
  have h_s1 : Reach 0x3420208800018 s s1 := Reach.step (Reach.refl _ _) (State.loadPhase_reach ..) rfl
  clear_value s1
  exact Reach.ite (Reach.ite (h_s1) (Reach.with_sched (h_s1) _ rfl)) (Reach.step (Reach.step (h_s1) (State.setRegionState_reach ..) rfl) (State.enter_reach ..) rfl)

theorem State.firstImage_reach (s : State) (img : List Byte) : Reach 0x65213c2020be7fd1d s (State.firstImage s img)
    := by
  unfold State.firstImage
  extract_lets __src s1 s3 s4 s5 s6
  clear_value __src
  have h_s1 : Reach 0x65213c2020be7fd1d s s1 := Reach.with_img (Reach.refl _ _) _ rfl
  clear_value s1
  have h_s3 : Reach 0x65213c2020be7fd1d s s3 := Reach.step (Reach.step (Reach.step (Reach.step (h_s1) (State.suspendDigest_reach ..) rfl) (State.showLoader_reach ..) rfl) (State.showImage_reach ..) rfl) (State.installRule_reach ..) rfl
  clear_value s3
  have h_s4 : Reach 0x65213c2020be7fd1d s s4 := Reach.step (Reach.step (Reach.step (Reach.set (h_s3) _ _ rfl) (State.makePools_reach ..) rfl) (State.installPorts_reach ..) rfl) (State.installLine_reach ..) rfl
  clear_value s4
  have h_s5 : Reach 0x65213c2020be7fd1d s s5 := Reach.step (Reach.step (Reach.step (h_s4) (State.installPlan_reach ..) rfl) (State.installLive_reach ..) rfl) (State.firstMembers_reach ..) rfl
  clear_value s5
  have h_s6 : Reach 0x65213c2020be7fd1d s s6 := by
    unfold s6
    refine Reach.step (Reach.foldl (h_s5) (?_)) (State.runProgram_reach ..) rfl
    intro u x
    exact Reach.step (Reach.refl _ _) (State.firstPhase_reach ..) rfl
  clear_value s6
  exact Reach.step (Reach.step (Reach.set (h_s6) _ _ rfl) (State.holdGrants_reach ..) rfl) (State.countSlots_reach ..) rfl

theorem execImageVerified_reach (s : State) : ∃ t, execImageVerified s = .next t ∧ Reach 0x67353c2b20be7fd1d s t := by
  refine ⟨_, rfl, ?_⟩
  split
  · exact Reach.refl _ _
  · extract_lets t __src u
    clear_value __src
    have h_t : Reach 0x67353c2b20be7fd1d s t := Reach.step (Reach.refl _ _) (State.endCheck_reach ..) rfl
    clear_value t
    have h_u : Reach 0x67353c2b20be7fd1d s u := Reach.step (Reach.with_img (h_t) _ rfl) (State.applyDue_reach ..) rfl
    clear_value u
    refine Reach.ite (Reach.refl _ _) (?_)
    split
    · exact Reach.step (Reach.step (h_t) (State.showLoader_reach ..) rfl) (State.reject_reach ..) rfl
    · exact Reach.ite (Reach.step (h_t) (State.firstImage_reach ..) rfl) (Reach.ite (h_u) (Reach.ite (Reach.step (h_u) (State.discardHeld_reach ..) rfl) (Reach.trans (Reach.step (h_u) (State.showLoader_reach ..) rfl) (State.evt_reach _ _ _ rfl rfl))))

end Sys2Proof.Machine
end

