-- ==== Sys2Proof/Laws/ReachBootStore.lean ====
section
/-! SUPPORT. What each operation and each command of Machine/BootStore.lean reaches. -/

namespace Sys2Proof.Machine

theorem validFld_ok (b : Nat) : (validFld b).ok 0x8000000 = true := by
  unfold validFld
  split <;> rfl

theorem State.setJrnBank_reach (s : State) (b : Nat) (t : Tab Place) : Reach 0x400000000000 s
    (State.setJrnBank s b t) := by
  unfold State.setJrnBank
  extract_lets __src
  clear_value __src
  exact Reach.with_boot (Reach.refl _ _) _ rfl

theorem State.showFree_reach (s : State) : Reach 0x8000000 s (State.showFree s) := by
  unfold State.showFree
  extract_lets c b
  clear_value c b
  exact Reach.set (Reach.refl _ _) _ _ rfl

theorem State.startErase_reach (s : State) : Reach 0x400000000000 s (State.startErase s) := by
  unfold State.startErase
  extract_lets c __src
  clear_value c __src
  exact Reach.ite (Reach.with_boot (Reach.refl _ _) _ rfl) (Reach.refl _ _)

theorem State.persistFail_reach (s : State) : Reach 0x420208800000 s (State.persistFail s) := by
  unfold State.persistFail
  exact Reach.step (Reach.trans (Reach.refl _ _) (State.evt_reach _ _ _ rfl rfl)) (State.raise_reach ..) rfl

theorem State.setBank_reach (s : State) (b : Nat) (bytes : List Byte) : Reach 0x400000000000 s
    (State.setBank s b bytes) := by
  unfold State.setBank
  extract_lets __src
  clear_value __src
  exact Reach.with_boot (Reach.refl _ _) _ rfl

theorem State.failedOp_reach (s : State) (x : BootOp) : Reach 0x410008000000 s (State.failedOp s x) := by
  unfold State.failedOp
  split
  · extract_lets img x
    clear_value img
    exact Reach.set (Reach.step (Reach.step (Reach.refl _ _) (State.free_reach ..) rfl) (State.setBank_reach ..) rfl) _ _ ((Fld.ok_sub rfl (validFld_ok ..)))
  · extract_lets x part __src __srcx3
    clear_value part __srcx3
    have h___src : Reach 0x410008000000 s __src := Reach.step (Reach.refl _ _) (State.free_reach ..) rfl
    clear_value __src
    exact Reach.trans (Reach.with_boot (h___src) _ rfl) (State.put_reach _ _ _ _ rfl)
  · exact Reach.refl _ _
  · exact Reach.set (Reach.refl _ _) _ _ ((Fld.ok_sub rfl (validFld_ok ..)))

theorem State.endBoot_reach (s : State) : Reach 0x400008000000 s (State.endBoot s) := by
  unfold State.endBoot
  extract_lets __src
  clear_value __src
  exact Reach.trans (Reach.with_boot (Reach.refl _ _) _ rfl) (State.setAll_reach _ _ _ (okAll.cons rfl (okAll.cons rfl okAll.nil)))

theorem State.bootDip_reach (s : State) : Reach 0x430208800000 s (State.bootDip s) := by
  unfold State.bootDip
  split
  · exact Reach.refl _ _
  · extract_lets __src
    clear_value __src
    exact Reach.ite (Reach.with_boot (Reach.refl _ _) _ rfl) (Reach.step (Reach.step (Reach.step (Reach.refl _ _) (State.endBoot_reach ..) rfl) (State.failedOp_reach ..) rfl) (State.persistFail_reach ..) rfl)

end Sys2Proof.Machine
end

