-- ==== Sys2Proof/Laws/ReachPorts.lean ====
section
/-! SUPPORT. What each operation and each command of Machine/Ports.lean reaches. -/

namespace Sys2Proof.Machine

theorem State.faultFabric_reach (s : State) (c : LinkCause) (p : Nat) : Reach 0x200420208803000 s
    (State.faultFabric s c p) := by
  unfold State.faultFabric
  extract_lets st
  clear_value st
  exact Reach.ite (Reach.step (Reach.refl _ _) (State.fabFail_reach ..) rfl) (Reach.refl _ _)

theorem State.faultFabrics_reach (s : State) (c : LinkCause) (die : Nat) : Reach 0x200420208803000 s
    (State.faultFabrics s c die) := by
  unfold State.faultFabrics
  exact Reach.step (Reach.step (Reach.step (Reach.step (Reach.refl _ _) (State.faultFabric_reach ..) rfl) (State.faultFabric_reach ..) rfl) (State.faultFabric_reach ..) rfl) (State.faultFabric_reach ..) rfl

theorem State.faultPond_reach (s : State) (l : Nat) : Reach 0x2214042a208a60400 s (State.faultPond s l) := by
  unfold State.faultPond
  extract_lets st
  clear_value st
  exact Reach.ite (Reach.step (Reach.refl _ _) (State.pondFail_reach ..) rfl) (Reach.refl _ _)

theorem State.faultLine_reach (s : State) (p : Nat) : Reach 0x1000420208808000 s (State.faultLine s p) := by
  unfold State.faultLine
  exact Reach.ite (Reach.refl _ _) (Reach.step (Reach.refl _ _) (State.losDeclare_reach ..) rfl)

theorem State.linkFault_reach (s : State) (c : LinkCause) (die : Nat) : Reach 0x2334046a208a6b400 s
    (State.linkFault s c die) := by
  unfold State.linkFault
  extract_lets __src s1
  clear_value __src
  have h_s1 : Reach 0x2334046a208a6b400 s s1 := Reach.with_pwr (Reach.refl _ _) _ rfl
  clear_value s1
  exact Reach.ite (Reach.refl _ _) (Reach.step (Reach.step (Reach.step (h_s1) (State.faultFabrics_reach ..) rfl) (State.faultPond_reach ..) rfl) (State.faultLine_reach ..) rfl)

theorem State.linkFaults_reach (s : State) (c : LinkCause) (l : List Nat) : Reach 0x2334046a208a6b400 s
    (State.linkFaults s c l) := by
  induction l generalizing s c with
  | nil =>
    rw [State.linkFaults]
    exact Reach.refl _ _
  | cons x l ih =>
    rw [State.linkFaults]
    exact Reach.trans (Reach.step (Reach.refl _ _) (State.linkFault_reach ..) rfl) (ih ..)

theorem State.linkClear_reach (s : State) (c : LinkCause) (die : Nat) : Reach 0x40000000000 s
    (State.linkClear s c die) := by
  unfold State.linkClear
  extract_lets __src
  clear_value __src
  exact Reach.with_pwr (Reach.refl _ _) _ rfl

theorem State.linkClears_reach (s : State) (c : LinkCause) (l : List Nat) : Reach 0x40000000000 s
    (State.linkClears s c l) := by
  induction l generalizing s c with
  | nil =>
    rw [State.linkClears]
    exact Reach.refl _ _
  | cons x l ih =>
    rw [State.linkClears]
    exact Reach.trans (Reach.step (Reach.refl _ _) (State.linkClear_reach ..) rfl) (ih ..)

end Sys2Proof.Machine
end

