-- ==== Sys2Proof/Laws/ReachLight.lean ====
section
/-! SUPPORT. What each operation and each command of Machine/Light.lean reaches. -/

namespace Sys2Proof.Machine

theorem ringFld_ok (k l : Nat) (transmit : Bool) : (ringFld k l transmit).ok 0x400000 = true := by
  unfold ringFld
  split
  · exact (Fld.ok_ix ..).trans rfl
  · exact (Fld.ok_ix ..).trans rfl

theorem State.onOpt_reach (s : State) (k : Nat) (f : OptPort → OptPort) : Reach 0x80000000000000000 s
    (State.onOpt s k f) := by
  unfold State.onOpt
  extract_lets __src
  clear_value __src
  exact Reach.with_opt (Reach.refl _ _) _ rfl

theorem State.onLane_reach (s : State) (k l : Nat) (f : OptLane → OptLane) : Reach 0x80000000000000000 s
    (State.onLane s k l f) := by
  unfold State.onLane
  extract_lets __src
  clear_value __src
  exact Reach.with_opt (Reach.refl _ _) _ rfl

theorem State.onRing_reach (s : State) (k l : Nat) (transmit : Bool) (f : Ring → Ring) : Reach 0x80000000000000000 s
    (State.onRing s k l transmit f) := by
  unfold State.onRing
  exact Reach.step (Reach.refl _ _) (State.onLane_reach ..) rfl

theorem optEvt_ok (source : Nat) : okFlds 0x400000 (optEvt source) := by
  unfold optEvt
  repeat' split
  all_goals first | exact okFlds.nil | exact okFlds.cons rfl okFlds.nil

theorem State.raiseOpt_reach (s : State) (source : Nat) (cls : FClass) (k l : Nat) : Reach 0x420208c00000 s
    (s.raiseOpt source cls k l) := by
  unfold State.raiseOpt
  extract_lets n s1 s2
  have h1 : Reach 0x420208c00000 s s1 := by
    have gen : ∀ (fs : List Fld) (t : State), okFlds 0x400000 fs → Reach 0x420208c00000 t (fs.foldl State.evt t) := by
      intro fs
      induction fs with
      | nil => exact fun t _ => Reach.refl _ t
      | cons f fs ih =>
        exact fun t hf => Reach.trans (State.evt_reach _ _ _ (Fld.ok_sub rfl (hf f (.head _))) rfl)
          (ih _ fun g hg => hf g (.tail _ hg))
    exact gen _ s (optEvt_ok source)
  clear_value s1
  have h2 : Reach 0x420208c00000 s s2 := Reach.ite (Reach.trans h1 (State.setAll_reach _ _ _
    (okAll.cons rfl (okAll.cons rfl (okAll.cons rfl (okAll.cons rfl okAll.nil)))))) h1
  clear_value s2
  exact Reach.step h2 (State.raise_reach ..) rfl

theorem State.startMirror_reach (s : State) (k l use code : Nat) : Reach 0x80000420208c00000 s
    (State.startMirror s k l use code) := by
  unfold State.startMirror
  extract_lets s1
  have h_s1 : Reach 0x80000420208c00000 s s1 := Reach.step (Reach.trans (Reach.refl _ _) (State.setAll_reach _ _ _ (okAll.cons ((Fld.ok_ix ..).trans rfl) (okAll.cons ((Fld.ok_ix ..).trans rfl) okAll.nil)))) (State.onOpt_reach ..) rfl
  clear_value s1
  exact Reach.ite (Reach.step (h_s1) (State.raiseOpt_reach ..) rfl) (h_s1)

theorem State.stopMirror_reach (s : State) (k : Nat) : Reach 0x80000420208c00000 s (State.stopMirror s k) := by
  unfold State.stopMirror
  extract_lets p
  clear_value p
  split
  · exact Reach.ite (Reach.trans (Reach.refl _ _) (State.setAll_reach _ _ _ (okAll.cons ((Fld.ok_ix ..).trans rfl) (okAll.cons ((Fld.ok_ix ..).trans rfl) okAll.nil)))) (Reach.step (Reach.refl _ _) (State.startMirror_reach ..) rfl)
  · exact Reach.trans (Reach.refl _ _) (State.setAll_reach _ _ _ (okAll.cons ((Fld.ok_ix ..).trans rfl) (okAll.cons ((Fld.ok_ix ..).trans rfl) okAll.nil)))

theorem State.endCal_reach (s : State) (k : Nat) : Reach 0x80000000000400000 s (State.endCal s k) := by
  unfold State.endCal
  extract_lets l s1 s2
  clear_value l
  have h_s1 : Reach 0x80000000000400000 s s1 := Reach.set (Reach.refl _ _) _ _ ((Fld.ok_ix ..).trans rfl)
  clear_value s1
  have h_s2 : Reach 0x80000000000400000 s s2 := Reach.ite (Reach.set (h_s1) _ _ ((Fld.ok_sub rfl (ringFld_ok ..)))) (h_s1)
  clear_value s2
  exact Reach.step (h_s2) (State.onOpt_reach ..) rfl

theorem State.abortCal_reach (s : State) (k l use code : Nat) : Reach 0x80000420208c00000 s
    (State.abortCal s k l use code) := by
  unfold State.abortCal
  exact Reach.step (Reach.step (Reach.step (Reach.refl _ _) (State.endCal_reach ..) rfl) (State.onOpt_reach ..) rfl) (State.raiseOpt_reach ..) rfl

theorem State.need_reach (s : State) (k l use code : Nat) : Reach 0x80000420208c00000 s (State.need s k l use code)
    := by
  unfold State.need
  extract_lets cur
  clear_value cur
  exact Reach.ite (Reach.ite (Reach.refl _ _) (Reach.step (Reach.refl _ _) (State.startMirror_reach ..) rfl)) (Reach.ite (Reach.ite (Reach.step (Reach.step (Reach.trans (Reach.step (Reach.refl _ _) (State.endCal_reach ..) rfl) (State.setAll_reach _ _ _ (okAll.cons ((Fld.ok_ix ..).trans rfl) okAll.nil))) (State.onOpt_reach ..) rfl) (State.raiseOpt_reach ..) rfl) (Reach.ite (Reach.step (Reach.refl _ _) (State.abortCal_reach ..) rfl) (Reach.refl _ _))) (Reach.ite (Reach.step (Reach.refl _ _) (State.onOpt_reach ..) rfl) (Reach.refl _ _)))

theorem State.retireLaser_reach (s : State) (k l : Nat) : Reach 0xc0000420208c00000 s (State.retireLaser s k l) := by
  unfold State.retireLaser
  extract_lets n s1 s2
  clear_value n
  have h_s1 : Reach 0xc0000420208c00000 s s1 := Reach.trans (Reach.with_lit (Reach.refl _ _) _ (Tab.sorted_erase _ _) (fun h => by rw [h]; rfl) rfl) (State.setBit_reach _ _ _ _ _ ((Fld.ok_ix ..).trans rfl))
  clear_value s1
  have h_s2 : Reach 0xc0000420208c00000 s s2 := Reach.trans (h_s1) (State.setAll_reach _ _ _ (okAll.cons ((Fld.ok_ix ..).trans rfl) (okAll.cons ((Fld.ok_ix ..).trans rfl) (okAll.cons ((Fld.ok_ix ..).trans rfl) okAll.nil))))
  clear_value s2
  exact Reach.step (Reach.step (Reach.step (h_s2) (State.onOpt_reach ..) rfl) (State.journal_reach ..) rfl) (State.raiseOpt_reach ..) rfl

theorem State.handover_reach (s : State) (k l : Nat) : Reach 0x420208c00000 s (State.handover s k l) := by
  unfold State.handover
  exact Reach.step (Reach.trans (Reach.refl _ _) (State.bump_reach _ _ _ _ ((Fld.ok_ix ..).trans rfl))) (State.raiseOpt_reach ..) rfl

theorem State.takeRx_reach (s : State) (k l use : Nat) : Reach 0x420208c00000 s (State.takeRx s k l use) := by
  unfold State.takeRx
  extract_lets s1
  have h_s1 : Reach 0x420208c00000 s s1 := Reach.trans (Reach.refl _ _) (State.setAll_reach _ _ _ (okAll.cons ((Fld.ok_ix ..).trans rfl) (okAll.cons ((Fld.ok_ix ..).trans rfl) okAll.nil)))
  clear_value s1
  exact Reach.step (Reach.ite (Reach.set (h_s1) _ _ ((Fld.ok_sub rfl (ringFld_ok ..)))) (h_s1)) (State.handover_reach ..) rfl

theorem State.returnRx_reach (s : State) (k l : Nat) : Reach 0x80000420208c00000 s (State.returnRx s k l) := by
  unfold State.returnRx
  extract_lets s1
  have h_s1 : Reach 0x80000420208c00000 s s1 := Reach.step (Reach.trans (Reach.refl _ _) (State.setAll_reach _ _ _ (okAll.cons ((Fld.ok_ix ..).trans rfl) (okAll.cons ((Fld.ok_ix ..).trans rfl) okAll.nil)))) (State.onOpt_reach ..) rfl
  clear_value s1
  exact Reach.step (Reach.step (h_s1) (State.onLane_reach ..) rfl) (State.handover_reach ..) rfl

theorem State.lanePortDown_reach (s : State) (k : Nat) : Reach 0x2334042a208a6b400 s (State.lanePortDown s k) := by
  unfold State.lanePortDown
  exact Reach.ite (Reach.step (Reach.refl _ _) (State.faultFabric_reach ..) rfl) (Reach.ite (Reach.step (Reach.refl _ _) (State.faultLine_reach ..) rfl) (Reach.step (Reach.refl _ _) (State.faultPond_reach ..) rfl))

theorem State.laneLost_reach (s : State) (k l : Nat) : Reach 0x2334042a208e6b400 s (State.laneLost s k l) := by
  unfold State.laneLost
  exact Reach.step (Reach.step (Reach.refl _ _) (State.raiseOpt_reach ..) rfl) (State.lanePortDown_reach ..) rfl

theorem State.calTry_reach (s : State) (k : Nat) : Reach 0x80000420208c00000 s (State.calTry s k) := by
  unfold State.calTry
  extract_lets p l j
  clear_value p l j
  exact Reach.ite (Reach.step (Reach.step (Reach.set (Reach.refl _ _) _ _ ((Fld.ok_ix ..).trans rfl)) (State.startMirror_reach ..) rfl) (State.onOpt_reach ..) rfl) (Reach.refl _ _)

end Sys2Proof.Machine
end

