-- ==== Sys2Proof/Laws/ReachLightCmd.lean ====
section
/-! SUPPORT. What each operation and each command of Machine/LightCmd.lean reaches. -/

namespace Sys2Proof.Machine

theorem State.ringFailed_reach (s : State) (k l : Nat) (transmit : Bool) : Reach 0xc0000420208c00000 s
    (State.ringFailed s k l transmit) := by
  unfold State.ringFailed
  extract_lets s1 s2
  have h_s1 : Reach 0xc0000420208c00000 s s1 := Reach.step (Reach.set (Reach.refl _ _) _ _ ((Fld.ok_sub rfl (ringFld_ok ..)))) (State.raiseOpt_reach ..) rfl
  clear_value s1
  have h_s2 : Reach 0xc0000420208c00000 s s2 := Reach.step (h_s1) (State.onOpt_reach ..) rfl
  clear_value s2
  exact Reach.ite (Reach.ite (Reach.ite (Reach.set (h_s2) _ _ ((Fld.ok_ix ..).trans rfl)) (h_s2)) (h_s1)) (Reach.ite (Reach.ite (Reach.step (Reach.ite (Reach.set (Reach.step (h_s1) (State.endCal_reach ..) rfl) _ _ ((Fld.ok_sub rfl (ringFld_ok ..)))) (h_s1)) (State.retireLaser_reach ..) rfl) (h_s1)) (Reach.ite (Reach.set (h_s1) _ _ ((Fld.ok_ix ..).trans rfl)) (h_s1)))

theorem execRingSweepDone_reach (port lane : Nat) (transmit : Bool) (lines : List (Nat × Nat)) (s : State) : ∃ t,
    execRingSweepDone port lane transmit lines s = .next t ∧ Reach 0xc0000420208c00000 s t := by
  refine ⟨_, rfl, ?_⟩
  extract_lets r found forced s1
  clear_value r found forced
  have h_s1 : Reach 0xc0000420208c00000 s s1 := Reach.step (Reach.set (Reach.refl _ _) _ _ ((Fld.ok_sub rfl (ringFld_ok ..)))) (State.onRing_reach ..) rfl
  clear_value s1
  refine Reach.ite (Reach.refl _ _) (?_)
  split
  · exact Reach.step (Reach.set (Reach.refl _ _) _ _ ((Fld.ok_sub rfl (ringFld_ok ..)))) (State.onRing_reach ..) rfl
  · exact Reach.ite (Reach.step (h_s1) (State.ringFailed_reach ..) rfl) (h_s1)

theorem State.ringLocked_reach (s : State) (k l : Nat) (transmit : Bool) : Reach 0x80000000000400000 s
    (State.ringLocked s k l transmit) := by
  unfold State.ringLocked
  extract_lets s1 s2
  have h_s1 : Reach 0x80000000000400000 s s1 := Reach.step (Reach.set (Reach.refl _ _) _ _ ((Fld.ok_sub rfl (ringFld_ok ..)))) (State.onRing_reach ..) rfl
  clear_value s1
  have h_s2 : Reach 0x80000000000400000 s s2 := Reach.step (h_s1) (State.onOpt_reach ..) rfl
  clear_value s2
  exact Reach.ite (h_s1) (Reach.ite (Reach.ite (Reach.set (h_s2) _ _ ((Fld.ok_ix ..).trans rfl)) (h_s2)) (Reach.ite (Reach.ite (Reach.step (h_s1) (State.onOpt_reach ..) rfl) (Reach.ite (Reach.step (h_s1) (State.onOpt_reach ..) rfl) (h_s1))) (h_s1)))

theorem State.ringWrong_reach (s : State) (k l : Nat) (transmit : Bool) : Reach 0xa334042a208e6b400 s
    (State.ringWrong s k l transmit) := by
  unfold State.ringWrong
  extract_lets s0 s1 sweep s2 s2x4 p
  clear_value p
  have h_s0 : Reach 0xa334042a208e6b400 s s0 := Reach.step (Reach.set (Reach.refl _ _) _ _ ((Fld.ok_sub rfl (ringFld_ok ..)))) (State.onRing_reach ..) rfl
  clear_value s0
  have h_s1 : Reach 0xa334042a208e6b400 s s1 := Reach.step (Reach.trans (h_s0) (State.bump_reach _ _ _ _ ((Fld.ok_ix ..).trans rfl))) (State.raiseOpt_reach ..) rfl
  clear_value s1
  have h_s2 : Reach 0xa334042a208e6b400 s s2 := Reach.step (h_s1) (State.onOpt_reach ..) rfl
  clear_value s2
  have h_s2x4 : Reach 0xa334042a208e6b400 s s2x4 := Reach.step (h_s1) (State.need_reach ..) rfl
  clear_value s2x4
  exact Reach.ite (Reach.ite (Reach.set (Reach.ite (Reach.set (h_s2) _ _ ((Fld.ok_ix ..).trans rfl)) (h_s2)) _ _ ((Fld.ok_sub rfl (ringFld_ok ..)))) (Reach.set (h_s1) _ _ ((Fld.ok_sub rfl (ringFld_ok ..))))) (Reach.ite (Reach.ite (h_s2x4) (Reach.ite (Reach.step (Reach.set (h_s2x4) _ _ ((Fld.ok_sub rfl (ringFld_ok ..)))) (State.laneLost_reach ..) rfl) (Reach.set (h_s2x4) _ _ ((Fld.ok_sub rfl (ringFld_ok ..)))))) (Reach.ite (Reach.set (h_s1) _ _ ((Fld.ok_sub rfl (ringFld_ok ..)))) (Reach.ite (Reach.step (h_s1) (State.onOpt_reach ..) rfl) (Reach.step (Reach.set (h_s1) _ _ ((Fld.ok_sub rfl (ringFld_ok ..)))) (State.laneLost_reach ..) rfl))))

theorem execToneWindow_reach (port lane : Nat) (transmit : Bool) (tone : Nat) (s : State) : ∃ t, execToneWindow port
    lane transmit tone s = .next t ∧ Reach 0xa334042a208e6b400 s t := by
  refine ⟨_, rfl, ?_⟩
  extract_lets st s1 wrong forced
  clear_value st wrong forced
  have h_s1 : Reach 0xa334042a208e6b400 s s1 := Reach.set (Reach.refl _ _) _ _ ((by split; (exact (Fld.ok_ix ..).trans rfl); (exact (Fld.ok_ix ..).trans rfl)))
  clear_value s1
  exact Reach.ite (Reach.ite (Reach.step (h_s1) (State.ringLocked_reach ..) rfl) (Reach.step (Reach.set (h_s1) _ _ ((Fld.ok_sub rfl (ringFld_ok ..)))) (State.onRing_reach ..) rfl)) (Reach.ite (Reach.ite (Reach.step (h_s1) (State.ringWrong_reach ..) rfl) (Reach.step (h_s1) (State.onRing_reach ..) rfl)) (h_s1))

theorem State.sendReports_reach (s : State) (k : Nat) (l : List (Nat × Nat)) : Reach 0x80100000000000000 s
    (State.sendReports s k l) := by
  induction l generalizing s k with
  | nil =>
    rw [State.sendReports]
    exact Reach.refl _ _
  | cons x l ih =>
    rw [State.sendReports]
    exact Reach.trans (Reach.step (Reach.step (Reach.refl _ _) (State.emit_reach ..) rfl) (State.onOpt_reach ..) rfl) (ih ..)

theorem execMonitorSample_reach (port : Nat) (powers : List LanePower) (s : State) : ∃ t, execMonitorSample port
    powers s = .next t ∧ Reach 0x80100000000000000 s t := by
  refine ⟨_, rfl, ?_⟩
  extract_lets s1
  have h_s1 : Reach 0x80100000000000000 s s1 := by
    unfold s1
    refine Reach.foldl (Reach.refl _ _) (?_)
    intro u x
    exact Reach.step (Reach.refl _ _) (State.onLane_reach ..) rfl
  clear_value s1
  exact Reach.ite (Reach.step (h_s1) (State.sendReports_reach ..) rfl) (h_s1)

theorem State.averageLane_reach (s : State) (k l errors : Nat) : Reach 0x80000000000400000 s
    (State.averageLane s k l errors) := by
  unfold State.averageLane
  extract_lets x s1 avg s2
  clear_value x avg
  have h_s1 : Reach 0x80000000000400000 s s1 := Reach.set (Reach.step (Reach.refl _ _) (State.onLane_reach ..) rfl) _ _ ((Fld.ok_ix ..).trans rfl)
  clear_value s1
  have h_s2 : Reach 0x80000000000400000 s s2 := Reach.trans (h_s1) (State.setAll_reach _ _ _ (okAll.cons ((Fld.ok_ix ..).trans rfl) (okAll.cons ((Fld.ok_ix ..).trans rfl) (okAll.cons ((Fld.ok_ix ..).trans rfl) (okAll.cons ((Fld.ok_ix ..).trans rfl) okAll.nil)))))
  clear_value s2
  exact Reach.ite (h_s1) (Reach.ite (Reach.set (h_s2) _ _ ((Fld.ok_ix ..).trans rfl)) (h_s2))

theorem State.fadeLane_reach (s : State) (k l : Nat) : Reach 0x400000 s (State.fadeLane s k l) := by
  unfold State.fadeLane
  extract_lets d rx far
  clear_value d rx far
  exact Reach.trans (Reach.refl _ _) (State.setAll_reach _ _ _ (okAll.cons ((Fld.ok_ix ..).trans rfl) (okAll.cons ((Fld.ok_ix ..).trans rfl) (okAll.cons ((Fld.ok_ix ..).trans rfl) okAll.nil))))

theorem State.actLane_reach (s : State) (k l : Nat) : Reach 0x80000420208c00000 s (State.actLane s k l) := by
  unfold State.actLane
  extract_lets tx rx x warn s1 s2 s3
  clear_value tx rx x warn
  have h_s1 : Reach 0x80000420208c00000 s s1 := Reach.ite (Reach.step (Reach.step (Reach.refl _ _) (State.onLane_reach ..) rfl) (State.raiseOpt_reach ..) rfl) (Reach.ite (Reach.step (Reach.refl _ _) (State.onLane_reach ..) rfl) (Reach.refl _ _))
  clear_value s1
  have h_s2 : Reach 0x80000420208c00000 s s2 := Reach.step (h_s1) (State.onLane_reach ..) rfl
  clear_value s2
  have h_s3 : Reach 0x80000420208c00000 s s3 := Reach.step (h_s2) (State.onOpt_reach ..) rfl
  clear_value s3
  exact Reach.ite (Reach.ite (Reach.ite (Reach.set (h_s3) _ _ ((Fld.ok_ix ..).trans rfl)) (h_s3)) (Reach.ite (Reach.set (Reach.step (h_s2) (State.onOpt_reach ..) rfl) _ _ ((Fld.ok_ix ..).trans rfl)) (h_s2))) (Reach.ite (Reach.step (h_s2) (State.need_reach ..) rfl) (h_s2))

theorem State.fibre_reach (s : State) (k : Nat) : Reach 0x420208c00000 s (State.fibre s k) := by
  unfold State.fibre
  extract_lets now s1
  clear_value now
  have h_s1 : Reach 0x420208c00000 s s1 := Reach.trans (Reach.refl _ _) (State.put_reach _ _ _ _ ((Fld.ok_ix ..).trans rfl))
  clear_value s1
  exact Reach.ite (Reach.step (h_s1) (State.raiseOpt_reach ..) rfl) (h_s1)

theorem execAveragingWindow_reach (port : Nat) (errors : List Nat) (s : State) : ∃ t, execAveragingWindow port
    errors s = .next t ∧ Reach 0x80000420208c00000 s t := by
  refine ⟨_, rfl, ?_⟩
  extract_lets lanes s1 s2 s3
  clear_value lanes
  have h_s1 : Reach 0x80000420208c00000 s s1 := by
    unfold s1
    refine Reach.foldl (Reach.refl _ _) (?_)
    intro u x
    exact Reach.step (Reach.refl _ _) (State.averageLane_reach ..) rfl
  clear_value s1
  have h_s2 : Reach 0x80000420208c00000 s s2 := by
    unfold s2
    refine Reach.ite (Reach.foldl (h_s1) (?_)) (h_s1)
    intro u x
    exact Reach.step (Reach.refl _ _) (State.fadeLane_reach ..) rfl
  clear_value s2
  have h_s3 : Reach 0x80000420208c00000 s s3 := Reach.step (h_s2) (State.fibre_reach ..) rfl
  clear_value s3
  refine Reach.foldl (h_s3) (?_)
  intro u x
  exact Reach.step (Reach.refl _ _) (State.actLane_reach ..) rfl

theorem execShadowMarker_reach (port lane code inverse : Nat) (equal : Bool) (skew : Nat) (s : State) : ∃ t,
    execShadowMarker port lane code inverse equal skew s = .next t ∧ Reach 0x80000420208c00000 s t := by
  refine ⟨_, rfl, ?_⟩
  extract_lets valid p run s1 locked x
  clear_value valid p run locked x
  have h_s1 : Reach 0x80000420208c00000 s s1 := Reach.step (Reach.refl _ _) (State.onOpt_reach ..) rfl
  clear_value s1
  exact Reach.ite (h_s1) (Reach.ite (Reach.ite (Reach.step (h_s1) (State.returnRx_reach ..) rfl) (h_s1)) (Reach.ite (h_s1) (Reach.ite (Reach.step (h_s1) (State.takeRx_reach ..) rfl) (Reach.ite (Reach.step (h_s1) (State.takeRx_reach ..) rfl) (Reach.ite (Reach.step (h_s1) (State.takeRx_reach ..) rfl) (h_s1))))))

theorem State.actReport_reach (s : State) (k : Nat) : Reach 0xc0000420208c00000 s (State.actReport s k) := by
  unfold State.actReport
  extract_lets p on use
  clear_value p on use
  refine Reach.ite (?_) (Reach.ite (Reach.ite (Reach.set (Reach.refl _ _) _ _ ((Fld.ok_sub rfl (ringFld_ok ..)))) (Reach.ite (Reach.step (Reach.set (Reach.refl _ _) _ _ ((Fld.ok_sub rfl (ringFld_ok ..)))) (State.onOpt_reach ..) rfl) (Reach.ite (Reach.step (Reach.refl _ _) (State.retireLaser_reach ..) rfl) (Reach.refl _ _)))) (Reach.ite (Reach.step (Reach.step (Reach.refl _ _) (State.stopMirror_reach ..) rfl) (State.onOpt_reach ..) rfl) (Reach.ite (Reach.step (Reach.refl _ _) (State.onOpt_reach ..) rfl) (Reach.refl _ _))))
  split
  · exact Reach.step (Reach.refl _ _) (State.need_reach ..) rfl
  · exact Reach.refl _ _

theorem execReportUnit_reach (port : Nat) (unit : List Byte) (s : State) : ∃ t, execReportUnit port unit s = .next t
    ∧ Reach 0xc0000420208c00000 s t := by
  refine ⟨_, rfl, ?_⟩
  extract_lets l kind v b on s1 s2
  clear_value l kind v b on
  have h_s1 : Reach 0xc0000420208c00000 s s1 := Reach.ite (Reach.refl _ _) (Reach.ite (Reach.set (Reach.refl _ _) _ _ ((Fld.ok_ix ..).trans rfl)) (Reach.ite (Reach.set (Reach.refl _ _) _ _ ((Fld.ok_ix ..).trans rfl)) (Reach.ite (Reach.step (Reach.refl _ _) (State.onLane_reach ..) rfl) (Reach.refl _ _))))
  clear_value s1
  have h_s2 : Reach 0xc0000420208c00000 s s2 := Reach.step (Reach.set (h_s1) _ _ ((Fld.ok_ix ..).trans rfl)) (State.onOpt_reach ..) rfl
  clear_value s2
  exact Reach.ite (Reach.step (Reach.step (h_s2) (State.actReport_reach ..) rfl) (State.calTry_reach ..) rfl) (Reach.refl _ _)

theorem execReportsOkLapse_reach (port : Nat) (s : State) : ∃ t, execReportsOkLapse port s = .next t ∧ Reach
    0x400000 s t := by
  refine ⟨_, rfl, ?_⟩
  exact Reach.set (Reach.refl _ _) _ _ ((Fld.ok_ix ..).trans rfl)

theorem execLaneLoss_reach (port lane : Nat) (s : State) : ∃ t, execLaneLoss port lane s = .next t ∧ Reach
    0xa334042a208e6b400 s t := by
  refine ⟨_, rfl, ?_⟩
  extract_lets s1
  have h_s1 : Reach 0xa334042a208e6b400 s s1 := Reach.set (Reach.refl _ _) _ _ ((Fld.ok_ix ..).trans rfl)
  clear_value s1
  exact Reach.ite (h_s1) (Reach.ite (Reach.step (h_s1) (State.onLane_reach ..) rfl) (Reach.step (h_s1) (State.laneLost_reach ..) rfl))

theorem execMirrorRelease_reach (port : Nat) (s : State) : ∃ t, execMirrorRelease port s = .next t ∧ Reach
    0x80000420208c00000 s t := by
  refine ⟨_, rfl, ?_⟩
  extract_lets l
  clear_value l
  exact Reach.ite (Reach.step (Reach.refl _ _) (State.stopMirror_reach ..) rfl) (Reach.refl _ _)

theorem execCalibrationTimer_reach (port : Nat) (s : State) : ∃ t, execCalibrationTimer port s = .next t ∧ Reach
    0x80000420208c00000 s t := by
  refine ⟨_, rfl, ?_⟩
  exact Reach.ite (Reach.step (Reach.step (Reach.refl _ _) (State.onOpt_reach ..) rfl) (State.calTry_reach ..) rfl) (Reach.refl _ _)

theorem execCalNow_reach (port : Nat) (s : State) : ∃ t, execCalNow port s = .next t ∧ Reach 0x80000420208c00001 s t
    := by
  refine ⟨_, rfl, ?_⟩
  refine Reach.trans (Reach.refl _ _) (State.hostWrite_reach _ _ _ _ _ _ (?_) rfl)
  intro t
  exact Reach.step (Reach.step (Reach.refl _ _) (State.onOpt_reach ..) rfl) (State.calTry_reach ..) rfl

theorem execCalCancel_reach (port : Nat) (s : State) : ∃ t, execCalCancel port s = .next t ∧ Reach
    0x80000420208c00001 s t := by
  refine ⟨_, rfl, ?_⟩
  refine Reach.trans (Reach.refl _ _) (State.hostWrite_reach _ _ _ _ _ _ (?_) rfl)
  intro t
  exact Reach.step (Reach.step (Reach.refl _ _) (State.endCal_reach ..) rfl) (State.onOpt_reach ..) rfl

theorem execCalibrationLaneDone_reach (port : Nat) (s : State) : ∃ t, execCalibrationLaneDone port s = .next t ∧
    Reach 0x80000420208c00000 s t := by
  refine ⟨_, rfl, ?_⟩
  extract_lets l
  clear_value l
  exact Reach.ite (Reach.step (Reach.trans (Reach.refl _ _) (State.setAll_reach _ _ _ (okAll.cons ((Fld.ok_ix ..).trans rfl) (okAll.cons ((Fld.ok_ix ..).trans rfl) okAll.nil)))) (State.onOpt_reach ..) rfl) (Reach.ite (Reach.ite (Reach.step (Reach.step (Reach.refl _ _) (State.endCal_reach ..) rfl) (State.raiseOpt_reach ..) rfl) (Reach.step (Reach.step (Reach.set (Reach.refl _ _) _ _ ((Fld.ok_ix ..).trans rfl)) (State.onOpt_reach ..) rfl) (State.calTry_reach ..) rfl)) (Reach.refl _ _))

theorem execOptCommission_reach (port : Nat) (s : State) : ∃ t, execOptCommission port s = .next t ∧ Reach
    0x80000420208c00001 s t := by
  refine ⟨_, rfl, ?_⟩
  refine Reach.trans (Reach.refl _ _) (State.hostWrite_reach _ _ _ _ _ _ (?_) rfl)
  intro t
  extract_lets t1
  have h_t1 : Reach 0x80000420208c00001 t t1 := Reach.set (Reach.refl _ _) _ _ rfl
  clear_value t1
  exact Reach.ite (Reach.step (h_t1) (State.onOpt_reach ..) rfl) (h_t1)

theorem State.commissionLane_reach (s : State) (k : Nat) (x : LanePower × Nat) : Reach 0x400000 s
    (State.commissionLane s k x) := by
  unfold State.commissionLane
  exact Reach.trans (Reach.refl _ _) (State.setAll_reach _ _ _ (okAll.cons ((Fld.ok_ix ..).trans rfl) (okAll.cons ((Fld.ok_ix ..).trans rfl) (okAll.cons ((Fld.ok_ix ..).trans rfl) (okAll.cons ((Fld.ok_ix ..).trans rfl) okAll.nil)))))

theorem execCommissioningDone_reach (port : Nat) (powers : List LanePower) (s : State) : ∃ t, execCommissioningDone
    port powers s = .next t ∧ Reach 0x80000400008400000 s t := by
  refine ⟨_, rfl, ?_⟩
  extract_lets s1
  have h_s1 : Reach 0x80000400008400000 s s1 := by
    unfold s1
    refine Reach.foldl (Reach.refl _ _) (?_)
    intro u x
    exact Reach.step (Reach.refl _ _) (State.commissionLane_reach ..) rfl
  clear_value s1
  exact Reach.ite (Reach.step (Reach.step (Reach.trans (Reach.set (h_s1) _ _ ((Fld.ok_ix ..).trans rfl)) (State.setBit_reach _ _ _ _ _ rfl)) (State.onOpt_reach ..) rfl) (State.journal_reach ..) rfl) (Reach.refl _ _)

theorem execOptLaserRestore_reach (laser : Nat) (s : State) : ∃ t, execOptLaserRestore laser s = .next t ∧ Reach
    0x80000420208c00001 s t := by
  refine ⟨_, rfl, ?_⟩
  refine Reach.trans (Reach.refl _ _) (State.hostWrite_reach _ _ _ _ _ _ (?_) rfl)
  intro t
  extract_lets t1 k l t2
  clear_value k l
  have h_t1 : Reach 0x80000420208c00001 t t1 := Reach.set (Reach.refl _ _) _ _ rfl
  clear_value t1
  have h_t2 : Reach 0x80000420208c00001 t t2 := Reach.step (Reach.set (Reach.trans (h_t1) (State.setBit_reach _ _ _ _ _ ((Fld.ok_ix ..).trans rfl))) _ _ ((Fld.ok_ix ..).trans rfl)) (State.journal_reach ..) rfl
  clear_value t2
  exact Reach.ite (Reach.ite (Reach.step (h_t2) (State.stopMirror_reach ..) rfl) (h_t2)) (h_t1)

/-- A laser is lit only outside FATAL (R376). -/
theorem State.writeLaser_reach (s : State) (n : Nat) (on : Bool) : Reach 0x40000000000400000 s (s.writeLaser n on) := by
  unfold State.writeLaser
  extract_lets retired s1
  have hfat : s1.fatal = s.fatal := State.fatal_set 0x400000 s _ _ ((Fld.ok_ix ..).trans rfl)
  have h1 : Reach 0x40000000000400000 s s1 := State.setBit_reach _ _ _ _ _ ((Fld.ok_ix ..).trans rfl)
  clear_value s1
  refine Reach.ite (Reach.refl _ _) (h1.trans ⟨fun p hp => ?_, fun _ _ => rfl, fun c => ?_, fun d h => ?_, fun _ h => h⟩)
  · cases p <;> first | rfl | exact absurd hp (by decide)
  · simp only [State.canonical, Bool.and_eq_true] at c ⊢
    exact ⟨c.1, Marks.sorted_to _ _ _ c.2⟩
  · have hs : s.fatal = true := hfat.symm.trans h
    show Marks.to s1.lit n _ = []
    rw [d h, hs]
    simp [Marks.to, Marks.del, Tab.erase]

theorem execOptLaserEn_reach (word value : Nat) (s : State) : ∃ t, execOptLaserEn word value s = .next t ∧ Reach
    0x40000c20208c00001 s t := by
  refine ⟨_, rfl, ?_⟩
  refine Reach.trans (Reach.refl _ _) (State.hostWrite_reach _ _ _ _ _ _ (?_) rfl)
  intro t
  refine Reach.step (Reach.foldl (Reach.refl _ _) (?_)) (State.coveredWrite_reach ..) rfl
  intro u x
  exact Reach.ite (Reach.step (Reach.refl _ _) (State.writeLaser_reach ..) rfl) (Reach.refl _ _)

theorem execOptCntClr_reach (s : State) : ∃ t, execOptCntClr s = .next t ∧ Reach 0x420208c00001 s t := by
  refine ⟨_, rfl, ?_⟩
  refine Reach.trans (Reach.refl _ _) (State.hostWrite_reach _ _ _ _ _ _ (?_) rfl)
  intro t
  extract_lets t1
  have h_t1 : Reach 0x420208c00001 t t1 := Reach.trans (Reach.refl _ _) (State.evtEndAll_reach _ _ _ (okFlds.cons rfl (okFlds.cons rfl (okFlds.cons rfl (okFlds.cons rfl (okFlds.cons rfl (okFlds.cons rfl okFlds.nil)))))) rfl)
  clear_value t1
  exact Reach.trans (h_t1) (State.clearAll_reach _ _ _ (okFlds.append (okFlds.cons rfl (okFlds.cons rfl (okFlds.cons rfl (okFlds.cons rfl okFlds.nil)))) (okFlds.flatMap fun _ => (okFlds.flatMap fun _ => (okFlds.cons ((Fld.ok_ix ..).trans rfl) (okFlds.cons ((Fld.ok_ix ..).trans rfl) okFlds.nil))))))

theorem execLineLanesLocked_reach (port : Nat) (s : State) : ∃ t, execLineLanesLocked port s = .next t ∧ Reach
    0x41000420208c08000 s t := by
  refine ⟨_, rfl, ?_⟩
  extract_lets s1
  have h_s1 : Reach 0x41000420208c08000 s s1 := Reach.trans (Reach.refl _ _) (State.clearAll_reach _ _ _ (okFlds.map fun _ => (Fld.ok_ix ..).trans rfl))
  clear_value s1
  exact Reach.ite (Reach.step (Reach.step (h_s1) (State.lightPort_reach ..) rfl) (State.losClear_reach ..) rfl) (Reach.refl _ _)

end Sys2Proof.Machine
end

