-- ==== Sys2Proof/Laws/ReachQuern.lean ====
section
/-! SUPPORT. What each operation and each command of Machine/Quern.lean reaches. -/

namespace Sys2Proof.Machine

theorem State.answerDrains_reach (s : State) (r : Nat) (l : List DrainReq) : Reach 0x13420208800018 s (s.answerDrains r l) := by
  induction l generalizing s with
  | nil =>
    rw [State.answerDrains]
    exact Reach.refl _ _
  | cons x l ih =>
    rcases x with ⟨n, _ | sid⟩ | n | _ <;> rw [State.answerDrains]
    · skip
      exact Reach.trans (Reach.step (Reach.step (Reach.refl _ _) (State.setDrains_reach ..) rfl) (State.phaseRefused_reach ..) rfl) (ih ..)
    · skip
      exact Reach.trans (Reach.step (Reach.step (Reach.step (Reach.step (Reach.refl _ _) (State.setDrains_reach ..) rfl) (State.phaseRefused_reach ..) rfl) (State.failFlight_reach ..) rfl) (State.phaseDone_reach ..) rfl) (ih ..)
    · skip
      exact Reach.trans (Reach.step (Reach.step (Reach.refl _ _) (State.setDrains_reach ..) rfl) (State.switchStopped_reach ..) rfl) (ih ..)
    · exact Reach.refl _ _

theorem State.flushOuts_reach (s : State) (l : List TileOut) : Reach 0xb000000000 s (State.flushOuts s l) := by
  induction l generalizing s with
  | nil =>
    rw [State.flushOuts]
    exact Reach.refl _ _
  | cons x l ih =>
    rw [State.flushOuts]
    exact Reach.trans (Reach.ite (Reach.step (Reach.refl _ _) (State.poisonRowsAt_reach ..) rfl) (Reach.step (Reach.refl _ _) (State.storeRows_reach ..) rfl)) (ih ..)

theorem State.regionRetired_reach (s : State) (r : Nat) : Reach 0x1b42b208800118 s (State.regionRetired s r) := by
  unfold State.regionRetired
  extract_lets s0 s1 s2
  have h_s0 : Reach 0x1b42b208800118 s s0 := Reach.step (Reach.refl _ _) (State.flushOuts_reach ..) rfl
  clear_value s0
  have h_s1 : Reach 0x1b42b208800118 s s1 := Reach.step (Reach.step (h_s0) (State.setRegionState_reach ..) rfl) (State.dropAll_reach ..) rfl
  clear_value s1
  have h_s2 : Reach 0x1b42b208800118 s s2 := Reach.step (Reach.step (Reach.step (h_s1) (State.answerDrains_reach ..) rfl) (State.regionEvents_reach ..) rfl) (State.raiseQrn_reach ..) rfl
  clear_value s2
  exact Reach.step (h_s2) (State.matFails_reach ..) rfl

theorem State.takeOut_reach (s : State) (g : Nat) : Reach 0x1b42b208800118 s (State.takeOut s g) := by
  unfold State.takeOut
  extract_lets r b free spare map __src s1 s2 __srcx8 s3 s5
  clear_value r b free spare map __src __srcx8
  have h_s1 : Reach 0x1b42b208800118 s s1 := Reach.trans (Reach.with_qrn (Reach.refl _ _) _ rfl) (State.setBit_reach _ _ _ _ _ ((Fld.ok_reg ..).trans rfl))
  clear_value s1
  have h_s2 : Reach 0x1b42b208800118 s s2 := Reach.set (h_s1) _ _ ((Fld.ok_reg ..).trans rfl)
  clear_value s2
  have h_s3 : Reach 0x1b42b208800118 s s3 := by
    unfold s3
    split
    · extract_lets s4
      have h_s4 : Reach 0x1b42b208800118 s s4 := Reach.with_qrn (h_s2) _ rfl
      clear_value s4
      exact Reach.ite (Reach.step (h_s4) (State.setSpare_reach ..) rfl) (Reach.ite (Reach.step (h_s4) (State.setSpare_reach ..) rfl) (h_s4))
    · exact Reach.ite (Reach.set (h_s2) _ _ ((Fld.ok_reg ..).trans rfl)) (h_s2)
  clear_value s3
  have h_s5 : Reach 0x1b42b208800118 s s5 := Reach.step (h_s3) (State.regionEvents_reach ..) rfl
  clear_value s5
  exact Reach.ite (Reach.step (h_s5) (State.regionRetired_reach ..) rfl) (h_s5)

theorem State.retireNow_reach (s : State) (g source : Nat) (force : Bool) : Reach 0x1b42b208800118 s
    (State.retireNow s g source force) := by
  unfold State.retireNow
  exact Reach.ite (Reach.refl _ _) (Reach.step (Reach.step (Reach.refl _ _) (State.raiseQrn_reach ..) rfl) (State.takeOut_reach ..) rfl)

theorem State.retire_reach (s : State) (g source : Nat) (force : Bool) : Reach 0x1b42b208800118 s
    (State.retire s g source force) := by
  unfold State.retire
  extract_lets __src
  clear_value __src
  exact Reach.ite (Reach.refl _ _) (Reach.ite (Reach.with_qrn (Reach.refl _ _) _ rfl) (Reach.step (Reach.refl _ _) (State.retireNow_reach ..) rfl))

theorem State.retireOne_reach (s : State) (d : DueBlock) : Reach 0x1b42b208800118 s (State.retireOne s d) := by
  unfold State.retireOne
  exact Reach.ite (Reach.step (Reach.step (Reach.refl _ _) (State.raiseQrn_reach ..) rfl) (State.takeOut_reach ..) rfl) (Reach.step (Reach.refl _ _) (State.retireNow_reach ..) rfl)

theorem State.retireDue_reach (s : State) (l : List DueBlock) : Reach 0x1b42b208800118 s (State.retireDue s l) := by
  induction l generalizing s with
  | nil =>
    rw [State.retireDue]
    exact Reach.refl _ _
  | cons x l ih =>
    rw [State.retireDue]
    extract_lets __src
    clear_value __src
    exact Reach.ite (Reach.trans (Reach.refl _ _) (ih ..)) (Reach.trans (Reach.step (Reach.with_qrn (Reach.refl _ _) _ rfl) (State.retireOne_reach ..) rfl) (ih ..))

theorem State.disarmAll_reach (s : State) (l : List BlockFail) : Reach 0x20000800000 s (State.disarmAll s l) := by
  induction l generalizing s with
  | nil =>
    rw [State.disarmAll]
    exact Reach.refl _ _
  | cons x l ih =>
    rw [State.disarmAll]
    exact Reach.trans (Reach.step (Reach.refl _ _) (State.disarm_reach ..) rfl) (ih ..)

theorem State.retireArmed_reach (s : State) (r : Nat) (l : List BlockFail) : Reach 0x1b42b208800118 s
    (State.retireArmed s r l) := by
  induction l generalizing s r with
  | nil =>
    rw [State.retireArmed]
    exact Reach.refl _ _
  | cons x l ih =>
    rw [State.retireArmed]
    exact Reach.trans (Reach.step (Reach.refl _ _) (State.retire_reach ..) rfl) (ih ..)

theorem State.poisonUsed_reach (s : State) (r sid tile : Nat) : Reach 0xa420208800110 s
    (State.poisonUsed s r sid tile) := by
  unfold State.poisonUsed
  extract_lets desc
  clear_value desc
  exact Reach.step (Reach.step (Reach.step (Reach.refl _ _) (State.raiseQrn_reach ..) rfl) (State.failFlight_reach ..) rfl) (State.matFail_reach ..) rfl

theorem State.startTile_reach (s : State) (r x sid tile : Nat) (part : Option (Nat × Nat)) (e : QEntry) : Reach
    0x1b42b208800318 s (State.startTile s r x sid tile part e) := by
  unfold State.startTile
  extract_lets p s1 arms s2 bad s3 now run __src
  clear_value p arms bad now run __src
  have h_s1 : Reach 0x1b42b208800318 s s1 := Reach.step (Reach.set (Reach.refl _ _) _ _ ((Fld.ok_reg ..).trans rfl)) (State.readErrors_reach ..) rfl
  clear_value s1
  have h_s2 : Reach 0x1b42b208800318 s s2 := Reach.step (h_s1) (State.disarmAll_reach ..) rfl
  clear_value s2
  have h_s3 : Reach 0x1b42b208800318 s s3 := Reach.ite (Reach.step (h_s2) (State.poisonUsed_reach ..) rfl) (h_s2)
  clear_value s3
  exact Reach.step (Reach.with_qrn (h_s3) _ rfl) (State.retireArmed_reach ..) rfl

theorem State.startNext_reach (s : State) (r a sid : Nat) (e : QEntry) (n : Nat) : Reach 0x1b42b208800318 s
    (State.startNext s r a sid e n) := by
  induction n generalizing s r a sid e with
  | zero =>
    rw [State.startNext]
    exact Reach.refl _ _
  | succ n ih =>
    rw [State.startNext]
    extract_lets __src split part next
    clear_value __src split part next
    refine Reach.ite (Reach.refl _ _) (Reach.ite (Reach.step (Reach.with_qrn (Reach.refl _ _) _ rfl) (State.failFlight_reach ..) rfl) (?_))
    split
    · exact Reach.refl _ _
    · exact Reach.trans (Reach.step (Reach.with_qrn (Reach.refl _ _) _ rfl) (State.startTile_reach ..) rfl) (ih ..)

theorem State.tilesDone_reach (s : State) (sid : Nat) (e : QEntry) : Reach 0x3000000000000 s
    (State.tilesDone s sid e) := by
  unfold State.tilesDone
  extract_lets w __src
  clear_value w __src
  exact Reach.ite (Reach.step (Reach.with_qrn (Reach.refl _ _) _ rfl) (State.onFlight_reach ..) rfl) (Reach.refl _ _)

theorem State.goOn_reach (s : State) (r sid : Nat) : Reach 0x1b42b208800318 s (State.goOn s r sid) := by
  unfold State.goOn
  split
  · exact Reach.refl _ _
  · exact Reach.step (Reach.step (Reach.refl _ _) (State.startNext_reach ..) rfl) (State.tilesDone_reach ..) rfl

theorem execTile_reach (region : Nat) (errors : List ReadError) (s : State) : ∃ t, execTile region errors s = .next
    t ∧ Reach 0x1b42b208800318 s t := by
  refine ⟨_, rfl, ?_⟩
  refine Reach.trans (Reach.refl _ _) (State.issueIn_reach _ _ _ _ _ _ (?_) rfl)
  intro e t
  split
  · exact Reach.step (Reach.step (Reach.step (Reach.refl _ _) (State.fly_reach ..) rfl) (State.readErrors_reach ..) rfl) (State.goOn_reach ..) rfl
  · exact Reach.refl _ _

theorem State.retryOk_reach (s : State) (r desc tile : Nat) (run : ArrayRun) (f : BlockFail) : Reach
    0x1b42b208800118 s (State.retryOk s r desc tile run f) := by
  unfold State.retryOk
  extract_lets g n s1 __src s2 lim
  clear_value g n __src lim
  have h_s1 : Reach 0x1b42b208800118 s s1 := Reach.step (Reach.refl _ _) (State.raiseQrn_reach ..) rfl
  clear_value s1
  have h_s2 : Reach 0x1b42b208800118 s s2 := Reach.with_qrn (h_s1) _ rfl
  clear_value s2
  exact Reach.ite (Reach.step (h_s2) (State.retire_reach ..) rfl) (h_s2)

theorem State.retryOks_reach (s : State) (r desc tile : Nat) (run : ArrayRun) (l : List BlockFail) : Reach
    0x1b42b208800118 s (State.retryOks s r desc tile run l) := by
  induction l generalizing s r desc tile run with
  | nil =>
    rw [State.retryOks]
    exact Reach.refl _ _
  | cons x l ih =>
    rw [State.retryOks]
    exact Reach.trans (Reach.step (Reach.refl _ _) (State.retryOk_reach ..) rfl) (ih ..)

theorem State.countCells_reach (s : State) (passed : Bool) (n : Nat) : Reach 0x800000 s
    (State.countCells s passed n) := by
  induction n generalizing s passed with
  | zero =>
    rw [State.countCells]
    exact Reach.refl _ _
  | succ n ih =>
    rw [State.countCells]
    exact Reach.trans (Reach.step (Reach.refl _ _) (State.countCell_reach ..) rfl) (ih ..)

theorem State.firstDetections_reach (s : State) (r tile : Nat) (l : List BlockFail) : Reach 0x10 s
    (State.firstDetections s r tile l) := by
  induction l generalizing s r tile with
  | nil =>
    rw [State.firstDetections]
    exact Reach.refl _ _
  | cons x l ih =>
    rw [State.firstDetections]
    exact Reach.ite (Reach.refl _ _) (Reach.step (Reach.refl _ _) (State.firstQrn_reach ..) rfl)

theorem State.setRun_reach (s : State) (r x : Nat) (run : ArrayRun) : Reach 0x1000000000000 s
    (State.setRun s r x run) := by
  unfold State.setRun
  extract_lets __src
  clear_value __src
  exact Reach.with_qrn (Reach.refl _ _) _ rfl

theorem State.endTile_reach (s : State) (r x : Nat) (run : ArrayRun) (e : QEntry) (poison : Bool) : Reach
    0x1b42b208800318 s (State.endTile s r x run e poison) := by
  unfold State.endTile
  extract_lets p out __src s1
  clear_value p out __src
  have h_s1 : Reach 0x1b42b208800318 s s1 := Reach.with_qrn (Reach.refl _ _) _ rfl
  clear_value s1
  exact Reach.step (Reach.step (h_s1) (State.retireDue_reach ..) rfl) (State.goOn_reach ..) rfl

theorem State.joinDue_reach (s : State) (r old : Nat) (fails : List DueBlock) : Reach 0x1000000000000 s
    (State.joinDue s r old fails) := by
  unfold State.joinDue
  extract_lets new __src
  clear_value new __src
  exact Reach.with_qrn (Reach.refl _ _) _ rfl

theorem State.attemptEnd_reach (s : State) (r x : Nat) (run : ArrayRun) (e : QEntry) (given : List BlockFail) :
    Reach 0x1b42b208800318 s (State.attemptEnd s r x run e given) := by
  unfold State.attemptEnd
  extract_lets fails s0 desc read first one oneBlocks both passed s1 s2 info2 due s3 early s4
  clear_value fails desc read first one oneBlocks both passed info2 due early
  have h_s0 : Reach 0x1b42b208800318 s s0 := Reach.step (Reach.refl _ _) (State.firstDetections_reach ..) rfl
  clear_value s0
  have h_s1 : Reach 0x1b42b208800318 s s1 := Reach.step (h_s0) (State.countCells_reach ..) rfl
  clear_value s1
  have h_s2 : Reach 0x1b42b208800318 s s2 := Reach.step (h_s1) (State.retryOks_reach ..) rfl
  clear_value s2
  have h_s3 : Reach 0x1b42b208800318 s s3 := by
    unfold s3
    refine Reach.ite (?_) (Reach.step (h_s2) (State.joinDue_reach ..) rfl)
    split
    · exact Reach.step (h_s2) (State.raiseQrn_reach ..) rfl
    · exact h_s2
  clear_value s3
  have h_s4 : Reach 0x1b42b208800318 s s4 := by
    unfold s4
    refine Reach.foldl (h_s3) (?_)
    intro u x_1
    exact Reach.step (Reach.refl _ _) (State.raiseQrn_reach ..) rfl
  clear_value s4
  exact Reach.ite (Reach.step (h_s0) (State.endTile_reach ..) rfl) (Reach.ite (Reach.step (Reach.step (h_s0) (State.poisonUsed_reach ..) rfl) (State.endTile_reach ..) rfl) (Reach.ite (Reach.ite (Reach.step (h_s0) (State.endTile_reach ..) rfl) (Reach.step (Reach.trans (h_s0) (State.bump_reach _ _ _ _ ((Fld.ok_reg ..).trans rfl))) (State.setRun_reach ..) rfl)) (Reach.ite (Reach.step (h_s2) (State.endTile_reach ..) rfl) (Reach.step (Reach.step (Reach.step (h_s4) (State.failFlight_reach ..) rfl) (State.matFail_reach ..) rfl) (State.endTile_reach ..) rfl))))

theorem execTileAttemptEnd_reach (region array : Nat) (fails : List BlockFail) (s : State) : ∃ t, execTileAttemptEnd
    region array fails s = .next t ∧ Reach 0x1b42b208800318 s t := by
  refine ⟨_, rfl, ?_⟩
  split
  · split
    · exact Reach.step (Reach.refl _ _) (State.attemptEnd_reach ..) rfl
    · exact Reach.step (Reach.refl _ _) (State.clearTiles_reach ..) rfl
  · exact Reach.refl _ _

theorem State.drainTile_reach (s : State) (r : Nat) (e : QEntry) (o : TileOut) : Reach 0x6faa42b208847f18 s
    (State.drainTile s r e o) := by
  unfold State.drainTile
  extract_lets s1 w has nan inf s2 s3 s4
  clear_value w has nan inf
  have h_s1 : Reach 0x6faa42b208847f18 s s1 := Reach.trans (Reach.refl _ _) (State.add64_reach _ _ _ _ _ ((Fld.ok_reg ..).trans rfl) ((Fld.ok_reg ..).trans rfl))
  clear_value s1
  have h_s2 : Reach 0x6faa42b208847f18 s s2 := Reach.step (h_s1) (State.storeRows_reach ..) rfl
  clear_value s2
  have h_s3 : Reach 0x6faa42b208847f18 s s3 := Reach.ite (Reach.trans (h_s2) (State.bump_reach _ _ _ _ ((Fld.ok_reg ..).trans rfl))) (h_s2)
  clear_value s3
  have h_s4 : Reach 0x6faa42b208847f18 s s4 := Reach.ite (Reach.trans (h_s3) (State.bump_reach _ _ _ _ ((Fld.ok_reg ..).trans rfl))) (h_s3)
  clear_value s4
  refine Reach.ite (Reach.step (h_s1) (State.poisonRowsAt_reach ..) rfl) (?_)
  split
  · exact Reach.step (Reach.step (h_s4) (State.nonFinite_reach ..) rfl) (State.giveAll_reach ..) rfl
  · exact h_s4

theorem execTileDrain_reach (region array : Nat) (errors : List ReadError) (s : State) : ∃ t, execTileDrain region
    array errors s = .next t ∧ Reach 0x6fbb42b208847f18 s t := by
  refine ⟨_, rfl, ?_⟩
  split
  · exact Reach.refl _ _
  · split
    · exact Reach.step (Reach.refl _ _) (State.clearTiles_reach ..) rfl
    · extract_lets s1 __src
      clear_value __src
      have h_s1 : Reach 0x6fbb42b208847f18 s s1 := Reach.step (Reach.step (Reach.refl _ _) (State.drainTile_reach ..) rfl) (State.readErrors_reach ..) rfl
      clear_value s1
      exact Reach.step (Reach.with_qrn (h_s1) _ rfl) (State.goOn_reach ..) rfl

theorem State.swRetire_reach (s : State) (r mask : Nat) (l : List Nat) : Reach 0x1b42b208800118 s
    (State.swRetire s r mask l) := by
  induction l generalizing s r mask with
  | nil =>
    rw [State.swRetire]
    exact Reach.refl _ _
  | cons x l ih =>
    rw [State.swRetire]
    exact Reach.trans (Reach.ite (Reach.step (Reach.refl _ _) (State.retire_reach ..) rfl) (Reach.refl _ _)) (ih ..)

theorem execSwRetire_reach (region mask : Nat) (s : State) : ∃ t, execSwRetire region mask s = .next t ∧ Reach
    0x1b42b208800119 s t := by
  refine ⟨_, rfl, ?_⟩
  refine Reach.trans (Reach.refl _ _) (State.hostWrite_reach _ _ _ _ _ _ (?_) rfl)
  intro t
  exact Reach.step (Reach.refl _ _) (State.swRetire_reach ..) rfl

theorem State.restoreBlock_reach (s : State) (r b : Nat) : Reach 0x3420208800018 s (State.restoreBlock s r b) := by
  unfold State.restoreBlock
  extract_lets g __src s1 s2 map vacant __srcx6 s3
  clear_value g __src map vacant __srcx6
  have h_s1 : Reach 0x3420208800018 s s1 := Reach.step (Reach.trans (Reach.with_qrn (Reach.refl _ _) _ rfl) (State.setBit_reach _ _ _ _ _ ((Fld.ok_reg ..).trans rfl))) (State.journal_reach ..) rfl
  clear_value s1
  have h_s2 : Reach 0x3420208800018 s s2 := Reach.set (h_s1) _ _ ((Fld.ok_reg ..).trans rfl)
  clear_value s2
  have h_s3 : Reach 0x3420208800018 s s3 := by
    unfold s3
    split
    · exact Reach.with_qrn (h_s2) _ rfl
    · exact Reach.ite (Reach.set (Reach.set (h_s2) _ _ ((Fld.ok_reg ..).trans rfl)) _ _ ((Fld.ok_reg ..).trans rfl)) (h_s2)
  clear_value s3
  exact Reach.ite (Reach.refl _ _) (Reach.ite (Reach.step (Reach.step (Reach.step (h_s3) (State.setRegionState_reach ..) rfl) (State.regionEvents_reach ..) rfl) (State.enterDue_reach ..) rfl) (Reach.step (h_s3) (State.regionEvents_reach ..) rfl))

theorem State.restoreBlocks_reach (s : State) (r mask : Nat) (l : List Nat) : Reach 0x3420208800018 s
    (State.restoreBlocks s r mask l) := by
  induction l generalizing s r mask with
  | nil =>
    rw [State.restoreBlocks]
    exact Reach.refl _ _
  | cons x l ih =>
    rw [State.restoreBlocks]
    exact Reach.trans (Reach.ite (Reach.step (Reach.refl _ _) (State.restoreBlock_reach ..) rfl) (Reach.refl _ _)) (ih ..)

theorem execQrnBlkRestore_reach (region mask : Nat) (s : State) : ∃ t, execQrnBlkRestore region mask s = .next t ∧
    Reach 0x3420208800019 s t := by
  refine ⟨_, rfl, ?_⟩
  refine Reach.trans (Reach.refl _ _) (State.hostWrite_reach _ _ _ _ _ _ (?_) rfl)
  intro t
  exact Reach.ite (Reach.step (Reach.refl _ _) (State.restoreBlocks_reach ..) rfl) (Reach.refl _ _)

theorem execSpareCheck_reach (region : Nat) (passed : Bool) (s : State) : ∃ t, execSpareCheck region passed s =
    .next t ∧ Reach 0x1b42b208800118 s t := by
  refine ⟨_, rfl, ?_⟩
  extract_lets g
  clear_value g
  exact Reach.ite (Reach.step (Reach.refl _ _) (State.retireNow_reach ..) rfl) (Reach.refl _ _)

theorem State.stopRegion_reach (s : State) (r : Nat) : Reach 0x3000000000010 s (State.stopRegion s r) := by
  unfold State.stopRegion
  extract_lets mine stop s1 __src
  clear_value mine stop __src
  have h_s1 : Reach 0x3000000000010 s s1 := Reach.step (Reach.step (Reach.refl _ _) (State.setRegionState_reach ..) rfl) (State.clearTiles_reach ..) rfl
  clear_value s1
  exact Reach.with_sched (h_s1) _ rfl

theorem State.endTiles_reach (s : State) (sid : Nat) : Reach 0x1b42b208800118 s (State.endTiles s sid) := by
  unfold State.endTiles
  extract_lets s1
  have h_s1 : Reach 0x1b42b208800118 s s1 := Reach.step (Reach.refl _ _) (State.clearTiles_reach ..) rfl
  clear_value s1
  exact Reach.step (h_s1) (State.retireDue_reach ..) rfl

theorem execScbPar_reach (region : Nat) (s : State) : ∃ t, execScbPar region s = .next t ∧ Reach 0x1b42b208800118 s
    t := by
  refine ⟨_, rfl, ?_⟩
  extract_lets s0 s1
  have h_s0 : Reach 0x1b42b208800118 s s0 := Reach.step (Reach.step (Reach.step (Reach.refl _ _) (State.stopRegion_reach ..) rfl) (State.regionEvents_reach ..) rfl) (State.raiseQrn_reach ..) rfl
  clear_value s0
  have h_s1 : Reach 0x1b42b208800118 s s1 := Reach.step (Reach.step (h_s0) (State.matFails_reach ..) rfl) (State.retireDue_reach ..) rfl
  clear_value s1
  exact Reach.ite (Reach.refl _ _) (Reach.ite (Reach.step (h_s1) (State.restart_reach ..) rfl) (Reach.ite (Reach.step (h_s1) (State.switchDue_reach ..) rfl) (h_s1)))

theorem execSeqRestart_reach (region : Nat) (s : State) : ∃ t, execSeqRestart region s = .next t ∧ Reach
    0x3420208800019 s t := by
  refine ⟨_, rfl, ?_⟩
  refine Reach.trans (Reach.refl _ _) (State.hostWrite_reach _ _ _ _ _ _ (?_) rfl)
  intro t
  exact Reach.step (Reach.set (Reach.refl _ _) _ _ rfl) (State.restart_reach ..) rfl

theorem execFlitResent_reach (queue : QueueId) (sid : Nat) (second : Bool) (s : State) : ∃ t, execFlitResent queue
    sid second s = .next t ∧ Reach 0x2420208800010 s t := by
  refine ⟨_, rfl, ?_⟩
  split
  · exact Reach.refl _ _
  · extract_lets desc s1
    clear_value desc
    have h_s1 : Reach 0x2420208800010 s s1 := Reach.step (Reach.trans (Reach.refl _ _) (State.bump_reach _ _ _ _ ((Fld.ok_reg ..).trans rfl))) (State.raiseQrn_reach ..) rfl
    clear_value s1
    exact Reach.ite (Reach.step (Reach.step (h_s1) (State.raiseQrn_reach ..) rfl) (State.failFlight_reach ..) rfl) (h_s1)

theorem execQrnCntClr_reach (region : Nat) (s : State) : ∃ t, execQrnCntClr region s = .next t ∧ Reach
    0x420208800011 s t := by
  refine ⟨_, rfl, ?_⟩
  refine Reach.trans (Reach.refl _ _) (State.hostWrite_reach _ _ _ _ _ _ (?_) rfl)
  intro t
  exact Reach.trans (Reach.refl _ _) (State.clearAll_reach _ _ _ (okFlds.cons ((Fld.ok_reg ..).trans rfl) (okFlds.cons ((Fld.ok_reg ..).trans rfl) (okFlds.cons ((Fld.ok_reg ..).trans rfl) (okFlds.cons ((Fld.ok_reg ..).trans rfl) (okFlds.cons ((Fld.ok_reg ..).trans rfl) (okFlds.cons ((Fld.ok_reg ..).trans rfl) (okFlds.cons ((Fld.ok_reg ..).trans rfl) (okFlds.cons ((Fld.ok_reg ..).trans rfl) (okFlds.cons ((Fld.ok_reg ..).trans rfl) okFlds.nil))))))))))

theorem State.lowRate_reach (s : State) (r rate : Nat) : Reach 0x1420208800010 s (State.lowRate s r rate) := by
  unfold State.lowRate
  extract_lets low lo hi __src s1 __srcx5
  clear_value low lo hi __src __srcx5
  have h_s1 : Reach 0x1420208800010 s s1 := Reach.with_qrn (Reach.refl _ _) _ rfl
  clear_value s1
  exact Reach.ite (Reach.step (Reach.trans (Reach.with_qrn (h_s1) _ rfl) (State.evt_reach _ _ _ ((Fld.ok_reg ..).trans rfl) rfl)) (State.raiseQrn_reach ..) rfl) (Reach.ite (Reach.trans (Reach.with_qrn (h_s1) _ rfl) (State.evtEnd_reach _ _ _ ((Fld.ok_reg ..).trans rfl) rfl)) (h_s1))

theorem State.tempo_reach (s : State) (r : Nat) (l : List TempoReport) : Reach 0x1420208800010 s (State.tempo s r l)
    := by
  induction l generalizing s r with
  | nil =>
    rw [State.tempo]
    exact Reach.refl _ _
  | cons x l ih =>
    rw [State.tempo]
    exact Reach.trans (Reach.step (Reach.trans (Reach.refl _ _) (State.setAll_reach _ _ _ (okAll.cons ((Fld.ok_reg ..).trans rfl) (okAll.cons ((Fld.ok_reg ..).trans rfl) (okAll.cons ((Fld.ok_reg ..).trans rfl) okAll.nil))))) (State.lowRate_reach ..) rfl) (ih ..)

theorem State.slowestRegion_reach (s : State) (d : Nat) : Reach 0x10 s (State.slowestRegion s d) := by
  unfold State.slowestRegion
  extract_lets rate best
  clear_value rate best
  exact Reach.trans (Reach.refl _ _) (State.setAll_reach _ _ _ (okAll.cons ((Fld.ok_ix ..).trans rfl) (okAll.cons ((Fld.ok_ix ..).trans rfl) okAll.nil)))

theorem execTempoWindow_reach (reports : List TempoReport) (s : State) : ∃ t, execTempoWindow reports s = .next t ∧
    Reach 0x1420208800010 s t := by
  refine ⟨_, rfl, ?_⟩
  exact Reach.ite (Reach.step (Reach.step (Reach.step (Reach.step (Reach.step (Reach.refl _ _) (State.tempo_reach ..) rfl) (State.slowestRegion_reach ..) rfl) (State.slowestRegion_reach ..) rfl) (State.slowestRegion_reach ..) rfl) (State.slowestRegion_reach ..) rfl) (Reach.refl _ _)

end Sys2Proof.Machine
end

