-- ==== Sys2Proof/Laws/ReachTimeCmd.lean ====
section
/-! SUPPORT. What each operation and each command of Machine/TimeCmd.lean reaches. -/

namespace Sys2Proof.Machine

theorem State.timWrite_reach (s : State) : Reach 0x200100000 s (State.timWrite s) := by
  unfold State.timWrite
  exact Reach.trans (Reach.refl _ _) (State.evtEndAll_reach _ _ _ (okFlds.cons rfl (okFlds.cons rfl (okFlds.cons rfl (okFlds.cons rfl okFlds.nil)))) rfl)

theorem State.takeRates_reach (s : State) : Reach 0x10000000000100000 s (State.takeRates s) := by
  unfold State.takeRates
  extract_lets t s1
  clear_value t
  have h_s1 : Reach 0x10000000000100000 s s1 := Reach.with_time (Reach.refl _ _) _ rfl
  clear_value s1
  exact Reach.ite (Reach.trans (h_s1) (State.put_reach _ _ _ _ rfl)) (h_s1)

theorem State.moveIntervals_reach (s : State) (d : Int) : Reach 0x2362a000000000000 s (State.moveIntervals s d) := by
  unfold State.moveIntervals
  extract_lets __src __srcx1 __srcx2 __srcx3 __srcx4 __srcx5 __srcx6
  clear_value __src __srcx1 __srcx2 __srcx3 __srcx4 __srcx5 __srcx6
  exact Reach.with_sched_step_mbr_fab_late_lhl_mlr_slu (Reach.refl _ _) _ _ _ _ _ _ _ _ rfl

theorem State.setTime_reach (s : State) (total : Int) : Reach 0x10000000000000000 s (State.setTime s total) := by
  unfold State.setTime
  extract_lets t __src
  clear_value t __src
  exact Reach.with_time (Reach.refl _ _) _ rfl

theorem State.stepTo_reach (s : State) (total : Int) : Reach 0x3362b420208b08000 s (State.stepTo s total) := by
  unfold State.stepTo
  extract_lets sec s1 s2
  clear_value sec
  have h_s1 : Reach 0x3362b420208b08000 s s1 := Reach.step (Reach.step (Reach.step (Reach.refl _ _) (State.setTime_reach ..) rfl) (State.moveIntervals_reach ..) rfl) (State.followGates_reach ..) rfl
  clear_value s1
  have h_s2 : Reach 0x3362b420208b08000 s s2 := Reach.step (Reach.trans (h_s1) (State.evt_reach _ _ _ rfl rfl)) (State.raise_reach ..) rfl
  clear_value s2
  exact Reach.ite (Reach.step (h_s2) (State.secondBoundary_reach ..) rfl) (h_s2)

theorem State.applySet_reach (s : State) : Reach 0x3362b420208b08000 s (State.applySet s) := by
  unfold State.applySet
  split
  · exact Reach.refl _ _
  · extract_lets __src s1
    clear_value __src
    have h_s1 : Reach 0x3362b420208b08000 s s1 := Reach.with_time (Reach.refl _ _) _ rfl
    clear_value s1
    exact Reach.set (Reach.step (h_s1) (State.stepTo_reach ..) rfl) _ _ rfl

theorem State.applyStep_reach (s : State) : Reach 0x3362b420208b08000 s (State.applyStep s) := by
  unfold State.applyStep
  split
  · exact Reach.refl _ _
  · extract_lets __src
    clear_value __src
    exact Reach.step (Reach.with_time (Reach.refl _ _) _ rfl) (State.stepTo_reach ..) rfl

theorem leaseFlds_ok (v : Fld → Nat) : okAll 0x2080004 (leaseFlds.map fun f => (f, v f)) :=
  okAll.cons rfl (by
    rw [List.map_append, List.map_map, List.map_map]
    exact okAll.append (okAll.map fun _ => (Fld.ok_ix ..).trans rfl) (okAll.map fun _ => (Fld.ok_ix ..).trans rfl))

theorem State.passMs_reach (s : State) (n : Nat) : Reach 0x2080004 s (State.passMs s n) := by
  unfold State.passMs
  exact Reach.ite (Reach.refl _ _) (Reach.step (Reach.trans (Reach.refl _ _) (State.setAll_reach _ _ _ (leaseFlds_ok _)))
    (State.growAges_reach ..) rfl)

theorem State.passSecond_reach (s : State) : Reach 0x408000 s (State.passSecond s) := by
  unfold State.passSecond
  refine Reach.foldl (Reach.trans (Reach.refl _ _) (State.setAll_reach _ _ _ (okAll.map fun _ => (Fld.ok_ix ..).trans rfl))) (?_)
  intro u x
  exact Reach.trans (Reach.refl _ _) (State.bump_reach _ _ _ _ ((Fld.ok_ix ..).trans rfl))

theorem State.crossSecond_reach (s : State) : Reach 0x11201020200408000 s (State.crossSecond s) := by
  unfold State.crossSecond
  extract_lets __src
  clear_value __src
  exact Reach.step (Reach.step (Reach.with_time (Reach.refl _ _) _ rfl) (State.passSecond_reach ..) rfl) (State.secondBoundary_reach ..) rfl

theorem State.crossSeconds_reach (s : State) (k : Nat) : Reach 0x11201020200408000 s (State.crossSeconds s k) := by
  unfold State.crossSeconds
  refine Reach.foldl (Reach.refl _ _) (?_)
  intro u x
  exact Reach.step (Reach.refl _ _) (State.crossSecond_reach ..) rfl

theorem State.runTo_reach (s : State) (n : Nat) : Reach 0x11201020202488004 s (State.runTo s n) := by
  unfold State.runTo
  extract_lets ns __src s1
  clear_value ns __src
  have h_s1 : Reach 0x11201020202488004 s s1 := Reach.with_time (Reach.refl _ _) _ rfl
  clear_value s1
  exact Reach.step (Reach.step (h_s1) (State.passMs_reach ..) rfl) (State.crossSeconds_reach ..) rfl

theorem State.loseRefclk_reach (s : State) : Reach 0x3334046a208b6b400 s (State.loseRefclk s) := by
  unfold State.loseRefclk
  extract_lets __src s1
  clear_value __src
  have h_s1 : Reach 0x3334046a208b6b400 s s1 := Reach.trans (Reach.with_time (Reach.refl _ _) _ rfl) (State.setAll_reach _ _ _ (okAll.cons rfl (okAll.cons rfl (okAll.cons rfl okAll.nil))))
  clear_value s1
  exact Reach.ite (Reach.refl _ _) (Reach.step (Reach.step (Reach.trans (h_s1) (State.evt_reach _ _ _ rfl rfl)) (State.raise_reach ..) rfl) (State.linkFaults_reach ..) rfl)

theorem State.tick_reach (s : State) : Reach 0x3376b46a20afeb404 s (State.tick s) := by
  unfold State.tick
  extract_lets s1 x total __src s2
  clear_value x total __src
  have h_s1 : Reach 0x3376b46a20afeb404 s s1 := Reach.step (Reach.step (Reach.step (Reach.refl _ _) (State.takeRates_reach ..) rfl) (State.applySet_reach ..) rfl) (State.applyStep_reach ..) rfl
  clear_value s1
  have h_s2 : Reach 0x3376b46a20afeb404 s s2 := Reach.with_time (h_s1) _ rfl
  clear_value s2
  exact Reach.ite (Reach.refl _ _) (Reach.ite (Reach.step (Reach.refl _ _) (State.loseRefclk_reach ..) rfl) (Reach.step (Reach.ite (Reach.set (h_s2) _ _ rfl) (h_s2)) (State.runTo_reach ..) rfl))

theorem execSecondBoundary_reach (s : State) : ∃ t, execSecondBoundary s = .next t ∧ Reach 0x11201020202488004 s t
    := by
  refine ⟨_, rfl, ?_⟩
  exact Reach.ite (Reach.step (Reach.refl _ _) (State.runTo_reach ..) rfl) (Reach.refl _ _)

theorem execTimInc_reach (hi : Nat) (s : State) : ∃ t, execTimInc hi s = .next t ∧ Reach 0x10000420608900001 s t := by
  refine ⟨_, rfl, ?_⟩
  refine Reach.trans (Reach.refl _ _) (State.hostWrite_reach _ _ _ _ _ _ (?_) rfl)
  intro t
  extract_lets lo t_1 inc __src
  clear_value lo inc __src
  have h_t_1 : Reach 0x10000420608900001 t t_1 := Reach.with_heldLo (Reach.refl _ _) _ (Tab.sorted_erase _ _) rfl
  clear_value t_1
  exact Reach.ite (Reach.trans (Reach.with_time (h_t_1) _ rfl) (State.setAll_reach _ _ _ (okAll.cons rfl (okAll.cons rfl (okAll.cons rfl okAll.nil))))) (h_t_1)

theorem execTimSet_reach (s : State) : ∃ t, execTimSet s = .next t ∧ Reach 0x10000420208900001 s t := by
  refine ⟨_, rfl, ?_⟩
  refine Reach.trans (Reach.refl _ _) (State.hostWrite_reach _ _ _ _ _ _ (?_) rfl)
  intro t
  extract_lets t_1 ns sec __src
  clear_value ns sec __src
  have h_t_1 : Reach 0x10000420208900001 t t_1 := Reach.step (Reach.refl _ _) (State.timWrite_reach ..) rfl
  clear_value t_1
  exact Reach.ite (h_t_1) (Reach.ite (Reach.trans (h_t_1) (State.evt_reach _ _ _ rfl rfl)) (Reach.with_time (h_t_1) _ rfl))

theorem execTimStep_reach (s : State) : ∃ t, execTimStep s = .next t ∧ Reach 0x10000420208900001 s t := by
  refine ⟨_, rfl, ?_⟩
  refine Reach.trans (Reach.refl _ _) (State.hostWrite_reach _ _ _ _ _ _ (?_) rfl)
  intro t
  extract_lets t_1 __src
  clear_value __src
  have h_t_1 : Reach 0x10000420208900001 t t_1 := Reach.step (Reach.refl _ _) (State.timWrite_reach ..) rfl
  clear_value t_1
  exact Reach.ite (Reach.with_time (h_t_1) _ rfl) (Reach.trans (h_t_1) (State.evt_reach _ _ _ rfl rfl))

theorem execTimSlew_reach (s : State) : ∃ t, execTimSlew s = .next t ∧ Reach 0x10000420208900001 s t := by
  refine ⟨_, rfl, ?_⟩
  refine Reach.trans (Reach.refl _ _) (State.hostWrite_reach _ _ _ _ _ _ (?_) rfl)
  intro t
  extract_lets t_1 __src
  clear_value __src
  have h_t_1 : Reach 0x10000420208900001 t t_1 := Reach.step (Reach.refl _ _) (State.timWrite_reach ..) rfl
  clear_value t_1
  exact Reach.with_time (h_t_1) _ rfl

theorem execSlewEnd_reach (s : State) : ∃ t, execSlewEnd s = .next t ∧ Reach 0x11201020202588004 s t := by
  refine ⟨_, rfl, ?_⟩
  extract_lets __src s1 n s2 __srcx4
  clear_value __src n __srcx4
  have h_s1 : Reach 0x11201020202588004 s s1 := Reach.set (Reach.with_time (Reach.refl _ _) _ rfl) _ _ rfl
  clear_value s1
  have h_s2 : Reach 0x11201020202588004 s s2 := Reach.step (h_s1) (State.setTime_reach ..) rfl
  clear_value s2
  exact Reach.ite (Reach.ite (Reach.step (h_s1) (State.runTo_reach ..) rfl) (Reach.with_time (h_s2) _ rfl)) (Reach.refl _ _)

theorem execTimeStep_reach (s : State) : ∃ t, execTimeStep s = .next t ∧ Reach 0x3362b420208b08000 s t := by
  refine ⟨_, rfl, ?_⟩
  exact Reach.ite (Reach.step (Reach.step (Reach.refl _ _) (State.applySet_reach ..) rfl) (State.applyStep_reach ..) rfl) (Reach.refl _ _)

theorem execTimSnap_reach (s : State) : ∃ t, execTimSnap s = .next t ∧ Reach 0x420208900001 s t := by
  refine ⟨_, rfl, ?_⟩
  refine Reach.trans (Reach.refl _ _) (State.hostWrite_reach _ _ _ _ _ _ (?_) rfl)
  intro t
  exact Reach.trans (Reach.refl _ _) (State.setAll_reach _ _ _ (okAll.cons rfl (okAll.cons rfl (okAll.cons rfl okAll.nil))))

theorem execRefclkLoss_reach (s : State) : ∃ t, execRefclkLoss s = .next t ∧ Reach 0x3334046a208b6b400 s t := by
  refine ⟨_, rfl, ?_⟩
  exact Reach.step (Reach.refl _ _) (State.loseRefclk_reach ..) rfl

theorem execRefclkReturn_reach (s : State) : ∃ t, execRefclkReturn s = .next t ∧ Reach 0x10000040200100000 s t := by
  refine ⟨_, rfl, ?_⟩
  extract_lets __src s1
  clear_value __src
  have h_s1 : Reach 0x10000040200100000 s s1 := Reach.trans (Reach.set (Reach.with_time (Reach.refl _ _) _ rfl) _ _ rfl) (State.evtEnd_reach _ _ _ rfl rfl)
  clear_value s1
  exact Reach.ite (Reach.step (h_s1) (State.linkClears_reach ..) rfl) (Reach.refl _ _)

theorem execTimeUnitSync_reach (diff : Int) (s : State) : ∃ t, execTimeUnitSync diff s = .next t ∧ Reach
    0x10000420208900000 s t := by
  refine ⟨_, rfl, ?_⟩
  extract_lets __src
  clear_value __src
  exact Reach.ite (Reach.refl _ _) (Reach.ite (Reach.step (Reach.trans (Reach.with_time (Reach.refl _ _) _ rfl) (State.evt_reach _ _ _ rfl rfl)) (State.raise_reach ..) rfl) (Reach.with_time (Reach.refl _ _) _ rfl))

theorem execHoldover_reach (s : State) : ∃ t, execHoldover s = .next t ∧ Reach 0x100000 s t := by
  refine ⟨_, rfl, ?_⟩
  exact Reach.ite (Reach.set (Reach.refl _ _) _ _ rfl) (Reach.refl _ _)

theorem execPpsInEdge_reach (s : State) : ∃ t, execPpsInEdge s = .next t ∧ Reach 0x100000 s t := by
  refine ⟨_, rfl, ?_⟩
  exact Reach.set (Reach.trans (Reach.trans (Reach.refl _ _) (State.set64_reach _ _ _ _ _ rfl rfl)) (State.bump_reach _ _ _ _ rfl)) _ _ rfl

theorem execPpsInLost_reach (s : State) : ∃ t, execPpsInLost s = .next t ∧ Reach 0x420208900000 s t := by
  refine ⟨_, rfl, ?_⟩
  exact Reach.ite (Reach.step (Reach.trans (Reach.set (Reach.refl _ _) _ _ rfl) (State.evt_reach _ _ _ rfl rfl)) (State.raise_reach ..) rfl) (Reach.refl _ _)

theorem execPpsOutEdge_reach (s : State) : ∃ t, execPpsOutEdge s = .next t ∧ Reach 0x10100000000000000 s t := by
  refine ⟨_, rfl, ?_⟩
  extract_lets __src
  clear_value __src
  exact Reach.ite (Reach.step (Reach.with_time (Reach.refl _ _) _ rfl) (State.emit_reach ..) rfl) (Reach.refl _ _)

theorem execPpsOutEnd_reach (s : State) : ∃ t, execPpsOutEnd s = .next t ∧ Reach 0x10100000000000000 s t := by
  refine ⟨_, rfl, ?_⟩
  extract_lets __src
  clear_value __src
  exact Reach.ite (Reach.step (Reach.with_time (Reach.refl _ _) _ rfl) (State.emit_reach ..) rfl) (Reach.refl _ _)

theorem State.showPtp_reach (s : State) : Reach 0x100000 s (State.showPtp s) := by
  unfold State.showPtp
  extract_lets q s1
  clear_value q
  have h_s1 : Reach 0x100000 s s1 := Reach.set (Reach.refl _ _) _ _ rfl
  clear_value s1
  split
  · exact Reach.trans (h_s1) (State.setAll_reach _ _ _ (okAll.append (okAll.cons rfl (okAll.cons rfl (okAll.cons rfl (okAll.cons rfl (okAll.cons rfl (okAll.cons rfl okAll.nil)))))) (okAll.map fun _ => (Fld.ok_ix ..).trans rfl)))
  · exact Reach.trans (Reach.trans (h_s1) (State.set64_reach _ _ _ _ _ rfl rfl)) (State.setAll_reach _ _ _ (okAll.append (okAll.cons rfl (okAll.cons rfl (okAll.cons rfl (okAll.cons rfl okAll.nil)))) (okAll.map fun _ => (Fld.ok_ix ..).trans rfl)))

theorem State.ptpHost_reach (s : State) (x : PtpRx) : Reach 0x10000000000100000 s (State.ptpHost s x) := by
  unfold State.ptpHost
  extract_lets __src
  clear_value __src
  exact Reach.ite (Reach.trans (Reach.refl _ _) (State.bump_reach _ _ _ _ rfl)) (Reach.step (Reach.with_time (Reach.refl _ _) _ rfl) (State.showPtp_reach ..) rfl)

theorem execIeee1588Message_reach (s : State) : ∃ t, execIeee1588Message s = .next t ∧ Reach 0x11000000000100000 s t
    := by
  refine ⟨_, rfl, ?_⟩
  split
  · exact Reach.refl _ _
  · rename_i x_i x_i1 heq_i
    have h_t : Reach 0x11000000000100000 s (x_i1).2 := Reach.step (Reach.refl _ _) (State.takeHeard_reach _ _ _ heq_i) rfl
    clear heq_i
    extract_lets p b ports s1
    clear_value p b ports
    have h_s1 : Reach 0x11000000000100000 s s1 := by
      unfold s1
      refine Reach.foldl (h_t) (?_)
      intro u x
      exact Reach.step (Reach.refl _ _) (State.sayOn_reach ..) rfl
    clear_value s1
    exact Reach.ite (Reach.trans (h_t) (State.bump_reach _ _ _ _ rfl)) (Reach.ite (Reach.step (h_s1) (State.ptpHost_reach ..) rfl) (h_s1))

theorem execPtpSend_reach (port len : Nat) (oneStep : Bool) (s : State) : ∃ t, execPtpSend port len oneStep s =
    .next t ∧ Reach 0x1000420208900001 s t := by
  refine ⟨_, rfl, ?_⟩
  refine Reach.trans (Reach.refl _ _) (State.hostWrite_reach _ _ _ _ _ _ (?_) rfl)
  intro t
  extract_lets t_1 body
  clear_value body
  have h_t_1 : Reach 0x1000420208900001 t t_1 := Reach.trans (Reach.refl _ _) (State.setAll_reach _ _ _ (okAll.cons rfl (okAll.cons rfl (okAll.cons rfl okAll.nil))))
  clear_value t_1
  exact Reach.ite (Reach.refl _ _) (Reach.ite (Reach.set (h_t_1) _ _ rfl) (Reach.step (Reach.trans (h_t_1) (State.setAll_reach _ _ _ (okAll.cons rfl (okAll.cons rfl okAll.nil)))) (State.sayOn_reach ..) rfl))

theorem execPop_reach (s : State) : ∃ t, execPop s = .next t ∧ Reach 0x10000420208900001 s t := by
  refine ⟨_, rfl, ?_⟩
  refine Reach.trans (Reach.refl _ _) (State.hostWrite_reach _ _ _ _ _ _ (?_) rfl)
  intro t
  extract_lets __src
  clear_value __src
  exact Reach.step (Reach.with_time (Reach.refl _ _) _ rfl) (State.showPtp_reach ..) rfl

end Sys2Proof.Machine
end

