-- ==== Sys2Proof/Laws/ReachPower.lean ====
section
/-! SUPPORT. What each operation and each command of Machine/Power.lean reaches. -/

namespace Sys2Proof.Machine

theorem State.feedAll_reach (s : State) : Reach 0x2420208800008 s (State.feedAll s) := by
  unfold State.feedAll
  refine Reach.foldl (Reach.refl _ _) (?_)
  intro u x
  exact Reach.step (Reach.refl _ _) (State.feed_reach ..) rfl

theorem State.holdAdmission_reach (s : State) : Reach 0x2420208800008 s (State.holdAdmission s) := by
  unfold State.holdAdmission
  extract_lets hold s1
  clear_value hold
  have h_s1 : Reach 0x2420208800008 s s1 := Reach.trans (Reach.refl _ _) (State.put_reach _ _ _ _ rfl)
  clear_value s1
  exact Reach.ite (h_s1) (Reach.step (Reach.step (h_s1) (State.runWaiting_reach ..) rfl) (State.feedAll_reach ..) rfl)

theorem State.showMv_reach (m : Nat) (s : State) (now min' : Fld) (mv : Nat) (hnow : now.ok m = true)
    (hmin' : min'.ok m = true) (hm : Nat.land 0x0 m = 0x0) : Reach m s (State.showMv s now min' mv) := by
  unfold State.showMv
  exact Reach.set (Reach.set (Reach.refl _ _) _ _ (hnow)) _ _ (hmin')

theorem State.showVq_reach (s : State) (m mv : Nat) : Reach 0x1000000 s (State.showVq s m mv) := by
  unfold State.showVq
  exact Reach.trans (Reach.refl _ _) (State.showMv_reach _ _ _ _ _ ((Fld.ok_ix ..).trans rfl) ((Fld.ok_ix ..).trans rfl) rfl)

theorem State.showRail_reach (s : State) (r mv : Nat) : Reach 0x1000000 s (State.showRail s r mv) := by
  unfold State.showRail
  exact Reach.trans (Reach.refl _ _) (State.showMv_reach _ _ _ _ _ ((Fld.ok_ix ..).trans rfl) ((Fld.ok_ix ..).trans rfl) rfl)

theorem State.dip_reach (s : State) (m mv : Nat) : Reach 0x2460209800008 s (State.dip s m mv) := by
  unfold State.dip
  extract_lets fresh lower __src __srcx3 s1
  clear_value fresh lower __srcx3
  have h___src : Reach 0x2460209800008 s __src := Reach.step (Reach.refl _ _) (State.showVq_reach ..) rfl
  clear_value __src
  have h_s1 : Reach 0x2460209800008 s s1 := Reach.with_pwr (h___src) _ rfl
  clear_value s1
  exact Reach.step (Reach.trans (Reach.set (h_s1) _ _ rfl) (State.evt_reach _ _ _ rfl rfl)) (State.holdAdmission_reach ..) rfl

theorem State.floorFault_reach (s : State) (m mv : Nat) : Reach 0x4242b46020c804100 s (State.floorFault s m mv) := by
  unfold State.floorFault
  extract_lets __src
  clear_value __src
  exact Reach.step (Reach.with_pwr (Reach.refl _ _) _ rfl) (State.raiseFa_reach ..) rfl

theorem State.vqReset_reach (s : State) : Reach 0x3003000000010 s s.vqReset := by
  unfold State.vqReset
  extract_lets lost
  have h1 := Reach.with_regs_filter (Reach.refl 0x3003000000010 s)
    (fun x => keyBlock x.1 != 4 || (Tab.find resetRegs x.1).isSome) (fun k v hk => by
      have : keyBlock k ≠ 4 := by
        rintro h
        rw [h] at hk
        exact absurd hk (by decide)
      simp [this]) (fun _ => by
      show (keyBlock F.FLT_STAT_FATAL.key != 4 || _) = true
      rw [show (keyBlock F.FLT_STAT_FATAL.key != 4) = true by decide, Bool.true_or])
  have h2 := Reach.with_mem h1 (s.mem.filter fun x => !lost x.1) (Tab.wf_filter _ _ _) rfl
  have h3 := Reach.with_poison h2 (s.poison.filter fun x => !lost x.1) (Tab.sorted_filter _ _) rfl
  exact Reach.with_sched (Reach.with_qrn h3 _ rfl) _ rfl

theorem State.porFault_reach (s : State) (m mv : Nat) : Reach 0x4242b46320c804110 s (State.porFault s m mv) := by
  unfold State.porFault
  extract_lets __src
  clear_value __src
  exact Reach.step (Reach.step (Reach.with_pwr (Reach.refl _ _) _ rfl) (State.raiseFa_reach ..) rfl) (State.vqReset_reach ..) rfl

theorem State.forcedVq_reach (s : State) (m mv : Nat) : Reach 0x4242b46320c804110 s (State.forcedVq s m mv) := by
  unfold State.forcedVq
  extract_lets s1
  have h_s1 : Reach 0x4242b46320c804110 s s1 := Reach.ite (Reach.step (Reach.refl _ _) (State.floorFault_reach ..) rfl) (Reach.refl _ _)
  clear_value s1
  exact Reach.ite (Reach.step (h_s1) (State.porFault_reach ..) rfl) (h_s1)

theorem execVqBelowWarning_reach (monitor mv : Nat) (s : State) : ∃ t, execVqBelowWarning monitor mv s = .next t ∧
    Reach 0x4242b46320d804118 s t := by
  refine ⟨_, rfl, ?_⟩
  exact Reach.step (Reach.step (Reach.refl _ _) (State.dip_reach ..) rfl) (State.forcedVq_reach ..) rfl

theorem execVqRecovery_reach (readings : List Nat) (s : State) : ∃ t, execVqRecovery readings s = .next t ∧ Reach
    0x4242b46320d804110 s t := by
  refine ⟨_, rfl, ?_⟩
  extract_lets s1 __src s2
  clear_value __src
  have h_s1 : Reach 0x4242b46320d804110 s s1 := by
    unfold s1
    refine Reach.foldl (Reach.refl _ _) (?_)
    intro u x
    split
    · exact Reach.step (Reach.step (Reach.refl _ _) (State.showVq_reach ..) rfl) (State.forcedVq_reach ..) rfl
    · exact Reach.refl _ _
  clear_value s1
  have h_s2 : Reach 0x4242b46320d804110 s s2 := Reach.with_pwr (h_s1) _ rfl
  clear_value s2
  exact Reach.ite (h_s1) (Reach.ite (h_s2) (Reach.step (Reach.trans (h_s2) (State.bump_reach _ _ _ _ rfl)) (State.raise_reach ..) rfl))

theorem execAdmitHoldRelease_reach (s : State) : ∃ t, execAdmitHoldRelease s = .next t ∧ Reach 0x2460209800008 s t
    := by
  refine ⟨_, rfl, ?_⟩
  extract_lets __src
  clear_value __src
  exact Reach.ite (Reach.step (Reach.trans (Reach.set (Reach.with_pwr (Reach.refl _ _) _ rfl) _ _ rfl) (State.evtEnd_reach _ _ _ rfl rfl)) (State.holdAdmission_reach ..) rfl) (Reach.refl _ _)

theorem execVqFloor_reach (monitor mv : Nat) (s : State) : ∃ t, execVqFloor monitor mv s = .next t ∧ Reach
    0x4242b46020d804108 s t := by
  refine ⟨_, rfl, ?_⟩
  extract_lets s1
  have h_s1 : Reach 0x4242b46020d804108 s s1 := Reach.step (Reach.refl _ _) (State.dip_reach ..) rfl
  clear_value s1
  exact Reach.ite (h_s1) (Reach.step (h_s1) (State.floorFault_reach ..) rfl)

theorem execVqPor_reach (monitor mv : Nat) (s : State) : ∃ t, execVqPor monitor mv s = .next t ∧ Reach
    0x4242b46320d804118 s t := by
  refine ⟨_, rfl, ?_⟩
  exact Reach.step (Reach.step (Reach.refl _ _) (State.dip_reach ..) rfl) (State.porFault_reach ..) rfl

theorem execVqOvervoltageWarn_reach (monitor mv : Nat) (s : State) : ∃ t, execVqOvervoltageWarn monitor mv s = .next
    t ∧ Reach 0x460209800000 s t := by
  refine ⟨_, rfl, ?_⟩
  extract_lets s1 __src
  clear_value __src
  have h_s1 : Reach 0x460209800000 s s1 := Reach.step (Reach.refl _ _) (State.showVq_reach ..) rfl
  clear_value s1
  exact Reach.ite (h_s1) (Reach.step (Reach.with_pwr (h_s1) _ rfl) (State.raise_reach ..) rfl)

theorem execVqOvervoltageClear_reach (monitor : Nat) (s : State) : ∃ t, execVqOvervoltageClear monitor s = .next t ∧
    Reach 0x40000000000 s t := by
  refine ⟨_, rfl, ?_⟩
  extract_lets __src
  clear_value __src
  exact Reach.with_pwr (Reach.refl _ _) _ rfl

theorem State.railBits_reach (s : State) (r : Nat) : Reach 0x20201000000 s (State.railBits s r) := by
  unfold State.railBits
  extract_lets any s1
  clear_value any
  have h_s1 : Reach 0x20201000000 s s1 := Reach.trans (Reach.trans (Reach.refl _ _) (State.setBit_reach _ _ _ _ _ rfl)) (State.setBit_reach _ _ _ _ _ rfl)
  clear_value s1
  exact Reach.trans (Reach.trans (h_s1) (State.evtIs_reach _ _ _ _ rfl rfl)) (State.evtIs_reach _ _ _ _ rfl rfl)

theorem State.railLow_reach (s : State) (r m mv : Nat) : Reach 0x460209800000 s (State.railLow s r m mv) := by
  unfold State.railLow
  extract_lets k s1 __src
  clear_value k __src
  have h_s1 : Reach 0x460209800000 s s1 := Reach.step (Reach.refl _ _) (State.showRail_reach ..) rfl
  clear_value s1
  exact Reach.ite (h_s1) (Reach.step (Reach.step (Reach.with_pwr (h_s1) _ rfl) (State.railBits_reach ..) rfl) (State.raise_reach ..) rfl)

theorem State.darken_reach (s : State) (l : Nat) : Reach 0x40000000000000000 s (State.darken s l) := by
  unfold State.darken
  exact Reach.with_lit (Reach.refl _ _) _ (Tab.sorted_filter _ _) (fun h => by rw [h]; rfl) rfl

theorem State.pcieDown_reach (s : State) : Reach 0x80000000000 s (State.pcieDown s) := by
  unfold State.pcieDown
  extract_lets __src
  clear_value __src
  exact Reach.with_pcie (Reach.refl _ _) _ rfl

theorem State.railReact_reach (s : State) (r m : Nat) : Reach 0x733404fa208b6b400 s (State.railReact s r m) := by
  unfold State.railReact
  exact Reach.ite (Reach.ite (Reach.step (Reach.refl _ _) (State.pcieDown_reach ..) rfl) (Reach.ite (Reach.step (Reach.refl _ _) (State.loseRefclk_reach ..) rfl) (Reach.refl _ _))) (Reach.ite (Reach.step (Reach.refl _ _) (State.linkFault_reach ..) rfl) (Reach.ite (Reach.step (Reach.refl _ _) (State.linkFault_reach ..) rfl) (Reach.ite (Reach.step (Reach.step (Reach.refl _ _) (State.darken_reach ..) rfl) (State.linkFaults_reach ..) rfl) (Reach.ite (Reach.step (Reach.refl _ _) (State.bootDip_reach ..) rfl) (Reach.ite (Reach.step (Reach.refl _ _) (State.pcieDown_reach ..) rfl) (Reach.refl _ _))))))

theorem State.railFault_reach (s : State) (r m mv : Nat) : Reach 0x7376b4fa20cb6f500 s (State.railFault s r m mv) :=
    by
  unfold State.railFault
  exact Reach.ite (Reach.step (Reach.refl _ _) (State.railReact_reach ..) rfl) (Reach.step (Reach.step (Reach.refl _ _) (State.raiseFa_reach ..) rfl) (State.railReact_reach ..) rfl)

theorem State.forcedRail_reach (s : State) (r m mv : Nat) : Reach 0x7376b4fa20cb6f500 s (State.forcedRail s r m mv)
    := by
  unfold State.forcedRail
  exact Reach.ite (Reach.step (Reach.refl _ _) (State.railFault_reach ..) rfl) (Reach.refl _ _)

theorem execRailWarn_reach (rail monitor mv : Nat) (s : State) : ∃ t, execRailWarn rail monitor mv s = .next t ∧
    Reach 0x7376b4fa20db6f500 s t := by
  refine ⟨_, rfl, ?_⟩
  exact Reach.step (Reach.step (Reach.refl _ _) (State.railLow_reach ..) rfl) (State.forcedRail_reach ..) rfl

theorem execRailRecovery_reach (rail monitor mv : Nat) (s : State) : ∃ t, execRailRecovery rail monitor mv s = .next
    t ∧ Reach 0x7376b4fa20db6f500 s t := by
  refine ⟨_, rfl, ?_⟩
  extract_lets k s0 __src s1 __srcx4
  clear_value k __src __srcx4
  have h_s0 : Reach 0x7376b4fa20db6f500 s s0 := Reach.step (Reach.step (Reach.refl _ _) (State.showRail_reach ..) rfl) (State.forcedRail_reach ..) rfl
  clear_value s0
  have h_s1 : Reach 0x7376b4fa20db6f500 s s1 := Reach.step (Reach.with_pwr (h_s0) _ rfl) (State.railBits_reach ..) rfl
  clear_value s1
  exact Reach.ite (Reach.step (h_s1) (State.linkClear_reach ..) rfl) (Reach.ite (Reach.step (h_s1) (State.linkClear_reach ..) rfl) (Reach.ite (Reach.step (h_s1) (State.linkClears_reach ..) rfl) (Reach.ite (Reach.with_pcie (h_s1) _ rfl) (h_s1))))



theorem testBit_keyBlock (k : Nat) : Nat.testBit 0xfffffffffffffffffffffffff (keyBlock k) = true := by
  have h : keyBlock k < 32 := by simp only [keyBlock]; omega
  have e : (0xfffffffffffffffffffffffff : Nat) = 2 ^ 100 - 1 := rfl
  rw [e, Nat.testBit_two_pow_sub_one]
  exact decide_eq_true (by omega)

theorem testBit_keyBlock' (k : Nat) : Nat.testBit 0x1fffffffffffffffffffffffff (keyBlock k) = true := by
  have h : keyBlock k < 32 := by simp only [keyBlock]; omega
  have e : (0x1fffffffffffffffffffffffff : Nat) = 2 ^ 101 - 1 := rfl
  rw [e, Nat.testBit_two_pow_sub_one]
  exact decide_eq_true (by omega)

/-- A power cycle may change everything, FATAL too. -/
theorem State.powerCycled_reach (s : State) : Reach 0x1fffffffffffffffffffffffff s s.powerCycled := by
  refine ⟨fun p hp => ?_, fun k hk => ?_, fun c => ?_, fun _ _ => rfl, fun hb => absurd hb (by decide)⟩
  · cases p <;> exact absurd hp (by decide)
  · rw [testBit_keyBlock'] at hk
    exact Bool.noConfusion hk
  · simp only [State.canonical, Bool.and_eq_true] at c
    obtain ⟨⟨⟨⟨⟨⟨⟨_, _⟩, _⟩, c4⟩, c5⟩, _⟩, _⟩, _⟩ := c
    simp only [State.canonical, Bool.and_eq_true]
    exact ⟨⟨⟨⟨⟨⟨⟨show Tab.sorted resetRegs = true by decide, rfl⟩, rfl⟩, Tab.wf_filter _ _ _ c4⟩, Tab.sorted_filter _ _ c5⟩, rfl⟩, rfl⟩, rfl⟩

theorem State.setAll_sorted (s : State) (l : List (Fld × Nat)) (hs : Tab.sorted s.regs = true) :
    Tab.sorted (s.setAll l).regs = true := by
  induction l generalizing s with
  | nil => exact hs
  | cons x l ih => exact ih _ (State.set_sorted _ _ _ hs)

/-- A device reset may change everything but FATAL, which it keeps (Table FLT-6). -/
theorem State.deviceReset_reach (s : State) (cause : Nat) : Reach 0xfffffffffffffffffffffffff s (s.deviceReset cause) := by
  refine ⟨fun p hp => ?_, fun k hk => ?_, fun c => ?_, fun _ _ => rfl, fun _ hf => ?_⟩
  · cases p <;> exact absurd hp (by decide)
  · rw [testBit_keyBlock] at hk
    exact Bool.noConfusion hk
  · simp only [State.canonical, Bool.and_eq_true] at c
    obtain ⟨⟨⟨⟨⟨⟨⟨_, _⟩, _⟩, c4⟩, c5⟩, c6⟩, c7⟩, _⟩ := c
    simp only [State.canonical, Bool.and_eq_true]
    exact ⟨⟨⟨⟨⟨⟨⟨State.setAll_sorted _ _
      (show Tab.sorted resetRegs = true by decide), rfl⟩, rfl⟩, Tab.wf_filter _ _ _ c4⟩, Tab.sorted_filter _ _ c5⟩,
      c6⟩, c7⟩, rfl⟩
  · have hg : s.get F.FLT_STAT_FATAL = 1 := by
      simpa only [State.fatal, State.flag, beq_iff_eq] using hf
    unfold State.deviceReset
    extract_lets t
    clear_value t
    simp only [State.setAll]
    iterate 6 rw [State.fatal_set 0xfffffffffffffffffffffffff _ _ _ rfl]
    simp only [State.fatal, State.flag]
    rw [State.get_set_same, hg]
    rfl

theorem execPowerCycle_reach (s : State) : ∃ t, execPowerCycle s = .next t ∧ Reach 0x1fffffffffffffffffffffffff s t
    := by
  refine ⟨_, rfl, ?_⟩
  exact Reach.step (Reach.refl _ _) (State.powerCycled_reach ..) rfl

theorem execDeviceReset_reach (s : State) : ∃ t, execDeviceReset s = .next t ∧ Reach 0xfffffffffffffffffffffffff s t
    := by
  refine ⟨_, rfl, ?_⟩
  exact Reach.step (Reach.refl _ _) (State.deviceReset_reach ..) rfl

theorem execPwrReset_reach (key : Nat) (go : Bool) (s : State) : ∃ t, execPwrReset key go s = .next t ∧ Reach
    0xfffffffffffffffffffffffff s t := by
  refine ⟨_, rfl, ?_⟩
  refine Reach.trans (Reach.refl _ _) (State.hostWrite_reach _ _ _ _ _ _ (?_) rfl)
  intro t
  exact Reach.ite (Reach.step (Reach.refl _ _) (State.deviceReset_reach ..) rfl) (Reach.refl _ _)

theorem State.dropPosted_reach (s : State) : Reach 0xc0fffff1e s s.dropPosted := by
  unfold State.dropPosted
  have h1 := Reach.with_posted (Reach.with_heldLo (Reach.refl 0xc0fffff1e s) [] (fun _ => rfl) rfl) [] rfl
  exact Reach.trans h1 (State.clearAll_reach _ _ _ (okFlds.map fun p => Fld.ok_sub rfl (pendFld_ok _)))

theorem execPcieReset_reach (s : State) : ∃ t, execPcieReset s = .next t ∧ Reach 0x80c0fffff1e s t := by
  refine ⟨_, rfl, ?_⟩
  extract_lets __src __srcx1
  clear_value __srcx1
  have h___src : Reach 0x80c0fffff1e s __src := Reach.step (Reach.refl _ _) (State.dropPosted_reach ..) rfl
  clear_value __src
  exact Reach.trans (Reach.with_pcie (h___src) _ rfl) (State.bump_reach _ _ _ _ rfl)

theorem execPcieControllerReady_reach (s : State) : ∃ t, execPcieControllerReady s = .next t ∧ Reach 0x80000000000 s
    t := by
  refine ⟨_, rfl, ?_⟩
  extract_lets __src
  clear_value __src
  exact Reach.with_pcie (Reach.refl _ _) _ rfl

theorem execRail_reach (rail monitor mv : Nat) (s : State) : ∃ t, execRail rail monitor mv s = .next t ∧ Reach
    0x1fffffffffffffffffffffffff s t := by
  refine ⟨_, rfl, ?_⟩
  extract_lets k s1 __src
  clear_value k __src
  have h_s1 : Reach 0x1fffffffffffffffffffffffff s s1 := Reach.step (Reach.refl _ _) (State.showRail_reach ..) rfl
  clear_value s1
  exact Reach.ite (Reach.step (Reach.refl _ _) (State.powerCycled_reach ..) rfl) (Reach.ite (Reach.step (h_s1) (State.forcedRail_reach ..) rfl) (Reach.step (Reach.step (Reach.with_pwr (h_s1) _ rfl) (State.railBits_reach ..) rfl) (State.railFault_reach ..) rfl))

theorem State.setTherm_reach (s : State) (lvl u : Nat) (b : Bool) : Reach 0x40000000000 s (State.setTherm s lvl u b)
    := by
  unfold State.setTherm
  extract_lets __src
  clear_value __src
  exact Reach.with_pwr (Reach.refl _ _) _ rfl

theorem State.tripPorts_reach (s : State) (u : Nat) : Reach 0x6334046a208a6b400 s (State.tripPorts s u) := by
  unfold State.tripPorts
  exact Reach.ite (Reach.refl _ _) (Reach.ite (Reach.step (Reach.refl _ _) (State.linkFault_reach ..) rfl) (Reach.step (Reach.step (Reach.refl _ _) (State.darken_reach ..) rfl) (State.linkFaults_reach ..) rfl))

theorem State.tripClear_reach (s : State) (u : Nat) : Reach 0x40000000000 s (State.tripClear s u) := by
  unfold State.tripClear
  exact Reach.ite (Reach.refl _ _) (Reach.ite (Reach.step (Reach.refl _ _) (State.linkClear_reach ..) rfl) (Reach.step (Reach.refl _ _) (State.linkClears_reach ..) rfl))

theorem State.thermEnter_reach (s : State) (lvl u : Nat) (v : Int) : Reach 0x6376b46a20da6f500 s
    (State.thermEnter s lvl u v) := by
  unfold State.thermEnter
  extract_lets s1
  have h_s1 : Reach 0x6376b46a20da6f500 s s1 := Reach.step (Reach.step (Reach.refl _ _) (State.setTherm_reach ..) rfl) (State.raiseFa_reach ..) rfl
  clear_value s1
  exact Reach.ite (Reach.trans (h_s1) (State.bump_reach _ _ _ _ rfl)) (Reach.ite (Reach.step (h_s1) (State.tripPorts_reach ..) rfl) (h_s1))

theorem State.judge_reach (s : State) (readings : List Int) (lvl u : Nat) : Reach 0x6376b46a20da6f500 s
    (State.judge s readings lvl u) := by
  unfold State.judge
  split
  · exact Reach.refl _ _
  · extract_lets at_ forced s1
    clear_value at_ forced
    have h_s1 : Reach 0x6376b46a20da6f500 s s1 := Reach.step (Reach.refl _ _) (State.setTherm_reach ..) rfl
    clear_value s1
    exact Reach.ite (Reach.step (Reach.refl _ _) (State.thermEnter_reach ..) rfl) (Reach.ite (Reach.ite (Reach.step (h_s1) (State.tripClear_reach ..) rfl) (h_s1)) (Reach.refl _ _))

theorem State.showTemp_reach (s : State) (u : Nat) (v : Int) : Reach 0x1000000 s (State.showTemp s u v) := by
  unfold State.showTemp
  extract_lets old
  clear_value old
  exact Reach.set (Reach.set (Reach.refl _ _) _ _ ((Fld.ok_ix ..).trans rfl)) _ _ ((Fld.ok_ix ..).trans rfl)

theorem State.laserTemp_reach (s : State) (was : Bool) (d : Nat) : Reach 0x40000000000000000 s
    (State.laserTemp s was d) := by
  unfold State.laserTemp
  refine Reach.ite (Reach.step (Reach.refl _ _) (State.darken_reach ..) rfl) (Reach.ite (Reach.foldl (Reach.refl _ _) (?_)) (Reach.refl _ _))
  intro u x
  exact Reach.step (Reach.refl _ _) (State.lightPort_reach ..) rfl

theorem execTemperatureSample_reach (readings : List Int) (s : State) : ∃ t, execTemperatureSample readings s =
    .next t ∧ Reach 0x6376b46a20da6f708 s t := by
  refine ⟨_, rfl, ?_⟩
  extract_lets s1 s1x1 s2 hot dram s3
  clear_value hot dram
  have h_s1 : Reach 0x6376b46a20da6f708 s s1 := by
    unfold s1
    refine Reach.foldl (Reach.refl _ _) (?_)
    intro u x
    exact Reach.step (Reach.refl _ _) (State.showTemp_reach ..) rfl
  clear_value s1
  have h_s1x1 : Reach 0x6376b46a20da6f708 s s1x1 := Reach.step (Reach.step (h_s1) (State.laserTemp_reach ..) rfl) (State.laserTemp_reach ..) rfl
  clear_value s1x1
  have h_s2 : Reach 0x6376b46a20da6f708 s s2 := by
    unfold s2
    refine Reach.foldl (h_s1x1) (?_)
    intro u x
    refine Reach.foldl (Reach.refl _ _) (?_)
    intro u_1 x_1
    exact Reach.step (Reach.refl _ _) (State.judge_reach ..) rfl
  clear_value s2
  have h_s3 : Reach 0x6376b46a20da6f708 s s3 := Reach.trans (Reach.trans (Reach.trans (h_s2) (State.put_reach _ _ _ _ rfl)) (State.evtIs_reach _ _ _ _ rfl rfl)) (State.put_reach _ _ _ _ rfl)
  clear_value s3
  exact Reach.ite (h_s3) (Reach.step (h_s3) (State.holdAdmission_reach ..) rfl)

theorem execPwrMinClr_reach (s : State) : ∃ t, execPwrMinClr s = .next t ∧ Reach 0x420209800001 s t := by
  refine ⟨_, rfl, ?_⟩
  refine Reach.trans (Reach.refl _ _) (State.hostWrite_reach _ _ _ _ _ _ (?_) rfl)
  intro t
  exact Reach.trans (Reach.refl _ _) (State.clearAll_reach _ _ _ (okFlds.append (okFlds.append (okFlds.append (okFlds.cons rfl (okFlds.cons rfl okFlds.nil)) (okFlds.map fun _ => (Fld.ok_ix ..).trans rfl)) (okFlds.map fun _ => (Fld.ok_ix ..).trans rfl)) (okFlds.map fun _ => (Fld.ok_ix ..).trans rfl)))

theorem State.releaseErrn_reach (s : State) : Reach 0x20000800000 s (State.releaseErrn s) := by
  unfold State.releaseErrn
  extract_lets __src
  clear_value __src
  exact Reach.set (Reach.with_flt (Reach.refl _ _) _ rfl) _ _ rfl

theorem execErrNMinLowEnd_reach (s : State) : ∃ t, execErrNMinLowEnd s = .next t ∧ Reach 0x20000800000 s t := by
  refine ⟨_, rfl, ?_⟩
  extract_lets __src
  clear_value __src
  exact Reach.ite (Reach.refl _ _) (Reach.ite (Reach.step (Reach.refl _ _) (State.releaseErrn_reach ..) rfl) (Reach.with_flt (Reach.refl _ _) _ rfl))

theorem execErrnRelease_reach (s : State) : ∃ t, execErrnRelease s = .next t ∧ Reach 0x420208800001 s t := by
  refine ⟨_, rfl, ?_⟩
  refine Reach.trans (Reach.refl _ _) (State.hostWrite_reach _ _ _ _ _ _ (?_) rfl)
  intro t
  extract_lets __src
  clear_value __src
  exact Reach.ite (Reach.refl _ _) (Reach.ite (Reach.with_flt (Reach.refl _ _) _ rfl) (Reach.step (Reach.refl _ _) (State.releaseErrn_reach ..) rfl))

theorem State.arm_reach (s : State) (source : Nat) : Reach 0x20000800000 s (State.arm s source) := by
  unfold State.arm
  extract_lets __src
  clear_value __src
  exact Reach.trans (Reach.with_flt (Reach.refl _ _) _ rfl) (State.setBit_reach _ _ _ _ _ ((Fld.ok_ix ..).trans rfl))

theorem execFltForce_reach (word mask : Nat) (s : State) : ∃ t, execFltForce word mask s = .next t ∧ Reach
    0x420208800001 s t := by
  refine ⟨_, rfl, ?_⟩
  refine Reach.trans (Reach.refl _ _) (State.hostWrite_reach _ _ _ _ _ _ (?_) rfl)
  intro t
  refine Reach.foldl (Reach.refl _ _) (?_)
  intro u x
  extract_lets source
  clear_value source
  exact Reach.ite (Reach.step (Reach.refl _ _) (State.arm_reach ..) rfl) (Reach.refl _ _)

theorem execFltForceClr_reach (s : State) : ∃ t, execFltForceClr s = .next t ∧ Reach 0x420208800001 s t := by
  refine ⟨_, rfl, ?_⟩
  refine Reach.trans (Reach.refl _ _) (State.hostWrite_reach _ _ _ _ _ _ (?_) rfl)
  intro t
  extract_lets __src
  clear_value __src
  exact Reach.trans (Reach.with_flt (Reach.refl _ _) _ rfl) (State.clearAll_reach _ _ _ (okFlds.map fun _ => (Fld.ok_ix ..).trans rfl))

theorem execFltCntClr_reach (s : State) : ∃ t, execFltCntClr s = .next t ∧ Reach 0x420208800001 s t := by
  refine ⟨_, rfl, ?_⟩
  refine Reach.trans (Reach.refl _ _) (State.hostWrite_reach _ _ _ _ _ _ (?_) rfl)
  intro t
  extract_lets __src t1
  clear_value __src
  have h_t1 : Reach 0x420208800001 t t1 := Reach.trans (Reach.with_flt (Reach.refl _ _) _ rfl) (State.clearAll_reach _ _ _ (okFlds.append (okFlds.cons rfl (okFlds.cons rfl okFlds.nil)) (okFlds.flatMap fun _ => (okFlds.cons ((Fld.ok_ix ..).trans rfl) (okFlds.cons ((Fld.ok_ix ..).trans rfl) okFlds.nil)))))
  clear_value t1
  exact Reach.trans (h_t1) (State.evtEndAll_reach _ _ _ (okFlds.cons rfl (okFlds.cons rfl okFlds.nil)) rfl)

theorem State.testRetire_reach (s : State) (g : Nat) : Reach 0x1b42b208800118 s (State.testRetire s g) := by
  unfold State.testRetire
  exact Reach.ite (Reach.refl _ _) (Reach.step (Reach.step (Reach.refl _ _) (State.raise_reach ..) rfl) (State.takeOut_reach ..) rfl)

theorem State.testRetires_reach (s : State) (l : List Nat) : Reach 0x1b42b208800118 s (State.testRetires s l) := by
  induction l generalizing s with
  | nil =>
    rw [State.testRetires]
    exact Reach.refl _ _
  | cons x l ih =>
    rw [State.testRetires]
    exact Reach.trans (Reach.step (Reach.refl _ _) (State.testRetire_reach ..) rfl) (ih ..)

theorem State.refuseTest_reach (s : State) : Reach 0x800000 s (State.refuseTest s) := by
  unfold State.refuseTest
  exact Reach.set (Reach.refl _ _) _ _ rfl

theorem State.testGo_reach (m : Nat) (s : State) (kind target : Nat) (f : State → State) (hf : ∀ t, Reach m t (f t))
    (hm : Nat.land 0x420208800001 m = 0x420208800001) : Reach m s (State.testGo s kind target f) := by
  unfold State.testGo
  refine Reach.trans (Reach.refl _ _) (State.hostWrite_reach _ _ _ _ _ _ (?_) (land_sub hm rfl))
  intro t
  extract_lets t1
  have h_t1 : Reach m t t1 := Reach.trans (Reach.refl _ _) (State.setAll_reach _ _ _ (okAll.cons ((Fld.ok_sub hm rfl)) (okAll.cons ((Fld.ok_sub hm rfl)) okAll.nil)))
  clear_value t1
  exact Reach.ite (Reach.step (h_t1) (State.refuseTest_reach ..) (land_sub hm rfl)) (Reach.trans (Reach.set (h_t1) _ _ ((Fld.ok_sub hm rfl))) (hf ..))

theorem State.awaitTest_reach (s : State) (kind target : Nat) : Reach 0x20000800000 s
    (State.awaitTest s kind target) := by
  unfold State.awaitTest
  extract_lets __src
  clear_value __src
  exact Reach.set (Reach.with_flt (Reach.refl _ _) _ rfl) _ _ rfl

theorem execRegionSelfTest_reach (region : Nat) (s : State) : ∃ t, execRegionSelfTest region s = .next t ∧ Reach
    0x2420208800019 s t := by
  refine ⟨_, rfl, ?_⟩
  refine Reach.trans (Reach.refl _ _) (State.testGo_reach _ _ _ _ _ (?_) rfl)
  intro t
  exact Reach.ite (Reach.step (Reach.refl _ _) (State.refuseTest_reach ..) rfl) (Reach.ite (Reach.step (Reach.step (Reach.refl _ _) (State.setDrains_reach ..) rfl) (State.awaitTest_reach ..) rfl) (Reach.step (Reach.step (Reach.refl _ _) (State.askDrain_reach ..) rfl) (State.awaitTest_reach ..) rfl))

theorem execDramStackTest_reach (stack : Nat) (destroy : Bool) (s : State) : ∃ t, execDramStackTest stack destroy s
    = .next t ∧ Reach 0x420208800001 s t := by
  refine ⟨_, rfl, ?_⟩
  refine Reach.trans (Reach.refl _ _) (State.testGo_reach _ _ _ _ _ (?_) rfl)
  intro t
  extract_lets t1
  have h_t1 : Reach 0x420208800001 t t1 := Reach.trans (Reach.refl _ _) (State.put_reach _ _ _ _ rfl)
  clear_value t1
  exact Reach.ite (Reach.step (h_t1) (State.awaitTest_reach ..) rfl) (Reach.step (h_t1) (State.refuseTest_reach ..) rfl)

theorem execHubTestRequest_reach (s : State) : ∃ t, execHubTestRequest s = .next t ∧ Reach 0x420208800001 s t := by
  refine ⟨_, rfl, ?_⟩
  refine Reach.trans (Reach.refl _ _) (State.testGo_reach _ _ _ _ _ (?_) rfl)
  intro t
  exact Reach.step (Reach.refl _ _) (State.refuseTest_reach ..) rfl

theorem execSelfTestStart_reach (s : State) : ∃ t, execSelfTestStart s = .next t ∧ Reach 0x20000000000 s t := by
  refine ⟨_, rfl, ?_⟩
  split
  · exact Reach.refl _ _
  · extract_lets ready __src
    clear_value ready __src
    exact Reach.ite (Reach.with_flt (Reach.refl _ _) _ rfl) (Reach.refl _ _)

theorem State.dropTest_reach (s : State) (r : Nat) : Reach 0x2000000000018 s (State.dropTest s r) := by
  unfold State.dropTest
  extract_lets l rest s1
  clear_value l rest
  have h_s1 : Reach 0x2000000000018 s s1 := Reach.step (Reach.refl _ _) (State.setDrains_reach ..) rfl
  clear_value s1
  exact Reach.ite (h_s1) (Reach.ite (Reach.step (h_s1) (State.settleRegion_reach ..) rfl) (Reach.ite (Reach.step (h_s1) (State.setRegionState_reach ..) rfl) (h_s1)))

theorem execSelfTestDrainDeadline_reach (s : State) : ∃ t, execSelfTestDrainDeadline s = .next t ∧ Reach
    0x2020000800018 s t := by
  refine ⟨_, rfl, ?_⟩
  split
  · exact Reach.refl _ _
  · extract_lets __src s1
    clear_value __src
    have h_s1 : Reach 0x2020000800018 s s1 := Reach.step (Reach.set (Reach.with_flt (Reach.refl _ _) _ rfl) _ _ rfl) (State.refuseTest_reach ..) rfl
    clear_value s1
    exact Reach.ite (Reach.refl _ _) (Reach.ite (Reach.step (h_s1) (State.dropTest_reach ..) rfl) (h_s1))

theorem State.endTest_reach (s : State) (r : Nat) : Reach 0x13420208800018 s (State.endTest s r) := by
  unfold State.endTest
  extract_lets rest s1
  clear_value rest
  have h_s1 : Reach 0x13420208800018 s s1 := Reach.step (Reach.step (Reach.refl _ _) (State.setDrains_reach ..) rfl) (State.setRegionState_reach ..) rfl
  clear_value s1
  exact Reach.ite (Reach.step (Reach.step (Reach.refl _ _) (State.setDrains_reach ..) rfl) (State.answerDrains_reach ..) rfl) (Reach.ite (Reach.step (h_s1) (State.enterDue_reach ..) rfl) (h_s1))

theorem execRegionSelfTestDone_reach (failed : Nat) (s : State) : ∃ t, execRegionSelfTestDone failed s = .next t ∧
    Reach 0x1b42b208800118 s t := by
  refine ⟨_, rfl, ?_⟩
  split
  · exact Reach.refl _ _
  · extract_lets r bad mask good __src s1 __srcx6 s2
    clear_value r bad mask good __src __srcx6
    have h_s1 : Reach 0x1b42b208800118 s s1 := Reach.trans (Reach.with_flt (Reach.refl _ _) _ rfl) (State.setAll_reach _ _ _ (okAll.cons rfl (okAll.cons rfl (okAll.cons rfl okAll.nil))))
    clear_value s1
    have h_s2 : Reach 0x1b42b208800118 s s2 := Reach.with_qrn (h_s1) _ rfl
    clear_value s2
    exact Reach.ite (Reach.refl _ _) (Reach.step (Reach.step (Reach.step (h_s2) (State.testRetires_reach ..) rfl) (State.regionEvents_reach ..) rfl) (State.endTest_reach ..) rfl)

theorem execDramStackTestDone_reach (failed : Bool) (s : State) : ∃ t, execDramStackTestDone failed s = .next t ∧
    Reach 0x42c208800200 s t := by
  refine ⟨_, rfl, ?_⟩
  split
  · exact Reach.refl _ _
  · refine Reach.ite (Reach.refl _ _) ?_
    extract_lets st bad _ s1
    have h1 : Reach 0x42c208800200 s s1 := by
      refine Reach.trans ?_ (State.setAll_reach _ _ _ (okAll.cons rfl (okAll.cons rfl (okAll.cons rfl okAll.nil))))
      exact Reach.with_cleaned (Reach.with_stackPoison (Reach.with_flt (Reach.refl _ s) { s.flt with test := none } rfl)
        (s.stackPoison.add st) (Tab.sorted_insert _ _ _) rfl) _ (Tab.sorted_filter _ _) rfl
    clear_value s1
    exact Reach.ite (Reach.step (Reach.trans h1 (State.setBit_reach _ _ _ _ _ rfl)) (State.raise_reach ..) rfl) h1

theorem State.linkFailed_reach (s : State) (source unit info : Nat) : Reach 0x6376b56a20ca6f500 s
    (State.linkFailed s source unit info) := by
  unfold State.linkFailed
  extract_lets __src s1
  clear_value __src
  have h_s1 : Reach 0x6376b56a20ca6f500 s s1 := Reach.step (Reach.with_links (Reach.refl _ _) _ rfl) (State.raiseFa_reach ..) rfl
  clear_value s1
  exact Reach.ite (Reach.step (h_s1) (State.linkFault_reach ..) rfl) (h_s1)

theorem execLinkReplay_reach (link : Nat) (again : Bool) (s : State) : ∃ t, execLinkReplay link again s = .next t ∧
    Reach 0x6376b56a20ca6f500 s t := by
  refine ⟨_, rfl, ?_⟩
  extract_lets c __src
  clear_value c __src
  exact Reach.ite (Reach.refl _ _) (Reach.ite (Reach.step (Reach.with_links (Reach.refl _ _) _ rfl) (State.linkFailed_reach ..) rfl) (Reach.step (Reach.with_links (Reach.refl _ _) _ rfl) (State.raise_reach ..) rfl))

theorem State.readCapture_reach (s : State) (addr : Nat) : Reach 0x10000000000000000 s (State.readCapture s addr) :=
    by
  unfold State.readCapture
  extract_lets p o __src
  clear_value p o __src
  exact Reach.ite (Reach.with_time (Reach.refl _ _) _ rfl) (Reach.refl _ _)

theorem State.readFault_reach (s : State) (addr : Nat) : Reach 0x100000000000000 s (State.readFault s addr) := by
  unfold State.readFault
  split
  · exact Reach.step (Reach.refl _ _) (State.emit_reach ..) rfl
  · exact Reach.refl _ _

theorem execBarAccess_reach (addr size : Nat) (s : State) : ∃ t, execBarAccess addr size s = .next t ∧ Reach
    0x10100420208800000 s t := by
  refine ⟨_, rfl, ?_⟩
  exact Reach.ite (Reach.step (Reach.step (Reach.trans (Reach.refl _ _) (State.bump_reach _ _ _ _ rfl)) (State.raise_reach ..) rfl) (State.emit_reach ..) rfl) (Reach.step (Reach.step (Reach.refl _ _) (State.readCapture_reach ..) rfl) (State.readFault_reach ..) rfl)

end Sys2Proof.Machine
end

