-- ==== Sys2Proof/Laws/ReachStartup.lean ====
section
/-! SUPPORT. What each operation and each command of Machine/Startup.lean reaches. -/

namespace Sys2Proof.Machine

theorem State.showOtp_reach (s : State) : Reach 0x7 s (State.showOtp s) := by
  unfold State.showOtp
  extract_lets ident
  clear_value ident
  exact Reach.trans (Reach.refl _ _) (State.setAll_reach _ _ _ (okAll.append (okAll.append (okAll.cons rfl (okAll.cons rfl (okAll.cons rfl (okAll.cons rfl (okAll.cons rfl (okAll.cons rfl (okAll.cons rfl okAll.nil))))))) (okAll.flatMap fun _ => (okAll.map fun _ => (Fld.ok_ix ..).trans rfl))) (okAll.map fun _ => (Fld.ok_ix ..).trans rfl)))

theorem State.makeIdentity_reach (s : State) : Reach 0x800004000000 s (State.makeIdentity s) := by
  unfold State.makeIdentity
  extract_lets seeds pk __src
  clear_value seeds pk __src
  exact Reach.trans (Reach.with_gen (Reach.refl _ _) _ rfl) (State.setAll_reach _ _ _ (okAll.cons rfl (okAll.map fun _ => (Fld.ok_ix ..).trans rfl)))

theorem execInternalResetEnd_reach (s : State) : ∃ t, execInternalResetEnd s = .next t ∧ Reach 0x10000a00007180007 s
    t := by
  refine ⟨_, rfl, ?_⟩
  extract_lets __src __srcx1 s1 s2
  clear_value __src __srcx1
  have h_s1 : Reach 0x10000a00007180007 s s1 := Reach.with_otp_time (Reach.refl _ _) _ _ rfl
  clear_value s1
  have h_s2 : Reach 0x10000a00007180007 s s2 := Reach.step (Reach.step (h_s1) (State.showOtp_reach ..) rfl) (State.makeIdentity_reach ..) rfl
  clear_value s2
  exact Reach.ite (Reach.refl _ _) (Reach.trans (h_s2) (State.setAll_reach _ _ _ (okAll.cons rfl (okAll.cons rfl (okAll.cons rfl (okAll.cons rfl okAll.nil))))))

theorem State.testFail_reach (s : State) (cls : FClass) (unit test : Nat) : Reach 0x4242b42020c804100 s
    (State.testFail s cls unit test) := by
  unfold State.testFail
  exact Reach.step (Reach.refl _ _) (State.raiseFa_reach ..) rfl

theorem State.linkTest_reach (s : State) (x : LinkTest) : Reach 0x6376b56a20ca6f500 s (State.linkTest s x) := by
  unfold State.linkTest
  extract_lets __src s1
  clear_value __src
  have h_s1 : Reach 0x6376b56a20ca6f500 s s1 := Reach.with_links (Reach.refl _ _) _ rfl
  clear_value s1
  exact Reach.ite (Reach.step (h_s1) (State.linkFailed_reach ..) rfl) (h_s1)

theorem execHubSelfTest_reach (badHubs : List Nat) (links : List LinkTest) (s : State) : ∃ t, execHubSelfTest
    badHubs links s = .next t ∧ Reach 0x6376b56a20da6f500 s t := by
  refine ⟨_, rfl, ?_⟩
  extract_lets bad s1
  clear_value bad
  have h_s1 : Reach 0x6376b56a20da6f500 s s1 := by
    unfold s1
    refine Reach.foldl (Reach.refl _ _) (?_)
    intro u x
    exact Reach.step (Reach.refl _ _) (State.testFail_reach ..) rfl
  clear_value s1
  refine Reach.ite (Reach.refl _ _) (Reach.set (Reach.foldl (h_s1) (?_)) _ _ rfl)
  intro u x
  exact Reach.step (Reach.refl _ _) (State.linkTest_reach ..) rfl

theorem execMemorySelfTest_reach (badBase badStacks badLines badBlocks : List Nat) (s : State) : ∃ t,
    execMemorySelfTest badBase badStacks badLines badBlocks s = .next t ∧ Reach 0x4243b42b20d804318 s t := by
  refine ⟨_, rfl, ?_⟩
  extract_lets base failed blocks s1 s2 s3
  clear_value base failed blocks
  have h_s1 : Reach 0x4243b42b20d804318 s s1 := by
    unfold s1
    refine Reach.foldl (Reach.refl _ _) (?_)
    intro u x
    exact Reach.step (Reach.refl _ _) (State.testFail_reach ..) rfl
  clear_value s1
  have h_s2 : Reach 0x4243b42b20d804318 s s2 := by
    unfold s2
    refine Reach.set (Reach.foldl (h_s1) (?_)) _ _ rfl
    intro u x
    exact Reach.step (Reach.refl _ _) (State.testFail_reach ..) rfl
  clear_value s2
  have h_s3 : Reach 0x4243b42b20d804318 s s3 := Reach.ite (h_s2) (Reach.step (h_s2) (State.markUnits_reach ..) rfl)
  clear_value s3
  exact Reach.ite (Reach.refl _ _) (Reach.set (Reach.step (h_s3) (State.testRetires_reach ..) rfl) _ _ rfl)

theorem State.retireListed_reach (s : State) (l : List (Nat × Unit)) : Reach 0x1b42b208800118 s
    (State.retireListed s l) := by
  induction l generalizing s with
  | nil =>
    rw [State.retireListed]
    exact Reach.refl _ _
  | cons x l ih =>
    rw [State.retireListed]
    exact Reach.trans (Reach.ite (Reach.refl _ _) (Reach.step (Reach.refl _ _) (State.takeOut_reach ..) rfl)) (ih ..)

theorem State.retireLaserAgain_reach (s : State) (n : Nat) : Reach 0x400000 s (State.retireLaserAgain s n) := by
  unfold State.retireLaserAgain
  extract_lets k l s1
  clear_value k l
  have h_s1 : Reach 0x400000 s s1 := Reach.trans (Reach.refl _ _) (State.setBit_reach _ _ _ _ _ ((Fld.ok_ix ..).trans rfl))
  clear_value s1
  exact Reach.ite (h_s1) (Reach.trans (h_s1) (State.setAll_reach _ _ _ (okAll.cons ((Fld.ok_ix ..).trans rfl) (okAll.cons ((Fld.ok_ix ..).trans rfl) (okAll.cons ((Fld.ok_ix ..).trans rfl) okAll.nil)))))

theorem State.restorePowers_reach (s : State) (p : Tab Nat) (k l : Nat) : Reach 0x400000 s
    (State.restorePowers s p k l) := by
  unfold State.restorePowers
  extract_lets v
  clear_value v
  exact Reach.trans (Reach.refl _ _) (State.setAll_reach _ _ _ (okAll.cons ((Fld.ok_ix ..).trans rfl) (okAll.cons ((Fld.ok_ix ..).trans rfl) (okAll.cons ((Fld.ok_ix ..).trans rfl) (okAll.cons ((Fld.ok_ix ..).trans rfl) okAll.nil)))))

theorem State.restoreCommissioning_reach (s : State) (x : Snapshot) : Reach 0x400000 s
    (State.restoreCommissioning s x) := by
  unfold State.restoreCommissioning
  refine Reach.foldl (Reach.set (Reach.refl _ _) _ _ rfl) (?_)
  intro u x_1
  refine Reach.foldl (Reach.set (Reach.refl _ _) _ _ ((Fld.ok_ix ..).trans rfl)) (?_)
  intro u_1 x_2
  exact Reach.step (Reach.refl _ _) (State.restorePowers_reach ..) rfl

theorem State.restoreSlot_reach (s : State) (x : Snapshot) (n : Nat) : Reach 0x8000420208880000 s
    (State.restoreSlot s x n) := by
  unfold State.restoreSlot
  extract_lets tx s1 __src
  clear_value tx __src
  have h_s1 : Reach 0x8000420208880000 s s1 := Reach.trans (Reach.refl _ _) (State.setAll_reach _ _ _ (okAll.cons ((Fld.ok_ix ..).trans rfl) (okAll.cons ((Fld.ok_ix ..).trans rfl) okAll.nil)))
  clear_value s1
  exact Reach.ite (Reach.step (Reach.with_cry (h_s1) _ rfl) (State.keyExhausted_reach ..) rfl) (h_s1)

theorem State.restore_reach (s : State) (x : Snapshot) : Reach 0x801b42b20ac80118 s (State.restore s x) := by
  unfold State.restore
  extract_lets s1 s2 __src s3 s4 __srcx5 s5
  clear_value __src __srcx5
  have h_s1 : Reach 0x801b42b20ac80118 s s1 := Reach.trans (Reach.refl _ _) (State.setAll_reach _ _ _ (okAll.append (okAll.cons rfl (okAll.cons rfl (okAll.cons rfl (okAll.cons rfl (okAll.cons rfl (okAll.cons rfl okAll.nil)))))) (okAll.map fun _ => (Fld.ok_ix ..).trans rfl)))
  clear_value s1
  have h_s2 : Reach 0x801b42b20ac80118 s s2 := Reach.trans (Reach.trans (Reach.step (h_s1) (State.setOuterEpoch_reach ..) rfl) (State.set64_reach _ _ _ _ _ rfl rfl)) (State.set64_reach _ _ _ _ _ rfl rfl)
  clear_value s2
  have h_s3 : Reach 0x801b42b20ac80118 s s3 := Reach.with_boot (h_s2) _ rfl
  clear_value s3
  have h_s4 : Reach 0x801b42b20ac80118 s s4 := by
    unfold s4
    refine Reach.foldl (Reach.step (h_s3) (State.retireListed_reach ..) rfl) (?_)
    intro u x_1
    exact Reach.step (Reach.refl _ _) (State.retireLaserAgain_reach ..) rfl
  clear_value s4
  have h_s5 : Reach 0x801b42b20ac80118 s s5 := Reach.with_cry (h_s4) _ rfl
  clear_value s5
  refine Reach.step (Reach.step (Reach.foldl (h_s5) (?_)) (State.restoreCommissioning_reach ..) rfl) (State.journal_reach ..) rfl
  intro u x_1
  exact Reach.step (Reach.refl _ _) (State.restoreSlot_reach ..) rfl

theorem execJournalRestore_reach (s : State) : ∃ t, execJournalRestore s = .next t ∧ Reach 0x801b42b20bc8011c s t :=
    by
  refine ⟨_, rfl, ?_⟩
  extract_lets __src s1 s2
  clear_value __src
  have h_s1 : Reach 0x801b42b20bc8011c s s1 := by
    unfold s1
    split
    · extract_lets t
      have h_t : Reach 0x801b42b20bc8011c s t := Reach.with_boot (Reach.refl _ _) _ rfl
      clear_value t
      exact Reach.step (Reach.trans (h_t) (State.set64_reach _ _ _ _ _ rfl rfl)) (State.restore_reach ..) rfl
    · exact Reach.step (Reach.set (Reach.with_boot (Reach.refl _ _) _ rfl) _ _ rfl) (State.restore_reach ..) rfl
  clear_value s1
  have h_s2 : Reach 0x801b42b20bc8011c s s2 := Reach.trans (Reach.step (Reach.step (h_s1) (State.startErase_reach ..) rfl) (State.showFree_reach ..) rfl) (State.setAll_reach _ _ _ (okAll.cons rfl (okAll.cons rfl okAll.nil)))
  clear_value s2
  exact Reach.ite (Reach.refl _ _) (Reach.ite (h_s2) (Reach.set (h_s2) _ _ rfl))

theorem State.bootBank_reach (s : State) (b : Nat) : Reach 0x65213c2020be7fd1d s (State.bootBank s b) := by
  unfold State.bootBank
  exact Reach.step (Reach.set (Reach.refl _ _) _ _ rfl) (State.firstImage_reach ..) rfl

theorem State.bankFails_reach (s : State) (b : Nat) : Reach 0x20200000004 s (State.bankFails s b) := by
  unfold State.bankFails
  split
  · exact Reach.step (Reach.refl _ _) (State.reject_reach ..) rfl
  · exact Reach.refl _ _

theorem execBaseImageVerify_reach (s : State) : ∃ t, execBaseImageVerify s = .next t ∧ Reach 0x65213c2020be7fd1d s t
    := by
  refine ⟨_, rfl, ?_⟩
  extract_lets a s1
  clear_value a
  have h_s1 : Reach 0x65213c2020be7fd1d s s1 := Reach.step (Reach.step (Reach.trans (Reach.set (Reach.step (Reach.refl _ _) (State.bankFails_reach ..) rfl) _ _ rfl) (State.evt_reach _ _ _ rfl rfl)) (State.keepSeq_reach ..) rfl) (State.raise_reach ..) rfl
  clear_value s1
  exact Reach.ite (Reach.refl _ _) (Reach.ite (Reach.step (Reach.refl _ _) (State.bootBank_reach ..) rfl) (Reach.ite (Reach.step (h_s1) (State.bootBank_reach ..) rfl) (Reach.step (Reach.step (Reach.set (Reach.step (h_s1) (State.bankFails_reach ..) rfl) _ _ rfl) (State.keepSeq_reach ..) rfl) (State.raise_reach ..) rfl)))

end Sys2Proof.Machine
end

