-- ==== Sys2Proof/Laws/ReachAttest.lean ====
section
/-! SUPPORT. What each operation and each command of Machine/Attest.lean reaches. -/

namespace Sys2Proof.Machine

theorem State.quoteSigned_reach (s : State) : Reach 0x8000800004080000 s (State.quoteSigned s) := by
  unfold State.quoteSigned
  extract_lets __src
  clear_value __src
  exact Reach.step (Reach.trans (Reach.with_gen (Reach.refl _ _) _ rfl) (State.add64_reach _ _ _ _ _ rfl rfl)) (State.cryBlocks_reach ..) rfl

theorem State.doeReply_reach (s : State) (answer : List Byte) : Reach 0xa0000000000 s (State.doeReply s answer) := by
  unfold State.doeReply
  extract_lets __src
  clear_value __src
  exact Reach.step (Reach.with_pcie (Reach.refl _ _) _ rfl) (State.send_reach ..) rfl

theorem execDoeDiscovery_reach (index : Nat) (s : State) : ∃ t, execDoeDiscovery index s = .next t ∧ Reach
    0xa0000000000 s t := by
  refine ⟨_, rfl, ?_⟩
  exact Reach.step (Reach.refl _ _) (State.doeReply_reach ..) rfl

theorem execGetCerts_reach (s : State) : ∃ t, execGetCerts s = .next t ∧ Reach 0xa0000000000 s t := by
  refine ⟨_, rfl, ?_⟩
  exact Reach.ite (Reach.step (Reach.refl _ _) (State.doeReply_reach ..) rfl) (Reach.step (Reach.refl _ _) (State.doeReply_reach ..) rfl)

theorem execGetQuote_reach (nonce : List Byte) (s : State) : ∃ t, execGetQuote nonce s = .next t ∧ Reach
    0x80008a0004080000 s t := by
  refine ⟨_, rfl, ?_⟩
  exact Reach.ite (Reach.step (Reach.refl _ _) (State.doeReply_reach ..) rfl) (Reach.step (Reach.step (Reach.refl _ _) (State.doeReply_reach ..) rfl) (State.quoteSigned_reach ..) rfl)

theorem execGetBody_reach (s : State) : ∃ t, execGetBody s = .next t ∧ Reach 0xa0000000000 s t := by
  refine ⟨_, rfl, ?_⟩
  exact Reach.step (Reach.refl _ _) (State.doeReply_reach ..) rfl

theorem execDoeAbort_reach (s : State) : ∃ t, execDoeAbort s = .next t ∧ Reach 0x80000000000 s t := by
  refine ⟨_, rfl, ?_⟩
  extract_lets __src
  clear_value __src
  exact Reach.with_pcie (Reach.refl _ _) _ rfl

theorem execAttQTail_reach (index : Nat) (s : State) : ∃ t, execAttQTail index s = .next t ∧ Reach 0x42020c800001 s
    t := by
  refine ⟨_, rfl, ?_⟩
  refine Reach.trans (Reach.refl _ _) (State.hostWrite_reach _ _ _ _ _ _ (?_) rfl)
  intro t
  exact Reach.set (Reach.refl _ _) _ _ rfl

theorem State.passEntry_reach (s : State) (bad last : Bool) : Reach 0x20004000000 s (State.passEntry s bad last) := by
  unfold State.passEntry
  extract_lets size s1
  clear_value size
  have h_s1 : Reach 0x20004000000 s s1 := Reach.trans (Reach.refl _ _) (State.setAll_reach _ _ _ (okAll.cons rfl (okAll.cons rfl okAll.nil)))
  clear_value s1
  exact Reach.ite (Reach.step (h_s1) (State.send_reach ..) rfl) (h_s1)

theorem State.toHost_reach (s : State) (addr : Nat) (bs : List Byte) : Reach 0x800000000000 s
    (State.toHost s addr bs) := by
  unfold State.toHost
  extract_lets __src
  clear_value __src
  exact Reach.with_gen (Reach.refl _ _) _ rfl

theorem execQuoteQueueEntry_reach (dmaError last : Bool) (s : State) : ∃ t, execQuoteQueueEntry dmaError last s =
    .next t ∧ Reach 0x8010820004080000 s t := by
  refine ⟨_, rfl, ?_⟩
  extract_lets head at_ e __src s1 s2
  clear_value head at_ e __src
  have h_s1 : Reach 0x8010820004080000 s s1 := Reach.with_img (Reach.refl _ _) _ rfl
  clear_value s1
  have h_s2 : Reach 0x8010820004080000 s s2 := Reach.ite (h_s1) (Reach.step (h_s1) (State.toHost_reach ..) rfl)
  clear_value s2
  exact Reach.ite (Reach.refl _ _) (Reach.ite (Reach.step (Reach.refl _ _) (State.passEntry_reach ..) rfl) (Reach.step (Reach.step (Reach.step (h_s2) (State.quoteSigned_reach ..) rfl) (State.toHost_reach ..) rfl) (State.passEntry_reach ..) rfl))

theorem State.smbWordIs_reach (s : State) (w : Nat) : Reach 0x80000000000 s (State.smbWordIs s w) := by
  unfold State.smbWordIs
  extract_lets __src
  clear_value __src
  exact Reach.with_pcie (Reach.refl _ _) _ rfl

theorem execSmbPart_reach (s : State) : ∃ t, execSmbPart s = .next t ∧ Reach 0x80000000000 s t := by
  refine ⟨_, rfl, ?_⟩
  exact Reach.step (Reach.refl _ _) (State.smbWordIs_reach ..) rfl

theorem execSmbStatus_reach (s : State) : ∃ t, execSmbStatus s = .next t ∧ Reach 0x80000000000 s t := by
  refine ⟨_, rfl, ?_⟩
  exact Reach.step (Reach.refl _ _) (State.smbWordIs_reach ..) rfl

theorem execSmbTemp_reach (command : Nat) (s : State) : ∃ t, execSmbTemp command s = .next t ∧ Reach 0x80000000000 s
    t := by
  refine ⟨_, rfl, ?_⟩
  exact Reach.step (Reach.refl _ _) (State.smbWordIs_reach ..) rfl

theorem execSmbVq_reach (command : Nat) (s : State) : ∃ t, execSmbVq command s = .next t ∧ Reach 0x80000000000 s t
    := by
  refine ⟨_, rfl, ?_⟩
  exact Reach.step (Reach.refl _ _) (State.smbWordIs_reach ..) rfl

theorem execSmbRail_reach (command : Nat) (s : State) : ∃ t, execSmbRail command s = .next t ∧ Reach 0x80000000000 s
    t := by
  refine ⟨_, rfl, ?_⟩
  exact Reach.step (Reach.refl _ _) (State.smbWordIs_reach ..) rfl

theorem execSmbPwrStat_reach (s : State) : ∃ t, execSmbPwrStat s = .next t ∧ Reach 0x80000000000 s t := by
  refine ⟨_, rfl, ?_⟩
  exact Reach.step (Reach.refl _ _) (State.smbWordIs_reach ..) rfl

theorem execSmbOther_reach (_code : Nat) (s : State) : ∃ t, execSmbOther _code s = .next t ∧ Reach 0x80000000000 s t
    := by
  refine ⟨_, rfl, ?_⟩
  exact Reach.step (Reach.refl _ _) (State.smbWordIs_reach ..) rfl

end Sys2Proof.Machine
end

