-- ==== Sys2Proof/Laws/ReachChip.lean ====
section
/-! SUPPORT. What each operation and each command of Machine/Chip.lean reaches. -/

namespace Sys2Proof.Machine

theorem execNop_reach (queue : QueueId) (s : State) : ∃ t, execNop queue s = .next t ∧ Reach 0x2420208800018 s t := by
  refine ⟨_, rfl, ?_⟩
  refine Reach.trans (Reach.refl _ _) (State.issueIn_reach _ _ _ _ _ _ (?_) rfl)
  intro e t
  exact Reach.step (Reach.refl _ _) (State.fly_reach ..) rfl

theorem execSyncSet_reach (queue : QueueId) (s : State) : ∃ t, execSyncSet queue s = .next t ∧ Reach 0x2420208800018
    s t := by
  refine ⟨_, rfl, ?_⟩
  refine Reach.trans (Reach.refl _ _) (State.issueIn_reach _ _ _ _ _ _ (?_) rfl)
  intro e t
  exact Reach.step (Reach.step (Reach.step (Reach.refl _ _) (State.setCtr_reach ..) rfl) (State.setCtrPoison_reach ..) rfl) (State.fly_reach ..) rfl

theorem execSyncAdd_reach (queue : QueueId) (s : State) : ∃ t, execSyncAdd queue s = .next t ∧ Reach 0x2420208800018
    s t := by
  refine ⟨_, rfl, ?_⟩
  refine Reach.trans (Reach.refl _ _) (State.issueIn_reach _ _ _ _ _ _ (?_) rfl)
  intro e t
  exact Reach.step (Reach.step (Reach.refl _ _) (State.addCtr_reach ..) rfl) (State.fly_reach ..) rfl

theorem State.scalarIssue_reach (m : Nat) (s : State) (mine ok : QEntry → Bool) (f : QEntry → State → State) (hf : ∀
    x t, Reach m t (f x t)) (hm : Nat.land 0x2420208800018 m = 0x2420208800018) : Reach m s
    (State.scalarIssue s mine ok f) := by
  unfold State.scalarIssue
  refine Reach.trans (Reach.refl _ _) (State.issueIn_reach _ _ _ _ _ _ (?_) (land_sub hm rfl))
  intro e t
  exact Reach.step (Reach.trans (Reach.refl _ _) (hf ..)) (State.fly_reach ..) (land_sub hm rfl)

theorem State.setSreg_reach (s : State) (n : Nat) (v : F32) : Reach 0x8 s (State.setSreg s n v) := by
  unfold State.setSreg
  exact Reach.set (Reach.refl _ _) _ _ ((Fld.ok_ix ..).trans rfl)

theorem execNormInv_reach (s : State) : ∃ t, execNormInv s = .next t ∧ Reach 0x2420208800118 s t := by
  refine ⟨_, rfl, ?_⟩
  refine Reach.trans (Reach.refl _ _) (State.scalarIssue_reach _ _ _ _ _ (?_) rfl)
  intro x t
  extract_lets norm eps
  clear_value norm eps
  exact Reach.set (Reach.step (Reach.refl _ _) (State.setSreg_reach ..) rfl) _ _ rfl

theorem execRecip_reach (s : State) : ∃ t, execRecip s = .next t ∧ Reach 0x2420208800018 s t := by
  refine ⟨_, rfl, ?_⟩
  refine Reach.trans (Reach.refl _ _) (State.scalarIssue_reach _ _ _ _ _ (?_) rfl)
  intro x t
  exact Reach.step (Reach.refl _ _) (State.setSreg_reach ..) rfl

theorem execMergeW_reach (s : State) : ∃ t, execMergeW s = .next t ∧ Reach 0x2420208800018 s t := by
  refine ⟨_, rfl, ?_⟩
  refine Reach.trans (Reach.refl _ _) (State.scalarIssue_reach _ _ _ _ _ (?_) rfl)
  intro x t
  refine Reach.foldl (Reach.refl _ _) (?_)
  intro u x_1
  exact Reach.step (Reach.refl _ _) (State.setSreg_reach ..) rfl

theorem execFinVerdict_reach (matrix iter product : Nat) (s : State) : ∃ t, execFinVerdict matrix iter product s =
    .next t ∧ Reach 0x6faa42b208847f18 s t := by
  refine ⟨_, rfl, ?_⟩
  refine Reach.trans (Reach.refl _ _) (State.scalarIssue_reach _ _ _ _ _ (?_) rfl)
  intro x t
  extract_lets flag forced set r t1 t2
  clear_value flag forced set r
  have h_t1 : Reach 0x6faa42b208847f18 t t1 := Reach.step (Reach.refl _ _) (State.setSreg_reach ..) rfl
  clear_value t1
  have h_t2 : Reach 0x6faa42b208847f18 t t2 := Reach.ite (Reach.step (h_t1) (State.nonFinite_reach ..) rfl) (h_t1)
  clear_value t2
  refine Reach.step (?_) (State.giveAll_reach ..) rfl
  split
  · exact Reach.step (h_t2) (State.matFail_reach ..) rfl
  · exact h_t2

theorem execClear_reach (s : State) : ∃ t, execClear s = .next t ∧ Reach 0x6420208800018 s t := by
  refine ⟨_, rfl, ?_⟩
  refine Reach.trans (Reach.refl _ _) (State.scalarIssue_reach _ _ _ _ _ (?_) rfl)
  intro x t
  extract_lets __src
  clear_value __src
  exact Reach.with_red (Reach.refl _ _) _ rfl

theorem State.stepIssue_reach (m : Nat) (s : State) (mine ok : QEntry → Bool) (f : QEntry → State → State × Bool)
    (hf : ∀ e t, Reach m t (f e t).1) (hm : Nat.land 0x2420208800018 m = 0x2420208800018) : Reach m s
    (State.stepIssue s mine ok f) := by
  unfold State.stepIssue
  refine Reach.trans (Reach.refl _ _) (State.issueIn_reach _ _ _ _ _ _ (?_) (land_sub hm rfl))
  intro e t
  extract_lets x
  exact Reach.step (Reach.trans (Reach.refl _ _) (hf ..)) (State.fly_reach ..) (land_sub hm rfl)

theorem execOpenStep_reach (s : State) : ∃ t, execOpenStep s = .next t ∧ Reach 0xa420208800118 s t := by
  refine ⟨_, rfl, ?_⟩
  refine Reach.trans (Reach.refl _ _) (State.stepIssue_reach _ _ _ _ _ (?_) rfl)
  intro e t
  extract_lets v __src __srcx2
  clear_value __src __srcx2
  dsimp only
  exact Reach.set (Reach.with_sched_step (Reach.refl _ _) _ _ rfl) _ _ rfl

theorem execCommit_reach (s : State) : ∃ t, execCommit s = .next t ∧ Reach 0x6faa42b20a847f18 s t := by
  refine ⟨_, rfl, ?_⟩
  refine Reach.trans (Reach.refl _ _) (State.stepIssue_reach _ _ _ _ _ (?_) rfl)
  intro e t
  extract_lets t1 __src
  clear_value __src
  have h_t1 : Reach 0x6faa42b20a847f18 t t1 := Reach.step (Reach.step (Reach.refl _ _) (State.commitAs_reach ..) rfl) (State.addTokens_reach ..) rfl
  clear_value t1
  split
  · dsimp only
    exact Reach.step (Reach.step (Reach.refl _ _) (State.abandonStep_reach ..) rfl) (State.giveAll_reach ..) rfl
  · split
    · dsimp only
      exact Reach.refl _ _
    · dsimp only
      exact Reach.step (Reach.step (Reach.with_mbr (h_t1) _ rfl) (State.releaseAll_reach ..) rfl) (State.giveAll_reach ..) rfl

theorem State.rearm_reach (s : State) : Reach 0x2420208800008 s (State.rearm s) := by
  unfold State.rearm
  refine Reach.foldl (Reach.refl _ _) (?_)
  intro u x
  exact Reach.step (Reach.refl _ _) (State.runProgram_reach ..) rfl

theorem State.boundary_reach (s : State) : Reach 0x27ffbc2b20aa77f1d s (State.boundary s) := by
  unfold State.boundary
  extract_lets s1 s2
  have h_s1 : Reach 0x27ffbc2b20aa77f1d s s1 := Reach.set (Reach.step (Reach.step (Reach.step (Reach.step (Reach.refl _ _) (State.takeCommitSet_reach ..) rfl) (State.flipRoutes_reach ..) rfl) (State.restartFlows_reach ..) rfl) (State.admitAtBoundary_reach ..) rfl) _ _ rfl
  clear_value s1
  have h_s2 : Reach 0x27ffbc2b20aa77f1d s s2 := Reach.ite (Reach.step (h_s1) (State.askImages_reach ..) rfl) (Reach.step (h_s1) (State.applyDue_reach ..) rfl)
  clear_value s2
  exact Reach.step (Reach.step (Reach.step (h_s2) (State.rearm_reach ..) rfl) (State.holdGrants_reach ..) rfl) (State.giveAll_reach ..) rfl

theorem execScatterDone_reach (s : State) : ∃ t, execScatterDone s = .next t ∧ Reach 0x27ffbc2b20aa77f1d s t := by
  refine ⟨_, rfl, ?_⟩
  refine Reach.trans (Reach.refl _ _) (State.stepIssue_reach _ _ _ _ _ (?_) rfl)
  intro e t
  split
  · dsimp only
    exact Reach.step (Reach.set (Reach.step (Reach.refl _ _) (State.setStep_reach ..) rfl) _ _ rfl) (State.boundary_reach ..) rfl
  · split
    · dsimp only
      exact Reach.step (Reach.refl _ _) (State.boundary_reach ..) rfl
    · dsimp only
      exact Reach.refl _ _

theorem execPhase_reach (s : State) : ∃ t, execPhase s = .next t ∧ Reach 0x2420208800018 s t := by
  refine ⟨_, rfl, ?_⟩
  refine Reach.trans (Reach.refl _ _) (State.issueIn_reach _ _ _ _ _ _ (?_) rfl)
  intro e t
  extract_lets rs stuck t1
  clear_value rs stuck
  have h_t1 : Reach 0x2420208800018 t t1 := Reach.step (Reach.refl _ _) (State.fly_reach ..) rfl
  clear_value t1
  refine Reach.step (Reach.foldl (h_t1) (?_)) (State.phaseDone_reach ..) rfl
  intro u x
  exact Reach.ite (Reach.step (Reach.refl _ _) (State.phaseRefused_reach ..) rfl) (Reach.step (Reach.refl _ _) (State.askDrain_reach ..) rfl)

theorem execColl_reach (s : State) : ∃ t, execColl s = .next t ∧ Reach 0x4b8242b208847e18 s t := by
  refine ⟨_, rfl, ?_⟩
  extract_lets ok slot
  clear_value ok slot
  refine Reach.trans (Reach.refl _ _) (State.issueIn_reach _ _ _ _ _ _ (?_) rfl)
  intro e t
  extract_lets u c
  clear_value c
  have h_u : Reach 0x4b8242b208847e18 t u := Reach.step (Reach.step (Reach.refl _ _) (State.fly_reach ..) rfl) (State.postColl_reach ..) rfl
  clear_value u
  exact Reach.step (Reach.ite (Reach.step (h_u) (State.cancelColl_reach ..) rfl) (h_u)) (State.giveAll_reach ..) rfl

theorem State.setBase_reach (s : State) (e : QEntry) (r rank rep : Nat) : Reach 0x2000000000000 s
    (State.setBase s e r rank rep) := by
  unfold State.setBase
  extract_lets sel v __src
  clear_value sel v __src
  exact Reach.ite (Reach.refl _ _) (Reach.with_sched (Reach.refl _ _) _ rfl)

theorem State.setCursor_reach (s : State) (r v : Nat) : Reach 0x2000000000000 s (State.setCursor s r v) := by
  unfold State.setCursor
  extract_lets __src
  clear_value __src
  exact Reach.with_sched (Reach.refl _ _) _ rfl

theorem State.dispatchTo_reach (s : State) (e : QEntry) (r rank : Nat) (n : Nat) : Reach 0x2420208800008 s
    (State.dispatchTo s e r rank n) := by
  induction n generalizing s e r rank with
  | zero =>
    rw [State.dispatchTo]
    exact Reach.refl _ _
  | succ n ih =>
    rw [State.dispatchTo]
    extract_lets s1
    have h_s1 : Reach 0x2420208800008 s s1 := Reach.ite (Reach.step (Reach.refl _ _) (State.setBase_reach ..) rfl) (Reach.refl _ _)
    clear_value s1
    refine Reach.ite (Reach.refl _ _) (?_)
    split
    · exact Reach.trans (Reach.step (h_s1) (State.setCursor_reach ..) rfl) (ih ..)
    · extract_lets q
      clear_value q
      exact Reach.ite (Reach.trans (Reach.step (Reach.step (h_s1) (State.place_reach ..) rfl) (State.setCursor_reach ..) rfl) (ih ..)) (h_s1)

theorem State.dispatchIn_reach (s : State) (e : QEntry) (r rank : Nat) : Reach 0x2420208800008 s
    (State.dispatchIn s e r rank) := by
  unfold State.dispatchIn
  exact Reach.ite (Reach.step (Reach.step (Reach.refl _ _) (State.setBase_reach ..) rfl) (State.setCursor_reach ..) rfl) (Reach.step (Reach.refl _ _) (State.dispatchTo_reach ..) rfl)

theorem State.dispatchStep_reach (s : State) (e : QEntry) : Reach 0x2420208800018 s (State.dispatchStep s e) := by
  unfold State.dispatchStep
  extract_lets rs t
  clear_value rs
  have h_t : Reach 0x2420208800018 s t := by
    unfold t
    refine Reach.foldl (Reach.refl _ _) (?_)
    intro u x
    exact Reach.step (Reach.refl _ _) (State.dispatchIn_reach ..) rfl
  clear_value t
  refine Reach.ite (Reach.trans (h_t) (State.issueIn_reach _ _ _ _ _ _ (?_) rfl)) (h_t)
  intro e_1 t_1
  extract_lets __src
  clear_value __src
  exact Reach.step (Reach.with_sched (Reach.refl _ _) _ rfl) (State.fly_reach ..) rfl

theorem execDispatch_reach (s : State) : ∃ t, execDispatch s = .next t ∧ Reach 0x2420208800018 s t := by
  refine ⟨_, rfl, ?_⟩
  split
  · refine Reach.ite (Reach.step (Reach.refl _ _) (State.dispatchStep_reach ..) rfl) (Reach.trans (Reach.refl _ _) (State.issueIn_reach _ _ _ _ _ _ (?_) rfl))
    intro e t
    exact Reach.refl _ _
  · refine Reach.trans (Reach.refl _ _) (State.issueIn_reach _ _ _ _ _ _ (?_) rfl)
    intro e t
    exact Reach.refl _ _

theorem State.restep_reach (s : State) : Reach 0x400000000004100 s (State.restep s) := by
  unfold State.restep
  extract_lets st x
  clear_value st x
  exact Reach.ite (Reach.refl _ _) (Reach.step (Reach.refl _ _) (State.setStep_reach ..) rfl)

theorem State.mark_reach (s : State) (m : StepMark) : Reach 0x408000000004100 s (State.mark s m) := by
  unfold State.mark
  split
  · exact Reach.refl _ _
  · extract_lets __src
    clear_value __src
    exact Reach.step (Reach.with_step (Reach.refl _ _) _ rfl) (State.restep_reach ..) rfl
  · extract_lets __src
    clear_value __src
    exact Reach.step (Reach.with_step (Reach.refl _ _) _ rfl) (State.restep_reach ..) rfl
  · extract_lets __src
    clear_value __src
    exact Reach.step (Reach.trans (Reach.with_step (Reach.refl _ _) _ rfl) (State.setAll_reach _ _ _ (okAll.cons rfl (okAll.cons rfl (okAll.cons rfl (okAll.cons rfl (okAll.cons rfl okAll.nil))))))) (State.restep_reach ..) rfl
  · exact Reach.step (Reach.refl _ _) (State.restep_reach ..) rfl
  · exact Reach.trans (Reach.refl _ _) (State.bump_reach _ _ _ _ rfl)
  · extract_lets __src s1
    clear_value __src
    have h_s1 : Reach 0x408000000004100 s s1 := Reach.ite (Reach.refl _ _) (Reach.with_step (Reach.refl _ _) _ rfl)
    clear_value s1
    exact Reach.trans (h_s1) (State.setAll_reach _ _ _ (okAll.cons rfl (okAll.cons rfl (okAll.cons rfl (okAll.cons rfl okAll.nil)))))

theorem State.settleQueue_reach (s : State) (q : QueueId) : Reach 0x2420208800018 s (State.settleQueue s q) := by
  unfold State.settleQueue
  split
  · exact Reach.step (Reach.step (Reach.refl _ _) (State.settleRegion_reach ..) rfl) (State.feed_reach ..) rfl
  · exact Reach.refl _ _

theorem State.complete_reach (s : State) (f : Flight) : Reach 0x2420208800018 s (State.complete s f) := by
  unfold State.complete
  extract_lets __src s1
  clear_value __src
  have h_s1 : Reach 0x2420208800018 s s1 := Reach.with_sched (Reach.refl _ _) _ rfl
  clear_value s1
  exact Reach.step (Reach.step (h_s1) (State.finish_reach ..) rfl) (State.settleQueue_reach ..) rfl

theorem execDescriptorCompletion_reach (queue : QueueId) (sid : Nat) (mark : StepMark) (s : State) : ∃ t,
    execDescriptorCompletion queue sid mark s = .next t ∧ Reach 0x40a420208804118 s t := by
  refine ⟨_, rfl, ?_⟩
  split
  · exact Reach.refl _ _
  · extract_lets t
    have h_t : Reach 0x40a420208804118 s t := Reach.step (Reach.refl _ _) (State.complete_reach ..) rfl
    clear_value t
    exact Reach.ite (Reach.refl _ _) (Reach.ite (h_t) (Reach.step (h_t) (State.mark_reach ..) rfl))

theorem State.poisonOutputs_reach (s : State) (q : QueueId) (e : QEntry) : Reach 0xa000000000 s
    (State.poisonOutputs s q e) := by
  unfold State.poisonOutputs
  split
  · refine Reach.ite (Reach.foldl (Reach.refl _ _) (?_)) (Reach.refl _ _)
    intro u x
    exact Reach.step (Reach.refl _ _) (State.poisonRowsAt_reach ..) rfl
  · refine Reach.ite (Reach.foldl (Reach.refl _ _) (?_)) (Reach.refl _ _)
    intro u x
    exact Reach.step (Reach.refl _ _) (State.storePoison_reach ..) rfl
  · refine Reach.ite (Reach.foldl (Reach.refl _ _) (?_)) (Reach.refl _ _)
    intro u x
    exact Reach.step (Reach.refl _ _) (State.storePoison_reach ..) rfl
  · exact Reach.refl _ _

theorem State.withdraw_reach (s : State) (sid : Nat) : Reach 0x2000000000018 s (State.withdraw s sid) := by
  unfold State.withdraw
  refine Reach.foldl (Reach.refl _ _) (?_)
  intro u x
  extract_lets l keep t1
  clear_value l keep
  have h_t1 : Reach 0x2000000000018 u t1 := Reach.step (Reach.refl _ _) (State.setDrains_reach ..) rfl
  clear_value t1
  exact Reach.ite (Reach.refl _ _) (Reach.ite (Reach.step (h_t1) (State.settleRegion_reach ..) rfl) (h_t1))

theorem State.cancelFlight_reach (s : State) (f : Flight) : Reach 0x4b9b42b208847f18 s (State.cancelFlight s f) := by
  unfold State.cancelFlight
  extract_lets s1 s2 s3
  have h_s1 : Reach 0x4b9b42b208847f18 s s1 := by
    unfold s1
    split
    · exact Reach.step (Reach.refl _ _) (State.endTiles_reach ..) rfl
    · exact Reach.refl _ _
  clear_value s1
  have h_s2 : Reach 0x4b9b42b208847f18 s s2 := Reach.step (h_s1) (State.poisonOutputs_reach ..) rfl
  clear_value s2
  have h_s3 : Reach 0x4b9b42b208847f18 s s3 := by
    unfold s3
    refine Reach.ite (?_) (Reach.ite (Reach.step (h_s2) (State.withdraw_reach ..) rfl) (h_s2))
    split
    · exact Reach.step (h_s2) (State.cancelColl_reach ..) rfl
    · exact h_s2
  clear_value s3
  exact Reach.step (h_s3) (State.complete_reach ..) rfl

theorem State.cancelQueued_reach (s : State) (q : QueueId) (e : QEntry) : Reach 0x242a208800018 s
    (State.cancelQueued s q e) := by
  unfold State.cancelQueued
  extract_lets head s1 __src s2
  clear_value head __src
  have h_s1 : Reach 0x242a208800018 s s1 := Reach.step (Reach.refl _ _) (State.setQueue_reach ..) rfl
  clear_value s1
  have h_s2 : Reach 0x242a208800018 s s2 := Reach.ite (Reach.with_sched (h_s1) _ rfl) (h_s1)
  clear_value s2
  exact Reach.step (Reach.step (Reach.ite (Reach.step (h_s2) (State.poisonOutputs_reach ..) rfl) (h_s2)) (State.finish_reach ..) rfl) (State.settleQueue_reach ..) rfl

theorem State.collShort_reach (s : State) (e : QEntry) : Reach 0x6faa42b208847f08 s (State.collShort s e) := by
  unfold State.collShort
  split
  · exact Reach.refl _ _
  · exact Reach.ite (Reach.step (Reach.step (Reach.refl _ _) (State.tallyMiss_reach ..) rfl) (State.giveAll_reach ..) rfl) (Reach.refl _ _)

theorem execDlMiss_reach (queue : QueueId) (sid : Nat) (s : State) : ∃ t, execDlMiss queue sid s = .next t ∧ Reach
    0x6fbb42b208847f18 s t := by
  refine ⟨_, rfl, ?_⟩
  split
  · extract_lets t
    have h_t : Reach 0x6fbb42b208847f18 s t := Reach.step (Reach.step (Reach.step (Reach.refl _ _) (State.missDeadline_reach ..) rfl) (State.onFlight_reach ..) rfl) (State.collShort_reach ..) rfl
    clear_value t
    refine Reach.ite (Reach.ite (?_) (h_t)) (Reach.refl _ _)
    split
    · exact Reach.step (h_t) (State.cancelFlight_reach ..) rfl
    · exact h_t
  · split
    · extract_lets t
      have h_t : Reach 0x6fbb42b208847f18 s t := Reach.step (Reach.step (Reach.refl _ _) (State.missDeadline_reach ..) rfl) (State.setQueue_reach ..) rfl
      clear_value t
      exact Reach.ite (Reach.ite (Reach.step (h_t) (State.cancelQueued_reach ..) rfl) (h_t)) (Reach.refl _ _)
    · exact Reach.refl _ _

theorem execRegionDrained_reach (region : Nat) (s : State) : ∃ t, execRegionDrained region s = .next t ∧ Reach
    0x13420208800018 s t := by
  refine ⟨_, rfl, ?_⟩
  exact Reach.ite (Reach.step (Reach.refl _ _) (State.drainReached_reach ..) rfl) (Reach.refl _ _)

theorem execSeqPhaseReq_reach (phase : Nat) (s : State) : ∃ t, execSeqPhaseReq phase s = .next t ∧ Reach
    0x2420208800019 s t := by
  refine ⟨_, rfl, ?_⟩
  refine Reach.trans (Reach.refl _ _) (State.hostWrite_reach _ _ _ _ _ _ (?_) rfl)
  intro t
  extract_lets mask
  clear_value mask
  refine Reach.foldl (Reach.set (Reach.refl _ _) _ _ rfl) (?_)
  intro u x
  exact Reach.ite (Reach.step (Reach.refl _ _) (State.phaseRefused_reach ..) rfl) (Reach.step (Reach.refl _ _) (State.askDrain_reach ..) rfl)

theorem execPhaseRefused_reach (region : Nat) (s : State) : ∃ t, execPhaseRefused region s = .next t ∧ Reach
    0x2420208800018 s t := by
  refine ⟨_, rfl, ?_⟩
  extract_lets l
  clear_value l
  split
  · exact Reach.refl _ _
  · extract_lets t
    have h_t : Reach 0x2420208800018 s t := Reach.step (Reach.refl _ _) (State.setDrains_reach ..) rfl
    clear_value t
    exact Reach.step (Reach.step (Reach.step (h_t) (State.settleRegion_reach ..) rfl) (State.phaseRefused_reach ..) rfl) (State.feed_reach ..) rfl

theorem execSeqRun_reach (entry : Nat) (s : State) : ∃ t, execSeqRun entry s = .next t ∧ Reach 0x2420208800009 s t
    := by
  refine ⟨_, rfl, ?_⟩
  refine Reach.trans (Reach.refl _ _) (State.hostWrite_reach _ _ _ _ _ _ (?_) rfl)
  intro t
  extract_lets t1
  have h_t1 : Reach 0x2420208800009 t t1 := Reach.set (Reach.refl _ _) _ _ rfl
  clear_value t1
  exact Reach.ite (h_t1) (Reach.step (h_t1) (State.runProgram_reach ..) rfl)

theorem execSeqCntClr_reach (s : State) : ∃ t, execSeqCntClr s = .next t ∧ Reach 0x420208800009 s t := by
  refine ⟨_, rfl, ?_⟩
  refine Reach.trans (Reach.refl _ _) (State.hostWrite_reach _ _ _ _ _ _ (?_) rfl)
  intro t
  exact Reach.trans (Reach.trans (Reach.refl _ _) (State.clearAll_reach _ _ _ (okFlds.cons rfl (okFlds.cons rfl (okFlds.cons rfl (okFlds.cons rfl (okFlds.cons rfl (okFlds.cons rfl (okFlds.cons rfl okFlds.nil))))))))) (State.evtEndAll_reach _ _ _ (okFlds.cons rfl (okFlds.cons rfl (okFlds.cons rfl (okFlds.cons rfl okFlds.nil)))) rfl)

theorem execReplicaConfirm_reach (epoch mask : Nat) (s : State) : ∃ t, execReplicaConfirm epoch mask s = .next t ∧
    Reach 0x28000000000100 s t := by
  refine ⟨_, rfl, ?_⟩
  extract_lets __src __srcx1 t
  clear_value __src __srcx1
  have h_t : Reach 0x28000000000100 s t := Reach.with_step (Reach.refl _ _) _ rfl
  clear_value t
  exact Reach.ite (Reach.ite (Reach.refl _ _) (Reach.with_mbr (Reach.refl _ _) _ rfl)) (Reach.ite (Reach.ite (h_t) (Reach.set (h_t) _ _ rfl)) (Reach.refl _ _))

theorem execReplicaLost_reach (s : State) : ∃ t, execReplicaLost s = .next t ∧ Reach 0x8000000000000 s t := by
  refine ⟨_, rfl, ?_⟩
  extract_lets __src
  clear_value __src
  exact Reach.with_step (Reach.refl _ _) _ rfl

end Sys2Proof.Machine
end

