-- ==== Sys2Proof/Laws/ReachCollCmd.lean ====
section
/-! SUPPORT. What each operation and each command of Machine/CollCmd.lean reaches. -/

namespace Sys2Proof.Machine

theorem State.onCol_reach (m : Nat) (s : State) (hub op : Nat) (f : Packet → State → State) (hf : ∀ x t, Reach m t
    (f x t)) (hm : Nat.land 0x200000000002000 m = 0x200000000002000) : Reach m s (State.onCol s hub op f) := by
  unfold State.onCol
  split
  · exact Reach.refl _ _
  · rename_i x_i x_i1 heq_i
    have h_t : Reach m s (x_i1).2 := Reach.step (Reach.refl _ _) (State.takePacket_reach _ _ _ _ heq_i) (land_sub hm rfl)
    clear heq_i
    exact Reach.trans (Reach.step (h_t) (State.consumed_reach ..) (land_sub hm rfl)) (hf ..)

theorem execPut_reach (c : FabCmd) (s : State) : ∃ t, execPut c s = .next t ∧ Reach 0x4baa42b208847e08 s t := by
  refine ⟨_, rfl, ?_⟩
  split
  · exact Reach.step (Reach.refl _ _) (State.issueOp_reach ..) rfl
  · split
    · rename_i c_i hub_i x_i x_i3 heq_i
      have h_t : Reach 0x4baa42b208847e08 s (x_i3).2 := Reach.step (Reach.refl _ _) (State.takePacket_reach _ _ _ _ heq_i) rfl
      clear heq_i
      exact Reach.step (Reach.step (h_t) (State.putPacket_reach ..) rfl) (State.giveAll_reach ..) rfl
    · exact Reach.refl _ _

theorem execGetData_reach (hub : Nat) (s : State) : ∃ t, execGetData hub s = .next t ∧ Reach 0x4b8a42b208847e08 s t
    := by
  refine ⟨_, rfl, ?_⟩
  split
  · exact Reach.refl _ _
  · rename_i x_i x_i1 heq_i
    have h_t : Reach 0x4b8a42b208847e08 s (x_i1).2 := Reach.step (Reach.refl _ _) (State.takePacket_reach _ _ _ _ heq_i) rfl
    clear heq_i
    extract_lets k s1
    clear_value k
    have h_s1 : Reach 0x4b8a42b208847e08 s s1 := Reach.step (h_t) (State.consumed_reach ..) rfl
    clear_value s1
    split
    · exact Reach.step (h_s1) (State.staleReply_reach ..) rfl
    · extract_lets a f s2 o2
      clear_value a o2
      have h_s2 : Reach 0x4b8a42b208847e08 s s2 := Reach.step (Reach.step (Reach.step (Reach.step (h_s1) (State.rangeFaults_reach ..) rfl) (State.deposit_reach ..) rfl) (State.restored_reach ..) rfl) (State.giveAll_reach ..) rfl
      clear_value s2
      exact Reach.ite (Reach.step (h_s1) (State.opFail_reach ..) rfl) (Reach.ite (Reach.step (h_s2) (State.opFail_reach ..) rfl) (Reach.ite (Reach.step (h_s2) (State.endOp_reach ..) rfl) (Reach.step (h_s2) (State.setOp_reach ..) rfl)))

theorem execHopperRequest_reach (hub owner size : Nat) (listError : Bool) (s : State) : ∃ t, execHopperRequest hub
    owner size listError s = .next t ∧ Reach 0x4b8242b208847e08 s t := by
  refine ⟨_, rfl, ?_⟩
  split
  · exact Reach.step (Reach.refl _ _) (State.emit_reach ..) rfl
  · extract_lets t
    have h_t : Reach 0x4b8242b208847e08 s t := Reach.step (Reach.refl _ _) (State.askPool_reach ..) rfl
    clear_value t
    exact Reach.ite (Reach.step (h_t) (State.giveAll_reach ..) rfl) (h_t)

theorem execHopperRelease_reach (owner handle : Nat) (s : State) : ∃ t, execHopperRelease owner handle s = .next t ∧
    Reach 0x4b8242b208847e08 s t := by
  refine ⟨_, rfl, ?_⟩
  exact Reach.step (Reach.step (Reach.refl _ _) (State.releaseHandle_reach ..) rfl) (State.giveAll_reach ..) rfl

theorem execHopAuditDone_reach (pool : Nat) (s : State) : ∃ t, execHopAuditDone pool s = .next t ∧ Reach
    0x4b8242b208847e08 s t := by
  refine ⟨_, rfl, ?_⟩
  exact Reach.ite (Reach.step (Reach.step (Reach.refl _ _) (State.auditDone_reach ..) rfl) (State.giveAll_reach ..) rfl) (Reach.refl _ _)

theorem execRebuild_reach (pool : Nat) (s : State) : ∃ t, execRebuild pool s = .next t ∧ Reach 0x4b8242b208847e09 s
    t := by
  refine ⟨_, rfl, ?_⟩
  refine Reach.trans (Reach.refl _ _) (State.hostWrite_reach _ _ _ _ _ _ (?_) rfl)
  intro t
  exact Reach.ite (Reach.step (Reach.step (Reach.refl _ _) (State.rebuildPool_reach ..) rfl) (State.giveAll_reach ..) rfl) (Reach.refl _ _)

theorem execElementNop_reach (group seq elem : Nat) (s : State) : ∃ t, execElementNop group seq elem s = .next t ∧
    Reach 0x4b8242b208847e08 s t := by
  refine ⟨_, rfl, ?_⟩
  refine Reach.step (Reach.trans (Reach.refl _ _) (State.fireElem_reach _ _ _ _ _ _ _ (?_) rfl)) (State.giveAll_reach ..) rfl
  intro x y t
  exact Reach.step (Reach.refl _ _) (State.endElem_reach ..) rfl

theorem execSend_reach (group seq elem : Nat) (s : State) : ∃ t, execSend group seq elem s = .next t ∧ Reach
    0x4b8242b208847e08 s t := by
  refine ⟨_, rfl, ?_⟩
  refine Reach.step (Reach.trans (Reach.refl _ _) (State.fireElem_reach _ _ _ _ _ _ _ (?_) rfl)) (State.giveAll_reach ..) rfl
  intro x y t
  exact Reach.step (Reach.refl _ _) (State.sendReady_reach ..) rfl

theorem execReduce_reach (group seq elem : Nat) (s : State) : ∃ t, execReduce group seq elem s = .next t ∧ Reach
    0x4b8242b208847e08 s t := by
  refine ⟨_, rfl, ?_⟩
  refine Reach.step (Reach.trans (Reach.refl _ _) (State.fireElem_reach _ _ _ _ _ _ _ (?_) rfl)) (State.giveAll_reach ..) rfl
  intro x y t
  exact Reach.refl _ _

theorem execBcast_reach (group seq elem : Nat) (s : State) : ∃ t, execBcast group seq elem s = .next t ∧ Reach
    0x4b8242b208847e08 s t := by
  refine ⟨_, rfl, ?_⟩
  refine Reach.step (Reach.trans (Reach.refl _ _) (State.fireElem_reach _ _ _ _ _ _ _ (?_) rfl)) (State.giveAll_reach ..) rfl
  intro x y t
  extract_lets u v
  have h_u : Reach 0x4b8242b208847e08 t u := by
    unfold u
    refine Reach.foldl (Reach.refl _ _) (?_)
    intro u_1 x_1
    exact Reach.step (Reach.refl _ _) (State.sendChunk_reach ..) rfl
  clear_value u
  have h_v : Reach 0x4b8242b208847e08 t v := Reach.ite (Reach.step (h_u) (State.resendChunk_reach ..) rfl) (h_u)
  clear_value v
  exact Reach.step (h_v) (State.endElem_reach ..) rfl

theorem execCollect_reach (group seq elem : Nat) (s : State) : ∃ t, execCollect group seq elem s = .next t ∧ Reach
    0x4b8242b208847e08 s t := by
  refine ⟨_, rfl, ?_⟩
  refine Reach.step (Reach.trans (Reach.refl _ _) (State.fireElem_reach _ _ _ _ _ _ _ (?_) rfl)) (State.giveAll_reach ..) rfl
  intro x y t
  exact Reach.refl _ _

theorem State.countDone_reach (s : State) (g q i : Nat) : Reach 0x802000000000008 s (State.countDone s g q i) := by
  unfold State.countDone
  split
  · exact Reach.refl _ _
  · exact Reach.ite (Reach.step (Reach.refl _ _) (State.endElem_reach ..) rfl) (Reach.refl _ _)

theorem execDones_reach (group seq elem : Nat) (s : State) : ∃ t, execDones group seq elem s = .next t ∧ Reach
    0x4b8242b208847e08 s t := by
  refine ⟨_, rfl, ?_⟩
  refine Reach.step (Reach.trans (Reach.refl _ _) (State.fireElem_reach _ _ _ _ _ _ _ (?_) rfl)) (State.giveAll_reach ..) rfl
  intro x y t
  exact Reach.step (Reach.refl _ _) (State.countDone_reach ..) rfl

theorem execRelease_reach (group seq elem : Nat) (s : State) : ∃ t, execRelease group seq elem s = .next t ∧ Reach
    0x4b8242b208847e08 s t := by
  refine ⟨_, rfl, ?_⟩
  refine Reach.step (Reach.trans (Reach.refl _ _) (State.fireElem_reach _ _ _ _ _ _ _ (?_) rfl)) (State.giveAll_reach ..) rfl
  intro x y t
  exact Reach.step (Reach.refl _ _) (State.tryRelease_reach ..) rfl

theorem State.tallyDone_reach (s : State) (g q i : Nat) : Reach 0x2c2a420208804108 s (State.tallyDone s g q i) := by
  unfold State.tallyDone
  split
  · exact Reach.refl _ _
  · extract_lets s1 __src
    clear_value __src
    have h_s1 : Reach 0x2c2a420208804108 s s1 := Reach.set (Reach.trans (Reach.refl _ _) (State.set64_reach _ _ _ _ _ rfl rfl)) _ _ rfl
    clear_value s1
    exact Reach.ite (Reach.step (Reach.refl _ _) (State.tallyMiss_reach ..) rfl) (Reach.ite (Reach.step (Reach.with_mbr (h_s1) _ rfl) (State.endElem_reach ..) rfl) (Reach.refl _ _))

theorem execTally_reach (group seq elem : Nat) (s : State) : ∃ t, execTally group seq elem s = .next t ∧ Reach
    0x6faa42b208847f08 s t := by
  refine ⟨_, rfl, ?_⟩
  refine Reach.step (Reach.trans (Reach.refl _ _) (State.fireElem_reach _ _ _ _ _ _ _ (?_) rfl)) (State.giveAll_reach ..) rfl
  intro x y t
  exact Reach.step (Reach.refl _ _) (State.tallyDone_reach ..) rfl

theorem State.expireSlot_reach (s : State) (n : Nat) (c : Coll) (e : Elem) (x : Slot) : Reach 0x4b8242b208847e08 s
    (State.expireSlot s n c e x) := by
  unfold State.expireSlot
  extract_lets s1 s2 s3
  have h_s1 : Reach 0x4b8242b208847e08 s s1 := Reach.trans (Reach.trans (Reach.refl _ _) (State.bump_reach _ _ _ _ rfl)) (State.raiseCol_reach _ _ _ _ _ _ _ _ _ _ (by intro _ h; cases h; exact rfl) rfl)
  clear_value s1
  have h_s2 : Reach 0x4b8242b208847e08 s s2 := Reach.step (Reach.step (h_s1) (State.writeBack_reach ..) rfl) (State.setSlot_reach ..) rfl
  clear_value s2
  have h_s3 : Reach 0x4b8242b208847e08 s s3 := Reach.trans (h_s2) (State.raiseCol_reach _ _ _ _ _ _ _ _ _ _ (by intro _ h; cases h; exact rfl) rfl)
  clear_value s3
  exact Reach.step (Reach.step (h_s3) (State.chunkEnd_reach ..) rfl) (State.giveAll_reach ..) rfl

theorem State.reissue_reach (s : State) (n : Nat) (c : Coll) (e : Elem) (x : Slot) : Reach 0xa02420208847600 s
    (State.reissue s n c e x) := by
  unfold State.reissue
  extract_lets p a s0 y
  clear_value p a y
  have h_s0 : Reach 0xa02420208847600 s s0 := Reach.step (Reach.refl _ _) (State.preloadAccess_reach ..) rfl
  clear_value s0
  exact Reach.step (Reach.trans (Reach.trans (Reach.step (h_s0) (State.setSlot_reach ..) rfl) (State.bump_reach _ _ _ _ rfl)) (State.raiseCol_reach _ _ _ _ _ _ _ _ _ _ (by intro _ h; exact nomatch h) rfl)) (State.inject_reach ..) rfl

theorem execColData_reach (hub : Nat) (s : State) : ∃ t, execColData hub s = .next t ∧ Reach 0x4f8a42b208847f08 s t
    := by
  refine ⟨_, rfl, ?_⟩
  refine Reach.trans (Reach.refl _ _) (State.onCol_reach _ _ _ _ _ (?_) rfl)
  intro x t
  extract_lets x_1 late
  clear_value x_1 late
  split
  · split
    · extract_lets t1
      have h_t1 : Reach 0x4f8a42b208847f08 t t1 := Reach.step (Reach.refl _ _) (State.firstGather_reach ..) rfl
      clear_value t1
      exact Reach.ite (Reach.ite (Reach.step (h_t1) (State.reissue_reach ..) rfl) (Reach.ite (Reach.step (h_t1) (State.expireSlot_reach ..) rfl) (Reach.ite (Reach.step (h_t1) (State.stagePacket_reach ..) rfl) (Reach.step (h_t1) (State.sumPacket_reach ..) rfl)))) (Reach.step (Reach.refl _ _) (State.colStale_reach ..) rfl)
    · exact Reach.step (Reach.refl _ _) (State.colStale_reach ..) rfl
  · exact Reach.ite (Reach.step (Reach.refl _ _) (State.dup_reach ..) rfl) (Reach.step (Reach.refl _ _) (State.colStale_reach ..) rfl)

theorem execColGrant_reach (hub : Nat) (s : State) : ∃ t, execColGrant hub s = .next t ∧ Reach 0x4b8242b208847e08 s
    t := by
  refine ⟨_, rfl, ?_⟩
  refine Reach.trans (Reach.refl _ _) (State.onCol_reach _ _ _ _ _ (?_) rfl)
  intro x t
  extract_lets x_1 __src
  clear_value x_1 __src
  split
  · split
    · exact Reach.step (Reach.step (Reach.refl _ _) (State.takeGrant_reach ..) rfl) (State.giveAll_reach ..) rfl
    · exact Reach.step (Reach.refl _ _) (State.colStale_reach ..) rfl
  · exact Reach.ite (Reach.with_col (Reach.refl _ _) _ rfl) (Reach.step (Reach.refl _ _) (State.colStale_reach ..) rfl)

theorem State.collectPacket_reach (s : State) (c : Coll) (i : Nat) (e : Elem) (chunk : Nat) (k : Packet) : Reach
    0x4b8242b208847e08 s (State.collectPacket s c i e chunk k) := by
  unfold State.collectPacket
  extract_lets a s1 old p s2
  clear_value a old p
  have h_s1 : Reach 0x4b8242b208847e08 s s1 := Reach.step (Reach.step (Reach.refl _ _) (State.collAccess_reach ..) rfl) (State.deposit_reach ..) rfl
  clear_value s1
  have h_s2 : Reach 0x4b8242b208847e08 s s2 := Reach.step (h_s1) (State.onElem_reach ..) rfl
  clear_value s2
  exact Reach.ite (Reach.ite (Reach.step (Reach.step (Reach.step (h_s2) (State.inject_reach ..) rfl) (State.endElem_reach ..) rfl) (State.giveAll_reach ..) rfl) (h_s2)) (Reach.step (h_s1) (State.onElem_reach ..) rfl)

theorem execColBcast_reach (hub : Nat) (s : State) : ∃ t, execColBcast hub s = .next t ∧ Reach 0x4b8242b208847e08 s
    t := by
  refine ⟨_, rfl, ?_⟩
  refine Reach.trans (Reach.refl _ _) (State.onCol_reach _ _ _ _ _ (?_) rfl)
  intro x t
  extract_lets x_1
  clear_value x_1
  split
  · exact Reach.step (Reach.refl _ _) (State.colStale_reach ..) rfl
  · split
    · exact Reach.step (Reach.refl _ _) (State.colStale_reach ..) rfl
    · exact Reach.step (Reach.refl _ _) (State.collectPacket_reach ..) rfl

theorem execColDone_reach (hub : Nat) (s : State) : ∃ t, execColDone hub s = .next t ∧ Reach 0x4b8242b208847e08 s t
    := by
  refine ⟨_, rfl, ?_⟩
  refine Reach.trans (Reach.refl _ _) (State.onCol_reach _ _ _ _ _ (?_) rfl)
  intro x t
  extract_lets g
  clear_value g
  split
  · exact Reach.step (Reach.refl _ _) (State.colStale_reach ..) rfl
  · exact Reach.step (Reach.step (Reach.step (Reach.refl _ _) (State.onElem_reach ..) rfl) (State.countDone_reach ..) rfl) (State.giveAll_reach ..) rfl

theorem execColNack_reach (hub : Nat) (s : State) : ∃ t, execColNack hub s = .next t ∧ Reach 0xa02420208847600 s t
    := by
  refine ⟨_, rfl, ?_⟩
  refine Reach.trans (Reach.refl _ _) (State.onCol_reach _ _ _ _ _ (?_) rfl)
  intro x t
  extract_lets x_1
  clear_value x_1
  split
  · exact Reach.step (Reach.refl _ _) (State.colStale_reach ..) rfl
  · split
    · exact Reach.step (Reach.refl _ _) (State.colStale_reach ..) rfl
    · exact Reach.step (Reach.refl _ _) (State.resendChunk_reach ..) rfl

theorem execColRelease_reach (hub : Nat) (s : State) : ∃ t, execColRelease hub s = .next t ∧ Reach 0xa00000000002000
    s t := by
  refine ⟨_, rfl, ?_⟩
  refine Reach.trans (Reach.refl _ _) (State.onCol_reach _ _ _ _ _ (?_) rfl)
  intro x t
  extract_lets __src
  clear_value __src
  exact Reach.with_col (Reach.refl _ _) _ rfl

theorem execColTally_reach (hub : Nat) (s : State) : ∃ t, execColTally hub s = .next t ∧ Reach 0x6faa42b208847f08 s
    t := by
  refine ⟨_, rfl, ?_⟩
  refine Reach.trans (Reach.refl _ _) (State.onCol_reach _ _ _ _ _ (?_) rfl)
  intro x t
  extract_lets g
  clear_value g
  split
  · exact Reach.step (Reach.refl _ _) (State.colStale_reach ..) rfl
  · exact Reach.ite (Reach.step (Reach.refl _ _) (State.dup_reach ..) rfl) (Reach.ite (Reach.step (Reach.refl _ _) (State.colStale_reach ..) rfl) (Reach.step (Reach.step (Reach.step (Reach.refl _ _) (State.onElem_reach ..) rfl) (State.tallyDone_reach ..) rfl) (State.giveAll_reach ..) rfl))

theorem State.onChunk_reach (m : Nat) (s : State) (g q k : Nat) (f : Nat → Coll → Elem → Slot → State) (hf : ∀ x y z
    w, Reach m s (f x y z w)) (hm : Nat.land 0x0 m = 0x0) : Reach m s (State.onChunk s g q k f) := by
  unfold State.onChunk
  split
  · split
    · exact (hf ..)
    · exact Reach.refl _ _
  · exact Reach.refl _ _

theorem execChunkReissue_reach (group seq chunk : Nat) (s : State) : ∃ t, execChunkReissue group seq chunk s = .next
    t ∧ Reach 0x4b8242b208847e08 s t := by
  refine ⟨_, rfl, ?_⟩
  refine Reach.ite (Reach.refl _ _) (Reach.trans (Reach.refl _ _) (State.onChunk_reach _ _ _ _ _ _ (?_) rfl))
  intro x y z w
  exact Reach.ite (Reach.step (Reach.refl _ _) (State.expireSlot_reach ..) rfl) (Reach.ite (Reach.refl _ _) (Reach.step (Reach.refl _ _) (State.reissue_reach ..) rfl))

theorem execSlotReclaim_reach (group seq chunk : Nat) (s : State) : ∃ t, execSlotReclaim group seq chunk s = .next t
    ∧ Reach 0x4b8242b208847e08 s t := by
  refine ⟨_, rfl, ?_⟩
  refine Reach.trans (Reach.refl _ _) (State.onChunk_reach _ _ _ _ _ _ (?_) rfl)
  intro x y z w
  exact Reach.ite (Reach.refl _ _) (Reach.step (Reach.refl _ _) (State.expireSlot_reach ..) rfl)

theorem execSlotReclaimEnd_reach (hub slot : Nat) (s : State) : ∃ t, execSlotReclaimEnd hub slot s = .next t ∧ Reach
    0x4b8242b208847e08 s t := by
  refine ⟨_, rfl, ?_⟩
  split
  · exact Reach.refl _ _
  · exact Reach.ite (Reach.step (Reach.step (Reach.refl _ _) (State.freeSlot_reach ..) rfl) (State.giveAll_reach ..) rfl) (Reach.refl _ _)

theorem execLingerEnd_reach (group seq : Nat) (s : State) : ∃ t, execLingerEnd group seq s = .next t ∧ Reach
    0x800000000004000 s t := by
  refine ⟨_, rfl, ?_⟩
  extract_lets __src
  clear_value __src
  exact Reach.step (Reach.with_col (Reach.refl _ _) _ rfl) (State.countSlots_reach ..) rfl

theorem execEarlyGrantExpiry_reach (group seq chunk : Nat) (s : State) : ∃ t, execEarlyGrantExpiry group seq chunk s
    = .next t ∧ Reach 0x800000000000000 s t := by
  refine ⟨_, rfl, ?_⟩
  extract_lets __src
  clear_value __src
  exact Reach.with_col (Reach.refl _ _) _ rfl

theorem execNackTimer_reach (group seq elem : Nat) (s : State) : ∃ t, execNackTimer group seq elem s = .next t ∧
    Reach 0x200420208807000 s t := by
  refine ⟨_, rfl, ?_⟩
  split
  · exact Reach.refl _ _
  · extract_lets begun missing
    clear_value begun missing
    exact Reach.ite (Reach.step (Reach.trans (Reach.refl _ _) (State.bump_reach _ _ _ _ rfl)) (State.injectAll_reach ..) rfl) (Reach.refl _ _)

theorem execReleaseRepeat_reach (group seq elem : Nat) (s : State) : ∃ t, execReleaseRepeat group seq elem s = .next
    t ∧ Reach 0x200420208803000 s t := by
  refine ⟨_, rfl, ?_⟩
  split
  · exact Reach.step (Reach.refl _ _) (State.inject_reach ..) rfl
  · exact Reach.refl _ _

theorem execTallyRepeat_reach (hub group dst seq tokens epoch : Nat) (s : State) : ∃ t, execTallyRepeat hub group
    dst seq tokens epoch s = .next t ∧ Reach 0x200420208803000 s t := by
  refine ⟨_, rfl, ?_⟩
  exact Reach.step (Reach.refl _ _) (State.inject_reach ..) rfl

theorem execColFlipArm_reach (s : State) : ∃ t, execColFlipArm s = .next t ∧ Reach 0x420208804001 s t := by
  refine ⟨_, rfl, ?_⟩
  refine Reach.trans (Reach.refl _ _) (State.hostWrite_reach _ _ _ _ _ _ (?_) rfl)
  intro t
  exact Reach.set (Reach.refl _ _) _ _ rfl

theorem execColFlipCancel_reach (s : State) : ∃ t, execColFlipCancel s = .next t ∧ Reach 0x420208804001 s t := by
  refine ⟨_, rfl, ?_⟩
  refine Reach.trans (Reach.refl _ _) (State.hostWrite_reach _ _ _ _ _ _ (?_) rfl)
  intro t
  exact Reach.set (Reach.refl _ _) _ _ rfl

theorem execColCancel_reach (group seq : Nat) (s : State) : ∃ t, execColCancel group seq s = .next t ∧ Reach
    0x4b8242b208847e09 s t := by
  refine ⟨_, rfl, ?_⟩
  refine Reach.trans (Reach.refl _ _) (State.hostWrite_reach _ _ _ _ _ _ (?_) rfl)
  intro t
  exact Reach.step (Reach.trans (Reach.refl _ _) (State.setAll_reach _ _ _ (okAll.cons rfl (okAll.cons rfl okAll.nil)))) (State.cancelColl_reach ..) rfl

theorem execColCntClr_reach (s : State) : ∃ t, execColCntClr s = .next t ∧ Reach 0x420208804001 s t := by
  refine ⟨_, rfl, ?_⟩
  refine Reach.trans (Reach.refl _ _) (State.hostWrite_reach _ _ _ _ _ _ (?_) rfl)
  intro t
  exact Reach.trans (Reach.trans (Reach.refl _ _) (State.clearAll_reach _ _ _ (okFlds.cons rfl (okFlds.cons rfl (okFlds.cons rfl (okFlds.cons rfl (okFlds.cons rfl (okFlds.cons rfl (okFlds.cons rfl (okFlds.cons rfl (okFlds.cons rfl (okFlds.cons rfl (okFlds.cons rfl (okFlds.cons rfl okFlds.nil)))))))))))))) (State.evtEndAll_reach _ _ _ (okFlds.cons rfl (okFlds.cons rfl (okFlds.cons rfl (okFlds.cons rfl okFlds.nil)))) rfl)

end Sys2Proof.Machine
end

