-- ==== Sys2Proof/Laws/ReachPersist.lean ====
section
/-! SUPPORT. What each operation and each command of Machine/Persist.lean reaches. -/

namespace Sys2Proof.Machine

theorem State.refuseOtp_reach (s : State) (reason : Nat) : Reach 0x2 s (State.refuseOtp s reason) := by
  unfold State.refuseOtp
  exact Reach.set (Reach.refl _ _) _ _ rfl

theorem State.startOtp_reach (s : State) (g : Nat) (data : List Byte) : Reach 0x200000000002 s
    (State.startOtp s g data) := by
  unfold State.startOtp
  extract_lets __src __srcx1
  clear_value __srcx1
  have h___src : Reach 0x200000000002 s __src := Reach.set (Reach.refl _ _) _ _ rfl
  clear_value __src
  exact Reach.with_otp (h___src) _ rfl

theorem execOtpKeyWrite_reach (index : Nat) (s : State) : ∃ t, execOtpKeyWrite index s = .next t ∧ Reach
    0x620208800003 s t := by
  refine ⟨_, rfl, ?_⟩
  refine Reach.trans (Reach.refl _ _) (State.hostWrite_reach _ _ _ _ _ _ (?_) rfl)
  intro t
  extract_lets t_1 i
  clear_value i
  have h_t_1 : Reach 0x620208800003 t t_1 := Reach.trans (Reach.set (Reach.refl _ _) _ _ rfl) (State.clearAll_reach _ _ _ (okFlds.map fun _ => (Fld.ok_ix ..).trans rfl))
  clear_value t_1
  exact Reach.ite (Reach.refl _ _) (Reach.ite (Reach.step (h_t_1) (State.refuseOtp_reach ..) rfl) (Reach.ite (Reach.step (h_t_1) (State.refuseOtp_reach ..) rfl) (Reach.ite (Reach.step (h_t_1) (State.refuseOtp_reach ..) rfl) (Reach.ite (Reach.step (h_t_1) (State.refuseOtp_reach ..) rfl) (Reach.step (h_t_1) (State.startOtp_reach ..) rfl)))))

theorem execOtpKeyRevoke_reach (index : Nat) (s : State) : ∃ t, execOtpKeyRevoke index s = .next t ∧ Reach
    0x620208800003 s t := by
  refine ⟨_, rfl, ?_⟩
  refine Reach.trans (Reach.refl _ _) (State.hostWrite_reach _ _ _ _ _ _ (?_) rfl)
  intro t
  extract_lets t_1 i
  clear_value i
  have h_t_1 : Reach 0x620208800003 t t_1 := Reach.set (Reach.refl _ _) _ _ rfl
  clear_value t_1
  exact Reach.ite (Reach.refl _ _) (Reach.ite (Reach.step (h_t_1) (State.refuseOtp_reach ..) rfl) (Reach.ite (Reach.step (h_t_1) (State.refuseOtp_reach ..) rfl) (Reach.ite (Reach.step (h_t_1) (State.refuseOtp_reach ..) rfl) (Reach.ite (Reach.step (h_t_1) (State.refuseOtp_reach ..) rfl) (Reach.ite (Reach.step (h_t_1) (State.refuseOtp_reach ..) rfl) (Reach.step (h_t_1) (State.startOtp_reach ..) rfl))))))

theorem execImgArbCommit_reach (s : State) : ∃ t, execImgArbCommit s = .next t ∧ Reach 0x620208800003 s t := by
  refine ⟨_, rfl, ?_⟩
  refine Reach.trans (Reach.refl _ _) (State.hostWrite_reach _ _ _ _ _ _ (?_) rfl)
  intro t
  split
  · exact Reach.refl _ _
  · exact Reach.ite (Reach.refl _ _) (Reach.ite (Reach.step (Reach.refl _ _) (State.refuseOtp_reach ..) rfl) (Reach.step (Reach.refl _ _) (State.startOtp_reach ..) rfl))

theorem State.endOtp_reach (s : State) : Reach 0x200000000007 s (State.endOtp s) := by
  unfold State.endOtp
  extract_lets __src
  clear_value __src
  exact Reach.step (Reach.set (Reach.with_otp (Reach.refl _ _) _ rfl) _ _ rfl) (State.showOtp_reach ..) rfl

theorem State.abandonOtp_reach (s : State) (w : OtpWrite) : Reach 0x620208800007 s (State.abandonOtp s w) := by
  unfold State.abandonOtp
  extract_lets spent __src s1 s2
  clear_value spent __src
  have h_s1 : Reach 0x620208800007 s s1 := Reach.ite (Reach.with_otp (Reach.refl _ _) _ rfl) (Reach.with_otp (Reach.refl _ _) _ rfl)
  clear_value s1
  have h_s2 : Reach 0x620208800007 s s2 := Reach.step (h_s1) (State.persistFail_reach ..) rfl
  clear_value s2
  exact Reach.ite (Reach.step (Reach.step (h_s2) (State.refuseOtp_reach ..) rfl) (State.endOtp_reach ..) rfl) (h_s2)

theorem execOtpWriteDone_reach (readBackBad : Bool) (s : State) : ∃ t, execOtpWriteDone readBackBad s = .next t ∧
    Reach 0x620208800007 s t := by
  refine ⟨_, rfl, ?_⟩
  split
  · exact Reach.refl _ _
  · extract_lets __src good
    clear_value __src good
    exact Reach.ite (Reach.step (Reach.refl _ _) (State.abandonOtp_reach ..) rfl) (Reach.ite (Reach.step (Reach.with_otp (Reach.refl _ _) _ rfl) (State.endOtp_reach ..) rfl) (Reach.step (Reach.with_otp (Reach.refl _ _) _ rfl) (State.endOtp_reach ..) rfl))

theorem State.refusePst_reach (s : State) (reason : Nat) : Reach 0x20208000000 s (State.refusePst s reason) := by
  unfold State.refusePst
  exact Reach.trans (Reach.set (Reach.refl _ _) _ _ rfl) (State.evt_reach _ _ _ rfl rfl)

theorem State.endPst_reach (s : State) : Reach 0x208000000 s (State.endPst s) := by
  unfold State.endPst
  exact Reach.trans (Reach.refl _ _) (State.evtEndAll_reach _ _ _ (okFlds.cons rfl (okFlds.cons rfl (okFlds.cons rfl okFlds.nil))) rfl)

theorem State.startPst_reach (s : State) (n : Nat) (op : BootOp) : Reach 0x400008000000 s (State.startPst s n op) :=
    by
  unfold State.startPst
  extract_lets __src __srcx1
  clear_value __srcx1
  have h___src : Reach 0x400008000000 s __src := Reach.trans (Reach.refl _ _) (State.setAll_reach _ _ _ (okAll.cons rfl (okAll.cons rfl okAll.nil)))
  clear_value __src
  exact Reach.with_boot (h___src) _ rfl

theorem State.bankGo_reach (s : State) (n bank : Nat) (op : BootOp) (bad : State → Bool) : Reach 0x420208800001 s
    (State.bankGo s n bank op bad) := by
  unfold State.bankGo
  refine Reach.trans (Reach.refl _ _) (State.hostWrite_reach _ _ _ _ _ _ (?_) rfl)
  intro t
  extract_lets t_1
  have h_t_1 : Reach 0x420208800001 t t_1 := Reach.trans (Reach.step (Reach.refl _ _) (State.endPst_reach ..) rfl) (State.setAll_reach _ _ _ (okAll.cons rfl (okAll.cons rfl okAll.nil)))
  clear_value t_1
  exact Reach.ite (Reach.step (h_t_1) (State.refusePst_reach ..) rfl) (Reach.ite (Reach.step (h_t_1) (State.refusePst_reach ..) rfl) (Reach.ite (Reach.step (h_t_1) (State.refusePst_reach ..) rfl) (Reach.step (h_t_1) (State.startPst_reach ..) rfl)))

theorem execWriteRunning_reach (bank : Nat) (s : State) : ∃ t, execWriteRunning bank s = .next t ∧ Reach
    0x420208800001 s t := by
  refine ⟨_, rfl, ?_⟩
  exact Reach.step (Reach.refl _ _) (State.bankGo_reach ..) rfl

theorem execActivate_reach (bank : Nat) (s : State) : ∃ t, execActivate bank s = .next t ∧ Reach 0x420208800001 s t
    := by
  refine ⟨_, rfl, ?_⟩
  exact Reach.step (Reach.refl _ _) (State.bankGo_reach ..) rfl

theorem execVerify_reach (bank : Nat) (s : State) : ∃ t, execVerify bank s = .next t ∧ Reach 0x420208800001 s t := by
  refine ⟨_, rfl, ?_⟩
  exact Reach.step (Reach.refl _ _) (State.bankGo_reach ..) rfl

theorem execWriteCert_reach (slot len : Nat) (s : State) : ∃ t, execWriteCert slot len s = .next t ∧ Reach
    0x420208800001 s t := by
  refine ⟨_, rfl, ?_⟩
  refine Reach.trans (Reach.refl _ _) (State.hostWrite_reach _ _ _ _ _ _ (?_) rfl)
  intro t
  extract_lets t_1 data
  clear_value data
  have h_t_1 : Reach 0x420208800001 t t_1 := Reach.trans (Reach.step (Reach.refl _ _) (State.endPst_reach ..) rfl) (State.setAll_reach _ _ _ (okAll.cons rfl (okAll.cons rfl okAll.nil)))
  clear_value t_1
  exact Reach.ite (Reach.step (h_t_1) (State.refusePst_reach ..) rfl) (Reach.ite (Reach.step (h_t_1) (State.refusePst_reach ..) rfl) (Reach.ite (Reach.step (h_t_1) (State.refusePst_reach ..) rfl) (Reach.step (h_t_1) (State.startPst_reach ..) rfl)))

theorem State.checkBank_reach (s : State) (b : Nat) : Reach 0x8000000 s (State.checkBank s b) := by
  unfold State.checkBank
  exact Reach.trans (Reach.refl _ _) (State.put_reach _ _ _ _ ((Fld.ok_sub rfl (validFld_ok ..))))

theorem State.doneOp_reach (s : State) (x : BootOp) : Reach 0x400008000000 s (State.doneOp s x) := by
  unfold State.doneOp
  split
  · exact Reach.step (Reach.step (Reach.refl _ _) (State.setBank_reach ..) rfl) (State.checkBank_reach ..) rfl
  · exact Reach.step (Reach.set (Reach.refl _ _) _ _ rfl) (State.journal_reach ..) rfl
  · exact Reach.step (Reach.refl _ _) (State.checkBank_reach ..) rfl
  · extract_lets __src
    clear_value __src
    exact Reach.trans (Reach.with_boot (Reach.refl _ _) _ rfl) (State.put_reach _ _ _ _ rfl)

theorem execBootStoreOpDone_reach (failed : Bool) (s : State) : ∃ t, execBootStoreOpDone failed s = .next t ∧ Reach
    0x430208800000 s t := by
  refine ⟨_, rfl, ?_⟩
  split
  · exact Reach.refl _ _
  · exact Reach.ite (Reach.step (Reach.step (Reach.step (Reach.refl _ _) (State.endBoot_reach ..) rfl) (State.failedOp_reach ..) rfl) (State.persistFail_reach ..) rfl) (Reach.trans (Reach.step (Reach.step (Reach.refl _ _) (State.endBoot_reach ..) rfl) (State.doneOp_reach ..) rfl) (State.evt_reach _ _ _ rfl rfl))

theorem State.writePlace_reach (s : State) (b n : Nat) (p : Place) : Reach 0x400000000000 s
    (State.writePlace s b n p) := by
  unfold State.writePlace
  extract_lets s1 __src
  clear_value __src
  have h_s1 : Reach 0x400000000000 s s1 := Reach.step (Reach.refl _ _) (State.setJrnBank_reach ..) rfl
  clear_value s1
  exact Reach.with_boot (h_s1) _ rfl

theorem State.snapshotFails_reach (s : State) (b n : Nat) : Reach 0x420208800000 s (State.snapshotFails s b n) := by
  unfold State.snapshotFails
  extract_lets s1 __src s2 __srcx3
  clear_value __src __srcx3
  have h_s1 : Reach 0x420208800000 s s1 := Reach.step (Reach.refl _ _) (State.writePlace_reach ..) rfl
  clear_value s1
  have h_s2 : Reach 0x420208800000 s s2 := Reach.step (h_s1) (State.persistFail_reach ..) rfl
  clear_value s2
  exact Reach.ite (Reach.with_boot (h_s1) _ rfl) (Reach.with_boot (h_s2) _ rfl)

theorem State.snapshotGood_reach (s : State) (b n : Nat) : Reach 0x8000400008000000 s (State.snapshotGood s b n) := by
  unfold State.snapshotGood
  extract_lets s1 __src __srcx2 s2
  clear_value __src __srcx2
  have h_s1 : Reach 0x8000400008000000 s s1 := Reach.step (Reach.refl _ _) (State.writePlace_reach ..) rfl
  clear_value s1
  have h_s2 : Reach 0x8000400008000000 s s2 := Reach.with_boot_cry (h_s1) _ _ rfl
  clear_value s2
  exact Reach.trans (Reach.set (h_s2) _ _ rfl) (State.set64_reach _ _ _ _ _ rfl rfl)

theorem execJournalSnapshot_reach (writeBad : Bool) (s : State) : ∃ t, execJournalSnapshot writeBad s = .next t ∧
    Reach 0x8000420208880000 s t := by
  refine ⟨_, rfl, ?_⟩
  refine Reach.ite (Reach.refl _ _) (?_)
  split
  · exact Reach.refl _ _
  · extract_lets t0 t
    have h_t0 : Reach 0x8000420208880000 s t0 := Reach.step (Reach.refl _ _) (State.cryBlocks_reach ..) rfl
    clear_value t0
    have h_t : Reach 0x8000420208880000 s t := Reach.ite (Reach.step (h_t0) (State.snapshotFails_reach ..) rfl) (Reach.step (h_t0) (State.snapshotGood_reach ..) rfl)
    clear_value t
    exact Reach.step (Reach.step (h_t) (State.startErase_reach ..) rfl) (State.showFree_reach ..) rfl

theorem execJournalEraseDone_reach (s : State) : ∃ t, execJournalEraseDone s = .next t ∧ Reach 0x400008000000 s t :=
    by
  refine ⟨_, rfl, ?_⟩
  split
  · exact Reach.refl _ _
  · extract_lets __src
    clear_value __src
    exact Reach.step (Reach.step (Reach.with_boot (Reach.refl _ _) _ rfl) (State.setJrnBank_reach ..) rfl) (State.showFree_reach ..) rfl

theorem execFlush_reach (s : State) : ∃ t, execFlush s = .next t ∧ Reach 0x420208800001 s t := by
  refine ⟨_, rfl, ?_⟩
  refine Reach.trans (Reach.refl _ _) (State.hostWrite_reach _ _ _ _ _ _ (?_) rfl)
  intro t
  extract_lets __src __srcx1
  clear_value __srcx1
  have h___src : Reach 0x420208800001 t __src := Reach.step (Reach.refl _ _) (State.endPst_reach ..) rfl
  clear_value __src
  exact Reach.ite (Reach.step (Reach.step (Reach.refl _ _) (State.endPst_reach ..) rfl) (State.refusePst_reach ..) rfl) (Reach.with_boot (h___src) _ rfl)

end Sys2Proof.Machine
end

