-- ==== Sys2Proof/Laws/ReachControl.lean ====
section
/-! SUPPORT. What each operation and each command of Machine/Control.lean reaches. -/

namespace Sys2Proof.Machine

theorem tripleFld_ok (x : TripleField) : (tripleFld x).ok 0xfffffff = true := by
  cases x <;> first | rfl | exact (Fld.ok_ix ..).trans rfl

theorem execHeartbeatTouch_reach (s : State) : ∃ t, execHeartbeatTouch s = .next t ∧ Reach 0x4b8242b20a847f09 s t :=
    by
  refine ⟨_, rfl, ?_⟩
  refine Reach.trans (Reach.refl _ _) (State.hostWrite_reach _ _ _ _ _ _ (?_) rfl)
  intro t
  exact Reach.step (Reach.step (Reach.trans (Reach.refl _ _) (State.setAll_reach _ _ _ (okAll.cons rfl (okAll.cons rfl (okAll.cons rfl okAll.nil))))) (State.holdGrants_reach ..) rfl) (State.giveAll_reach ..) rfl

theorem execHbLapse_reach (s : State) : ∃ t, execHbLapse s = .next t ∧ Reach 0x1042020a804104 s t := by
  refine ⟨_, rfl, ?_⟩
  extract_lets s1 s2
  have h_s1 : Reach 0x1042020a804104 s s1 := Reach.trans (Reach.refl _ _) (State.setAll_reach _ _ _ (okAll.cons rfl (okAll.cons rfl (okAll.cons rfl okAll.nil))))
  clear_value s1
  have h_s2 : Reach 0x1042020a804104 s s2 := Reach.step (Reach.step (Reach.trans (h_s1) (State.evt_reach _ _ _ rfl rfl)) (State.raise_reach ..) rfl) (State.holdGrants_reach ..) rfl
  clear_value s2
  exact Reach.ite (Reach.refl _ _) (Reach.ite (Reach.step (h_s2) (State.discardHeld_reach ..) rfl) (h_s2))

theorem Fld.ok_atAddr (f : Fld) (a m : Nat) : (f.atAddr a).ok m = f.ok m := rfl

theorem evtMap_ok : ∀ r ∈ evtMap, okFlds 0xfffffff r.bits := by
  have h : evtMap.all (fun r => r.bits.all fun f => f.ok 0xfffffff) = true := by decide
  intro r hr f hf
  exact (List.all_eq_true.mp (List.all_eq_true.mp h r hr)) f hf

theorem regMap_ok : ∀ r ∈ regMap, okFlds 0xfffffff r.fields := by
  have h : regMap.all (fun r => r.fields.all fun f => f.ok 0xfffffff) = true := by decide
  intro r hr f hf
  exact (List.all_eq_true.mp (List.all_eq_true.mp h r hr)) f hf

theorem Reach.foldl_mem {m : Nat} {s t : State} {β : Type} {f : State → β → State} {l : List β} (h : Reach m s t)
    (hf : ∀ u x, x ∈ l → Reach m u (f u x)) : Reach m s (List.foldl f t l) := by
  induction l generalizing t with
  | nil => exact h
  | cons x l ih => exact ih (h.trans (hf t x (.head _))) fun u y hy => hf u y (.tail _ hy)

theorem State.settleEvents_reach (s : State) : Reach 0xfffffff s s.settleEvents := by
  unfold State.settleEvents
  refine Reach.foldl_mem (Reach.refl _ _) fun t x hx => Reach.foldl_mem (Reach.refl _ _) fun u f hf => ?_
  obtain ⟨r, hr, hx⟩ := List.mem_flatMap.mp hx
  obtain ⟨o, _, rfl⟩ := List.mem_map.mp hx
  exact State.put_reach _ _ _ _ ((Fld.ok_atAddr ..).trans (evtMap_ok r hr f hf))

theorem execGenStatusMode_reach (mode key : Nat) (s : State) : ∃ t, execGenStatusMode mode key s = .next t ∧ Reach
    0x42020fffffff s t := by
  refine ⟨_, rfl, ?_⟩
  refine Reach.trans (Reach.refl _ _) (State.hostWrite_reach _ _ _ _ _ _ (?_) rfl)
  intro t
  exact Reach.ite (Reach.ite (Reach.step (Reach.set (Reach.refl _ _) _ _ rfl) (State.settleEvents_reach ..) rfl) (Reach.refl _ _)) (Reach.ite (Reach.set (Reach.refl _ _) _ _ rfl) (Reach.refl _ _))

theorem execRcsWriteBack_reach (addr value : Nat) (s : State) : ∃ t, execRcsWriteBack addr value s = .next t ∧
    Reach 0x42020fffffff s t := by
  refine ⟨_, rfl, ?_⟩
  split
  · exact Reach.refl _ _
  · rename_i r hr
    extract_lets block
    refine State.hostWrite_reach _ _ _ _ _ _ (fun t => Reach.ite (State.setAll_reach _ _ _ ?_) (Reach.refl _ _)) rfl
    intro x hx
    obtain ⟨f, hf, rfl⟩ := List.mem_map.mp hx
    exact Fld.ok_sub rfl ((Fld.ok_atAddr ..).trans (evtMap_ok r (List.mem_of_find?_eq_some hr) f hf))

theorem execGenCntClr_reach (s : State) : ∃ t, execGenCntClr s = .next t ∧ Reach 0x420208800001 s t := by
  refine ⟨_, rfl, ?_⟩
  refine Reach.trans (Reach.refl _ _) (State.hostWrite_reach _ _ _ _ _ _ (?_) rfl)
  intro t
  exact Reach.trans (Reach.trans (Reach.refl _ _) (State.clearAll_reach _ _ _ (okFlds.cons rfl (okFlds.cons rfl okFlds.nil)))) (State.evtEndAll_reach _ _ _ (okFlds.cons rfl (okFlds.cons rfl (okFlds.cons rfl okFlds.nil))) rfl)

theorem execGenDigestRef_reach (crc : Nat) (s : State) : ∃ t, execGenDigestRef crc s = .next t ∧ Reach
    0xc20208800001 s t := by
  refine ⟨_, rfl, ?_⟩
  refine Reach.trans (Reach.refl _ _) (State.hostWrite_reach _ _ _ _ _ _ (?_) rfl)
  intro t
  extract_lets t1 __src
  clear_value __src
  have h_t1 : Reach 0xc20208800001 t t1 := Reach.set (Reach.refl _ _) _ _ rfl
  clear_value t1
  exact Reach.ite (h_t1) (Reach.with_gen (h_t1) _ rfl)

theorem execDigestCompute_reach (unitFault : Bool) (s : State) : ∃ t, execDigestCompute unitFault s = .next t ∧
    Reach 0xc20208800001 s t := by
  refine ⟨_, rfl, ?_⟩
  extract_lets t __src
  clear_value __src
  have h_t : Reach 0xc20208800001 s t := Reach.set (Reach.refl _ _) _ _ rfl
  clear_value t
  exact Reach.ite (Reach.refl _ _) (Reach.ite (Reach.ite (Reach.refl _ _) (Reach.step (Reach.with_gen (h_t) _ rfl) (State.digestFault_reach ..) rfl)) (Reach.step (Reach.refl _ _) (State.computeDigest_reach ..) rfl))

theorem State.tmrFault_reach (s : State) (cls : FClass) : Reach 0x4242b42020c804101 s (State.tmrFault s cls) := by
  unfold State.tmrFault
  exact Reach.step (Reach.trans (Reach.refl _ _) (State.evt_reach _ _ _ rfl rfl)) (State.raiseFa_reach ..) rfl

theorem State.vote_reach (m : Nat) (s : State) (f : Fld) (c : Nat × Nat × Nat) (hf : f.ok m = true)
    (hm : Nat.land 0x4242bc2020c804101 m = 0x4242bc2020c804101) : Reach m s (State.vote s f c) := by
  unfold State.vote
  split
  · extract_lets __src s1
    clear_value __src
    have h_s1 : Reach m s s1 := Reach.set (Reach.with_gen (Reach.refl _ _) _ (land_sub hm rfl)) _ _ (hf)
    clear_value s1
    exact Reach.ite (h_s1) (Reach.step (Reach.trans (h_s1) (State.bump_reach _ _ _ _ ((Fld.ok_sub hm rfl)))) (State.tmrFault_reach ..) (land_sub hm rfl))
  · extract_lets __src
    clear_value __src
    exact Reach.step (Reach.set (Reach.with_gen (Reach.refl _ _) _ (land_sub hm rfl)) _ _ (hf)) (State.tmrFault_reach ..) (land_sub hm rfl)

theorem execTmr_reach (upsets : List Upset) (s : State) : ∃ t, execTmr upsets s = .next t ∧ Reach 0x4242bc2020fffffff s t := by
  refine ⟨_, rfl, ?_⟩
  extract_lets s1
  have h1 : Reach 0x4242bc2020fffffff s s1 := by
    refine Reach.foldl_mem (Reach.refl _ _) fun t f hf => State.vote_reach _ _ _ _ ?_ rfl
    have hf' : f ∈ upsets.map fun u => tripleFld u.field := List.mem_eraseDups.mp hf
    obtain ⟨u, _, rfl⟩ := List.mem_map.mp hf'
    exact Fld.ok_sub rfl (tripleFld_ok u.field)
  clear_value s1
  exact Reach.ite (Reach.step (Reach.trans h1 (State.bump_reach _ _ _ _ rfl)) (State.tmrFault_reach ..) rfl) h1

theorem State.writeFields_reach (s : State) (base addr value : Nat) (l : List Fld) (hl : okFlds 0xfffffff l) : Reach 0xfffffff s
    (s.writeFields base addr value l) := by
  unfold State.writeFields
  exact Reach.foldl_mem (Reach.refl _ _) fun t f hf =>
    State.set_reach _ _ _ _ ((Fld.ok_atAddr ..).trans (hl f (List.mem_filter.mp hf).1))

theorem State.updCntClr_reach (s : State) : Reach 0x100 s (State.updCntClr s) := by
  unfold State.updCntClr
  exact Reach.trans (Reach.refl _ _) (State.clearAll_reach _ _ _ (okFlds.cons rfl (okFlds.cons rfl (okFlds.cons rfl (okFlds.cons rfl (okFlds.cons rfl (okFlds.cons rfl okFlds.nil)))))))

theorem State.afterWrite_reach (s : State) (base addr : Nat) : Reach 0x2db8342b20c8cff18 s
    (State.afterWrite s base addr) := by
  unfold State.afterWrite
  extract_lets __src st slot
  clear_value __src st slot
  exact Reach.ite (Reach.step (Reach.refl _ _) (State.relevel_reach ..) rfl) (Reach.ite (Reach.ite (Reach.set (Reach.refl _ _) _ _ rfl) (Reach.refl _ _)) (Reach.ite (Reach.step (Reach.step (Reach.refl _ _) (State.holdGrants_reach ..) rfl) (State.giveAll_reach ..) rfl) (Reach.ite (Reach.step (Reach.refl _ _) (State.giveAll_reach ..) rfl) (Reach.ite (Reach.ite (Reach.step (Reach.refl _ _) (State.restartStopped_reach ..) rfl) (Reach.refl _ _)) (Reach.ite (Reach.step (Reach.refl _ _) (State.settleGroup_reach ..) rfl) (Reach.ite (Reach.with_slu (Reach.refl _ _) _ rfl) (Reach.ite (Reach.ite (Reach.set (Reach.refl _ _) _ _ rfl) (Reach.refl _ _)) (Reach.ite (Reach.ite (Reach.refl _ _) (Reach.step (Reach.refl _ _) (State.endLease_reach ..) rfl)) (Reach.ite (Reach.step (Reach.refl _ _) (State.journal_reach ..) rfl) (Reach.ite (Reach.trans (Reach.refl _ _) (State.put_reach _ _ _ _ rfl)) (Reach.ite (Reach.trans (Reach.refl _ _) (State.evtEnd_reach _ _ _ rfl rfl)) (Reach.refl _ _))))))))))))

theorem plainReg_mem (addr : Nat) (r : RegDesc) (h : plainReg addr = some r) : r ∈ regMap := by
  unfold plainReg at h
  split at h
  · rename_i x hx
    split at h
    · exact nomatch h
    · cases h
      exact List.mem_of_find?_eq_some hx
  · exact nomatch h

/-- The LO half that stands before a HI half. -/
theorem loHalf_ok : ∀ r ∈ regMap, ∀ o, (⟨r.base - 4, 0, 32, 0, 0, 0, 0, o⟩ : Fld).ok 0xfffffff = true := by
  have h : regMap.all (fun r => (⟨r.base - 4, 0, 32, 0, 0, 0, 0, 0⟩ : Fld).ok 0xfffffff) = true := by decide
  intro r hr o
  exact List.all_eq_true.mp h r hr

theorem State.applyWrite_reach (s : State) (addr value : Nat) : Reach 0x2db83c2b60fffffff s (s.applyWrite addr value) := by
  unfold State.applyWrite
  refine Reach.ite (Reach.ite (Reach.step (Reach.refl _ _) (State.updCntClr_reach ..) rfl) (Reach.refl _ _)) ?_
  split
  · exact Reach.refl _ _
  · rename_i r hr
    have hm := plainReg_mem addr r hr
    split
    · exact Reach.with_heldLo (Reach.refl _ _) _ (Tab.sorted_insert _ _ _) rfl
    · extract_lets s1 s2
      have h1 : Reach 0x2db83c2b60fffffff s s1 := by
        unfold s1
        split
        · exact Reach.trans (Reach.with_heldLo (Reach.refl _ _) _ (Tab.sorted_erase _ _) rfl)
            (State.set_reach _ _ _ _ (Fld.ok_sub rfl (loHalf_ok r hm _)))
        · exact Reach.refl _ _
      clear_value s1
      have h2 : Reach 0x2db83c2b60fffffff s s2 := Reach.trans h1 (Reach.mono (State.writeFields_reach _ _ _ _ _ (regMap_ok r hm)) rfl)
      clear_value s2
      exact Reach.ite (Reach.step h2 (State.coveredWrite_reach ..) rfl) h2
    · refine Reach.ite (Reach.refl _ _) ?_
      extract_lets s1
      have h1 : Reach 0x2db83c2b60fffffff s s1 := Reach.step (Reach.mono (State.writeFields_reach _ _ _ _ _ (regMap_ok r hm)) rfl)
        (State.afterWrite_reach ..) rfl
      clear_value s1
      exact Reach.ite (Reach.step h1 (State.coveredWrite_reach ..) rfl) h1

theorem execRegisterWrite_reach (addr value : Nat) (s : State) : ∃ t, execRegisterWrite addr value s = .next t ∧
    Reach 0x2db83c2be0fffffff s t := by
  refine ⟨_, rfl, ?_⟩
  refine Reach.ite (Reach.refl _ _) (?_)
  split
  · refine Reach.trans (Reach.refl _ _) (State.hostWrite_reach _ _ _ _ _ _ (?_) rfl)
    intro t
    exact Reach.step (Reach.refl _ _) (State.applyWrite_reach ..) rfl
  · refine Reach.trans (Reach.refl _ _) (State.hostWrite_reach _ _ _ _ _ _ (?_) rfl)
    intro t
    exact Reach.set (Reach.with_posted (Reach.refl _ _) _ rfl) _ _ ((Fld.ok_sub rfl (pendFld_ok ..)))

theorem execPostedWriteDone_reach (block : Nat) (s : State) : ∃ t, execPostedWriteDone block s = .next t ∧ Reach
    0x2db83c2be0fffffff s t := by
  refine ⟨_, rfl, ?_⟩
  split
  · exact Reach.refl _ _
  · exact Reach.step (Reach.set (Reach.with_posted (Reach.refl _ _) _ rfl) _ _ ((Fld.ok_sub rfl (pendFld_ok ..)))) (State.applyWrite_reach ..) rfl

end Sys2Proof.Machine
end

