-- ==== Sys2Proof/Laws/State.lean ====
section
/-! SUPPORT. What the shared updates of the state do to each of its parts, field by field: the register file
(`State.set` and what is built on it), messages, free values, and the causes of the event registers; and what a field
of the register file reads as after a write. -/

namespace Sys2Proof.Machine

/-! Updates of the register file, and sending: every other part is as before. -/

@[simp] theorem State.set_pending (s : State) (f : Fld) (v : Nat) : (s.set f v).pending = s.pending := rfl
@[simp] theorem State.set_causes (s : State) (f : Fld) (v : Nat) : (s.set f v).causes = s.causes := rfl
@[simp] theorem State.set_heldLo (s : State) (f : Fld) (v : Nat) : (s.set f v).heldLo = s.heldLo := rfl
@[simp] theorem State.set_posted (s : State) (f : Fld) (v : Nat) : (s.set f v).posted = s.posted := rfl
@[simp] theorem State.set_mem (s : State) (f : Fld) (v : Nat) : (s.set f v).mem = s.mem := rfl
@[simp] theorem State.set_poison (s : State) (f : Fld) (v : Nat) : (s.set f v).poison = s.poison := rfl
@[simp] theorem State.set_stackPoison (s : State) (f : Fld) (v : Nat) : (s.set f v).stackPoison = s.stackPoison := rfl
@[simp] theorem State.set_cleaned (s : State) (f : Fld) (v : Nat) : (s.set f v).cleaned = s.cleaned := rfl
@[simp] theorem State.set_freeCount (s : State) (f : Fld) (v : Nat) : (s.set f v).freeCount = s.freeCount := rfl
@[simp] theorem State.set_flt (s : State) (f : Fld) (v : Nat) : (s.set f v).flt = s.flt := rfl
@[simp] theorem State.set_pwr (s : State) (f : Fld) (v : Nat) : (s.set f v).pwr = s.pwr := rfl
@[simp] theorem State.set_pcie (s : State) (f : Fld) (v : Nat) : (s.set f v).pcie = s.pcie := rfl
@[simp] theorem State.set_links (s : State) (f : Fld) (v : Nat) : (s.set f v).links = s.links := rfl
@[simp] theorem State.set_otp (s : State) (f : Fld) (v : Nat) : (s.set f v).otp = s.otp := rfl
@[simp] theorem State.set_boot (s : State) (f : Fld) (v : Nat) : (s.set f v).boot = s.boot := rfl
@[simp] theorem State.set_gen (s : State) (f : Fld) (v : Nat) : (s.set f v).gen = s.gen := rfl
@[simp] theorem State.set_qrn (s : State) (f : Fld) (v : Nat) : (s.set f v).qrn = s.qrn := rfl
@[simp] theorem State.set_sched (s : State) (f : Fld) (v : Nat) : (s.set f v).sched = s.sched := rfl
@[simp] theorem State.set_red (s : State) (f : Fld) (v : Nat) : (s.set f v).red = s.red := rfl
@[simp] theorem State.set_step (s : State) (f : Fld) (v : Nat) : (s.set f v).step = s.step := rfl
@[simp] theorem State.set_img (s : State) (f : Fld) (v : Nat) : (s.set f v).img = s.img := rfl
@[simp] theorem State.set_mbr (s : State) (f : Fld) (v : Nat) : (s.set f v).mbr = s.mbr := rfl
@[simp] theorem State.set_pond (s : State) (f : Fld) (v : Nat) : (s.set f v).pond = s.pond := rfl
@[simp] theorem State.set_hop (s : State) (f : Fld) (v : Nat) : (s.set f v).hop = s.hop := rfl
@[simp] theorem State.set_out (s : State) (f : Fld) (v : Nat) : (s.set f v).out = s.out := rfl
@[simp] theorem State.set_fab (s : State) (f : Fld) (v : Nat) : (s.set f v).fab = s.fab := rfl
@[simp] theorem State.set_late (s : State) (f : Fld) (v : Nat) : (s.set f v).late = s.late := rfl
@[simp] theorem State.set_col (s : State) (f : Fld) (v : Nat) : (s.set f v).col = s.col := rfl
@[simp] theorem State.set_lhl (s : State) (f : Fld) (v : Nat) : (s.set f v).lhl = s.lhl := rfl
@[simp] theorem State.set_mlr (s : State) (f : Fld) (v : Nat) : (s.set f v).mlr = s.mlr := rfl
@[simp] theorem State.set_cmp (s : State) (f : Fld) (v : Nat) : (s.set f v).cmp = s.cmp := rfl
@[simp] theorem State.set_cry (s : State) (f : Fld) (v : Nat) : (s.set f v).cry = s.cry := rfl
@[simp] theorem State.set_time (s : State) (f : Fld) (v : Nat) : (s.set f v).time = s.time := rfl
@[simp] theorem State.set_slu (s : State) (f : Fld) (v : Nat) : (s.set f v).slu = s.slu := rfl
@[simp] theorem State.set_lit (s : State) (f : Fld) (v : Nat) : (s.set f v).lit = s.lit := rfl
@[simp] theorem State.set_opt (s : State) (f : Fld) (v : Nat) : (s.set f v).opt = s.opt := rfl

@[simp] theorem State.put_pending (s : State) (f : Fld) (b : Bool) : (s.put f b).pending = s.pending :=
  State.set_pending ..
@[simp] theorem State.put_causes (s : State) (f : Fld) (b : Bool) : (s.put f b).causes = s.causes :=
  State.set_causes ..
@[simp] theorem State.put_heldLo (s : State) (f : Fld) (b : Bool) : (s.put f b).heldLo = s.heldLo :=
  State.set_heldLo ..
@[simp] theorem State.put_posted (s : State) (f : Fld) (b : Bool) : (s.put f b).posted = s.posted :=
  State.set_posted ..
@[simp] theorem State.put_mem (s : State) (f : Fld) (b : Bool) : (s.put f b).mem = s.mem :=
  State.set_mem ..
@[simp] theorem State.put_poison (s : State) (f : Fld) (b : Bool) : (s.put f b).poison = s.poison :=
  State.set_poison ..
@[simp] theorem State.put_stackPoison (s : State) (f : Fld) (b : Bool) : (s.put f b).stackPoison = s.stackPoison :=
  State.set_stackPoison ..
@[simp] theorem State.put_cleaned (s : State) (f : Fld) (b : Bool) : (s.put f b).cleaned = s.cleaned :=
  State.set_cleaned ..
@[simp] theorem State.put_freeCount (s : State) (f : Fld) (b : Bool) : (s.put f b).freeCount = s.freeCount :=
  State.set_freeCount ..
@[simp] theorem State.put_flt (s : State) (f : Fld) (b : Bool) : (s.put f b).flt = s.flt :=
  State.set_flt ..
@[simp] theorem State.put_pwr (s : State) (f : Fld) (b : Bool) : (s.put f b).pwr = s.pwr :=
  State.set_pwr ..
@[simp] theorem State.put_pcie (s : State) (f : Fld) (b : Bool) : (s.put f b).pcie = s.pcie :=
  State.set_pcie ..
@[simp] theorem State.put_links (s : State) (f : Fld) (b : Bool) : (s.put f b).links = s.links :=
  State.set_links ..
@[simp] theorem State.put_otp (s : State) (f : Fld) (b : Bool) : (s.put f b).otp = s.otp :=
  State.set_otp ..
@[simp] theorem State.put_boot (s : State) (f : Fld) (b : Bool) : (s.put f b).boot = s.boot :=
  State.set_boot ..
@[simp] theorem State.put_gen (s : State) (f : Fld) (b : Bool) : (s.put f b).gen = s.gen :=
  State.set_gen ..
@[simp] theorem State.put_qrn (s : State) (f : Fld) (b : Bool) : (s.put f b).qrn = s.qrn :=
  State.set_qrn ..
@[simp] theorem State.put_sched (s : State) (f : Fld) (b : Bool) : (s.put f b).sched = s.sched :=
  State.set_sched ..
@[simp] theorem State.put_red (s : State) (f : Fld) (b : Bool) : (s.put f b).red = s.red :=
  State.set_red ..
@[simp] theorem State.put_step (s : State) (f : Fld) (b : Bool) : (s.put f b).step = s.step :=
  State.set_step ..
@[simp] theorem State.put_img (s : State) (f : Fld) (b : Bool) : (s.put f b).img = s.img :=
  State.set_img ..
@[simp] theorem State.put_mbr (s : State) (f : Fld) (b : Bool) : (s.put f b).mbr = s.mbr :=
  State.set_mbr ..
@[simp] theorem State.put_pond (s : State) (f : Fld) (b : Bool) : (s.put f b).pond = s.pond :=
  State.set_pond ..
@[simp] theorem State.put_hop (s : State) (f : Fld) (b : Bool) : (s.put f b).hop = s.hop :=
  State.set_hop ..
@[simp] theorem State.put_out (s : State) (f : Fld) (b : Bool) : (s.put f b).out = s.out :=
  State.set_out ..
@[simp] theorem State.put_fab (s : State) (f : Fld) (b : Bool) : (s.put f b).fab = s.fab :=
  State.set_fab ..
@[simp] theorem State.put_late (s : State) (f : Fld) (b : Bool) : (s.put f b).late = s.late :=
  State.set_late ..
@[simp] theorem State.put_col (s : State) (f : Fld) (b : Bool) : (s.put f b).col = s.col :=
  State.set_col ..
@[simp] theorem State.put_lhl (s : State) (f : Fld) (b : Bool) : (s.put f b).lhl = s.lhl :=
  State.set_lhl ..
@[simp] theorem State.put_mlr (s : State) (f : Fld) (b : Bool) : (s.put f b).mlr = s.mlr :=
  State.set_mlr ..
@[simp] theorem State.put_cmp (s : State) (f : Fld) (b : Bool) : (s.put f b).cmp = s.cmp :=
  State.set_cmp ..
@[simp] theorem State.put_cry (s : State) (f : Fld) (b : Bool) : (s.put f b).cry = s.cry :=
  State.set_cry ..
@[simp] theorem State.put_time (s : State) (f : Fld) (b : Bool) : (s.put f b).time = s.time :=
  State.set_time ..
@[simp] theorem State.put_slu (s : State) (f : Fld) (b : Bool) : (s.put f b).slu = s.slu :=
  State.set_slu ..
@[simp] theorem State.put_lit (s : State) (f : Fld) (b : Bool) : (s.put f b).lit = s.lit :=
  State.set_lit ..
@[simp] theorem State.put_opt (s : State) (f : Fld) (b : Bool) : (s.put f b).opt = s.opt :=
  State.set_opt ..

@[simp] theorem State.bump_pending (s : State) (f : Fld) (k : Nat) : (s.bump f k).pending = s.pending :=
  State.set_pending ..
@[simp] theorem State.bump_causes (s : State) (f : Fld) (k : Nat) : (s.bump f k).causes = s.causes :=
  State.set_causes ..
@[simp] theorem State.bump_heldLo (s : State) (f : Fld) (k : Nat) : (s.bump f k).heldLo = s.heldLo :=
  State.set_heldLo ..
@[simp] theorem State.bump_posted (s : State) (f : Fld) (k : Nat) : (s.bump f k).posted = s.posted :=
  State.set_posted ..
@[simp] theorem State.bump_mem (s : State) (f : Fld) (k : Nat) : (s.bump f k).mem = s.mem :=
  State.set_mem ..
@[simp] theorem State.bump_poison (s : State) (f : Fld) (k : Nat) : (s.bump f k).poison = s.poison :=
  State.set_poison ..
@[simp] theorem State.bump_stackPoison (s : State) (f : Fld) (k : Nat) : (s.bump f k).stackPoison = s.stackPoison :=
  State.set_stackPoison ..
@[simp] theorem State.bump_cleaned (s : State) (f : Fld) (k : Nat) : (s.bump f k).cleaned = s.cleaned :=
  State.set_cleaned ..
@[simp] theorem State.bump_freeCount (s : State) (f : Fld) (k : Nat) : (s.bump f k).freeCount = s.freeCount :=
  State.set_freeCount ..
@[simp] theorem State.bump_flt (s : State) (f : Fld) (k : Nat) : (s.bump f k).flt = s.flt :=
  State.set_flt ..
@[simp] theorem State.bump_pwr (s : State) (f : Fld) (k : Nat) : (s.bump f k).pwr = s.pwr :=
  State.set_pwr ..
@[simp] theorem State.bump_pcie (s : State) (f : Fld) (k : Nat) : (s.bump f k).pcie = s.pcie :=
  State.set_pcie ..
@[simp] theorem State.bump_links (s : State) (f : Fld) (k : Nat) : (s.bump f k).links = s.links :=
  State.set_links ..
@[simp] theorem State.bump_otp (s : State) (f : Fld) (k : Nat) : (s.bump f k).otp = s.otp :=
  State.set_otp ..
@[simp] theorem State.bump_boot (s : State) (f : Fld) (k : Nat) : (s.bump f k).boot = s.boot :=
  State.set_boot ..
@[simp] theorem State.bump_gen (s : State) (f : Fld) (k : Nat) : (s.bump f k).gen = s.gen :=
  State.set_gen ..
@[simp] theorem State.bump_qrn (s : State) (f : Fld) (k : Nat) : (s.bump f k).qrn = s.qrn :=
  State.set_qrn ..
@[simp] theorem State.bump_sched (s : State) (f : Fld) (k : Nat) : (s.bump f k).sched = s.sched :=
  State.set_sched ..
@[simp] theorem State.bump_red (s : State) (f : Fld) (k : Nat) : (s.bump f k).red = s.red :=
  State.set_red ..
@[simp] theorem State.bump_step (s : State) (f : Fld) (k : Nat) : (s.bump f k).step = s.step :=
  State.set_step ..
@[simp] theorem State.bump_img (s : State) (f : Fld) (k : Nat) : (s.bump f k).img = s.img :=
  State.set_img ..
@[simp] theorem State.bump_mbr (s : State) (f : Fld) (k : Nat) : (s.bump f k).mbr = s.mbr :=
  State.set_mbr ..
@[simp] theorem State.bump_pond (s : State) (f : Fld) (k : Nat) : (s.bump f k).pond = s.pond :=
  State.set_pond ..
@[simp] theorem State.bump_hop (s : State) (f : Fld) (k : Nat) : (s.bump f k).hop = s.hop :=
  State.set_hop ..
@[simp] theorem State.bump_out (s : State) (f : Fld) (k : Nat) : (s.bump f k).out = s.out :=
  State.set_out ..
@[simp] theorem State.bump_fab (s : State) (f : Fld) (k : Nat) : (s.bump f k).fab = s.fab :=
  State.set_fab ..
@[simp] theorem State.bump_late (s : State) (f : Fld) (k : Nat) : (s.bump f k).late = s.late :=
  State.set_late ..
@[simp] theorem State.bump_col (s : State) (f : Fld) (k : Nat) : (s.bump f k).col = s.col :=
  State.set_col ..
@[simp] theorem State.bump_lhl (s : State) (f : Fld) (k : Nat) : (s.bump f k).lhl = s.lhl :=
  State.set_lhl ..
@[simp] theorem State.bump_mlr (s : State) (f : Fld) (k : Nat) : (s.bump f k).mlr = s.mlr :=
  State.set_mlr ..
@[simp] theorem State.bump_cmp (s : State) (f : Fld) (k : Nat) : (s.bump f k).cmp = s.cmp :=
  State.set_cmp ..
@[simp] theorem State.bump_cry (s : State) (f : Fld) (k : Nat) : (s.bump f k).cry = s.cry :=
  State.set_cry ..
@[simp] theorem State.bump_time (s : State) (f : Fld) (k : Nat) : (s.bump f k).time = s.time :=
  State.set_time ..
@[simp] theorem State.bump_slu (s : State) (f : Fld) (k : Nat) : (s.bump f k).slu = s.slu :=
  State.set_slu ..
@[simp] theorem State.bump_lit (s : State) (f : Fld) (k : Nat) : (s.bump f k).lit = s.lit :=
  State.set_lit ..
@[simp] theorem State.bump_opt (s : State) (f : Fld) (k : Nat) : (s.bump f k).opt = s.opt :=
  State.set_opt ..

@[simp] theorem State.setBit_pending (s : State) (f : Fld) (n : Nat) (b : Bool) : (s.setBit f n b).pending = s.pending :=
  State.set_pending ..
@[simp] theorem State.setBit_causes (s : State) (f : Fld) (n : Nat) (b : Bool) : (s.setBit f n b).causes = s.causes :=
  State.set_causes ..
@[simp] theorem State.setBit_heldLo (s : State) (f : Fld) (n : Nat) (b : Bool) : (s.setBit f n b).heldLo = s.heldLo :=
  State.set_heldLo ..
@[simp] theorem State.setBit_posted (s : State) (f : Fld) (n : Nat) (b : Bool) : (s.setBit f n b).posted = s.posted :=
  State.set_posted ..
@[simp] theorem State.setBit_mem (s : State) (f : Fld) (n : Nat) (b : Bool) : (s.setBit f n b).mem = s.mem :=
  State.set_mem ..
@[simp] theorem State.setBit_poison (s : State) (f : Fld) (n : Nat) (b : Bool) : (s.setBit f n b).poison = s.poison :=
  State.set_poison ..
@[simp] theorem State.setBit_stackPoison (s : State) (f : Fld) (n : Nat) (b : Bool) : (s.setBit f n b).stackPoison = s.stackPoison :=
  State.set_stackPoison ..
@[simp] theorem State.setBit_cleaned (s : State) (f : Fld) (n : Nat) (b : Bool) : (s.setBit f n b).cleaned = s.cleaned :=
  State.set_cleaned ..
@[simp] theorem State.setBit_freeCount (s : State) (f : Fld) (n : Nat) (b : Bool) : (s.setBit f n b).freeCount = s.freeCount :=
  State.set_freeCount ..
@[simp] theorem State.setBit_flt (s : State) (f : Fld) (n : Nat) (b : Bool) : (s.setBit f n b).flt = s.flt :=
  State.set_flt ..
@[simp] theorem State.setBit_pwr (s : State) (f : Fld) (n : Nat) (b : Bool) : (s.setBit f n b).pwr = s.pwr :=
  State.set_pwr ..
@[simp] theorem State.setBit_pcie (s : State) (f : Fld) (n : Nat) (b : Bool) : (s.setBit f n b).pcie = s.pcie :=
  State.set_pcie ..
@[simp] theorem State.setBit_links (s : State) (f : Fld) (n : Nat) (b : Bool) : (s.setBit f n b).links = s.links :=
  State.set_links ..
@[simp] theorem State.setBit_otp (s : State) (f : Fld) (n : Nat) (b : Bool) : (s.setBit f n b).otp = s.otp :=
  State.set_otp ..
@[simp] theorem State.setBit_boot (s : State) (f : Fld) (n : Nat) (b : Bool) : (s.setBit f n b).boot = s.boot :=
  State.set_boot ..
@[simp] theorem State.setBit_gen (s : State) (f : Fld) (n : Nat) (b : Bool) : (s.setBit f n b).gen = s.gen :=
  State.set_gen ..
@[simp] theorem State.setBit_qrn (s : State) (f : Fld) (n : Nat) (b : Bool) : (s.setBit f n b).qrn = s.qrn :=
  State.set_qrn ..
@[simp] theorem State.setBit_sched (s : State) (f : Fld) (n : Nat) (b : Bool) : (s.setBit f n b).sched = s.sched :=
  State.set_sched ..
@[simp] theorem State.setBit_red (s : State) (f : Fld) (n : Nat) (b : Bool) : (s.setBit f n b).red = s.red :=
  State.set_red ..
@[simp] theorem State.setBit_step (s : State) (f : Fld) (n : Nat) (b : Bool) : (s.setBit f n b).step = s.step :=
  State.set_step ..
@[simp] theorem State.setBit_img (s : State) (f : Fld) (n : Nat) (b : Bool) : (s.setBit f n b).img = s.img :=
  State.set_img ..
@[simp] theorem State.setBit_mbr (s : State) (f : Fld) (n : Nat) (b : Bool) : (s.setBit f n b).mbr = s.mbr :=
  State.set_mbr ..
@[simp] theorem State.setBit_pond (s : State) (f : Fld) (n : Nat) (b : Bool) : (s.setBit f n b).pond = s.pond :=
  State.set_pond ..
@[simp] theorem State.setBit_hop (s : State) (f : Fld) (n : Nat) (b : Bool) : (s.setBit f n b).hop = s.hop :=
  State.set_hop ..
@[simp] theorem State.setBit_out (s : State) (f : Fld) (n : Nat) (b : Bool) : (s.setBit f n b).out = s.out :=
  State.set_out ..
@[simp] theorem State.setBit_fab (s : State) (f : Fld) (n : Nat) (b : Bool) : (s.setBit f n b).fab = s.fab :=
  State.set_fab ..
@[simp] theorem State.setBit_late (s : State) (f : Fld) (n : Nat) (b : Bool) : (s.setBit f n b).late = s.late :=
  State.set_late ..
@[simp] theorem State.setBit_col (s : State) (f : Fld) (n : Nat) (b : Bool) : (s.setBit f n b).col = s.col :=
  State.set_col ..
@[simp] theorem State.setBit_lhl (s : State) (f : Fld) (n : Nat) (b : Bool) : (s.setBit f n b).lhl = s.lhl :=
  State.set_lhl ..
@[simp] theorem State.setBit_mlr (s : State) (f : Fld) (n : Nat) (b : Bool) : (s.setBit f n b).mlr = s.mlr :=
  State.set_mlr ..
@[simp] theorem State.setBit_cmp (s : State) (f : Fld) (n : Nat) (b : Bool) : (s.setBit f n b).cmp = s.cmp :=
  State.set_cmp ..
@[simp] theorem State.setBit_cry (s : State) (f : Fld) (n : Nat) (b : Bool) : (s.setBit f n b).cry = s.cry :=
  State.set_cry ..
@[simp] theorem State.setBit_time (s : State) (f : Fld) (n : Nat) (b : Bool) : (s.setBit f n b).time = s.time :=
  State.set_time ..
@[simp] theorem State.setBit_slu (s : State) (f : Fld) (n : Nat) (b : Bool) : (s.setBit f n b).slu = s.slu :=
  State.set_slu ..
@[simp] theorem State.setBit_lit (s : State) (f : Fld) (n : Nat) (b : Bool) : (s.setBit f n b).lit = s.lit :=
  State.set_lit ..
@[simp] theorem State.setBit_opt (s : State) (f : Fld) (n : Nat) (b : Bool) : (s.setBit f n b).opt = s.opt :=
  State.set_opt ..

@[simp] theorem State.set64_pending (s : State) (lo hi : Fld) (v : Nat) : (s.set64 lo hi v).pending = s.pending :=
  (State.set_pending ..).trans (State.set_pending ..)
@[simp] theorem State.set64_causes (s : State) (lo hi : Fld) (v : Nat) : (s.set64 lo hi v).causes = s.causes :=
  (State.set_causes ..).trans (State.set_causes ..)
@[simp] theorem State.set64_heldLo (s : State) (lo hi : Fld) (v : Nat) : (s.set64 lo hi v).heldLo = s.heldLo :=
  (State.set_heldLo ..).trans (State.set_heldLo ..)
@[simp] theorem State.set64_posted (s : State) (lo hi : Fld) (v : Nat) : (s.set64 lo hi v).posted = s.posted :=
  (State.set_posted ..).trans (State.set_posted ..)
@[simp] theorem State.set64_mem (s : State) (lo hi : Fld) (v : Nat) : (s.set64 lo hi v).mem = s.mem :=
  (State.set_mem ..).trans (State.set_mem ..)
@[simp] theorem State.set64_poison (s : State) (lo hi : Fld) (v : Nat) : (s.set64 lo hi v).poison = s.poison :=
  (State.set_poison ..).trans (State.set_poison ..)
@[simp] theorem State.set64_stackPoison (s : State) (lo hi : Fld) (v : Nat) : (s.set64 lo hi v).stackPoison = s.stackPoison :=
  (State.set_stackPoison ..).trans (State.set_stackPoison ..)
@[simp] theorem State.set64_cleaned (s : State) (lo hi : Fld) (v : Nat) : (s.set64 lo hi v).cleaned = s.cleaned :=
  (State.set_cleaned ..).trans (State.set_cleaned ..)
@[simp] theorem State.set64_freeCount (s : State) (lo hi : Fld) (v : Nat) : (s.set64 lo hi v).freeCount = s.freeCount :=
  (State.set_freeCount ..).trans (State.set_freeCount ..)
@[simp] theorem State.set64_flt (s : State) (lo hi : Fld) (v : Nat) : (s.set64 lo hi v).flt = s.flt :=
  (State.set_flt ..).trans (State.set_flt ..)
@[simp] theorem State.set64_pwr (s : State) (lo hi : Fld) (v : Nat) : (s.set64 lo hi v).pwr = s.pwr :=
  (State.set_pwr ..).trans (State.set_pwr ..)
@[simp] theorem State.set64_pcie (s : State) (lo hi : Fld) (v : Nat) : (s.set64 lo hi v).pcie = s.pcie :=
  (State.set_pcie ..).trans (State.set_pcie ..)
@[simp] theorem State.set64_links (s : State) (lo hi : Fld) (v : Nat) : (s.set64 lo hi v).links = s.links :=
  (State.set_links ..).trans (State.set_links ..)
@[simp] theorem State.set64_otp (s : State) (lo hi : Fld) (v : Nat) : (s.set64 lo hi v).otp = s.otp :=
  (State.set_otp ..).trans (State.set_otp ..)
@[simp] theorem State.set64_boot (s : State) (lo hi : Fld) (v : Nat) : (s.set64 lo hi v).boot = s.boot :=
  (State.set_boot ..).trans (State.set_boot ..)
@[simp] theorem State.set64_gen (s : State) (lo hi : Fld) (v : Nat) : (s.set64 lo hi v).gen = s.gen :=
  (State.set_gen ..).trans (State.set_gen ..)
@[simp] theorem State.set64_qrn (s : State) (lo hi : Fld) (v : Nat) : (s.set64 lo hi v).qrn = s.qrn :=
  (State.set_qrn ..).trans (State.set_qrn ..)
@[simp] theorem State.set64_sched (s : State) (lo hi : Fld) (v : Nat) : (s.set64 lo hi v).sched = s.sched :=
  (State.set_sched ..).trans (State.set_sched ..)
@[simp] theorem State.set64_red (s : State) (lo hi : Fld) (v : Nat) : (s.set64 lo hi v).red = s.red :=
  (State.set_red ..).trans (State.set_red ..)
@[simp] theorem State.set64_step (s : State) (lo hi : Fld) (v : Nat) : (s.set64 lo hi v).step = s.step :=
  (State.set_step ..).trans (State.set_step ..)
@[simp] theorem State.set64_img (s : State) (lo hi : Fld) (v : Nat) : (s.set64 lo hi v).img = s.img :=
  (State.set_img ..).trans (State.set_img ..)
@[simp] theorem State.set64_mbr (s : State) (lo hi : Fld) (v : Nat) : (s.set64 lo hi v).mbr = s.mbr :=
  (State.set_mbr ..).trans (State.set_mbr ..)
@[simp] theorem State.set64_pond (s : State) (lo hi : Fld) (v : Nat) : (s.set64 lo hi v).pond = s.pond :=
  (State.set_pond ..).trans (State.set_pond ..)
@[simp] theorem State.set64_hop (s : State) (lo hi : Fld) (v : Nat) : (s.set64 lo hi v).hop = s.hop :=
  (State.set_hop ..).trans (State.set_hop ..)
@[simp] theorem State.set64_out (s : State) (lo hi : Fld) (v : Nat) : (s.set64 lo hi v).out = s.out :=
  (State.set_out ..).trans (State.set_out ..)
@[simp] theorem State.set64_fab (s : State) (lo hi : Fld) (v : Nat) : (s.set64 lo hi v).fab = s.fab :=
  (State.set_fab ..).trans (State.set_fab ..)
@[simp] theorem State.set64_late (s : State) (lo hi : Fld) (v : Nat) : (s.set64 lo hi v).late = s.late :=
  (State.set_late ..).trans (State.set_late ..)
@[simp] theorem State.set64_col (s : State) (lo hi : Fld) (v : Nat) : (s.set64 lo hi v).col = s.col :=
  (State.set_col ..).trans (State.set_col ..)
@[simp] theorem State.set64_lhl (s : State) (lo hi : Fld) (v : Nat) : (s.set64 lo hi v).lhl = s.lhl :=
  (State.set_lhl ..).trans (State.set_lhl ..)
@[simp] theorem State.set64_mlr (s : State) (lo hi : Fld) (v : Nat) : (s.set64 lo hi v).mlr = s.mlr :=
  (State.set_mlr ..).trans (State.set_mlr ..)
@[simp] theorem State.set64_cmp (s : State) (lo hi : Fld) (v : Nat) : (s.set64 lo hi v).cmp = s.cmp :=
  (State.set_cmp ..).trans (State.set_cmp ..)
@[simp] theorem State.set64_cry (s : State) (lo hi : Fld) (v : Nat) : (s.set64 lo hi v).cry = s.cry :=
  (State.set_cry ..).trans (State.set_cry ..)
@[simp] theorem State.set64_time (s : State) (lo hi : Fld) (v : Nat) : (s.set64 lo hi v).time = s.time :=
  (State.set_time ..).trans (State.set_time ..)
@[simp] theorem State.set64_slu (s : State) (lo hi : Fld) (v : Nat) : (s.set64 lo hi v).slu = s.slu :=
  (State.set_slu ..).trans (State.set_slu ..)
@[simp] theorem State.set64_lit (s : State) (lo hi : Fld) (v : Nat) : (s.set64 lo hi v).lit = s.lit :=
  (State.set_lit ..).trans (State.set_lit ..)
@[simp] theorem State.set64_opt (s : State) (lo hi : Fld) (v : Nat) : (s.set64 lo hi v).opt = s.opt :=
  (State.set_opt ..).trans (State.set_opt ..)

@[simp] theorem State.add64_pending (s : State) (lo hi : Fld) (k : Nat) : (s.add64 lo hi k).pending = s.pending :=
  State.set64_pending ..
@[simp] theorem State.add64_causes (s : State) (lo hi : Fld) (k : Nat) : (s.add64 lo hi k).causes = s.causes :=
  State.set64_causes ..
@[simp] theorem State.add64_heldLo (s : State) (lo hi : Fld) (k : Nat) : (s.add64 lo hi k).heldLo = s.heldLo :=
  State.set64_heldLo ..
@[simp] theorem State.add64_posted (s : State) (lo hi : Fld) (k : Nat) : (s.add64 lo hi k).posted = s.posted :=
  State.set64_posted ..
@[simp] theorem State.add64_mem (s : State) (lo hi : Fld) (k : Nat) : (s.add64 lo hi k).mem = s.mem :=
  State.set64_mem ..
@[simp] theorem State.add64_poison (s : State) (lo hi : Fld) (k : Nat) : (s.add64 lo hi k).poison = s.poison :=
  State.set64_poison ..
@[simp] theorem State.add64_stackPoison (s : State) (lo hi : Fld) (k : Nat) : (s.add64 lo hi k).stackPoison = s.stackPoison :=
  State.set64_stackPoison ..
@[simp] theorem State.add64_cleaned (s : State) (lo hi : Fld) (k : Nat) : (s.add64 lo hi k).cleaned = s.cleaned :=
  State.set64_cleaned ..
@[simp] theorem State.add64_freeCount (s : State) (lo hi : Fld) (k : Nat) : (s.add64 lo hi k).freeCount = s.freeCount :=
  State.set64_freeCount ..
@[simp] theorem State.add64_flt (s : State) (lo hi : Fld) (k : Nat) : (s.add64 lo hi k).flt = s.flt :=
  State.set64_flt ..
@[simp] theorem State.add64_pwr (s : State) (lo hi : Fld) (k : Nat) : (s.add64 lo hi k).pwr = s.pwr :=
  State.set64_pwr ..
@[simp] theorem State.add64_pcie (s : State) (lo hi : Fld) (k : Nat) : (s.add64 lo hi k).pcie = s.pcie :=
  State.set64_pcie ..
@[simp] theorem State.add64_links (s : State) (lo hi : Fld) (k : Nat) : (s.add64 lo hi k).links = s.links :=
  State.set64_links ..
@[simp] theorem State.add64_otp (s : State) (lo hi : Fld) (k : Nat) : (s.add64 lo hi k).otp = s.otp :=
  State.set64_otp ..
@[simp] theorem State.add64_boot (s : State) (lo hi : Fld) (k : Nat) : (s.add64 lo hi k).boot = s.boot :=
  State.set64_boot ..
@[simp] theorem State.add64_gen (s : State) (lo hi : Fld) (k : Nat) : (s.add64 lo hi k).gen = s.gen :=
  State.set64_gen ..
@[simp] theorem State.add64_qrn (s : State) (lo hi : Fld) (k : Nat) : (s.add64 lo hi k).qrn = s.qrn :=
  State.set64_qrn ..
@[simp] theorem State.add64_sched (s : State) (lo hi : Fld) (k : Nat) : (s.add64 lo hi k).sched = s.sched :=
  State.set64_sched ..
@[simp] theorem State.add64_red (s : State) (lo hi : Fld) (k : Nat) : (s.add64 lo hi k).red = s.red :=
  State.set64_red ..
@[simp] theorem State.add64_step (s : State) (lo hi : Fld) (k : Nat) : (s.add64 lo hi k).step = s.step :=
  State.set64_step ..
@[simp] theorem State.add64_img (s : State) (lo hi : Fld) (k : Nat) : (s.add64 lo hi k).img = s.img :=
  State.set64_img ..
@[simp] theorem State.add64_mbr (s : State) (lo hi : Fld) (k : Nat) : (s.add64 lo hi k).mbr = s.mbr :=
  State.set64_mbr ..
@[simp] theorem State.add64_pond (s : State) (lo hi : Fld) (k : Nat) : (s.add64 lo hi k).pond = s.pond :=
  State.set64_pond ..
@[simp] theorem State.add64_hop (s : State) (lo hi : Fld) (k : Nat) : (s.add64 lo hi k).hop = s.hop :=
  State.set64_hop ..
@[simp] theorem State.add64_out (s : State) (lo hi : Fld) (k : Nat) : (s.add64 lo hi k).out = s.out :=
  State.set64_out ..
@[simp] theorem State.add64_fab (s : State) (lo hi : Fld) (k : Nat) : (s.add64 lo hi k).fab = s.fab :=
  State.set64_fab ..
@[simp] theorem State.add64_late (s : State) (lo hi : Fld) (k : Nat) : (s.add64 lo hi k).late = s.late :=
  State.set64_late ..
@[simp] theorem State.add64_col (s : State) (lo hi : Fld) (k : Nat) : (s.add64 lo hi k).col = s.col :=
  State.set64_col ..
@[simp] theorem State.add64_lhl (s : State) (lo hi : Fld) (k : Nat) : (s.add64 lo hi k).lhl = s.lhl :=
  State.set64_lhl ..
@[simp] theorem State.add64_mlr (s : State) (lo hi : Fld) (k : Nat) : (s.add64 lo hi k).mlr = s.mlr :=
  State.set64_mlr ..
@[simp] theorem State.add64_cmp (s : State) (lo hi : Fld) (k : Nat) : (s.add64 lo hi k).cmp = s.cmp :=
  State.set64_cmp ..
@[simp] theorem State.add64_cry (s : State) (lo hi : Fld) (k : Nat) : (s.add64 lo hi k).cry = s.cry :=
  State.set64_cry ..
@[simp] theorem State.add64_time (s : State) (lo hi : Fld) (k : Nat) : (s.add64 lo hi k).time = s.time :=
  State.set64_time ..
@[simp] theorem State.add64_slu (s : State) (lo hi : Fld) (k : Nat) : (s.add64 lo hi k).slu = s.slu :=
  State.set64_slu ..
@[simp] theorem State.add64_lit (s : State) (lo hi : Fld) (k : Nat) : (s.add64 lo hi k).lit = s.lit :=
  State.set64_lit ..
@[simp] theorem State.add64_opt (s : State) (lo hi : Fld) (k : Nat) : (s.add64 lo hi k).opt = s.opt :=
  State.set64_opt ..

@[simp] theorem State.send_pending (s : State) (vec : Nat) : (s.send vec).pending = s.pending := rfl
@[simp] theorem State.send_causes (s : State) (vec : Nat) : (s.send vec).causes = s.causes := rfl
@[simp] theorem State.send_heldLo (s : State) (vec : Nat) : (s.send vec).heldLo = s.heldLo := rfl
@[simp] theorem State.send_posted (s : State) (vec : Nat) : (s.send vec).posted = s.posted := rfl
@[simp] theorem State.send_mem (s : State) (vec : Nat) : (s.send vec).mem = s.mem := rfl
@[simp] theorem State.send_poison (s : State) (vec : Nat) : (s.send vec).poison = s.poison := rfl
@[simp] theorem State.send_stackPoison (s : State) (vec : Nat) : (s.send vec).stackPoison = s.stackPoison := rfl
@[simp] theorem State.send_cleaned (s : State) (vec : Nat) : (s.send vec).cleaned = s.cleaned := rfl
@[simp] theorem State.send_freeCount (s : State) (vec : Nat) : (s.send vec).freeCount = s.freeCount := rfl
@[simp] theorem State.send_pwr (s : State) (vec : Nat) : (s.send vec).pwr = s.pwr := rfl
@[simp] theorem State.send_pcie (s : State) (vec : Nat) : (s.send vec).pcie = s.pcie := rfl
@[simp] theorem State.send_links (s : State) (vec : Nat) : (s.send vec).links = s.links := rfl
@[simp] theorem State.send_otp (s : State) (vec : Nat) : (s.send vec).otp = s.otp := rfl
@[simp] theorem State.send_boot (s : State) (vec : Nat) : (s.send vec).boot = s.boot := rfl
@[simp] theorem State.send_gen (s : State) (vec : Nat) : (s.send vec).gen = s.gen := rfl
@[simp] theorem State.send_qrn (s : State) (vec : Nat) : (s.send vec).qrn = s.qrn := rfl
@[simp] theorem State.send_sched (s : State) (vec : Nat) : (s.send vec).sched = s.sched := rfl
@[simp] theorem State.send_red (s : State) (vec : Nat) : (s.send vec).red = s.red := rfl
@[simp] theorem State.send_step (s : State) (vec : Nat) : (s.send vec).step = s.step := rfl
@[simp] theorem State.send_img (s : State) (vec : Nat) : (s.send vec).img = s.img := rfl
@[simp] theorem State.send_mbr (s : State) (vec : Nat) : (s.send vec).mbr = s.mbr := rfl
@[simp] theorem State.send_pond (s : State) (vec : Nat) : (s.send vec).pond = s.pond := rfl
@[simp] theorem State.send_hop (s : State) (vec : Nat) : (s.send vec).hop = s.hop := rfl
@[simp] theorem State.send_out (s : State) (vec : Nat) : (s.send vec).out = s.out := rfl
@[simp] theorem State.send_fab (s : State) (vec : Nat) : (s.send vec).fab = s.fab := rfl
@[simp] theorem State.send_late (s : State) (vec : Nat) : (s.send vec).late = s.late := rfl
@[simp] theorem State.send_col (s : State) (vec : Nat) : (s.send vec).col = s.col := rfl
@[simp] theorem State.send_lhl (s : State) (vec : Nat) : (s.send vec).lhl = s.lhl := rfl
@[simp] theorem State.send_mlr (s : State) (vec : Nat) : (s.send vec).mlr = s.mlr := rfl
@[simp] theorem State.send_cmp (s : State) (vec : Nat) : (s.send vec).cmp = s.cmp := rfl
@[simp] theorem State.send_cry (s : State) (vec : Nat) : (s.send vec).cry = s.cry := rfl
@[simp] theorem State.send_time (s : State) (vec : Nat) : (s.send vec).time = s.time := rfl
@[simp] theorem State.send_slu (s : State) (vec : Nat) : (s.send vec).slu = s.slu := rfl
@[simp] theorem State.send_lit (s : State) (vec : Nat) : (s.send vec).lit = s.lit := rfl
@[simp] theorem State.send_opt (s : State) (vec : Nat) : (s.send vec).opt = s.opt := rfl

@[simp] theorem State.emit_pending (s : State) (o : Out) : (s.emit o).pending = s.pending := rfl
@[simp] theorem State.emit_causes (s : State) (o : Out) : (s.emit o).causes = s.causes := rfl
@[simp] theorem State.emit_heldLo (s : State) (o : Out) : (s.emit o).heldLo = s.heldLo := rfl
@[simp] theorem State.emit_posted (s : State) (o : Out) : (s.emit o).posted = s.posted := rfl
@[simp] theorem State.emit_mem (s : State) (o : Out) : (s.emit o).mem = s.mem := rfl
@[simp] theorem State.emit_poison (s : State) (o : Out) : (s.emit o).poison = s.poison := rfl
@[simp] theorem State.emit_stackPoison (s : State) (o : Out) : (s.emit o).stackPoison = s.stackPoison := rfl
@[simp] theorem State.emit_cleaned (s : State) (o : Out) : (s.emit o).cleaned = s.cleaned := rfl
@[simp] theorem State.emit_freeCount (s : State) (o : Out) : (s.emit o).freeCount = s.freeCount := rfl
@[simp] theorem State.emit_flt (s : State) (o : Out) : (s.emit o).flt = s.flt := rfl
@[simp] theorem State.emit_pwr (s : State) (o : Out) : (s.emit o).pwr = s.pwr := rfl
@[simp] theorem State.emit_pcie (s : State) (o : Out) : (s.emit o).pcie = s.pcie := rfl
@[simp] theorem State.emit_links (s : State) (o : Out) : (s.emit o).links = s.links := rfl
@[simp] theorem State.emit_otp (s : State) (o : Out) : (s.emit o).otp = s.otp := rfl
@[simp] theorem State.emit_boot (s : State) (o : Out) : (s.emit o).boot = s.boot := rfl
@[simp] theorem State.emit_gen (s : State) (o : Out) : (s.emit o).gen = s.gen := rfl
@[simp] theorem State.emit_qrn (s : State) (o : Out) : (s.emit o).qrn = s.qrn := rfl
@[simp] theorem State.emit_sched (s : State) (o : Out) : (s.emit o).sched = s.sched := rfl
@[simp] theorem State.emit_red (s : State) (o : Out) : (s.emit o).red = s.red := rfl
@[simp] theorem State.emit_step (s : State) (o : Out) : (s.emit o).step = s.step := rfl
@[simp] theorem State.emit_img (s : State) (o : Out) : (s.emit o).img = s.img := rfl
@[simp] theorem State.emit_mbr (s : State) (o : Out) : (s.emit o).mbr = s.mbr := rfl
@[simp] theorem State.emit_pond (s : State) (o : Out) : (s.emit o).pond = s.pond := rfl
@[simp] theorem State.emit_hop (s : State) (o : Out) : (s.emit o).hop = s.hop := rfl
@[simp] theorem State.emit_fab (s : State) (o : Out) : (s.emit o).fab = s.fab := rfl
@[simp] theorem State.emit_late (s : State) (o : Out) : (s.emit o).late = s.late := rfl
@[simp] theorem State.emit_col (s : State) (o : Out) : (s.emit o).col = s.col := rfl
@[simp] theorem State.emit_lhl (s : State) (o : Out) : (s.emit o).lhl = s.lhl := rfl
@[simp] theorem State.emit_mlr (s : State) (o : Out) : (s.emit o).mlr = s.mlr := rfl
@[simp] theorem State.emit_cmp (s : State) (o : Out) : (s.emit o).cmp = s.cmp := rfl
@[simp] theorem State.emit_cry (s : State) (o : Out) : (s.emit o).cry = s.cry := rfl
@[simp] theorem State.emit_time (s : State) (o : Out) : (s.emit o).time = s.time := rfl
@[simp] theorem State.emit_slu (s : State) (o : Out) : (s.emit o).slu = s.slu := rfl
@[simp] theorem State.emit_lit (s : State) (o : Out) : (s.emit o).lit = s.lit := rfl
@[simp] theorem State.emit_opt (s : State) (o : Out) : (s.emit o).opt = s.opt := rfl

@[simp] theorem State.journal_pending (s : State) : (s.journal).pending = s.pending := rfl
@[simp] theorem State.journal_causes (s : State) : (s.journal).causes = s.causes := rfl
@[simp] theorem State.journal_heldLo (s : State) : (s.journal).heldLo = s.heldLo := rfl
@[simp] theorem State.journal_posted (s : State) : (s.journal).posted = s.posted := rfl
@[simp] theorem State.journal_mem (s : State) : (s.journal).mem = s.mem := rfl
@[simp] theorem State.journal_poison (s : State) : (s.journal).poison = s.poison := rfl
@[simp] theorem State.journal_stackPoison (s : State) : (s.journal).stackPoison = s.stackPoison := rfl
@[simp] theorem State.journal_cleaned (s : State) : (s.journal).cleaned = s.cleaned := rfl
@[simp] theorem State.journal_freeCount (s : State) : (s.journal).freeCount = s.freeCount := rfl
@[simp] theorem State.journal_flt (s : State) : (s.journal).flt = s.flt := rfl
@[simp] theorem State.journal_pwr (s : State) : (s.journal).pwr = s.pwr := rfl
@[simp] theorem State.journal_pcie (s : State) : (s.journal).pcie = s.pcie := rfl
@[simp] theorem State.journal_links (s : State) : (s.journal).links = s.links := rfl
@[simp] theorem State.journal_otp (s : State) : (s.journal).otp = s.otp := rfl
@[simp] theorem State.journal_gen (s : State) : (s.journal).gen = s.gen := rfl
@[simp] theorem State.journal_qrn (s : State) : (s.journal).qrn = s.qrn := rfl
@[simp] theorem State.journal_sched (s : State) : (s.journal).sched = s.sched := rfl
@[simp] theorem State.journal_red (s : State) : (s.journal).red = s.red := rfl
@[simp] theorem State.journal_step (s : State) : (s.journal).step = s.step := rfl
@[simp] theorem State.journal_img (s : State) : (s.journal).img = s.img := rfl
@[simp] theorem State.journal_mbr (s : State) : (s.journal).mbr = s.mbr := rfl
@[simp] theorem State.journal_pond (s : State) : (s.journal).pond = s.pond := rfl
@[simp] theorem State.journal_hop (s : State) : (s.journal).hop = s.hop := rfl
@[simp] theorem State.journal_out (s : State) : (s.journal).out = s.out := rfl
@[simp] theorem State.journal_fab (s : State) : (s.journal).fab = s.fab := rfl
@[simp] theorem State.journal_late (s : State) : (s.journal).late = s.late := rfl
@[simp] theorem State.journal_col (s : State) : (s.journal).col = s.col := rfl
@[simp] theorem State.journal_lhl (s : State) : (s.journal).lhl = s.lhl := rfl
@[simp] theorem State.journal_mlr (s : State) : (s.journal).mlr = s.mlr := rfl
@[simp] theorem State.journal_cmp (s : State) : (s.journal).cmp = s.cmp := rfl
@[simp] theorem State.journal_cry (s : State) : (s.journal).cry = s.cry := rfl
@[simp] theorem State.journal_time (s : State) : (s.journal).time = s.time := rfl
@[simp] theorem State.journal_slu (s : State) : (s.journal).slu = s.slu := rfl
@[simp] theorem State.journal_lit (s : State) : (s.journal).lit = s.lit := rfl
@[simp] theorem State.journal_opt (s : State) : (s.journal).opt = s.opt := rfl

@[simp] theorem State.assertErrn_pending (s : State) : (s.assertErrn).pending = s.pending := rfl
@[simp] theorem State.assertErrn_causes (s : State) : (s.assertErrn).causes = s.causes := rfl
@[simp] theorem State.assertErrn_heldLo (s : State) : (s.assertErrn).heldLo = s.heldLo := rfl
@[simp] theorem State.assertErrn_posted (s : State) : (s.assertErrn).posted = s.posted := rfl
@[simp] theorem State.assertErrn_mem (s : State) : (s.assertErrn).mem = s.mem := rfl
@[simp] theorem State.assertErrn_poison (s : State) : (s.assertErrn).poison = s.poison := rfl
@[simp] theorem State.assertErrn_stackPoison (s : State) : (s.assertErrn).stackPoison = s.stackPoison := rfl
@[simp] theorem State.assertErrn_cleaned (s : State) : (s.assertErrn).cleaned = s.cleaned := rfl
@[simp] theorem State.assertErrn_freeCount (s : State) : (s.assertErrn).freeCount = s.freeCount := rfl
@[simp] theorem State.assertErrn_pwr (s : State) : (s.assertErrn).pwr = s.pwr := rfl
@[simp] theorem State.assertErrn_pcie (s : State) : (s.assertErrn).pcie = s.pcie := rfl
@[simp] theorem State.assertErrn_links (s : State) : (s.assertErrn).links = s.links := rfl
@[simp] theorem State.assertErrn_otp (s : State) : (s.assertErrn).otp = s.otp := rfl
@[simp] theorem State.assertErrn_boot (s : State) : (s.assertErrn).boot = s.boot := rfl
@[simp] theorem State.assertErrn_gen (s : State) : (s.assertErrn).gen = s.gen := rfl
@[simp] theorem State.assertErrn_qrn (s : State) : (s.assertErrn).qrn = s.qrn := rfl
@[simp] theorem State.assertErrn_sched (s : State) : (s.assertErrn).sched = s.sched := rfl
@[simp] theorem State.assertErrn_red (s : State) : (s.assertErrn).red = s.red := rfl
@[simp] theorem State.assertErrn_step (s : State) : (s.assertErrn).step = s.step := rfl
@[simp] theorem State.assertErrn_img (s : State) : (s.assertErrn).img = s.img := rfl
@[simp] theorem State.assertErrn_mbr (s : State) : (s.assertErrn).mbr = s.mbr := rfl
@[simp] theorem State.assertErrn_pond (s : State) : (s.assertErrn).pond = s.pond := rfl
@[simp] theorem State.assertErrn_hop (s : State) : (s.assertErrn).hop = s.hop := rfl
@[simp] theorem State.assertErrn_out (s : State) : (s.assertErrn).out = s.out := rfl
@[simp] theorem State.assertErrn_fab (s : State) : (s.assertErrn).fab = s.fab := rfl
@[simp] theorem State.assertErrn_late (s : State) : (s.assertErrn).late = s.late := rfl
@[simp] theorem State.assertErrn_col (s : State) : (s.assertErrn).col = s.col := rfl
@[simp] theorem State.assertErrn_lhl (s : State) : (s.assertErrn).lhl = s.lhl := rfl
@[simp] theorem State.assertErrn_mlr (s : State) : (s.assertErrn).mlr = s.mlr := rfl
@[simp] theorem State.assertErrn_cmp (s : State) : (s.assertErrn).cmp = s.cmp := rfl
@[simp] theorem State.assertErrn_cry (s : State) : (s.assertErrn).cry = s.cry := rfl
@[simp] theorem State.assertErrn_time (s : State) : (s.assertErrn).time = s.time := rfl
@[simp] theorem State.assertErrn_slu (s : State) : (s.assertErrn).slu = s.slu := rfl
@[simp] theorem State.assertErrn_lit (s : State) : (s.assertErrn).lit = s.lit := rfl
@[simp] theorem State.assertErrn_opt (s : State) : (s.assertErrn).opt = s.opt := rfl

@[simp] theorem State.send_regs (s : State) (vec : Nat) : (s.send vec).regs = s.regs := rfl
@[simp] theorem State.send_sent (s : State) (vec : Nat) : (s.send vec).flt.sent = vec :: s.flt.sent := rfl
@[simp] theorem State.emit_regs (s : State) (o : Out) : (s.emit o).regs = s.regs := rfl
@[simp] theorem State.emit_out (s : State) (o : Out) : (s.emit o).out = o :: s.out := rfl
@[simp] theorem State.send_get (s : State) (vec : Nat) (f : Fld) : (s.send vec).get f = s.get f := rfl
@[simp] theorem State.emit_get (s : State) (o : Out) (f : Fld) : (s.emit o).get f = s.get f := rfl

/-! Lists of writes, and causes: what is outside their own part is as before. -/

@[simp] theorem State.setAll_pending (s : State) (l : List (Fld × Nat)) : (s.setAll l).pending = s.pending := by
  induction l generalizing s with
  | nil => rfl
  | cons x l ih => exact ih _
@[simp] theorem State.setAll_causes (s : State) (l : List (Fld × Nat)) : (s.setAll l).causes = s.causes := by
  induction l generalizing s with
  | nil => rfl
  | cons x l ih => exact ih _
@[simp] theorem State.setAll_heldLo (s : State) (l : List (Fld × Nat)) : (s.setAll l).heldLo = s.heldLo := by
  induction l generalizing s with
  | nil => rfl
  | cons x l ih => exact ih _
@[simp] theorem State.setAll_posted (s : State) (l : List (Fld × Nat)) : (s.setAll l).posted = s.posted := by
  induction l generalizing s with
  | nil => rfl
  | cons x l ih => exact ih _
@[simp] theorem State.setAll_mem (s : State) (l : List (Fld × Nat)) : (s.setAll l).mem = s.mem := by
  induction l generalizing s with
  | nil => rfl
  | cons x l ih => exact ih _
@[simp] theorem State.setAll_poison (s : State) (l : List (Fld × Nat)) : (s.setAll l).poison = s.poison := by
  induction l generalizing s with
  | nil => rfl
  | cons x l ih => exact ih _
@[simp] theorem State.setAll_stackPoison (s : State) (l : List (Fld × Nat)) : (s.setAll l).stackPoison = s.stackPoison := by
  induction l generalizing s with
  | nil => rfl
  | cons x l ih => exact ih _
@[simp] theorem State.setAll_cleaned (s : State) (l : List (Fld × Nat)) : (s.setAll l).cleaned = s.cleaned := by
  induction l generalizing s with
  | nil => rfl
  | cons x l ih => exact ih _
@[simp] theorem State.setAll_freeCount (s : State) (l : List (Fld × Nat)) : (s.setAll l).freeCount = s.freeCount := by
  induction l generalizing s with
  | nil => rfl
  | cons x l ih => exact ih _
@[simp] theorem State.setAll_flt (s : State) (l : List (Fld × Nat)) : (s.setAll l).flt = s.flt := by
  induction l generalizing s with
  | nil => rfl
  | cons x l ih => exact ih _
@[simp] theorem State.setAll_pwr (s : State) (l : List (Fld × Nat)) : (s.setAll l).pwr = s.pwr := by
  induction l generalizing s with
  | nil => rfl
  | cons x l ih => exact ih _
@[simp] theorem State.setAll_pcie (s : State) (l : List (Fld × Nat)) : (s.setAll l).pcie = s.pcie := by
  induction l generalizing s with
  | nil => rfl
  | cons x l ih => exact ih _
@[simp] theorem State.setAll_links (s : State) (l : List (Fld × Nat)) : (s.setAll l).links = s.links := by
  induction l generalizing s with
  | nil => rfl
  | cons x l ih => exact ih _
@[simp] theorem State.setAll_otp (s : State) (l : List (Fld × Nat)) : (s.setAll l).otp = s.otp := by
  induction l generalizing s with
  | nil => rfl
  | cons x l ih => exact ih _
@[simp] theorem State.setAll_boot (s : State) (l : List (Fld × Nat)) : (s.setAll l).boot = s.boot := by
  induction l generalizing s with
  | nil => rfl
  | cons x l ih => exact ih _
@[simp] theorem State.setAll_gen (s : State) (l : List (Fld × Nat)) : (s.setAll l).gen = s.gen := by
  induction l generalizing s with
  | nil => rfl
  | cons x l ih => exact ih _
@[simp] theorem State.setAll_qrn (s : State) (l : List (Fld × Nat)) : (s.setAll l).qrn = s.qrn := by
  induction l generalizing s with
  | nil => rfl
  | cons x l ih => exact ih _
@[simp] theorem State.setAll_sched (s : State) (l : List (Fld × Nat)) : (s.setAll l).sched = s.sched := by
  induction l generalizing s with
  | nil => rfl
  | cons x l ih => exact ih _
@[simp] theorem State.setAll_red (s : State) (l : List (Fld × Nat)) : (s.setAll l).red = s.red := by
  induction l generalizing s with
  | nil => rfl
  | cons x l ih => exact ih _
@[simp] theorem State.setAll_step (s : State) (l : List (Fld × Nat)) : (s.setAll l).step = s.step := by
  induction l generalizing s with
  | nil => rfl
  | cons x l ih => exact ih _
@[simp] theorem State.setAll_img (s : State) (l : List (Fld × Nat)) : (s.setAll l).img = s.img := by
  induction l generalizing s with
  | nil => rfl
  | cons x l ih => exact ih _
@[simp] theorem State.setAll_mbr (s : State) (l : List (Fld × Nat)) : (s.setAll l).mbr = s.mbr := by
  induction l generalizing s with
  | nil => rfl
  | cons x l ih => exact ih _
@[simp] theorem State.setAll_pond (s : State) (l : List (Fld × Nat)) : (s.setAll l).pond = s.pond := by
  induction l generalizing s with
  | nil => rfl
  | cons x l ih => exact ih _
@[simp] theorem State.setAll_hop (s : State) (l : List (Fld × Nat)) : (s.setAll l).hop = s.hop := by
  induction l generalizing s with
  | nil => rfl
  | cons x l ih => exact ih _
@[simp] theorem State.setAll_out (s : State) (l : List (Fld × Nat)) : (s.setAll l).out = s.out := by
  induction l generalizing s with
  | nil => rfl
  | cons x l ih => exact ih _
@[simp] theorem State.setAll_fab (s : State) (l : List (Fld × Nat)) : (s.setAll l).fab = s.fab := by
  induction l generalizing s with
  | nil => rfl
  | cons x l ih => exact ih _
@[simp] theorem State.setAll_late (s : State) (l : List (Fld × Nat)) : (s.setAll l).late = s.late := by
  induction l generalizing s with
  | nil => rfl
  | cons x l ih => exact ih _
@[simp] theorem State.setAll_col (s : State) (l : List (Fld × Nat)) : (s.setAll l).col = s.col := by
  induction l generalizing s with
  | nil => rfl
  | cons x l ih => exact ih _
@[simp] theorem State.setAll_lhl (s : State) (l : List (Fld × Nat)) : (s.setAll l).lhl = s.lhl := by
  induction l generalizing s with
  | nil => rfl
  | cons x l ih => exact ih _
@[simp] theorem State.setAll_mlr (s : State) (l : List (Fld × Nat)) : (s.setAll l).mlr = s.mlr := by
  induction l generalizing s with
  | nil => rfl
  | cons x l ih => exact ih _
@[simp] theorem State.setAll_cmp (s : State) (l : List (Fld × Nat)) : (s.setAll l).cmp = s.cmp := by
  induction l generalizing s with
  | nil => rfl
  | cons x l ih => exact ih _
@[simp] theorem State.setAll_cry (s : State) (l : List (Fld × Nat)) : (s.setAll l).cry = s.cry := by
  induction l generalizing s with
  | nil => rfl
  | cons x l ih => exact ih _
@[simp] theorem State.setAll_time (s : State) (l : List (Fld × Nat)) : (s.setAll l).time = s.time := by
  induction l generalizing s with
  | nil => rfl
  | cons x l ih => exact ih _
@[simp] theorem State.setAll_slu (s : State) (l : List (Fld × Nat)) : (s.setAll l).slu = s.slu := by
  induction l generalizing s with
  | nil => rfl
  | cons x l ih => exact ih _
@[simp] theorem State.setAll_lit (s : State) (l : List (Fld × Nat)) : (s.setAll l).lit = s.lit := by
  induction l generalizing s with
  | nil => rfl
  | cons x l ih => exact ih _
@[simp] theorem State.setAll_opt (s : State) (l : List (Fld × Nat)) : (s.setAll l).opt = s.opt := by
  induction l generalizing s with
  | nil => rfl
  | cons x l ih => exact ih _

@[simp] theorem State.clearAll_pending (s : State) (l : List Fld) : (s.clearAll l).pending = s.pending := by
  induction l generalizing s with
  | nil => rfl
  | cons x l ih => exact ih _
@[simp] theorem State.clearAll_causes (s : State) (l : List Fld) : (s.clearAll l).causes = s.causes := by
  induction l generalizing s with
  | nil => rfl
  | cons x l ih => exact ih _
@[simp] theorem State.clearAll_heldLo (s : State) (l : List Fld) : (s.clearAll l).heldLo = s.heldLo := by
  induction l generalizing s with
  | nil => rfl
  | cons x l ih => exact ih _
@[simp] theorem State.clearAll_posted (s : State) (l : List Fld) : (s.clearAll l).posted = s.posted := by
  induction l generalizing s with
  | nil => rfl
  | cons x l ih => exact ih _
@[simp] theorem State.clearAll_mem (s : State) (l : List Fld) : (s.clearAll l).mem = s.mem := by
  induction l generalizing s with
  | nil => rfl
  | cons x l ih => exact ih _
@[simp] theorem State.clearAll_poison (s : State) (l : List Fld) : (s.clearAll l).poison = s.poison := by
  induction l generalizing s with
  | nil => rfl
  | cons x l ih => exact ih _
@[simp] theorem State.clearAll_stackPoison (s : State) (l : List Fld) : (s.clearAll l).stackPoison = s.stackPoison := by
  induction l generalizing s with
  | nil => rfl
  | cons x l ih => exact ih _
@[simp] theorem State.clearAll_cleaned (s : State) (l : List Fld) : (s.clearAll l).cleaned = s.cleaned := by
  induction l generalizing s with
  | nil => rfl
  | cons x l ih => exact ih _
@[simp] theorem State.clearAll_freeCount (s : State) (l : List Fld) : (s.clearAll l).freeCount = s.freeCount := by
  induction l generalizing s with
  | nil => rfl
  | cons x l ih => exact ih _
@[simp] theorem State.clearAll_flt (s : State) (l : List Fld) : (s.clearAll l).flt = s.flt := by
  induction l generalizing s with
  | nil => rfl
  | cons x l ih => exact ih _
@[simp] theorem State.clearAll_pwr (s : State) (l : List Fld) : (s.clearAll l).pwr = s.pwr := by
  induction l generalizing s with
  | nil => rfl
  | cons x l ih => exact ih _
@[simp] theorem State.clearAll_pcie (s : State) (l : List Fld) : (s.clearAll l).pcie = s.pcie := by
  induction l generalizing s with
  | nil => rfl
  | cons x l ih => exact ih _
@[simp] theorem State.clearAll_links (s : State) (l : List Fld) : (s.clearAll l).links = s.links := by
  induction l generalizing s with
  | nil => rfl
  | cons x l ih => exact ih _
@[simp] theorem State.clearAll_otp (s : State) (l : List Fld) : (s.clearAll l).otp = s.otp := by
  induction l generalizing s with
  | nil => rfl
  | cons x l ih => exact ih _
@[simp] theorem State.clearAll_boot (s : State) (l : List Fld) : (s.clearAll l).boot = s.boot := by
  induction l generalizing s with
  | nil => rfl
  | cons x l ih => exact ih _
@[simp] theorem State.clearAll_gen (s : State) (l : List Fld) : (s.clearAll l).gen = s.gen := by
  induction l generalizing s with
  | nil => rfl
  | cons x l ih => exact ih _
@[simp] theorem State.clearAll_qrn (s : State) (l : List Fld) : (s.clearAll l).qrn = s.qrn := by
  induction l generalizing s with
  | nil => rfl
  | cons x l ih => exact ih _
@[simp] theorem State.clearAll_sched (s : State) (l : List Fld) : (s.clearAll l).sched = s.sched := by
  induction l generalizing s with
  | nil => rfl
  | cons x l ih => exact ih _
@[simp] theorem State.clearAll_red (s : State) (l : List Fld) : (s.clearAll l).red = s.red := by
  induction l generalizing s with
  | nil => rfl
  | cons x l ih => exact ih _
@[simp] theorem State.clearAll_step (s : State) (l : List Fld) : (s.clearAll l).step = s.step := by
  induction l generalizing s with
  | nil => rfl
  | cons x l ih => exact ih _
@[simp] theorem State.clearAll_img (s : State) (l : List Fld) : (s.clearAll l).img = s.img := by
  induction l generalizing s with
  | nil => rfl
  | cons x l ih => exact ih _
@[simp] theorem State.clearAll_mbr (s : State) (l : List Fld) : (s.clearAll l).mbr = s.mbr := by
  induction l generalizing s with
  | nil => rfl
  | cons x l ih => exact ih _
@[simp] theorem State.clearAll_pond (s : State) (l : List Fld) : (s.clearAll l).pond = s.pond := by
  induction l generalizing s with
  | nil => rfl
  | cons x l ih => exact ih _
@[simp] theorem State.clearAll_hop (s : State) (l : List Fld) : (s.clearAll l).hop = s.hop := by
  induction l generalizing s with
  | nil => rfl
  | cons x l ih => exact ih _
@[simp] theorem State.clearAll_out (s : State) (l : List Fld) : (s.clearAll l).out = s.out := by
  induction l generalizing s with
  | nil => rfl
  | cons x l ih => exact ih _
@[simp] theorem State.clearAll_fab (s : State) (l : List Fld) : (s.clearAll l).fab = s.fab := by
  induction l generalizing s with
  | nil => rfl
  | cons x l ih => exact ih _
@[simp] theorem State.clearAll_late (s : State) (l : List Fld) : (s.clearAll l).late = s.late := by
  induction l generalizing s with
  | nil => rfl
  | cons x l ih => exact ih _
@[simp] theorem State.clearAll_col (s : State) (l : List Fld) : (s.clearAll l).col = s.col := by
  induction l generalizing s with
  | nil => rfl
  | cons x l ih => exact ih _
@[simp] theorem State.clearAll_lhl (s : State) (l : List Fld) : (s.clearAll l).lhl = s.lhl := by
  induction l generalizing s with
  | nil => rfl
  | cons x l ih => exact ih _
@[simp] theorem State.clearAll_mlr (s : State) (l : List Fld) : (s.clearAll l).mlr = s.mlr := by
  induction l generalizing s with
  | nil => rfl
  | cons x l ih => exact ih _
@[simp] theorem State.clearAll_cmp (s : State) (l : List Fld) : (s.clearAll l).cmp = s.cmp := by
  induction l generalizing s with
  | nil => rfl
  | cons x l ih => exact ih _
@[simp] theorem State.clearAll_cry (s : State) (l : List Fld) : (s.clearAll l).cry = s.cry := by
  induction l generalizing s with
  | nil => rfl
  | cons x l ih => exact ih _
@[simp] theorem State.clearAll_time (s : State) (l : List Fld) : (s.clearAll l).time = s.time := by
  induction l generalizing s with
  | nil => rfl
  | cons x l ih => exact ih _
@[simp] theorem State.clearAll_slu (s : State) (l : List Fld) : (s.clearAll l).slu = s.slu := by
  induction l generalizing s with
  | nil => rfl
  | cons x l ih => exact ih _
@[simp] theorem State.clearAll_lit (s : State) (l : List Fld) : (s.clearAll l).lit = s.lit := by
  induction l generalizing s with
  | nil => rfl
  | cons x l ih => exact ih _
@[simp] theorem State.clearAll_opt (s : State) (l : List Fld) : (s.clearAll l).opt = s.opt := by
  induction l generalizing s with
  | nil => rfl
  | cons x l ih => exact ih _

@[simp] theorem State.evt_pending (s : State) (f : Fld) : (s.evt f).pending = s.pending := by
  simp only [State.evt]
  split
  · rfl
  · split <;> rfl
@[simp] theorem State.evt_heldLo (s : State) (f : Fld) : (s.evt f).heldLo = s.heldLo := by
  simp only [State.evt]
  split
  · rfl
  · split <;> rfl
@[simp] theorem State.evt_posted (s : State) (f : Fld) : (s.evt f).posted = s.posted := by
  simp only [State.evt]
  split
  · rfl
  · split <;> rfl
@[simp] theorem State.evt_mem (s : State) (f : Fld) : (s.evt f).mem = s.mem := by
  simp only [State.evt]
  split
  · rfl
  · split <;> rfl
@[simp] theorem State.evt_poison (s : State) (f : Fld) : (s.evt f).poison = s.poison := by
  simp only [State.evt]
  split
  · rfl
  · split <;> rfl
@[simp] theorem State.evt_stackPoison (s : State) (f : Fld) : (s.evt f).stackPoison = s.stackPoison := by
  simp only [State.evt]
  split
  · rfl
  · split <;> rfl
@[simp] theorem State.evt_cleaned (s : State) (f : Fld) : (s.evt f).cleaned = s.cleaned := by
  simp only [State.evt]
  split
  · rfl
  · split <;> rfl
@[simp] theorem State.evt_freeCount (s : State) (f : Fld) : (s.evt f).freeCount = s.freeCount := by
  simp only [State.evt]
  split
  · rfl
  · split <;> rfl
@[simp] theorem State.evt_pwr (s : State) (f : Fld) : (s.evt f).pwr = s.pwr := by
  simp only [State.evt]
  split
  · rfl
  · split <;> rfl
@[simp] theorem State.evt_pcie (s : State) (f : Fld) : (s.evt f).pcie = s.pcie := by
  simp only [State.evt]
  split
  · rfl
  · split <;> rfl
@[simp] theorem State.evt_links (s : State) (f : Fld) : (s.evt f).links = s.links := by
  simp only [State.evt]
  split
  · rfl
  · split <;> rfl
@[simp] theorem State.evt_otp (s : State) (f : Fld) : (s.evt f).otp = s.otp := by
  simp only [State.evt]
  split
  · rfl
  · split <;> rfl
@[simp] theorem State.evt_boot (s : State) (f : Fld) : (s.evt f).boot = s.boot := by
  simp only [State.evt]
  split
  · rfl
  · split <;> rfl
@[simp] theorem State.evt_gen (s : State) (f : Fld) : (s.evt f).gen = s.gen := by
  simp only [State.evt]
  split
  · rfl
  · split <;> rfl
@[simp] theorem State.evt_qrn (s : State) (f : Fld) : (s.evt f).qrn = s.qrn := by
  simp only [State.evt]
  split
  · rfl
  · split <;> rfl
@[simp] theorem State.evt_sched (s : State) (f : Fld) : (s.evt f).sched = s.sched := by
  simp only [State.evt]
  split
  · rfl
  · split <;> rfl
@[simp] theorem State.evt_red (s : State) (f : Fld) : (s.evt f).red = s.red := by
  simp only [State.evt]
  split
  · rfl
  · split <;> rfl
@[simp] theorem State.evt_step (s : State) (f : Fld) : (s.evt f).step = s.step := by
  simp only [State.evt]
  split
  · rfl
  · split <;> rfl
@[simp] theorem State.evt_img (s : State) (f : Fld) : (s.evt f).img = s.img := by
  simp only [State.evt]
  split
  · rfl
  · split <;> rfl
@[simp] theorem State.evt_mbr (s : State) (f : Fld) : (s.evt f).mbr = s.mbr := by
  simp only [State.evt]
  split
  · rfl
  · split <;> rfl
@[simp] theorem State.evt_pond (s : State) (f : Fld) : (s.evt f).pond = s.pond := by
  simp only [State.evt]
  split
  · rfl
  · split <;> rfl
@[simp] theorem State.evt_hop (s : State) (f : Fld) : (s.evt f).hop = s.hop := by
  simp only [State.evt]
  split
  · rfl
  · split <;> rfl
@[simp] theorem State.evt_out (s : State) (f : Fld) : (s.evt f).out = s.out := by
  simp only [State.evt]
  split
  · rfl
  · split <;> rfl
@[simp] theorem State.evt_fab (s : State) (f : Fld) : (s.evt f).fab = s.fab := by
  simp only [State.evt]
  split
  · rfl
  · split <;> rfl
@[simp] theorem State.evt_late (s : State) (f : Fld) : (s.evt f).late = s.late := by
  simp only [State.evt]
  split
  · rfl
  · split <;> rfl
@[simp] theorem State.evt_col (s : State) (f : Fld) : (s.evt f).col = s.col := by
  simp only [State.evt]
  split
  · rfl
  · split <;> rfl
@[simp] theorem State.evt_lhl (s : State) (f : Fld) : (s.evt f).lhl = s.lhl := by
  simp only [State.evt]
  split
  · rfl
  · split <;> rfl
@[simp] theorem State.evt_mlr (s : State) (f : Fld) : (s.evt f).mlr = s.mlr := by
  simp only [State.evt]
  split
  · rfl
  · split <;> rfl
@[simp] theorem State.evt_cmp (s : State) (f : Fld) : (s.evt f).cmp = s.cmp := by
  simp only [State.evt]
  split
  · rfl
  · split <;> rfl
@[simp] theorem State.evt_cry (s : State) (f : Fld) : (s.evt f).cry = s.cry := by
  simp only [State.evt]
  split
  · rfl
  · split <;> rfl
@[simp] theorem State.evt_time (s : State) (f : Fld) : (s.evt f).time = s.time := by
  simp only [State.evt]
  split
  · rfl
  · split <;> rfl
@[simp] theorem State.evt_slu (s : State) (f : Fld) : (s.evt f).slu = s.slu := by
  simp only [State.evt]
  split
  · rfl
  · split <;> rfl
@[simp] theorem State.evt_lit (s : State) (f : Fld) : (s.evt f).lit = s.lit := by
  simp only [State.evt]
  split
  · rfl
  · split <;> rfl
@[simp] theorem State.evt_opt (s : State) (f : Fld) : (s.evt f).opt = s.opt := by
  simp only [State.evt]
  split
  · rfl
  · split <;> rfl
@[simp] theorem State.evtEnd_pending (s : State) (f : Fld) : (s.evtEnd f).pending = s.pending := by
  simp only [State.evtEnd]
  split <;> rfl
@[simp] theorem State.evtEnd_heldLo (s : State) (f : Fld) : (s.evtEnd f).heldLo = s.heldLo := by
  simp only [State.evtEnd]
  split <;> rfl
@[simp] theorem State.evtEnd_posted (s : State) (f : Fld) : (s.evtEnd f).posted = s.posted := by
  simp only [State.evtEnd]
  split <;> rfl
@[simp] theorem State.evtEnd_mem (s : State) (f : Fld) : (s.evtEnd f).mem = s.mem := by
  simp only [State.evtEnd]
  split <;> rfl
@[simp] theorem State.evtEnd_poison (s : State) (f : Fld) : (s.evtEnd f).poison = s.poison := by
  simp only [State.evtEnd]
  split <;> rfl
@[simp] theorem State.evtEnd_stackPoison (s : State) (f : Fld) : (s.evtEnd f).stackPoison = s.stackPoison := by
  simp only [State.evtEnd]
  split <;> rfl
@[simp] theorem State.evtEnd_cleaned (s : State) (f : Fld) : (s.evtEnd f).cleaned = s.cleaned := by
  simp only [State.evtEnd]
  split <;> rfl
@[simp] theorem State.evtEnd_freeCount (s : State) (f : Fld) : (s.evtEnd f).freeCount = s.freeCount := by
  simp only [State.evtEnd]
  split <;> rfl
@[simp] theorem State.evtEnd_flt (s : State) (f : Fld) : (s.evtEnd f).flt = s.flt := by
  simp only [State.evtEnd]
  split <;> rfl
@[simp] theorem State.evtEnd_pwr (s : State) (f : Fld) : (s.evtEnd f).pwr = s.pwr := by
  simp only [State.evtEnd]
  split <;> rfl
@[simp] theorem State.evtEnd_pcie (s : State) (f : Fld) : (s.evtEnd f).pcie = s.pcie := by
  simp only [State.evtEnd]
  split <;> rfl
@[simp] theorem State.evtEnd_links (s : State) (f : Fld) : (s.evtEnd f).links = s.links := by
  simp only [State.evtEnd]
  split <;> rfl
@[simp] theorem State.evtEnd_otp (s : State) (f : Fld) : (s.evtEnd f).otp = s.otp := by
  simp only [State.evtEnd]
  split <;> rfl
@[simp] theorem State.evtEnd_boot (s : State) (f : Fld) : (s.evtEnd f).boot = s.boot := by
  simp only [State.evtEnd]
  split <;> rfl
@[simp] theorem State.evtEnd_gen (s : State) (f : Fld) : (s.evtEnd f).gen = s.gen := by
  simp only [State.evtEnd]
  split <;> rfl
@[simp] theorem State.evtEnd_qrn (s : State) (f : Fld) : (s.evtEnd f).qrn = s.qrn := by
  simp only [State.evtEnd]
  split <;> rfl
@[simp] theorem State.evtEnd_sched (s : State) (f : Fld) : (s.evtEnd f).sched = s.sched := by
  simp only [State.evtEnd]
  split <;> rfl
@[simp] theorem State.evtEnd_red (s : State) (f : Fld) : (s.evtEnd f).red = s.red := by
  simp only [State.evtEnd]
  split <;> rfl
@[simp] theorem State.evtEnd_step (s : State) (f : Fld) : (s.evtEnd f).step = s.step := by
  simp only [State.evtEnd]
  split <;> rfl
@[simp] theorem State.evtEnd_img (s : State) (f : Fld) : (s.evtEnd f).img = s.img := by
  simp only [State.evtEnd]
  split <;> rfl
@[simp] theorem State.evtEnd_mbr (s : State) (f : Fld) : (s.evtEnd f).mbr = s.mbr := by
  simp only [State.evtEnd]
  split <;> rfl
@[simp] theorem State.evtEnd_pond (s : State) (f : Fld) : (s.evtEnd f).pond = s.pond := by
  simp only [State.evtEnd]
  split <;> rfl
@[simp] theorem State.evtEnd_hop (s : State) (f : Fld) : (s.evtEnd f).hop = s.hop := by
  simp only [State.evtEnd]
  split <;> rfl
@[simp] theorem State.evtEnd_out (s : State) (f : Fld) : (s.evtEnd f).out = s.out := by
  simp only [State.evtEnd]
  split <;> rfl
@[simp] theorem State.evtEnd_fab (s : State) (f : Fld) : (s.evtEnd f).fab = s.fab := by
  simp only [State.evtEnd]
  split <;> rfl
@[simp] theorem State.evtEnd_late (s : State) (f : Fld) : (s.evtEnd f).late = s.late := by
  simp only [State.evtEnd]
  split <;> rfl
@[simp] theorem State.evtEnd_col (s : State) (f : Fld) : (s.evtEnd f).col = s.col := by
  simp only [State.evtEnd]
  split <;> rfl
@[simp] theorem State.evtEnd_lhl (s : State) (f : Fld) : (s.evtEnd f).lhl = s.lhl := by
  simp only [State.evtEnd]
  split <;> rfl
@[simp] theorem State.evtEnd_mlr (s : State) (f : Fld) : (s.evtEnd f).mlr = s.mlr := by
  simp only [State.evtEnd]
  split <;> rfl
@[simp] theorem State.evtEnd_cmp (s : State) (f : Fld) : (s.evtEnd f).cmp = s.cmp := by
  simp only [State.evtEnd]
  split <;> rfl
@[simp] theorem State.evtEnd_cry (s : State) (f : Fld) : (s.evtEnd f).cry = s.cry := by
  simp only [State.evtEnd]
  split <;> rfl
@[simp] theorem State.evtEnd_time (s : State) (f : Fld) : (s.evtEnd f).time = s.time := by
  simp only [State.evtEnd]
  split <;> rfl
@[simp] theorem State.evtEnd_slu (s : State) (f : Fld) : (s.evtEnd f).slu = s.slu := by
  simp only [State.evtEnd]
  split <;> rfl
@[simp] theorem State.evtEnd_lit (s : State) (f : Fld) : (s.evtEnd f).lit = s.lit := by
  simp only [State.evtEnd]
  split <;> rfl
@[simp] theorem State.evtEnd_opt (s : State) (f : Fld) : (s.evtEnd f).opt = s.opt := by
  simp only [State.evtEnd]
  split <;> rfl

/-! Reading a field after writes. -/

/-- Two fields that no index brings together: they stand at different offsets or bits. -/
def Fld.apart (f g : Fld) : Bool :=
  decide (f.lo < 32) && decide (g.lo < 32) && decide (f.base < 2 ^ 25) && decide (g.base < 2 ^ 25) &&
    !(f.base == g.base && f.lo == g.lo)

theorem Fld.apart_key {f g : Fld} (h : f.apart g = true) : f.key ≠ g.key := by
  simp only [Fld.apart, Bool.and_eq_true, decide_eq_true_eq, Bool.not_eq_true', Bool.and_eq_false_iff,
    beq_eq_false_iff_ne] at h
  obtain ⟨⟨⟨⟨h1, h2⟩, h3⟩, h4⟩, h5⟩ := h
  simp only [Fld.key]
  rcases h5 with h5 | h5 <;> omega

/-- The register file after a write is sorted when it was. -/
theorem State.sorted_set (s : State) (f : Fld) (v : Nat) (hs : Tab.sorted s.regs = true) :
    Tab.sorted (s.set f v).regs = true := by
  simp only [State.set]
  split
  · exact Tab.sorted_erase _ _ hs
  · exact Tab.sorted_insert _ _ _ hs

/-- A write of one field leaves the others. -/
theorem State.get_set_other (s : State) (f g : Fld) (v : Nat) (h : f.key ≠ g.key) : (s.set f v).get g = s.get g := by
  simp only [State.get, State.set]
  split
  · rw [Tab.find_erase_ne _ _ _ h]
  · rw [Tab.find_insert_ne _ _ _ _ h]

theorem State.get_set_apart (s : State) (f g : Fld) (v : Nat) (h : f.apart g = true) : (s.set f v).get g = s.get g :=
  State.get_set_other s f g v (Fld.apart_key h)

/-- A field reads back what was written, cut to its width. -/
theorem State.get_set_self (s : State) (f : Fld) (v : Nat) :
    (s.set f v).get f = v % 2 ^ f.width := by
  simp only [State.set, State.get]
  split
  · rename_i h; rw [Tab.find_erase_same, h]; rfl
  · simp

theorem State.get_put_apart (s : State) (f g : Fld) (b : Bool) (h : f.apart g = true) : (s.put f b).get g = s.get g :=
  State.get_set_apart s f g _ h

theorem State.get_bump_apart (s : State) (f g : Fld) (k : Nat) (h : f.apart g = true) : (s.bump f k).get g = s.get g :=
  State.get_set_apart s f g _ h

theorem State.get_setBit_apart (s : State) (f g : Fld) (n : Nat) (b : Bool) (h : f.apart g = true) :
    (s.setBit f n b).get g = s.get g := State.get_set_apart s f g _ h

theorem State.get_setAll_apart (s : State) (l : List (Fld × Nat)) (g : Fld) (h : l.all (fun x => x.1.apart g) = true) :
    (s.setAll l).get g = s.get g := by
  induction l generalizing s with
  | nil => rfl
  | cons x l ih =>
    simp only [List.all_cons, Bool.and_eq_true] at h
    exact (ih _ h.2).trans (State.get_set_apart s x.1 g x.2 h.1)

theorem State.sorted_setAll (s : State) (l : List (Fld × Nat)) (hs : Tab.sorted s.regs = true) :
    Tab.sorted (s.setAll l).regs = true := by
  induction l generalizing s with
  | nil => exact hs
  | cons x l ih => exact ih _ (State.sorted_set s x.1 x.2 hs)

theorem State.get_evt_apart (s : State) (f g : Fld) (h : f.apart g = true) (h24 : f.seqOf.apart g = true) :
    (s.evt f).get g = s.get g := by
  simp only [State.evt]
  split
  · rfl
  · have k : ((({ s with causes := s.causes.add f.key } : State).set f 1).set f.seqOf
        ((({ s with causes := s.causes.add f.key } : State).set f 1).get f.seqOf + 1)).get g = s.get g :=
      (State.get_set_apart _ _ _ _ h24).trans (State.get_set_apart _ _ _ _ h)
    split <;> exact k

theorem State.sorted_evt (s : State) (f : Fld) (hs : Tab.sorted s.regs = true) : Tab.sorted (s.evt f).regs = true := by
  simp only [State.evt]
  split
  · exact hs
  · have k := State.sorted_set _ f.seqOf ((({ s with causes := s.causes.add f.key } : State).set f 1).get f.seqOf + 1)
      (State.sorted_set { s with causes := s.causes.add f.key } f 1 hs)
    split <;> exact k

/-- A cause that arises is held. -/
theorem State.evt_held (s : State) (f : Fld) : (s.evt f).causes.has f.key = true := by
  simp only [State.evt]
  split
  · assumption
  · have k : Marks.has (s.causes.add f.key) f.key = true := by
      simp only [Marks.has, Marks.add, Tab.find_insert_same, Option.isSome_some]
    split <;> exact k

/-! Memory operations keep the canonical form. -/

/-- Every list of states' tables that is canonical has a sorted register file. -/
theorem State.canonical_regs {s : State} (h : s.canonical = true) : Tab.sorted s.regs = true := by
  simp only [State.canonical, Bool.and_eq_true] at h
  exact h.1.1.1.1.1.1.1

/-- and a canonical memory. -/
theorem State.canonical_mem {s : State} (h : s.canonical = true) : Memory.wf s.mem = true := by
  simp only [State.canonical, Bool.and_eq_true] at h
  exact h.1.1.1.1.2

end Sys2Proof.Machine
end

