-- ==== Sys2Proof/Laws/Shared.lean ====
section
/-! SUPPORT. Spec lemmas of the shared operations: what a fault report leaves as the newest record, what a host write
does when it acts, when FATAL or a stage ignores it and when PEND discards it. -/

namespace Sys2Proof.Machine

/-- A register field apart from everything an operation touches. -/
theorem State.sorted_of {m : Nat} {s t : State} (h : Reach m s t) (hs : s.canonical = true) : Tab.sorted t.regs = true :=
  State.canonical_regs (h.canon hs)

/-- A host write that acts. -/
theorem State.hostWrite_takes (s : State) (block : Nat) (f : State → State) (always unposted : Bool)
    (h : s.takesWrite block always = true) : s.hostWrite block f always unposted = f s := by
  simp only [State.takesWrite, Bool.and_eq_true, Bool.or_eq_true, Bool.not_eq_true'] at h
  obtain ⟨⟨⟨h1, h2⟩, h3⟩, h4⟩ := h
  have e1 : (s.fatal && !always) = false := by rcases h1 with h1 | h1 <;> simp [h1]
  have e2 : (block != 0 && !unposted && (s.flag (pendFld block) || s.forcedAt 0xFF (locChip 0x18))) = false := by
    rcases h4 with h4 | h4 <;> simp [h3, h4, bne]
  simp [State.hostWrite, e1, h2, e2]

theorem State.hostWrite_act (s : State) (block : Nat) (f : State → State)
    (h : s.takesWrite block = true) : s.hostWrite block f = f s := State.hostWrite_takes s block f false false h

/-- A host write that PEND discards (R404). -/
theorem State.hostWrite_pending (s : State) (block : Nat) (f : State → State) (hf : s.fatal = false)
    (ha : s.answers block = true) (hp : s.flag (pendFld block) = true) (hb : block ≠ 0) :
    s.hostWrite block f = s.dropWrite := by
  simp [State.hostWrite, hf, ha, hp, hb]

/-- The record that a fault report makes is the newest. -/
theorem State.raise_newest (s : State) (source : Nat) (cls : FClass) (loc desc info info2 : Nat) (r f : Bool) :
    (s.raise source cls loc desc info info2 r f).newest = some (source, cls, loc) := by
  have keep : ∀ (u v : State), v.flt.ring = u.flt.ring → v.newest = u.newest := by
    intro u v h
    simp only [State.newest, h]
  have hb : ∀ (u : State) (g : Fld) (k : Nat), (u.bump g k).flt.ring = u.flt.ring := fun _ _ _ => rfl
  have hc : ∀ (u : State) (lvl : Nat) (c : FClass), (u.countLevel lvl c).flt.ring = u.flt.ring := by
    intro u lvl c
    cases c <;> rfl
  have hj : ∀ (u : State) (x : FaultRec) (b : Bool), (u.journalRecord x b).flt.ring = u.flt.ring := by
    intro u x b
    unfold State.journalRecord
    split
    · rfl
    · split <;> rfl
  have he : ∀ (u : State) (g : Fld), (u.evt g).flt.ring = u.flt.ring := by
    intro u g
    unfold State.evt
    split
    · rfl
    · dsimp only
      split <;> rfl
  have hr : ∀ (u : State) (x : FaultRec), (u.react x).flt.ring = u.flt.ring := by
    intro u x
    unfold State.react
    split
    · dsimp only
      split
      · exact he _ _
      · exact he _ _
    · dsimp only
      split
      · exact he _ _
      · exact he _ _
    · exact he _ _
  refine (keep _ _ ((hr _ _).trans ((hj _ _ _).trans (hc _ _ _)))).trans ?_
  rfl

/-! The canonical form through the shared updates, and what a field reads as after them. -/

theorem State.canonical_set (s : State) (f : Fld) (v : Nat) (h : s.canonical = true) : (s.set f v).canonical = true := by
  simp only [State.canonical, Bool.and_eq_true] at h ⊢
  obtain ⟨⟨⟨⟨⟨⟨⟨c1, c2⟩, c3⟩, c4⟩, c5⟩, c6⟩, c7⟩, c8⟩ := h
  exact ⟨⟨⟨⟨⟨⟨⟨State.set_sorted s f v c1, c2⟩, c3⟩, c4⟩, c5⟩, c6⟩, c7⟩, c8⟩

theorem State.canonical_setAll (s : State) (l : List (Fld × Nat)) (h : s.canonical = true) : (s.setAll l).canonical = true := by
  induction l generalizing s with
  | nil => exact h
  | cons x l ih => exact ih _ (State.canonical_set _ _ _ h)

theorem State.canonical_clearAll (s : State) (l : List Fld) (h : s.canonical = true) : (s.clearAll l).canonical = true := by
  induction l generalizing s with
  | nil => exact h
  | cons x l ih => exact ih _ (State.canonical_set _ _ _ h)

theorem State.canonical_causes (s : State) (x : Marks) (hx : Tab.sorted s.causes = true → Tab.sorted x = true) (h : s.canonical = true) :
    ({ s with causes := x } : State).canonical = true := by
  simp only [State.canonical, Bool.and_eq_true] at h ⊢
  obtain ⟨⟨⟨⟨⟨⟨⟨c1, c2⟩, c3⟩, c4⟩, c5⟩, c6⟩, c7⟩, c8⟩ := h
  exact ⟨⟨⟨⟨⟨⟨⟨c1, hx c2⟩, c3⟩, c4⟩, c5⟩, c6⟩, c7⟩, c8⟩

theorem State.canonical_evt (s : State) (f : Fld) (h : s.canonical = true) : (s.evt f).canonical = true := by
  unfold State.evt
  split
  · exact h
  · dsimp only
    have k : (({ s with causes := s.causes.add f.key }.set f 1).set f.seqOf (({ s with causes := s.causes.add f.key }.set f 1).get f.seqOf + 1)).canonical = true :=
      State.canonical_set _ _ _ (State.canonical_set _ _ _ (State.canonical_causes _ _ (Tab.sorted_insert _ _ _) h))
    split <;> exact k

theorem State.canonical_evtEnd (s : State) (f : Fld) (h : s.canonical = true) : (s.evtEnd f).canonical = true := by
  unfold State.evtEnd
  have k := State.canonical_causes s _ (Tab.sorted_erase _ f.key) h
  dsimp only
  split
  · exact k
  · exact State.canonical_set _ _ _ k

theorem State.canonical_evtIs (s : State) (f : Fld) (b : Bool) (h : s.canonical = true) : (s.evtIs f b).canonical = true := by
  unfold State.evtIs
  split
  · exact State.canonical_evt _ _ h
  · exact State.canonical_evtEnd _ _ h

theorem State.canonical_evtOf (s : State) (f : Fld) (n : Nat) (h : s.canonical = true) : (s.evtOf f n).canonical = true := by
  unfold State.evtOf
  split
  · exact h
  · dsimp only
    have k : (({ s with causes := s.causes.add (f.inst n) }.set f 1).set f.seqOf (({ s with causes := s.causes.add (f.inst n) }.set f 1).get f.seqOf + 1)).canonical = true :=
      State.canonical_set _ _ _ (State.canonical_set _ _ _ (State.canonical_causes _ _ (Tab.sorted_insert _ _ _) h))
    split <;> exact k

theorem State.canonical_evtEndOf (s : State) (f : Fld) (n : Nat) (h : s.canonical = true) : (s.evtEndOf f n).canonical = true := by
  unfold State.evtEndOf
  have k := State.canonical_causes s _ (Tab.sorted_erase _ (f.inst n)) h
  dsimp only
  split
  · exact k
  · exact State.canonical_set _ _ _ k

theorem State.canonical_ite (c : Prop) [Decidable c] (a b : State) (ha : a.canonical = true) (hb : b.canonical = true) :
    (if c then a else b).canonical = true := by split; exact ha; exact hb

theorem State.get_evtEnd_apart (s : State) (f g : Fld) (h : f.apart g = true) : (s.evtEnd f).get g = s.get g := by
  unfold State.evtEnd
  dsimp only
  split
  · rfl
  · exact State.get_set_apart _ _ _ _ h

theorem State.get_evtIs_apart (s : State) (f g : Fld) (b : Bool) (h : f.apart g = true) (h24 : f.seqOf.apart g = true) :
    (s.evtIs f b).get g = s.get g := by
  unfold State.evtIs
  split
  · exact State.get_evt_apart _ _ _ h h24
  · exact State.get_evtEnd_apart _ _ _ h

theorem State.get_evtOf_apart (s : State) (f g : Fld) (n : Nat) (h : f.apart g = true) (h24 : f.seqOf.apart g = true) :
    (s.evtOf f n).get g = s.get g := by
  unfold State.evtOf
  split
  · rfl
  · dsimp only
    have k : ((({ s with causes := s.causes.add (f.inst n) } : State).set f 1).set f.seqOf
        ((({ s with causes := s.causes.add (f.inst n) } : State).set f 1).get f.seqOf + 1)).get g = s.get g :=
      (State.get_set_apart _ _ _ _ h24).trans (State.get_set_apart _ _ _ _ h)
    split <;> exact k

theorem State.get_evtEndOf_apart (s : State) (f g : Fld) (n : Nat) (h : f.apart g = true) : (s.evtEndOf f n).get g = s.get g := by
  unfold State.evtEndOf
  dsimp only
  split
  · rfl
  · exact State.get_set_apart _ _ _ _ h

theorem State.get_clearAll_apart (s : State) (l : List Fld) (g : Fld) (h : l.all (fun x => x.apart g) = true) :
    (s.clearAll l).get g = s.get g := by
  induction l generalizing s with
  | nil => rfl
  | cons x l ih =>
    simp only [List.all_cons, Bool.and_eq_true] at h
    exact (ih _ h.2).trans (State.get_set_apart s x g _ h.1)

theorem get_of_regs {s t : State} (h : t.regs = s.regs) (f : Fld) : t.get f = s.get f := by simp only [State.get, h]

theorem State.get_ite (c : Prop) [Decidable c] (a b : State) (f : Fld) : (if c then a else b).get f = if c then a.get f else b.get f := by
  split <;> rfl
theorem State.canonical_foldl {β : Type} (f : State → β → State) (b : State) (l : List β) (h : b.canonical = true)
    (hf : ∀ u x, u.canonical = true → (f u x).canonical = true) : (List.foldl f b l).canonical = true := by
  induction l generalizing b with
  | nil => exact h
  | cons x l ih => exact ih _ (hf _ _ h)
theorem fold_keep {β γ : Type} (g : State → γ) (f : State → β → State) (b : State) (l : List β)
    (hf : ∀ u x, g (f u x) = g u) : g (List.foldl f b l) = g b := by
  induction l generalizing b with
  | nil => rfl
  | cons x l ih => exact (ih _).trans (hf _ _)

/-- The fields that a fault report may write. -/
def raiseFlds : List Fld :=
  [F.FLT_FORCE_ARMED_ARMED, F.FLT_LOG_HEAD_RSEQ, F.FLT_LOG_HEAD_INDEX, F.FLT_LVL_CNT_CE, F.FLT_LVL_CNT_UC,
    F.PST_STAT_JRN_QUEUED, F.FLT_STAT_JRN_DROP, F.FLT_EVT_CE, F.FLT_EVT_CE.seqOf, F.FLT_EVT_UC, F.FLT_EVT_UC.seqOf,
    F.FLT_EVT_FATAL, F.FLT_EVT_FATAL.seqOf, F.FLT_STAT_ERRN_LOW]

/-- A field that a fault report does not write reads as before. -/
theorem State.get_raise_apart (s : State) (source : Nat) (cls : FClass) (loc desc info info2 : Nat) (r f : Bool) (g : Fld)
    (h : raiseFlds.all (fun x => x.apart g) = true) :
    (s.raise source cls loc desc info info2 r f).get g = s.get g := by
  simp only [raiseFlds, List.all_cons, List.all_nil, Bool.and_eq_true, and_true] at h
  obtain ⟨a1, a2, a3, a4, a5, a6, a7, a8, a9, a10, a11, a12, a13, a14⟩ := h
  have hd : ∀ u : State, (u.disarm source).get g = u.get g := fun u => by
    unfold State.disarm
    exact State.get_setBit_apart _ (F.FLT_FORCE_ARMED_ARMED.ix (source / 32)) g _ _ a1
  have hc : ∀ (u : State) (lvl : Nat) (c : FClass), (u.countLevel lvl c).get g = u.get g := by
    intro u lvl c
    cases c
    · exact State.get_set_apart _ _ _ _ a4
    · exact State.get_set_apart _ _ _ _ a5
    · rfl
  have hj : ∀ (u : State) (x : FaultRec) (b : Bool), (u.journalRecord x b).get g = u.get g := by
    intro u x b
    unfold State.journalRecord
    split
    · exact (get_of_regs rfl g).trans (State.get_set_apart u F.PST_STAT_JRN_QUEUED g 1 a6)
    · split
      · exact (get_of_regs rfl g).trans (State.get_bump_apart u F.FLT_STAT_JRN_DROP g 1 a7)
      · rfl
  have ha : ∀ u : State, (u.assertErrn).get g = u.get g := fun u =>
    (get_of_regs rfl g).trans (State.get_set_apart u F.FLT_STAT_ERRN_LOW g 1 a14)
  have hr : ∀ (u : State) (x : FaultRec), (u.react x).get g = u.get g := by
    intro u x
    unfold State.react
    split
    · have k := State.get_evt_apart u _ g a8 a9
      dsimp only
      split
      · exact k
      · exact k
    · have k := State.get_evt_apart u _ g a10 a11
      dsimp only
      split
      · exact (ha _).trans k
      · exact k
    · exact (ha _).trans (State.get_evt_apart u _ g a12 a13)
  unfold State.raise
  refine (hr _ _).trans ((hj _ _ _).trans ((hc _ _ _).trans ?_))
  refine (State.get_set_apart _ _ _ _ a3).trans ((State.get_set_apart _ _ _ _ a2).trans ?_)
  by_cases hh : s.forcedAt source loc = true
  · simp only [hh, if_true]
    exact hd s
  · simp only [hh]
    rfl

end Sys2Proof.Machine
end

