-- ==== Sys2Proof/Laws/Wait.lean ====
section
/-! SUPPORT. What the serving of waiting chunks and requests does where no chunk waits: every command that frees room ends
in it. -/

namespace Sys2Proof.Machine

theorem State.elemWaits_of_noneWait {s : State} {hub : Nat} {c : Coll} {x : Elem × Nat} (h : s.noneWait)
    (hc : c ∈ s.col.colls) (hx : x ∈ c.elems.zipIdx) : s.elemWaits hub c x.2 x.1 = false :=
  h hub c hc x.2 x.1 (by simpa using List.mem_zipIdx_iff_getElem?.mp hx)

theorem State.refusedChunks_of_noneWait (s : State) (hub : Nat) (h : s.noneWait) : s.refusedChunks hub = [] := by
  unfold State.refusedChunks
  split
  · rfl
  · rw [List.flatMap_eq_nil_iff]
    intro c hc
    split
    · rfl
    · simp only [List.map_eq_nil_iff, List.filter_eq_nil_iff]
      intro x hx
      simp [State.elemWaits_of_noneWait h hc hx]

theorem State.waiters_of_noneWait (s : State) (hub : Nat) (h : s.noneWait) : s.waiters hub = [] := by
  unfold State.waiters
  rw [List.flatMap_eq_nil_iff]
  intro c hc
  split
  · rfl
  · simp only [List.map_eq_nil_iff, List.filter_eq_nil_iff]
    intro x hx
    simp [State.elemWaits_of_noneWait h hc hx]

theorem State.refuseChunks_of_noneWait (s : State) (hub n : Nat) (h : s.noneWait) : s.refuseChunks hub n = s := by
  cases n with
  | zero => rfl
  | succ n => simp [State.refuseChunks, State.refusedChunks_of_noneWait s hub h]

theorem State.giveSlots_of_noneWait (s : State) (hub n : Nat) (h : s.noneWait) : s.giveSlots hub n = s := by
  cases n with
  | zero => rfl
  | succ n =>
    have hw := State.waiters_of_noneWait s hub h
    have hg : s.giveSlot hub = none := by
      simp only [State.giveSlot, hw, List.filter_nil]
      cases s.firstSlot hub <;> rfl
    simp [State.giveSlots, hg]

/-- Where no chunk waits, what follows room that was freed serves the two requests' queues and counts the slots. -/
theorem State.giveAll_of_noneWait (s : State) (h : s.noneWait) :
    s.giveAll = ((s.serveQueue 5 2).serveQueue 11 2).countSlots := by
  simp [State.giveAll, State.refuseChunks_of_noneWait, State.giveSlots_of_noneWait, h]

/-- A queue of a pool that is empty serves nothing. -/
theorem State.serveQueue_of_nil (s : State) (n low : Nat) (h : (s.pool n).waiting = []) : s.serveQueue n low = s := by
  simp [State.serveQueue, State.serve, h]

/-- Without a chunk or a request that waits, only the counts of COL_HUB are taken anew. -/
theorem State.giveAll_idle (s : State) (h : s.noneWait) (h5 : (s.pool 5).waiting = []) (h11 : (s.pool 11).waiting = []) :
    s.giveAll = s.countSlots := by
  rw [State.giveAll_of_noneWait s h, State.serveQueue_of_nil s 5 2 h5, State.serveQueue_of_nil s 11 2 h11]

end Sys2Proof.Machine
end

