-- ==== Sys2Proof/Tests/Slice0.lean ====
section
/-! SUPPORT. The row's own tests: the smoke test of WellFormed, witnesses of the statements' hypotheses, and a few worked
examples of the spec. -/

namespace Sys2Proof.Tests

set_option Elab.async false

open Sys2Proof Sys2Proof.Machine

/-- A control block's totals (R177). -/
def totals : List Nat := List.replicate 8 0

/-- A frame's lanes: all units zero (Table LHL-1). -/
def lanes : List (List Nat) := List.replicate 8 (List.replicate 1088 0)

/-- A packet without payload (Table FAB-5). -/
def packet : Packet := ⟨0, 0, 0, 0, false, true, false, 1, 0, 0, 0, 0, 0, 0, 0, 0, [], 0, true⟩

/-- A pond message of an opcode without data, and one of a single granule (R153). -/
def headMsg (op : Nat) : List Byte := beBytes 1 op ++ List.replicate 31 0#8

/-- A pond message of one granule. -/
def granuleMsg (op : Nat) : List Byte := beBytes 1 op ++ List.replicate 291 0#8

/-- A segment request of one data block. -/
def segReq : SegReq := ⟨0, 2, false, 0, 0, 0, 0, 4096, false, 0⟩

/-! A command of every constructor that the check accepts. -/

theorem test_wf_accepts_1 :
    ([
    .powerCycle, .deviceReset, .pwrReset 0 false, .pcieReset, .pcieControllerReady, .internalResetEnd,
    .hubSelfTest [] [], .memorySelfTest [] [] [] [], .journalRestore, .baseImageVerify, .vqBelowWarning 0 0,
    .vqRecovery (List.replicate 4 0), .admitHoldRelease, .vqFloor 0 0, .vqPor 0 0, .railWarn 0 0 0,
    .vqOvervoltageWarn 0 0, .rail 0 0 0, .railRecovery 0 0 0, .temperatureSample (List.replicate 24 0),
    .errNMinLowEnd, .errnRelease, .fltForce 0 0, .fltForceClr, .fltCntClr, .regionSelfTest 0,
    .dramStackTest 0 false, .hubTestRequest, .selfTestStart, .selfTestDrainDeadline] : List Instr).all (fun c => c.wf) = true := by
  decide +kernel

theorem test_wf_accepts_2 :
    ([
    .regionSelfTestDone 0, .dramStackTestDone false, .barAccess 0 4, .linkReplay 0x30 false,
    .tempoWindow (List.replicate 64 ⟨0, 0⟩), .tile 0 [], .tileAttemptEnd 0 0 [], .tileDrain 0 0 [], .swRetire 0 0,
    .qrnBlkRestore 0 0, .spareCheck 0 false, .scbPar 0, .seqRestart 0, .flitResent .chip 0 false, .qrnCntClr 0,
    .moveLinear 0 [], .moveTwoDimensional 0 [], .moveTranspose 0 [], .moveZeroFill 0, .spinNop 0, .mov 0, .scl 0,
    .fma 0, .add 0, .mul 0, .fil 0, .ssq 0, .amax 0, .fin 0, .qmx4 0] : List Instr).all (fun c => c.wf) = true := by
  decide +kernel

theorem test_wf_accepts_3 :
    ([
    .qmx8 0, .oavg 0 0, .omom 0 0, .ones 0 0, .odir 0, .oqx 0, .oapp 0 0, .mdlt 0, .spnOpcode 0,
    .spinBatch 0 false false, .nop .chip, .syncSet .chip, .syncAdd .chip, .normInv, .recip, .mergeW,
    .finVerdict 0 0 0, .clear, .openStep, .commit, .scatterDone, .phase, .coll, .dispatch,
    .descriptorCompletion .chip 0 .none, .dlMiss .chip 0, .regionDrained 0, .seqPhaseReq 0, .phaseRefused 0,
    .seqRun 0] : List Instr).all (fun c => c.wf) = true := by
  decide +kernel

theorem test_wf_accepts_4 :
    ([
    .seqCntClr, .replicaConfirm 0 0, .replicaLost, .slotOpen 0, .slotClose 0, .slotLease 0, .bar2SlotWrite 0 [],
    .loaderDma 0, .loaderDmaDone false, .load 0 false, .abort, .imageVerified, .applying, .applied, .imgArbCommit,
    .patrolScrub 0 none false, .pndRetrain 0 false, .pndDown 0, .pondLanesLocked 0, .pondAligned 0,
    .pondIdent 0 (granuleMsg 5), .pondTrainingTimeout 0, .pondSilence 0, .pondBackoffEnd 0, .pondActiveDeadline 0,
    .rd 0 0 0 1 0, .wr 0 0 (List.replicate 256 0#8) 0, .rdc 0 (granuleMsg 3), .wra 0 (headMsg 4),
    .pondNop 0 (headMsg 0)] : List Instr).all (fun c => c.wf) = true := by
  decide +kernel

theorem test_wf_accepts_5 :
    ([
    .pondReplayTimer 0, .pondIdleNop 0, .plTimeout 0 false 0, .hopperRequest 0 0 0 false, .hopperRelease 0 0,
    .hopAudit 0, .hopAuditDone 0, .rebuild 0, .hopCntClr 0, .memCntClr, .pndCntClr 0, .clrStage,
    .fabRetrain 0 false, .fabDown 0, .fabLanesLocked 0, .fabAligned 0, .fabIdent 0 ⟨0, 0, 0, 0, 0, 0, 0, totals⟩,
    .fabSilence 0, .fabTrainingTimeout 0, .fabBackoffEnd 0, .fabActiveDeadline 0,
    .linkControlBlock 0 (List.replicate 16 0#8), .controlBlockSend 0, .packetArrival 0 packet, .packetForward 0 0,
    .hopLifeExpiry 0 0, .put (.take 0), .get (.take 0), .ctrAdd (.take 0), .putAck 0] : List Instr).all (fun c => c.wf) = true := by
  decide +kernel

theorem test_wf_accepts_6 :
    ([
    .getData 0, .ctrAck 0, .opTimeout 0 0, .contextExpiry 0 0 0, .fabCntClr, .fabPortCntClr 0, .rteSel 0,
    .rteValid 0, .rteWindowWrite false 0 0, .routesStaging, .elementNop 0 0 0, .send 0 0 0, .reduce 0 0 0,
    .bcast 0 0 0, .collect 0 0 0, .dones 0 0 0, .release 0 0 0, .tally 0 0 0, .colData 0, .colGrant 0, .colBcast 0,
    .colDone 0, .colNack 0, .colRelease 0, .colTally 0, .chunkReissue 0 0 0, .slotReclaim 0 0 0,
    .slotReclaimEnd 0 0, .lingerEnd 0 0, .earlyGrantExpiry 0 0 0] : List Instr).all (fun c => c.wf) = true := by
  decide +kernel

theorem test_wf_accepts_7 :
    ([
    .nackTimer 0 0 0, .releaseRepeat 0 0 0, .tallyRepeat 0 0 0 0 0 0, .colFlipArm, .colFlipCancel, .colCancel 0 0,
    .colCntClr, .frameTransmit 0, .frameReceive 0 lanes 0, .alignmentSighting 0 0 (List.replicate 8 0) 0,
    .candidateCheck 0 0 lanes, .preFecWindow 0, .rehunt 0, .swapArm 0, .swapCancel 0, .rxReady 0,
    .tsiWindowWrite false 0 0 0, .holdOffEnd 0 false, .wtrExpiry 0, .lhlPgCmd 0 0, .protectionSwitch 0 0,
    .lhlCntClr 0, .secondBoundary, .segmentReceive 0 0 ⟨0, 0, none, 0⟩, .stepCtl, .segmentHandoff segReq, .ack,
    .ackMap, .rawReq, .voidRange] : List Instr).all (fun c => c.wf) = true := by
  decide +kernel

theorem test_wf_accepts_8 :
    ([
    .ackTimer 0, .rtoExpiry 0 0, .voidRepeat 0, .echoTimer 0, .echoRequest, .echoReply, .mbrEpoch 0,
    .membershipNotice false, .noticeTimer 0, .noticeEntryExpiry 0, .reachTimeout 0, .partition 0, .pinComplete,
    .pinFetch 0 0, .rejoin, .mergeClose, .merge, .mergeCommit, .mbrAdmit 0 false, .heartbeatTouch, .hbLapse,
    .mlrFlowCntClr 0, .bolterTableInstall 0, .windowRead 0 0, .windowWrite 0 [] false, .entropyFail false,
    .entropyRecovery, .maskReseed 0, .cipherRequest 0, .install 0 false] : List Instr).all (fun c => c.wf) = true := by
  decide +kernel

theorem test_wf_accepts_9 :
    ([
    .advance 0, .kslotClear 0, .kslotOpen 0, .kslotLease 0, .hostRequest 0 0, .cryCntClr, .cmpCntClr, .timInc 0,
    .timSet, .timStep, .timSlew, .slewEnd, .timeStep, .timSnap, .refclkLoss, .refclkReturn, .timeUnitSync 0,
    .holdover, .ppsInEdge, .ppsInLost, .ppsOutEdge, .ppsOutEnd, .ieee1588Message, .ptpSend 0 0 false, .pop,
    .refill, .gateEntryChange 0, .gateListSwitch 0, .gateArm 0, .gateCancel 0] : List Instr).all (fun c => c.wf) = true := by
  decide +kernel

theorem test_wf_accepts_10 :
    ([
    .histogramSample, .sluHistClr, .ringSweepDone 0 0 false [], .toneWindow 0 0 false 0,
    .monitorSample 0 (List.replicate 9 ⟨0, 0, 0, 0⟩), .averagingWindow 0 (List.replicate 9 0),
    .shadowMarker 0 0 0 0 false 0, .reportUnit 0 (List.replicate 16 0#8), .laneLoss 0 0, .mirrorRelease 0,
    .calibrationTimer 0, .calNow 0, .calCancel 0, .calibrationLaneDone 0, .optCommission 0,
    .commissioningDone 0 (List.replicate 9 ⟨0, 0, 0, 0⟩), .optLaserRestore 0, .optLaserEn 0 0, .optCntClr,
    .genStatusMode 0 0, .genDigestRef 0, .digestCompute false, .tmr [], .genCntClr, .rcsWriteBack 0 0,
    .registerWrite 0 0, .postedWriteDone 0, .otpKeyWrite 0, .otpKeyRevoke 0, .writeRunning 0] : List Instr).all (fun c => c.wf) = true := by
  decide +kernel

theorem test_wf_accepts_11 :
    ([
    .activate 0, .verify 0, .writeCert 0 0, .bootStoreOpDone false, .flush, .journalSnapshot false,
    .journalEraseDone, .doeDiscovery 0, .getCerts, .getQuote (List.replicate 32 0#8), .getBody, .doeAbort,
    .attQTail 0, .quoteQueueEntry false false, .smbPart, .smbStatus, .smbTemp 0x10, .smbVq 0x30, .smbRail 0x38,
    .smbPwrStat, .smbOther 2, .pwrMinClr, .otpWriteDone false, .lineLanesLocked 0,
    .pondMessageDiscard 0 (headMsg 9), .reportsOkLapse 0, .vqOvervoltageClear 0] : List Instr).all (fun c => c.wf) = true := by
  decide +kernel

/-! An ill-formed command for every check, which the check refuses. -/

theorem test_wf_refuses_1 :
    ([
    .pwrReset 0x10000 false, .hubSelfTest [2] [], .hubSelfTest [] [⟨0x3D, 0, true⟩], .memorySelfTest [4] [] [] [],
    .memorySelfTest [] [12] [] [], .memorySelfTest [] [] [0x1000000000000] [], .memorySelfTest [] [] [] [1024],
    .vqBelowWarning 4 0, .vqBelowWarning 0 0x10000, .vqRecovery [], .vqRecovery (List.replicate 4 0x10000),
    .vqFloor 4 0, .vqFloor 0 0x10000, .vqPor 4 0, .vqPor 0 0x10000, .railWarn 8 0 0, .railWarn 0 0 0x10000,
    .railWarn 0 5 0, .railWarn 1 12 0, .railWarn 2 12 0, .railWarn 3 4 0, .railWarn 4 4 0, .railWarn 5 2 0,
    .railWarn 6 1 0, .railWarn 7 1 0, .vqOvervoltageWarn 4 0, .vqOvervoltageWarn 0 0x10000, .rail 8 0 0,
    .rail 0 0 0x10000, .rail 0 5 0] : List Instr).all (fun c => !c.wf) = true := by
  decide +kernel

theorem test_wf_refuses_2 :
    ([
    .rail 1 12 0, .rail 2 12 0, .rail 3 4 0, .rail 4 4 0, .rail 5 2 0, .rail 6 1 0, .rail 7 1 0,
    .railRecovery 8 0 0, .railRecovery 0 0 0x10000, .railRecovery 0 5 0, .railRecovery 1 12 0,
    .railRecovery 2 12 0, .railRecovery 3 4 0, .railRecovery 4 4 0, .railRecovery 5 2 0, .railRecovery 6 1 0,
    .railRecovery 7 1 0, .temperatureSample [], .temperatureSample (List.replicate 24 32768),
    .temperatureSample (List.replicate 24 (-32769)), .fltForce 8 0, .fltForce 0 0x100000000, .regionSelfTest 64,
    .dramStackTest 12 false, .regionSelfTestDone 0x10000, .barAccess 0x4000000 4, .barAccess 0 0x0,
    .barAccess 0 0x1001, .linkReplay 0x2F false, .linkReplay 0x3D false] : List Instr).all (fun c => !c.wf) = true := by
  decide +kernel

theorem test_wf_refuses_3 :
    ([
    .linkReplay 0x3F false, .linkReplay 0x44 false, .linkReplay 0x47 false, .linkReplay 0x54 false,
    .tempoWindow [], .tempoWindow (List.replicate 64 ⟨0x100000000, 0⟩), .tempoWindow (List.replicate 64 ⟨0, 257⟩),
    .tile 64 [], .tile 0 [⟨0x1000000000000, true⟩], .tileAttemptEnd 64 0 [], .tileAttemptEnd 0 32 [],
    .tileAttemptEnd 0 0 [⟨16, 0, 0, 0⟩], .tileAttemptEnd 0 0 [⟨0, 256, 0, 0⟩], .tileAttemptEnd 0 0 [⟨0, 0, 64, 0⟩],
    .tileAttemptEnd 0 0 [⟨0, 0, 0, 64⟩], .tileDrain 64 0 [], .tileDrain 0 32 [],
    .tileDrain 0 0 [⟨0x1000000000000, true⟩], .swRetire 64 0, .swRetire 0 0x10000, .qrnBlkRestore 64 0,
    .qrnBlkRestore 0 0x10000, .spareCheck 64 false, .scbPar 64, .seqRestart 64, .flitResent (.tile 64) 0 false,
    .flitResent (.move 64) 0 false, .flitResent (.spin 64) 0 false, .flitResent (.ctrl 64) 0 false, .qrnCntClr 64] : List Instr).all (fun c => !c.wf) = true := by
  decide +kernel

theorem test_wf_refuses_4 :
    ([
    .moveLinear 64 [], .moveLinear 0 [⟨0x1000000000000, true⟩], .moveTwoDimensional 64 [],
    .moveTwoDimensional 0 [⟨0x1000000000000, true⟩], .moveTranspose 64 [],
    .moveTranspose 0 [⟨0x1000000000000, true⟩], .moveZeroFill 64, .spinNop 64, .mov 64, .scl 64, .fma 64, .add 64,
    .mul 64, .fil 64, .ssq 64, .amax 64, .fin 64, .qmx4 64, .qmx8 64, .oavg 64 0, .oavg 0 0x100000, .omom 64 0,
    .omom 0 0x100000, .ones 64 0, .ones 0 0x100000, .odir 64, .oqx 64, .oapp 64 0, .oapp 0 0x100000, .mdlt 64] : List Instr).all (fun c => !c.wf) = true := by
  decide +kernel

theorem test_wf_refuses_5 :
    ([
    .spnOpcode 64, .spinBatch 64 false false, .nop (.tile 64), .nop (.move 64), .nop (.spin 64), .nop (.ctrl 64),
    .syncSet (.tile 64), .syncSet (.move 64), .syncSet (.spin 64), .syncSet (.ctrl 64), .syncAdd (.tile 64),
    .syncAdd (.move 64), .syncAdd (.spin 64), .syncAdd (.ctrl 64), .finVerdict 0x100000 0 0, .finVerdict 0 0x9 0,
    .finVerdict 0 0 0x4, .descriptorCompletion (.tile 64) 0 .none, .descriptorCompletion (.move 64) 0 .none,
    .descriptorCompletion (.spin 64) 0 .none, .descriptorCompletion (.ctrl 64) 0 .none, .dlMiss (.tile 64) 0,
    .dlMiss (.move 64) 0, .dlMiss (.spin 64) 0, .dlMiss (.ctrl 64) 0, .regionDrained 64, .seqPhaseReq 0x8,
    .phaseRefused 64, .seqRun 0x100, .replicaConfirm 0x10000000000000000 0] : List Instr).all (fun c => !c.wf) = true := by
  decide +kernel

theorem test_wf_refuses_6 :
    ([
    .replicaConfirm 0 0x100, .slotOpen 0x10, .slotClose 0x10, .slotLease 4, .bar2SlotWrite 0x10000001 [],
    .loaderDma 4, .load 4 false, .patrolScrub 0x1000000000000 none false, .pndRetrain 4 false, .pndDown 4,
    .pondLanesLocked 4, .pondAligned 4, .pondIdent 4 (granuleMsg 5), .pondIdent 0 [],
    .pondIdent 0 (List.replicate 33 0#8), .pondIdent 0 (beBytes 1 3 ++ List.replicate 31 0#8),
    .pondIdent 0 (beBytes 1 2 ++ beBytes 1 1 ++ List.replicate 290 0#8), .pondIdent 0 (headMsg 7),
    .pondTrainingTimeout 4, .pondSilence 4, .pondBackoffEnd 4, .pondActiveDeadline 4, .rd 4 0 0 1 0,
    .rd 0 0x1000 0 1 0, .rd 0 0 0x1000000000000 1 0, .rd 0 0 0 0x0 0, .rd 0 0 0 0x41 0,
    .rd 0 0 0 1 0x1000000000000, .wr 4 0 (List.replicate 256 0#8) 0,
    .wr 0 0x1000000000000 (List.replicate 256 0#8) 0] : List Instr).all (fun c => !c.wf) = true := by
  decide +kernel

theorem test_wf_refuses_7 :
    ([
    .wr 0 0 [] 0, .wr 0 0 (List.replicate 16640 0#8) 0, .wr 0 0 (List.replicate 255 0#8) 0,
    .wr 0 0 (List.replicate 256 0#8) 0x10000000000000000, .rdc 4 (granuleMsg 3), .rdc 0 [],
    .rdc 0 (List.replicate 33 0#8), .rdc 0 (beBytes 1 3 ++ List.replicate 31 0#8),
    .rdc 0 (beBytes 1 2 ++ beBytes 1 1 ++ List.replicate 290 0#8), .rdc 0 (headMsg 7), .wra 4 (headMsg 4),
    .wra 0 [], .wra 0 (List.replicate 33 0#8), .wra 0 (beBytes 1 3 ++ List.replicate 31 0#8),
    .wra 0 (beBytes 1 2 ++ beBytes 1 1 ++ List.replicate 290 0#8), .wra 0 (headMsg 7), .pondNop 4 (headMsg 0),
    .pondNop 0 [], .pondNop 0 (List.replicate 33 0#8), .pondNop 0 (beBytes 1 3 ++ List.replicate 31 0#8),
    .pondNop 0 (beBytes 1 2 ++ beBytes 1 1 ++ List.replicate 290 0#8), .pondNop 0 (headMsg 7), .pondReplayTimer 4,
    .pondIdleNop 4, .plTimeout 4 false 0, .plTimeout 0 false 0x1000, .hopperRequest 2 0 0 false,
    .hopperRequest 0 16 0 false, .hopperRequest 0 0 0x100000000 false, .hopperRelease 16 0] : List Instr).all (fun c => !c.wf) = true := by
  decide +kernel

theorem test_wf_refuses_8 :
    ([
    .hopperRelease 0 0x100000000, .hopAudit 12, .hopAuditDone 12, .rebuild 12, .hopCntClr 12, .pndCntClr 4,
    .fabRetrain 16 false, .fabDown 16, .fabLanesLocked 16, .fabAligned 16,
    .fabIdent 16 ⟨0, 0, 0, 0, 0, 0, 0, totals⟩, .fabIdent 0 ⟨0x10000, 0, 0, 0, 0, 0, 0, totals⟩,
    .fabIdent 0 ⟨0, 0x100000, 0, 0, 0, 0, 0, totals⟩, .fabIdent 0 ⟨0, 0, 0x4, 0, 0, 0, 0, totals⟩,
    .fabIdent 0 ⟨0, 0, 0, 0x8, 0, 0, 0, totals⟩, .fabIdent 0 ⟨0, 0, 0, 0, 0x100, 0, 0, totals⟩,
    .fabIdent 0 ⟨0, 0, 0, 0, 0, 0x100, 0, totals⟩, .fabIdent 0 ⟨0, 0, 0, 0, 0, 0, 0x100, totals⟩,
    .fabIdent 0 ⟨0, 0, 0, 0, 0, 0, 0, []⟩, .fabIdent 0 ⟨0, 0, 0, 0, 0, 0, 0, List.replicate 8 0x10000⟩,
    .fabSilence 16, .fabTrainingTimeout 16, .fabBackoffEnd 16, .fabActiveDeadline 16,
    .linkControlBlock 16 (List.replicate 16 0#8), .linkControlBlock 0 [], .controlBlockSend 16,
    .packetArrival 16 packet, .packetArrival 0 ({ packet with cls := 4 }),
    .packetArrival 0 ({ packet with dl := 2 })] : List Instr).all (fun c => !c.wf) = true := by
  decide +kernel

theorem test_wf_refuses_9 :
    ([
    .packetArrival 0 ({ packet with repoch := 2 }), .packetArrival 0 ({ packet with ver := 16 }),
    .packetArrival 0 ({ packet with opcode := 256 }), .packetArrival 0 ({ packet with hops := 256 }),
    .packetArrival 0 ({ packet with mepoch := 0x100000000 }), .packetArrival 0 ({ packet with dst := 0x1000000 }),
    .packetArrival 0 ({ packet with src := 0x1000000 }), .packetArrival 0 ({ packet with len := 0x10000 }),
    .packetArrival 0 ({ packet with opId := 0x100000000 }),
    .packetArrival 0 ({ packet with addr := 0x1000000000000 }), .packetArrival 0 ({ packet with pkt := 0x10000 }),
    .packetArrival 0 ({ packet with pcrc := 0x100000000 }), .packetArrival 0 ({ packet with len := 4 }),
    .packetArrival 0 ({ packet with len := 2, data := List.replicate 2 0#8 }),
    .packetArrival 0 ({ packet with len := 4100, data := List.replicate 4100 0#8 }),
    .packetArrival 0 ({ packet with opcode := 3, len := 4, data := List.replicate 4 0#8 }), .packetForward 18 0,
    .packetForward 0 8, .hopLifeExpiry 18 0, .hopLifeExpiry 0 8, .put (.take 2),
    .put (.issue ⟨2, false, 0, 0, 0, 4, 0, 0, none, 0⟩),
    .put (.issue ⟨0, false, 0x100000, 0, 0, 4, 0, 0, none, 0⟩),
    .put (.issue ⟨0, false, 0, 0x1000000000000, 0, 4, 0, 0, none, 0⟩),
    .put (.issue ⟨0, false, 0, 0, 0x1000000000000, 4, 0, 0, none, 0⟩),
    .put (.issue ⟨0, false, 0, 0, 0, 0, 0, 0, none, 0⟩), .put (.issue ⟨0, false, 0, 0, 0, 6, 0, 0, none, 0⟩),
    .put (.issue ⟨0, false, 0, 0, 0, 0x10000004, 0, 0, none, 0⟩),
    .put (.issue ⟨0, false, 0, 0, 0, 4, 0x100000000, 0, none, 0⟩),
    .put (.issue ⟨0, false, 0, 0, 0, 4, 0, 0x100000000, none, 0⟩)] : List Instr).all (fun c => !c.wf) = true := by
  decide +kernel

theorem test_wf_refuses_10 :
    ([
    .put (.issue ⟨0, false, 0, 0, 0, 4, 0, 0, some 0x1000, 0⟩),
    .put (.issue ⟨0, false, 0, 0, 0, 4, 0, 0, none, 0x100000000⟩), .get (.take 2),
    .get (.issue ⟨2, false, 0, 0, 0, 4, 0, 0, none, 0⟩),
    .get (.issue ⟨0, false, 0x100000, 0, 0, 4, 0, 0, none, 0⟩),
    .get (.issue ⟨0, false, 0, 0x1000000000000, 0, 4, 0, 0, none, 0⟩),
    .get (.issue ⟨0, false, 0, 0, 0x1000000000000, 4, 0, 0, none, 0⟩),
    .get (.issue ⟨0, false, 0, 0, 0, 0, 0, 0, none, 0⟩), .get (.issue ⟨0, false, 0, 0, 0, 6, 0, 0, none, 0⟩),
    .get (.issue ⟨0, false, 0, 0, 0, 0x10000004, 0, 0, none, 0⟩),
    .get (.issue ⟨0, false, 0, 0, 0, 4, 0x100000000, 0, none, 0⟩),
    .get (.issue ⟨0, false, 0, 0, 0, 4, 0, 0x100000000, none, 0⟩),
    .get (.issue ⟨0, false, 0, 0, 0, 4, 0, 0, some 0x1000, 0⟩),
    .get (.issue ⟨0, false, 0, 0, 0, 4, 0, 0, none, 0x100000000⟩), .ctrAdd (.take 2),
    .ctrAdd (.issue ⟨2, false, 0, 0, 0, 4, 0, 0, none, 0⟩),
    .ctrAdd (.issue ⟨0, false, 0x100000, 0, 0, 4, 0, 0, none, 0⟩),
    .ctrAdd (.issue ⟨0, false, 0, 0x1000000000000, 0, 4, 0, 0, none, 0⟩),
    .ctrAdd (.issue ⟨0, false, 0, 0, 0x1000000000000, 4, 0, 0, none, 0⟩),
    .ctrAdd (.issue ⟨0, false, 0, 0, 0, 0, 0, 0, none, 0⟩), .ctrAdd (.issue ⟨0, false, 0, 0, 0, 6, 0, 0, none, 0⟩),
    .ctrAdd (.issue ⟨0, false, 0, 0, 0, 0x10000004, 0, 0, none, 0⟩),
    .ctrAdd (.issue ⟨0, false, 0, 0, 0, 4, 0x100000000, 0, none, 0⟩),
    .ctrAdd (.issue ⟨0, false, 0, 0, 0, 4, 0, 0x100000000, none, 0⟩),
    .ctrAdd (.issue ⟨0, false, 0, 0, 0, 4, 0, 0, some 0x1000, 0⟩),
    .ctrAdd (.issue ⟨0, false, 0, 0, 0, 4, 0, 0, none, 0x100000000⟩), .putAck 2, .getData 2, .ctrAck 2,
    .opTimeout 0x100000000 0] : List Instr).all (fun c => !c.wf) = true := by
  decide +kernel

theorem test_wf_refuses_11 :
    ([
    .opTimeout 0 0x100000000, .contextExpiry 2 0 0, .contextExpiry 0 0x100000 0, .contextExpiry 0 0 0x100000000,
    .fabPortCntClr 16, .rteSel 0x2, .rteValid 0x4, .rteWindowWrite false 65536 0, .rteWindowWrite true 4096 0,
    .rteWindowWrite false 0 0x100000000, .elementNop 0x10000 0 0, .elementNop 0 0x100000000 0,
    .elementNop 0 0 0x100000000, .send 0x10000 0 0, .send 0 0x100000000 0, .send 0 0 0x100000000,
    .reduce 0x10000 0 0, .reduce 0 0x100000000 0, .reduce 0 0 0x100000000, .bcast 0x10000 0 0,
    .bcast 0 0x100000000 0, .bcast 0 0 0x100000000, .collect 0x10000 0 0, .collect 0 0x100000000 0,
    .collect 0 0 0x100000000, .dones 0x10000 0 0, .dones 0 0x100000000 0, .dones 0 0 0x100000000,
    .release 0x10000 0 0, .release 0 0x100000000 0] : List Instr).all (fun c => !c.wf) = true := by
  decide +kernel

theorem test_wf_refuses_12 :
    ([
    .release 0 0 0x100000000, .tally 0x10000 0 0, .tally 0 0x100000000 0, .tally 0 0 0x100000000, .colData 2,
    .colGrant 2, .colBcast 2, .colDone 2, .colNack 2, .colRelease 2, .colTally 2, .chunkReissue 0x10000 0 0,
    .chunkReissue 0 0x100000000 0, .chunkReissue 0 0 0x100000000, .slotReclaim 0x10000 0 0,
    .slotReclaim 0 0x100000000 0, .slotReclaim 0 0 0x100000000, .slotReclaimEnd 2 0, .slotReclaimEnd 0 128,
    .lingerEnd 0x10000 0, .lingerEnd 0 0x100000000, .earlyGrantExpiry 0x10000 0 0,
    .earlyGrantExpiry 0 0x100000000 0, .earlyGrantExpiry 0 0 0x100000000, .nackTimer 0x10000 0 0,
    .nackTimer 0 0x100000000 0, .nackTimer 0 0 0x100000000, .releaseRepeat 0x10000 0 0,
    .releaseRepeat 0 0x100000000 0, .releaseRepeat 0 0 0x100000000] : List Instr).all (fun c => !c.wf) = true := by
  decide +kernel

theorem test_wf_refuses_13 :
    ([
    .tallyRepeat 2 0 0 0 0 0, .tallyRepeat 0 0x10000 0 0 0 0, .tallyRepeat 0 0 0x100000 0 0 0,
    .tallyRepeat 0 0 0 0x100000000 0 0, .tallyRepeat 0 0 0 0 0x10000000000000000 0,
    .tallyRepeat 0 0 0 0 0 0x10000000000000000, .colCancel 0x10000 0, .colCancel 0 0x100000000, .frameTransmit 4,
    .frameReceive 4 lanes 0, .frameReceive 0 [] 0, .frameReceive 0 (List.replicate 8 []) 0,
    .frameReceive 0 (List.replicate 8 (List.replicate 1088 (2 ^ 128))) 0, .frameReceive 0 lanes 0x10000,
    .alignmentSighting 4 0 (List.replicate 8 0) 0, .alignmentSighting 0 0 [] 0,
    .alignmentSighting 0 0 (List.replicate 8 0x100000000000000000000000000000000) 0,
    .alignmentSighting 0 0 (List.replicate 8 0) 0x10000, .candidateCheck 4 0 lanes, .candidateCheck 0 0 [],
    .candidateCheck 0 0 (List.replicate 8 []),
    .candidateCheck 0 0 (List.replicate 8 (List.replicate 1088 (2 ^ 128))), .preFecWindow 4, .rehunt 4, .swapArm 4,
    .swapCancel 4, .rxReady 4, .tsiWindowWrite false 4 0 0, .tsiWindowWrite false 0 64 0,
    .tsiWindowWrite false 0 0 0x10000] : List Instr).all (fun c => !c.wf) = true := by
  decide +kernel

theorem test_wf_refuses_14 :
    ([
    .holdOffEnd 4 false, .wtrExpiry 2, .lhlPgCmd 2 0, .lhlPgCmd 0 0x4, .protectionSwitch 2 0,
    .protectionSwitch 0 0x100000000, .lhlCntClr 4, .segmentReceive 4 0 ⟨0, 0, none, 0⟩,
    .segmentReceive 0 0x100 ⟨0, 0, none, 0⟩, .segmentReceive 0 0 ⟨0x1000000000000, 0, none, 0⟩,
    .segmentReceive 0 0 ⟨0, 0x1000000000000, none, 0⟩, .segmentReceive 0 0 ⟨0, 0, none, 0x100000000⟩,
    .segmentReceive 0 0 ⟨0, 0, some 0x1000, 0⟩, .segmentHandoff ({ segReq with flow := 256 }),
    .segmentHandoff ({ segReq with kind := 0 }), .segmentHandoff ({ segReq with kind := 6 }),
    .segmentHandoff ({ segReq with stage := 16 }), .segmentHandoff ({ segReq with obj := 0x100000 }),
    .segmentHandoff ({ segReq with blk := 0x1000000 }), .segmentHandoff ({ segReq with addr := 0x1000000000000 }),
    .segmentHandoff ({ segReq with len := 16385 }), .segmentHandoff ({ segReq with item := 256 }), .ackTimer 0x100,
    .rtoExpiry 0x100 0, .rtoExpiry 0 0x1000000000000, .voidRepeat 0x100, .echoTimer 4, .mbrEpoch 0x100000000,
    .noticeTimer 4, .noticeEntryExpiry 8] : List Instr).all (fun c => !c.wf) = true := by
  decide +kernel

theorem test_wf_refuses_15 :
    ([
    .reachTimeout 8, .partition 8, .pinFetch 0x10000000000000000 0, .pinFetch 0 0x100, .mbrAdmit 8 false,
    .mlrFlowCntClr 0x100, .bolterTableInstall 16, .windowRead 0x1000000000000 0, .windowRead 0 0x100000000,
    .windowWrite 0x1000000000000 [] false, .maskReseed 2, .cipherRequest 2, .install 0x8 false, .advance 64,
    .kslotClear 64, .kslotOpen 64, .kslotLease 64, .hostRequest 64 0, .hostRequest 0 0x20, .timInc 0x100000000,
    .ptpSend 4 0 false, .ptpSend 0 0x100 false, .gateEntryChange 4, .gateListSwitch 4, .gateArm 4, .gateCancel 4,
    .ringSweepDone 24 0 false [], .ringSweepDone 0 9 false [], .ringSweepDone 0 0 false [(0x10000, 0)],
    .ringSweepDone 0 0 false [(0, 0x10000)]] : List Instr).all (fun c => !c.wf) = true := by
  decide +kernel

theorem test_wf_refuses_16 :
    ([
    .toneWindow 24 0 false 0, .toneWindow 0 9 false 0, .toneWindow 0 0 false 0x10000,
    .monitorSample 24 (List.replicate 9 ⟨0, 0, 0, 0⟩), .monitorSample 0 [],
    .averagingWindow 24 (List.replicate 9 0), .averagingWindow 0 [],
    .averagingWindow 0 (List.replicate 9 0x100000000), .shadowMarker 24 0 0 0 false 0,
    .shadowMarker 0 9 0 0 false 0, .shadowMarker 0 0 0x100 0 false 0, .shadowMarker 0 0 0 0x100 false 0,
    .shadowMarker 0 0 0 0 false 0x10000, .reportUnit 24 (List.replicate 16 0#8), .reportUnit 0 [], .laneLoss 24 0,
    .laneLoss 0 9, .mirrorRelease 24, .calibrationTimer 24, .calNow 24, .calCancel 24, .calibrationLaneDone 24,
    .optCommission 24, .commissioningDone 24 (List.replicate 9 ⟨0, 0, 0, 0⟩), .commissioningDone 0 [],
    .optLaserRestore 0x100, .optLaserEn 7 0, .optLaserEn 0 0x100000000, .genStatusMode 0x2 0,
    .genStatusMode 0 0x10000] : List Instr).all (fun c => !c.wf) = true := by
  decide +kernel

theorem test_wf_refuses_17 :
    ([
    .genDigestRef 0x100000000, .tmr [⟨.pgCmd 2, 0, 0⟩], .tmr [⟨.kslotUse 64, 0, 0⟩], .tmr [⟨.kslotRoot 64, 0, 0⟩],
    .tmr [⟨.laserEn 7, 0, 0⟩], .tmr [⟨.rteSel, 3, 0⟩], .tmr [⟨.rteSel, 0, 0x100000000⟩], .rcsWriteBack 0x4000000 0,
    .rcsWriteBack 2 0, .rcsWriteBack 0 0x100000000, .registerWrite 0x4000000 0, .registerWrite 2 0,
    .registerWrite 0 0x100000000, .postedWriteDone 28, .otpKeyWrite 0x4, .otpKeyRevoke 0x4, .writeRunning 0x2,
    .activate 0x2, .verify 0x2, .writeCert 4 0, .writeCert 0 0x80000, .doeDiscovery 0x100, .getQuote [],
    .attQTail 0x1000, .smbTemp 0xf, .smbTemp 0x28, .smbVq 0x2f, .smbVq 0x34, .smbRail 0x37, .smbRail 0x40] : List Instr).all (fun c => !c.wf) = true := by
  decide +kernel

theorem test_wf_refuses_18 :
    ([
    .smbOther 256, .smbOther 0, .smbOther 1, .smbOther 0x10, .smbOther 0x27, .smbOther 0x30, .smbOther 0x33,
    .smbOther 0x38, .smbOther 0x3F, .smbOther 0x40, .lineLanesLocked 4, .pondMessageDiscard 4 (headMsg 9),
    .pondMessageDiscard 0 [], .pondMessageDiscard 0 (List.replicate 33 0#8),
    .pondMessageDiscard 0 (beBytes 1 3 ++ List.replicate 31 0#8),
    .pondMessageDiscard 0 (beBytes 1 2 ++ beBytes 1 1 ++ List.replicate 290 0#8), .reportsOkLapse 24,
    .vqOvervoltageClear 4] : List Instr).all (fun c => !c.wf) = true := by
  decide +kernel

/-! States, descriptors and images that the witnesses are built from. -/

/-- READY in MAINTENANCE mode, which reset leaves (R393, R405). -/
def live : State := State.reset.set F.PWR_STAT_STAGE 6

/-- READY in SERVICE mode (R405). -/
def service : State := live.set F.GEN_STATUS_MODE_MODE 0

/-- READY and FATAL (R376). -/
def deadState : State := live.set F.FLT_STAT_FATAL 1

/-- READY with the time unit counting. -/
def ticking : State := { live with time := { live.time with running := true } }

/-- Bytes of zeros with others put in at offsets. -/
def blob (n : Nat) (fields : List (Nat × List Byte)) : List Byte :=
  fields.foldl (fun l x => l.take x.1 ++ x.2 ++ l.drop (x.1 + x.2.length)) (List.replicate n 0#8)

/-- A queued descriptor: its TYPE and the bytes of its other fields (Table IMG-5). -/
def entry (typ : Nat) (fields : List (Nat × List Byte)) : QEntry :=
  ⟨7, blob 64 ((0, beBytes 1 typ) :: fields), 0, 0, 0, none, false, []⟩

/-- A state with one descriptor in a queue. -/
def withHead (s : State) (q : QueueId) (e : QEntry) : State := s.setQueue q [e]

/-- An image of a few sections (R105, R106): a header that counts them, the section table and the bodies. -/
def image (secs : List (Nat × Nat × List Byte)) : List Byte :=
  let start := 256 + 32 * secs.length
  let step := fun (x : List (List Byte) × Nat) (y : Nat × Nat × List Byte) =>
    (x.1 ++ [beBytes 2 y.1 ++ beBytes 1 y.2.1 ++ [0#8] ++ beBytes 4 x.2 ++ beBytes 4 y.2.2.length ++ List.replicate 20 0#8],
      x.2 + y.2.2.length)
  blob 256 [(36, beBytes 2 secs.length)] ++ (secs.foldl step ([], start)).1.flatten ++ (secs.map fun y => y.2.2).flatten

/-- A state that runs an image. -/
def running (s : State) (img : List Byte) : State := { s with img := { s.img with running := some img, first := true } }

/-! Witnesses: for every statement with hypotheses, states and operands that meet them, one for each clause. -/

theorem witness_StepKeepsCanonical : State.reset.canonical = true ∧ ∃ t, step { live with pending := [.pcieReset] } = .next t :=
  ⟨by decide +kernel, _, rfl⟩

theorem witness_StepKeepsDark : deadState.dark ∧ deadState.fatal = true ∧ ∃ t, step { deadState with pending := [.pcieReset] } = .next t :=
  ⟨fun _ => rfl, by decide +kernel, _, rfl⟩

theorem witness_FatalStopsWorkUntilPowerCycle : deadState.fatal = true ∧ (∃ t, exec .deviceReset deadState = .next t) ∧
    Instr.deviceReset ≠ .powerCycle ∧ (∀ m mv, m < 2 → Instr.deviceReset ≠ .rail 0 m mv) ∧
    issuing (.nop .chip) = true ∧ issuing (.tile 63 []) = true ∧ sending (.packetForward 17 7) = true ∧
    sending (.put (.issue ⟨0, false, 0, 0, 0, 1, 0, 0, none, 0⟩)) = true :=
  ⟨by decide +kernel, ⟨_, rfl⟩, by decide, fun _ _ _ => nofun, rfl, rfl, rfl, rfl⟩

theorem witness_HostWritesAreGuarded : strobe .fltForceClr = some (23, false) ∧ strobe .errnRelease = some (23, true) ∧
    deadState.fatal = true ∧ strobe (.seqRun 0) = some (3, false) ∧ State.reset.answers 3 = false ∧ live.fatal = false ∧
    live.answers 3 = true ∧ (live.set (pendFld 3) 1).flag (pendFld 3) = true := by decide +kernel

theorem witness_CommandFrame : ∃ t, exec .pcieReset live = .next t := ⟨_, rfl⟩

theorem witness_StoreFrame : transferStores live (.slotClose 1) = none ∧ (∃ t, exec (.slotClose 1) live = .next t) ∧
    outsideAll 0x40000 ((computeStores live (.slotClose 1)).getD (otherStores live (.slotClose 1))) ∧
    outsideAll 0 ((computeStores live (.moveZeroFill 3)).getD (otherStores live (.moveZeroFill 3))) ∧
    transferStores live (.moveZeroFill 3) = none := by
  refine ⟨rfl, ⟨_, rfl⟩, ?_, ?_, rfl⟩ <;> unfold outsideAll <;> decide +kernel

theorem witness_ArrivalStoreFrame : transferStores live (.windowWrite 0x40000 [1#8] false) = some [(0x40000, 1)] ∧
    (∃ t, exec (.windowWrite 0x40000 [1#8] false) live = .next t) ∧ outsideAll 0x40001 [(0x40000, 1)] ∧
    outsideAll 0x3FFFF [(0x40000, 1)] :=
  ⟨by decide +kernel, ⟨_, rfl⟩, by unfold outsideAll; decide, by unfold outsideAll; decide⟩

theorem witness_ResetsClearAndKeep : live.takesWrite 24 = true ∧ service.takesWrite 24 = true ∧ live.maintenance = true ∧
    service.maintenance = false ∧ live.canonical = true := by decide +kernel

theorem witness_StartUpCommands : State.reset.canonical = true ∧ State.reset.get F.PWR_STAT_STAGE = 0 ∧
    (State.reset.set F.PWR_STAT_STAGE 1).get F.PWR_STAT_STAGE = 1 ∧ (State.reset.set F.PWR_STAT_STAGE 1).canonical = true ∧
    (State.reset.set F.PWR_STAT_STAGE 2).get F.PWR_STAT_STAGE = 2 ∧ (State.reset.set F.PWR_STAT_STAGE 2).canonical = true ∧
    (State.reset.set F.PWR_STAT_STAGE 3).get F.PWR_STAT_STAGE = 3 ∧ (State.reset.set F.PWR_STAT_STAGE 3).canonical = true ∧
    (State.reset.set F.PWR_STAT_STAGE 4).get F.PWR_STAT_STAGE = 4 ∧ (State.reset.set F.PWR_STAT_STAGE 4).canonical = true ∧
    live.get F.PWR_STAT_STAGE = 6 := by decide +kernel

theorem witness_StartUpCommands_image :
    let s := (State.reset.set F.PWR_STAT_STAGE 5).set F.IMG_STAT_STATE 2
    s.canonical = true ∧ s.get F.PWR_STAT_STAGE = 5 ∧ s.get F.IMG_STAT_STATE = 2 ∧ s.img.first = false ∧
      s.img.checking = none ∧ s.fatal = false ∧ s.flt.armed = [] := by decide +kernel

theorem witness_BringUpCommandsComplete :
    let at1 := State.reset.set F.PWR_STAT_STAGE 1
    let links := [(⟨0x30, 0, true⟩ : LinkTest)]
    State.reset.canonical = true ∧ State.reset.get F.PWR_STAT_STAGE = 0 ∧ at1.get F.PWR_STAT_STAGE = 1 ∧
      (at1.set F.PWR_STAT_STAGE 2).get F.PWR_STAT_STAGE = 2 ∧ at1.canonical = true ∧ at1.flt.armed = [] ∧
      (∀ x ∈ links, x.covered = true) ∧ (at1.set F.PWR_STAT_STAGE 3).get F.PWR_STAT_STAGE = 3 ∧
      (at1.set F.PWR_STAT_STAGE 3).flt.armed = [] ∧ (at1.set F.PWR_STAT_STAGE 4).get F.PWR_STAT_STAGE = 4 ∧
      (at1.set F.PWR_STAT_STAGE 4).newestSnapshot = none := by decide +kernel

theorem witness_ComputeSupplyCommands :
    let dip := { live with pwr := { live.pwr with vqBelow := Marks.add [] 3, vqTimer := true } }
    dip.canonical = true ∧ dip.pwr.vqBelow ≠ [] ∧ dip.flt.armed = [] ∧ dip.pwr.vqTimer = true ∧
      live.pwr.vqBelow = [] ∧ dip.pwr.dipFloor = false ∧ live.canonical = true ∧ live.takesWrite 24 = true := by
  decide +kernel

theorem witness_RailAndTemperatureCommands : live.canonical = true ∧ live.flt.armed = [] ∧
    live.pwr.railBad.has (16 * 1 + 11) = false ∧ live.pwr.railBad.has (16 * 2 + 0) = false ∧
    live.pwr.railBad.has (16 * 6 + 0) = false ∧ live.pwr.railBad.has (16 * 7 + 0) = false ∧ live.boot.op = none ∧
    (List.replicate 24 (99 : Int))[23]? = some 99 ∧
    (List.replicate 24 (32767 : Int))[17]? = some 32767 ∧ thermLevel 17 2 ≤ 32767 ∧ live.pwr.thermTrip.has 17 = false ∧
    live.flag F.PWR_STAT_HOT = false ∧ live.pwr.thermWarn = [] ∧ live.pwr.thermHot = [] ∧ live.pwr.thermTrip = [] ∧
    (∀ u < 24, (-32768 : Int) < thermLevel u 0) ∧
    (let s := { live with boot := { live.boot with op := some (.verify 1), opTries := 3 } }
     s.boot.op = some (.verify 1) ∧ s.canonical = true ∧ s.pwr.railBad.has (16 * 6 + 0) = false) := by decide +kernel

theorem witness_FaultRegisterCommands :
    let low := (live.set F.FLT_STAT_ERRN_LOW 1)
    let min := { low with flt := { low.flt with errnMin := true } }
    min.canonical = true ∧ 0x017FFFFC % 4 = 0 ∧ 0x01700002 % 4 ≠ 0 ∧ min.flt.errnMin = true ∧ low.canonical = true ∧ low.takesWrite 23 true = true ∧
      low.flag F.FLT_STAT_ERRN_LOW = true ∧ low.flt.errnMin = false ∧ live.takesWrite 23 = true ∧ bit 0x80000000 31 = true ∧
      canBeFatal (32 * 7 + 31) = false ∧ deadState.takesWrite 23 true = true ∧ live.links.failed.has 0x53 = false ∧
      live.flt.armed = [] := by decide +kernel

theorem witness_SelfTestCommands :
    let t := fun k r b => { live with flt := { live.flt with test := some ⟨k, r, b⟩ } }
    let d := { t 1 63 false with sched := { live.sched with drains := [(63, [.test])] } }
    live.canonical = true ∧ live.takesWrite 23 = true ∧ live.flag F.FLT_ST_STAT_BUSY = false ∧
      (live.setRegionState 63 4).regionState 63 = 4 ∧ live.maintenance = true ∧ live.canonical = true ∧
      live.get F.UPD_STEP_STAT_STATE = 0 ∧ (t 2 11 false).flt.test = some ⟨2, 11, false⟩ ∧ (t 2 11 false).canonical = true ∧
      (d.setRegionState 63 3).canonical = true ∧ (d.setRegionState 63 3).flt.test = some ⟨1, 63, false⟩ ∧
      ((d.setRegionState 63 3).drains 63).head? = some .test ∧ (d.setRegionState 63 3).regionState 63 = 3 ∧
      (t 1 63 true).flt.test = some ⟨1, 63, true⟩ ∧ (t 2 11 true).flt.test = some ⟨2, 11, true⟩ ∧
      (t 1 63 true).flt.armed = [] := by decide +kernel

theorem witness_HubTestRequestIsRefused : live.get F.PWR_STAT_STAGE ≠ 1 ∧ live.get F.PWR_STAT_STAGE ≠ 2 ∧
    live.canonical = true ∧ live.takesWrite 23 = true := by decide +kernel

theorem witness_ResetCauseIsReported : live.takesWrite 24 = true ∧ live.maintenance = true ∧ live.canonical = true := by
  decide +kernel

/-- A 32 × 32 TILE in FP8 without scales, K = 32, one tile, any array, output at line 8 (Table IMG-7). -/
def tileDesc : QEntry := entry 1 [(24, [0x60#8, 0x80#8, 0#8, 1#8, 0x11#8]), (41, [0#8, 0#8, 8#8]), (50, [0#8, 1#8])]

/-- A region-63 MOVE of 64 bytes from line 0 to line 4 of the region's SRAM, by operation (Table IMG-8). -/
def moveDesc (op : Nat) : QEntry := entry 2 [(24, [BitVec.ofNat 8 (16 * op)]), (32, beBytes 6 0x3F000000),
  (40, beBytes 6 (0x3F000000 + if op = 2 then 4096 else 256)), (48, beBytes 4 64), (54, [0#8, 0#8, 1#8, 0#8, 0#8, 1#8])]

/-- A SPIN of 32 elements on lines 0, 4, 16 and 24 with all scalars literal (Table UPD-8). -/
def spinDesc (code : Nat) (more : List (Nat × List Byte)) : QEntry :=
  entry 3 ([(24, beBytes 1 code), (28, beBytes 4 32), (35, [0#8, 0#8, 4#8]), (38, [0#8, 0#8, 16#8]),
    (41, [0#8, 0#8, 24#8])] ++ more)

/-- A TILE in flight on array 15 of region 63, accumulating its tile 0. -/
def tileRun (poison : Bool) : State :=
  { live with
    sched := { live.sched with flights := [⟨.tile 63, tileDesc, 15, false, false⟩] }
    qrn := { live.qrn with runs := [(runKey 63 15, ⟨7, 0, none, 1, [], poison, [], [], []⟩)] } }

/-- A TILE in flight whose result waits to drain. -/
def tileOuts (poison : Bool) : State :=
  { live with
    sched := { live.sched with flights := [⟨.tile 63, tileDesc, 15, false, false⟩] }
    qrn := { live.qrn with outs := [(runKey 63 15, [⟨7, 0, poison, [(0x3F000200, [1#8]), (0x3F000201, [2#8])]⟩])] } }

theorem witness_TileCommands :
    let s := withHead live (.tile 63) tileDesc
    s.head (.tile 63) = .ready tileDesc [] ∧ headerOk (.tile 63) tileDesc = true ∧ tileDesc.typ = 1 ∧
      s.tileOk 63 tileDesc = true ∧ s.pickArray 63 tileDesc = some 0 ∧ s.flt.armed = [] ∧ s.flight tileDesc.sid = none ∧
      Tab.find s.qrn.work tileDesc.sid = none ∧ s.arrayBlocks 63 0 ≠ [] ∧
      (s.units 63 0 (s.divided 63 0)).find? (s.unitFree 63 0) = some 0 := by decide +kernel

theorem witness_TileCommands_ends :
    let run := fun b => (⟨7, 0, none, 1, [], b, [], [], []⟩ : ArrayRun)
    Tab.find (tileRun false).qrn.runs (runKey 63 15) = some (run false) ∧
    Tab.find (tileRun true).qrn.runs (runKey 63 15) = some (run true) ∧
    (tileRun true).flight 7 = some ⟨.tile 63, tileDesc, 15, false, false⟩ ∧ (tileRun true).qrn.due = [] ∧
    (tileRun true).flt.armed = [] ∧
    (tileRun false).poisonedAny (tileReads tileDesc (partPlace 63 tileDesc 0 none)) = false ∧
    (tileOuts true).canonical = true ∧
    (tileOuts true).outsOf 63 15 = [⟨7, 0, true, [(0x3F000200, [1#8]), (0x3F000201, [2#8])]⟩] ∧
    (tileOuts true).flight 7 = some ⟨.tile 63, tileDesc, 15, false, false⟩ ∧ (tileOuts true).col.colls = [] ∧
    (tileOuts true).flt.armed = [] ∧
    ([(0x3F000200, [1#8]), (0x3F000201, [2#8])] : List (Nat × List Byte)).Pairwise
      (fun x y => x.1 + x.2.length ≤ y.1) := by decide +kernel

theorem witness_QuernRegionCommands :
    let spare := (live.set (F.QRN_BLK_MAP_SPARE_VALID.reg 63) 1).set (F.QRN_RETIRE_CFG_SPARE_CHECK.ix 3) 1
    ticking.canonical = true ∧ ticking.time.running = true ∧ (List.replicate 64 (⟨9, 256⟩ : TempoReport))[63]? = some ⟨9, 256⟩ ∧
    live.canonical = true ∧ live.takesWrite (4 + 63 / 16) = true ∧ live.qrn.runs = [] ∧ live.qrn.due = [] ∧
    live.maintenance = true ∧ spare.get (F.QRN_BLK_MAP_SPARE_VALID.reg 63) = 1 ∧
    spare.get (F.QRN_RETIRE_CFG_SPARE_CHECK.ix (63 / 16)) = 1 ∧ spare.flt.armed = [] ∧ spare.canonical = true ∧
    live.regionState 63 ≠ 4 ∧ live.regionState 63 ≠ 5 ∧ (live.set F.SEQ_CFG_AUTO_RESTART 0).flag F.SEQ_CFG_AUTO_RESTART = false ∧
    (live.set (F.SEQ_REG_PHASE_EXCLUDED.ix 63) 1).excluded 63 = true ∧
    live.flag F.SEQ_CFG_AUTO_RESTART = true ∧ live.fatal = false ∧ live.takesWrite 3 = true ∧
    (live.setRegionState 63 4).regionState 63 = 4 ∧ (live.setRegionState 63 4).canonical = true ∧
    (∀ f ∈ live.sched.flights, f.queue ≠ .spin 63) ∧ qRegion (.ctrl 63) = some 63 ∧ live.flt.armed = [] := by decide +kernel

/-- What the statement about MOVEs asks of a state and a descriptor. -/
def moveReady (s : State) (r : Nat) (e : QEntry) : Prop :=
  s.canonical = true ∧ (∃ rest, s.head (.move r) = .ready e rest) ∧ headerOk (.move r) e = true ∧ moveOk r e = true ∧
    (s.pickEngine r e).isSome = true ∧ s.flt.armed = [] ∧ s.step.nonfinite = [] ∧
    (∀ x ∈ e.moveRanges false, s.windowBlocks x.1 x.2 = [] ∧ ∀ i < x.2, s.plain (x.1 + i) = true) ∧
    (e.moveOp ≠ 3 → ∀ x ∈ e.moveRanges true, ∀ i < x.2, s.windowOf (x.1 + i) = none ∧
      ∀ y ∈ e.moveRanges false, ¬(y.1 ≤ x.1 + i ∧ x.1 + i < y.1 + y.2))

/-- The source ends below the destination, and the state has no table and so no windows. -/
theorem moveReady_of {s : State} {r lim : Nat} {e : QEntry} (hs : s.cmp.slots = [])
    (h : s.head (.move r) = .ready e []) (ha : s.flt.armed = []) (hn : s.step.nonfinite = []) (k : (s.canonical && headerOk (.move r) e && moveOk r e && (s.pickEngine r e).isSome &&
      ((e.moveRanges false).all fun x => (s.windowBlocks x.1 x.2).isEmpty && decide (lim ≤ x.1) &&
        (List.range x.2).all fun i => s.plain (x.1 + i)) &&
      ((e.moveOp == 3) || (e.moveRanges true).all fun x => decide (x.1 + x.2 ≤ lim))) = true) : moveReady s r e := by
  simp only [Bool.and_eq_true, Bool.or_eq_true, List.all_eq_true, decide_eq_true_eq, beq_iff_eq, List.isEmpty_iff,
    List.mem_range] at k
  refine ⟨k.1.1.1.1.1, ⟨[], h⟩, k.1.1.1.1.2, k.1.1.1.2, k.1.1.2, ha, hn, fun x hx => ⟨(k.1.2 x hx).1.1, (k.1.2 x hx).2⟩, ?_⟩
  intro h3 x hx i hi
  refine ⟨?_, fun y hy hh => ?_⟩
  · simp [State.windowOf, State.btables, hs]
  · have h1 := k.2.resolve_left h3 x hx
    have h2 := (k.1.2 y hy).1.2
    omega

theorem witness_MoveCommands :
    moveReady (withHead live (.move 63) (moveDesc 0)) 63 (moveDesc 0) ∧
    moveReady (withHead live (.move 63) (moveDesc 1)) 63 (moveDesc 1) ∧
    moveReady (withHead live (.move 63) (moveDesc 2)) 63 (moveDesc 2) ∧
    moveReady (withHead live (.move 63) (moveDesc 3)) 63 (moveDesc 3) := by
  refine ⟨moveReady_of (lim := 0x3F000100) rfl ?_ rfl rfl ?_, moveReady_of (lim := 0x3F000100) rfl ?_ rfl rfl ?_,
    moveReady_of (lim := 0x3F001000) rfl ?_ rfl rfl ?_, moveReady_of (lim := 0x3F000100) rfl ?_ rfl rfl ?_⟩ <;>
    decide +kernel

theorem witness_MoveCommands_forms : (moveDesc 0).moveOp = 0 ∧ (moveDesc 1).moveOp = 1 ∧ (moveDesc 2).moveOp = 2 ∧
    (moveDesc 3).moveOp = 3 ∧ (moveDesc 1).moveLen ≤ (moveDesc 1).dstPitch ∧
    64 * (moveDesc 2).moveElem ≤ (moveDesc 2).dstPitch := by decide +kernel

theorem ready_of_head {s : State} {q : QueueId} {e : QEntry} (h : s.head q = .ready e []) (k : headerOk q e = true)
    (a : s.flt.armed = [] := by rfl) : s.readyAt q e :=
  ⟨⟨[], h⟩, k, by simp [State.forcedAt, a, Marks.has, Tab.find]⟩

theorem witness_spin (code : Nat) (more : List (Nat × List Byte)) (s : State)
    (h : s.head (.spin 63) = .ready (spinDesc code more) [])
    (a : s.flt.armed = []) (k : (headerOk (.spin 63) (spinDesc code more) && decide ((spinDesc code more).opcode = code) &&
      spinOk 63 (spinDesc code more) && !(s.sched.flights.any fun x => x.queue == .spin 63) &&
      !((spinReads 63 (spinDesc code more)).any fun x => s.anyPoison x.1 x.2)) = true) :
    s.spinReady 63 code (spinDesc code more) := by
  simp only [Bool.and_eq_true, Bool.not_eq_true', decide_eq_true_eq] at k
  exact ⟨⟨[], h⟩, k.1.1.1.1, by simp [State.forcedAt, a, Marks.has, Tab.find], k.1.1.1.2, k.1.1.2, k.1.2, k.2⟩

/-- A state with a SPIN at the head of region 63's queue. -/
def spinState (code : Nat) (more : List (Nat × List Byte)) : State := withHead live (.spin 63) (spinDesc code more)

theorem witness_SpindleElementwiseCommands :
    (spinState 0x00 []).spinReady 63 0x00 (spinDesc 0x00 []) ∧ (spinState 0x01 []).spinReady 63 0x01 (spinDesc 0x01 []) ∧
    (spinState 0x02 []).spinReady 63 0x02 (spinDesc 0x02 []) ∧ (spinState 0x03 []).spinReady 63 0x03 (spinDesc 0x03 []) ∧
    (spinState 0x04 []).spinReady 63 0x04 (spinDesc 0x04 []) ∧ (spinState 0x05 []).spinReady 63 0x05 (spinDesc 0x05 []) ∧
    (spinState 0x06 []).spinReady 63 0x06 (spinDesc 0x06 []) ∧ (spinState 0x28 []).spinReady 63 0x28 (spinDesc 0x28 []) := by
  refine ⟨?_, ?_, ?_, ?_, ?_, ?_, ?_, ?_⟩ <;> exact witness_spin _ _ _ (by decide +kernel) rfl (by decide +kernel)

theorem witness_SpindleElementwiseCommands_bad :
    let s := spinState 0x07 []
    let f := { live with sched := { live.sched with flights := [⟨.spin 63, spinDesc 0x01 [], 0, false, false⟩] } }
    s.head (.spin 63) = .ready (spinDesc 0x07 []) [] ∧ headerOk (.spin 63) (spinDesc 0x07 []) = true ∧
      (spinDesc 0x07 []).opcode ∉ spinCodes ∧ s.flt.armed = [] ∧
      (f.sched.flights.find? fun f => f.queue == .spin 63) = some ⟨.spin 63, spinDesc 0x01 [], 0, false, false⟩ ∧
      f.flt.armed = [] := by decide +kernel

theorem witness_SpindleReductionAndQuantisationCommands :
    (spinState 0x08 []).spinReady 63 0x08 (spinDesc 0x08 []) ∧ (spinState 0x09 []).spinReady 63 0x09 (spinDesc 0x09 []) ∧
    (spinState 0x0A []).spinReady 63 0x0A (spinDesc 0x0A []) ∧ (spinState 0x10 []).spinReady 63 0x10 (spinDesc 0x10 []) ∧
    (spinState 0x11 []).spinReady 63 0x11 (spinDesc 0x11 []) ∧ spinApart 63 (spinDesc 0x10 []) ∧
    spinApart 63 (spinDesc 0x11 []) := by
  refine ⟨?_, ?_, ?_, ?_, ?_, .inl (by decide +kernel), .inl (by decide +kernel)⟩ <;>
    exact witness_spin _ _ _ (by decide +kernel) rfl (by decide +kernel)

theorem witness_OuterRuleCommands :
    (spinState 0x20 []).spinReady 63 0x20 (spinDesc 0x20 []) ∧ (spinState 0x21 []).spinReady 63 0x21 (spinDesc 0x21 []) ∧
    (spinState 0x22 []).spinReady 63 0x22 (spinDesc 0x22 []) ∧ (spinState 0x23 []).spinReady 63 0x23 (spinDesc 0x23 []) ∧
    (spinState 0x24 [(27, [0x40#8])]).spinReady 63 0x24 (spinDesc 0x24 [(27, [0x40#8])]) ∧
    (spinState 0x24 [(27, [0x30#8])]).spinReady 63 0x24 (spinDesc 0x24 [(27, [0x30#8])]) ∧
    (spinState 0x25 [(48, beBytes 4 0x3F800000)]).spinReady 63 0x25 (spinDesc 0x25 [(48, beBytes 4 0x3F800000)]) := by
  refine ⟨?_, ?_, ?_, ?_, ?_, ?_, ?_⟩ <;> exact witness_spin _ _ _ (by decide +kernel) rfl (by decide +kernel)

theorem witness_OuterRuleCommands_apply :
    let s := spinState 0x21 []
    let o := spinDesc 0x25 [(48, beBytes 4 0x3F800000)]
    s.applyHeld = false ∧ s.ctlMatched = true ∧ leaves 0 s = false ∧ (spinState 0x20 []).applyHeld = false ∧
      (spinState 0x20 []).ctlMatched = true ∧ leaves 0 (spinState 0x20 []) = false ∧
      ([0x21, 0x22, 0x25, 0x24].all fun c => decide (spinLine 63 (spinDesc c []) 38 + (spinDesc c []).d0Bytes ≤
        spinLine 63 (spinDesc c []) 41)) = true ∧
      (f32Val ((spinState 0x25 [(48, beBytes 4 0x3F800000)]).scalar o 1)).isZero = false ∧
      (spinDesc 0x24 [(27, [0x40#8])]).qfmt = 4 ∧ (spinDesc 0x24 [(27, [0x30#8])]).qfmt ≠ 4 := by decide +kernel

theorem witness_OuterRuleCommands_kept :
    let s := fun c => { spinState c [] with step := { live.step with abandoned := true } }
    (s 0x20).spinReady 63 0x20 (spinDesc 0x20 []) ∧ (s 0x21).spinReady 63 0x21 (spinDesc 0x21 []) ∧
      leaves 5 (s 0x20) = true ∧ leaves 5 (s 0x21) = true ∧ (s 0x21).applyHeld = false ∧ (s 0x21).ctlMatched = true := by
  refine ⟨?_, ?_, by decide +kernel⟩ <;> exact witness_spin _ _ _ (by decide +kernel) rfl (by decide +kernel)

/-- An image with a phase 7, one DESC body of two NOPs, one PROGRAM entry 1 for both, and one empty chain (R108). -/
def smallImage : List Byte := image
  [(0x8007, 0, blob 32 [(0, [0#8, 1#8])]), (0x800F, 7, blob 1040 [(0, [7#8])]), (0x8010, 1, blob 128 []),
    (0x8011, 0, blob 32 [(16, beBytes 4 0x1000000 ++ beBytes 4 2)])]

/-- READY and running that image. -/
def works : State := running live smallImage

/-- A SYNC of region 63 on its counter 255 (Table IMG-6). -/
def syncDesc (op : Nat) : QEntry := entry 4 [(24, [BitVec.ofNat 8 op]), (26, [0#8, 255#8]), (28, beBytes 4 5)]

/-- A SCALAR of an operation code, from reduction register 15 to scalar register 56. -/
def scalarDesc (op : Nat) : QEntry := entry 5 [(24, [BitVec.ofNat 8 op, 15#8, 56#8])]

/-- A STEP. -/
def stepDesc (op : Nat) : QEntry := entry 6 [(24, [BitVec.ofNat 8 op])]

theorem witness_SchedulerAndStepCommands :
    (withHead live (.ctrl 63) (entry 0 [])).readyAt (.ctrl 63) (entry 0 []) ∧
    (withHead live (.ctrl 63) (syncDesc 0)).readyAt (.ctrl 63) (syncDesc 0) ∧
    (withHead live (.ctrl 63) (syncDesc 1)).readyAt (.ctrl 63) (syncDesc 1) ∧
    (∀ op < 7, (withHead live .chip (scalarDesc op)).readyAt .chip (scalarDesc op)) ∧
    (withHead live .chip (stepDesc 1)).readyAt .chip (stepDesc 1) ∧
    (withHead live .chip (stepDesc 2)).readyAt .chip (stepDesc 2) ∧
    (withHead live .chip (stepDesc 3)).readyAt .chip (stepDesc 3) := by
  refine ⟨ready_of_head ?_ ?_, ready_of_head ?_ ?_, ready_of_head ?_ ?_, fun op h => ?_, ready_of_head ?_ ?_,
    ready_of_head ?_ ?_, ready_of_head ?_ ?_⟩
  case refine_7 =>
    have := (by decide +kernel : ∀ op < 7, (withHead live .chip (scalarDesc op)).head .chip = .ready (scalarDesc op) [] ∧
      headerOk .chip (scalarDesc op) = true) op h
    exact ready_of_head this.1 this.2
  all_goals decide +kernel

theorem witness_SchedulerAndStepCommands_fields : (withHead live (.ctrl 63) (syncDesc 0)).canonical = true ∧
    (entry 0 []).typ = 0 ∧ (syncDesc 0).typ = 4 ∧ (syncDesc 0).op = 0 ∧ ctrOk (.ctrl 63) (syncDesc 0).syncCtr = true ∧
    (syncDesc 1).op = 1 ∧ ctrOk (.ctrl 63) (syncDesc 1).syncCtr = true ∧
    (∀ op < 7, (scalarDesc op).typ = 5 ∧ (scalarDesc op).op = op ∧ scalarOk (scalarDesc op) = true ∧
      (withHead live .chip (scalarDesc op)).canonical = true ∧ (withHead live .chip (scalarDesc op)).flt.armed = []) ∧
    (scalarDesc 3).dst5 ≤ 56 ∧
    (∀ op < 4, (stepDesc op).typ = 6 ∧ (stepDesc op).op = op ∧ (withHead live .chip (stepDesc op)).canonical = true) := by
  decide +kernel

/-- A PHASE to phase 7 of region 63, a COLL of chain 0, and DISPATCHes to region 63 (Table IMG-9, Table COL-1). -/
def phaseDesc : QEntry := entry 7 [(24, [7#8]), (32, [0x80#8])]
def collDesc : QEntry := entry 8 [(26, [0#8, 9#8]), (40, beBytes 4 64)]
def dispatchDesc (count : Nat) : QEntry := entry 9 [(24, beBytes 4 0x1000001), (28, beBytes 2 count ++ [0#8, 1#8]),
  (32, [0x80#8]), (40, [7#8]), (42, beBytes 6 77)]

theorem witness_StructureAndCompletionCommands :
    (withHead works .chip phaseDesc).readyAt .chip phaseDesc ∧ (withHead works .chip collDesc).readyAt .chip collDesc ∧
    (withHead works .chip (dispatchDesc 0)).readyAt .chip (dispatchDesc 0) ∧
    (withHead works .chip (dispatchDesc 1)).readyAt .chip (dispatchDesc 1) := by
  refine ⟨ready_of_head ?_ ?_, ready_of_head ?_ ?_, ready_of_head ?_ ?_, ready_of_head ?_ ?_⟩ <;> decide +kernel

theorem witness_StructureAndCompletionCommands_fields :
    let p := withHead works .chip phaseDesc
    let c := withHead works .chip collDesc
    let d := withHead works .chip (dispatchDesc 1)
    p.canonical = true ∧ p.flt.armed = [] ∧ c.flt.armed = [] ∧ phaseDesc.typ = 7 ∧ phaseDesc.at 24 1 ≤ 7 ∧ imgHasPhase p.image (phaseDesc.at 24 1) = true ∧
      bit (phaseDesc.at 32 8) 63 = true ∧ p.excluded 63 = false ∧ c.canonical = true ∧ collDesc.typ = 8 ∧
      collDesc.at 24 2 < imgChains c.image ∧ collFieldsOk collDesc = true ∧
      c.coll (collDesc.at 26 2) (c.effSeq (collDesc.at 28 4) (imgChain c.image (collDesc.at 24 2) 8 2)) = none ∧
      c.firstSlot (imgHome c.image (collDesc.at 24 2)) = some 0 ∧ (dispatchDesc 0).typ = 9 ∧
      dispatchOk d.image (dispatchDesc 0) = true ∧ (dispatchDesc 0).count = 0 ∧ (dispatchDesc 0).at 40 1 % 8 ≠ 0 ∧
      d.canonical = true ∧ (dispatchDesc 1).typ = 9 ∧ dispatchOk d.image (dispatchDesc 1) = true ∧
      (dispatchDesc 1).count = 1 ∧ (dispatchDesc 1).reps = 1 ∧
      (((dispatchDesc 1).mask 32).filter fun r => !d.excluded r) = [63] ∧
      imgDesc d.image (dispatchDesc 1).list = some (blob 64 []) ∧ d.cursor 63 = 0 ∧
      d.room (queueFor 63 (beAt (blob 64 []) 0 1)) = true ∧ d.regionState 63 ≠ 5 := by decide +kernel

/-- A NOP of region 63's control queue in flight and done, with SIG_CTR 255, and one past its deadline. -/
def doneNop : State := { live with sched := { live.sched with flights := [⟨.ctrl 63, entry 0 [(14, [0x80#8, 255#8]), (20, [0#8, 3#8])], 0, true, true⟩] } }
def lateNop : State := { ticking with sched := { ticking.sched with flights := [⟨.ctrl 63, { entry 0 [] with deadline := some (2 ^ 64 - 1) }, 0, false, false⟩] } }

/-- A NOP of the chip queue that is done after its deadline. -/
def endsLate : Flight := ⟨.chip, { entry 0 [] with deadline := some (2 ^ 64 - 1) }, 0, false, true⟩
def lateEnds : State := { ticking with sched := { ticking.sched with flights := [endsLate] } }

theorem witness_StructureAndCompletionCommands_flights :
    (doneNop.sched.flights.find? fun f => f.queue == .ctrl 63 && f.entry.sid == 7) =
        some ⟨.ctrl 63, entry 0 [(14, [0x80#8, 255#8]), (20, [0#8, 3#8])], 0, true, true⟩ ∧
      doneNop.canonical = true ∧ doneNop.regionState 63 ≠ 5 ∧ (entry 0 [(14, [0x80#8, 255#8])]).sigEn = true ∧
      ctrOk (.ctrl 63) (entry 0 [(14, [0x80#8, 255#8])]).sigCtr = true ∧
      (lateNop.sched.flights.find? fun f => f.queue == .ctrl 63 && f.entry.sid == 7) =
        some ⟨.ctrl 63, { entry 0 [] with deadline := some (2 ^ 64 - 1) }, 0, false, false⟩ ∧
      lateNop.isLate (.ctrl 63) { entry 0 [] with deadline := some (2 ^ 64 - 1) } = true ∧ lateNop.canonical = true ∧ (entry 0 []).typ ≠ 7 ∧
      (entry 0 []).typ ≠ 8 ∧ lateEnds.canonical = true ∧ lateEnds.time.running = true ∧
      (lateEnds.sched.flights.find? fun f => f.queue == .chip && f.entry.sid == 7) = some endsLate ∧ endsLate.done = true ∧
      endsLate.entry.late = false ∧ lateEnds.pastDeadline endsLate.entry = true := by decide +kernel

theorem witness_PhaseAndProgramCommands :
    let d := fun l => { works.setRegionState 63 2 with sched := { works.sched with drains := [(63, l)] } }
    (d [.test]).canonical = true ∧ (d [.test]).regionState 63 = 2 ∧ (d [.test]).busyRegion 63 = false ∧
      (d [.test]).fatal = false ∧ (d [.test]).drains 63 = [.test] ∧ (d [.phase 7 none]).drains 63 = [.phase 7 none] ∧
      (d [.phase 7 none]).regionState 63 = 2 ∧ (d [.phase 7 none]).busyRegion 63 = false ∧
      works.takesWrite 3 = true ∧ works.canonical = true ∧ works.flt.armed = [] ∧
      (works.set F.SEQ_STAT_ADMIT_HOLD 1).flag F.SEQ_STAT_ADMIT_HOLD = true ∧
      (works.set F.SEQ_STAT_ADMIT_HOLD 1).takesWrite 3 = true ∧
      (let m := works.set F.SEQ_PHASE_MASK_HI_MASK 0x80000000
       bit (m.get64 F.SEQ_PHASE_MASK_LO_MASK F.SEQ_PHASE_MASK_HI_MASK) 63 = true ∧ m.takesWrite 3 = true) := by
  decide +kernel

/-- A spare whose state has come, with a SCATTER_DONE at the head of the chip queue (R283). -/
def arrives : State :=
  let s := (withHead live .chip (stepDesc 3)).set F.UPD_STEP_STAT_STATE 8
  { s with mbr := { s.mbr with admitting := true, admitVersion := some (41, 3) } }

theorem witness_SchedulerAndStepCommands_admission : arrives.canonical = true ∧ arrives.readyAt .chip (stepDesc 3) ∧
    arrives.get F.UPD_STEP_STAT_STATE = 8 ∧ arrives.mbr.admitVersion = some (41, 3) ∧ arrives.mbr.admitting = true ∧
    arrives.flt.armed = [] ∧ arrives.peerVersion = none := by
  refine ⟨?_, ready_of_head ?_ ?_, ?_⟩ <;> decide +kernel

/-- READY with slot 3 open and a DMA into it on its way. -/
def slotted : State :=
  let s := live.set F.IMG_STAT_SLOT_OPEN 8
  { s with img := { s.img with dmaSlot := some 3 } }

theorem witness_ImageSlotCommands : live.canonical = true ∧ live.takesWrite 2 = true ∧ bit 8 3 = true ∧ live.slotOpen 3 = false ∧
    slotted.canonical = true ∧ slotted.takesWrite 2 = true ∧ slotted.slotOpen 3 = true ∧ slotted.img.slot ≠ some 3 ∧
    deadState.fatal = true ∧ slotted.fatal = false ∧ ([1#8] : List Byte)[0]? = some 1#8 ∧
    slotted.flag F.IMG_DMA_STAT_BUSY = false ∧ slotted.pcie.busMaster = true ∧ slotted.img.dmaSlot = some 3 ∧
    0 < min slotBytes ((slotted.set F.IMG_DMA_LEN_LEN 64).get F.IMG_DMA_LEN_LEN) := by decide +kernel

theorem witness_ImageLoadCommands :
    let chk := { works with img := { works.img with checking := some smallImage } }
    let nxt := { works with img := { works.img with next := some smallImage } }
    let app := nxt.set F.IMG_STAT_STATE 4
    live.canonical = true ∧ live.takesWrite 2 = true ∧ live.loadRefusal 3 = some 0x15 ∧ slotted.loadRefusal 3 = none ∧
      chk.canonical = true ∧ chk.takesWrite 2 = true ∧ chk.applying = false ∧ chk.img.checking = some smallImage ∧
      chk.fatal = false ∧ nxt.canonical = true ∧ nxt.img.next = some smallImage ∧ nxt.img.heldAt = none ∧ nxt.fatal = false ∧
      nxt.applying = false ∧ nxt.between = true ∧ app.canonical = true ∧ app.applying = true ∧ app.img.switching = [] ∧
      app.img.next = some smallImage ∧ app.img.checking = none ∧ app.img.first = true ∧ works.takesWrite 2 = true ∧
      works.img.running = some smallImage ∧ works.maintenance = true := by decide +kernel

theorem witness_MemoryCommands : live.canonical = true ∧ live.flt.armed = [] ∧ live.get F.MEM_SCRUB_CFG_HOURS ≠ 0 ∧
    (live.set F.MEM_SCRUB_CFG_HOURS 0).get F.MEM_SCRUB_CFG_HOURS = 0 ∧ live.takesWrite 9 = true ∧ live.takesWrite 10 = true := by
  decide +kernel

/-- READY with a first image running and pond link 3 in a state of Table MEM-6. -/
def pondAt (st : Nat) : State := (works.set F.PND_STAT_MASK 15).setPondState 3 st

/-- Pond link 3 ACTIVE with credits, a message not acknowledged, a read of TAG 4095 and a write of one granule, each failed at
its timeout or not. -/
def pondBusy (dead : Bool) : State := (pondAt 4).setPondLink 3 ⟨5, 8, [⟨1, false, 5, 8, 4095, 0, 1, 0, 0, []⟩], 7,
  [(4095, ⟨0, 1, 0x3F000000, dead⟩)], [⟨4096, List.replicate 256 9#8, 0, dead⟩], 2, 64, some 1, true⟩

/-- A message of a module (Table MEM-7). -/
def fromModule (op seq tag sub : Nat) (data : List Byte) : List Byte := PondMsg.bytes ⟨op, false, seq, 5, tag, 0, 1, sub, 0, data⟩

/-- The granule of a module's IDENT (R158). -/
def moduleIdent (part : Nat) : List Byte := beBytes 2 part ++ beBytes 2 384 ++ beBytes 4 1 ++ beBytes 2 4096 ++ beBytes 2 0 ++
  beBytes 4 64 ++ beBytes 8 0 ++ beBytes 1 0 ++ beBytes 1 1 ++ List.replicate 230 0#8

/-- The laser die of a port below 10 °C (R432). -/
def cold (s : State) (port : Nat) : State := s.set (F.PWR_TEMP_NOW.ix (22 + laserOf port 0 / 108)) 99

theorem witness_PondLinkCommands : (pondAt 0).canonical = true ∧ (pondAt 0).pondState 3 = 0 ∧ (pondAt 0).pondMayTrain 3 = true ∧
    (pondAt 0).takesWrite 10 = true ∧ ((pondAt 0).set F.PND_CFG_AUTO_RETRAIN 1).flag F.PND_CFG_AUTO_RETRAIN = true ∧
    (pondAt 0).fatal = false ∧ (∀ st < 6, (pondAt st).pondState 3 = st ∧ (pondAt st).canonical = true ∧
      (pondAt st).flt.armed = [] ∧ (pondAt st).mlr.retain = [] ∧ (pondAt st).takesWrite 10 = true) ∧
    (cold (pondAt 1) 23).portCold 23 = true ∧ (pondAt 1).portCold 23 = false ∧ (cold (pondAt 1) 23).pondState 3 = 1 ∧
    (pondAt 3).getBit F.PND_STAT_MASK 3 = true ∧ (pondAt 3).img.first = true ∧ (pondAt 3).pondOpen 3 = true := by
  decide +kernel

set_option maxRecDepth 20000 in
theorem witness_PondLinkCommands_ident :
    (let m := fromModule 5 1 0 1 (moduleIdent 0x0384)
     msgOp m = 5 ∧ msgIntact m = true ∧ msgFormOk m = true ∧ msgNak m = false ∧ msgSeq m = ((pondAt 3).pondLink 3).rxSeq + 1 ∧
       pondIdentOk (msgIdent m) = true) ∧
    (let m := fromModule 5 1 0 1 (moduleIdent 0x0385)
     msgOp m = 5 ∧ msgIntact m = true ∧ msgFormOk m = true ∧ msgNak m = false ∧ msgSeq m = ((pondAt 3).pondLink 3).rxSeq + 1 ∧
       pondIdentOk (msgIdent m) = false) := by decide +kernel

theorem witness_PondLinkCommands_send : let s := pondBusy false
    s.canonical = true ∧ s.pondReady 3 = true ∧ 1 ≤ (s.pondLink 3).hdr ∧ Tab.find (s.pondLink 3).reads 0 = none ∧
    0xFFFFFFFFFF00 % 256 = 0 ∧ (List.replicate 16384 0#8).length = 256 * 64 ∧ 64 ≤ (s.pondLink 3).dat ∧
    (s.pondLink 3).unacked ≠ [] ∧ (s.pondLink 3).replays = 7 ∧ s.pondOpen 3 = true ∧
    Tab.find (s.pondLink 3).reads 4095 = some ⟨0, 1, 0x3F000000, false⟩ ∧
    (s.pondLink 3).writes = [⟨4096, List.replicate 256 9#8, 0, false⟩] := by decide +kernel

set_option maxRecDepth 20000 in
theorem witness_PondReceiveCommands : let s := pondBusy false
    s.canonical = true ∧ s.pondState 3 = 4 ∧ s.flt.armed = [] ∧
    (let m := fromModule 3 9 4095 0 (List.replicate 256 7#8)
     msgIntact m = true ∧ msgFormOk m = true ∧ msgNak m = false ∧ msgSeq m = ((s.pondLink 3).rxSeq + 1) % 65536 ∧
       msgStatus m = 0 ∧ msgOp m = 3 ∧ msgTag m = 4095 ∧ s.windowBlocks 0x3F000000 ((msgData m).take 256).length = []) ∧
    (let m := fromModule 4 9 0 0 []
     msgIntact m = true ∧ msgFormOk m = true ∧ msgNak m = false ∧ msgSeq m = ((s.pondLink 3).rxSeq + 1) % 65536 ∧
       msgStatus m = 0 ∧ msgOp m = 4) ∧
    msgOp (fromModule 0 8 0 0 []) = 0 ∧
    Tab.find (s.pondLink 3).reads 4095 = some ⟨0, 1, 0x3F000000, false⟩ ∧
    Tab.find ((pondBusy true).pondLink 3).reads 4095 = some ⟨0, 1, 0x3F000000, true⟩ ∧
    (∀ i < 256, s.plain (0x3F000000 + i) = true) ∧
    (s.pondLink 3).writes = [⟨4096, List.replicate 256 9#8, 0, false⟩] ∧
    ((pondBusy true).pondLink 3).writes = [⟨4096, List.replicate 256 9#8, 0, true⟩] ∧
    (List.replicate 256 9#8).length = 256 * 1 ∧ 4096 % 256 = 0 ∧ bit s.pondMask 3 = true := by decide +kernel

/-- Hopper's pool 11 with 5 buffers, 3 of them shared, and a minimum of 1 for owner 14 (R160–R162). -/
def pooled : State := ((live.set (F.HOP_POOL_TOTAL_COUNT.ix 11) 5).set (F.HOP_POOL_SHARED_SHARED.ix 11) 3).set (F.HOP_MIN_MIN.ix 11 14) 1

theorem witness_HopperCommands : poolFor 1 0x40001 = none ∧ poolFor 1 0x40000 = some 11 ∧ live.canonical = true ∧
    live.flt.armed = [] ∧ live.poolCount 11 = 0 ∧ pooled.canonical = true ∧ pooled.flt.armed = [] ∧ pooled.poolCount 11 ≠ 0 ∧
    pooled.flag (F.HOP_POOL_STAT_BROKEN.ix 11) = false ∧ pooled.grants 11 = true ∧ pooled.grantable 11 14 = true ∧
    (pooled.set (F.HOP_POOL_STAT_AUDIT_BUSY.ix 11) 1).grants 11 = false ∧
    11 = 6 * bits (handleOf 11 4) 31 31 + bits (handleOf 11 4) 30 28 ∧ pooled.col.colls = [] ∧
    (pooled.set (F.HOP_POOL_STAT_BROKEN.ix 11) 1).flag (F.HOP_POOL_STAT_BROKEN.ix 11) = true ∧ live.takesWrite 11 = true ∧
    (pooled.set (F.HOP_POOL_STAT_AUDIT_BUSY.ix 11) 1).flag (F.HOP_POOL_STAT_AUDIT_BUSY.ix 11) = true ∧
    (pooled.set (F.HOP_POOL_STAT_BROKEN.ix 11) 1).get (F.HOP_POOL_ALLOC_ALLOC.ix 11) = 0 ∧ pooled.maintenance = true := by
  decide +kernel

theorem witness_HopperCommands_waits : ∀ k, (pooled.pool k).waiting = [] := fun _ => rfl

/-- READY with a first image running and fabric port 15, a mesh port, in a state of Table FAB-3. -/
def fabAt (st : Nat) : State := (works.set (F.FAB_PORT_STAT_ROLE.ix 15) 2).set (F.FAB_PORT_STAT_STATE.ix 15) st

theorem witness_FabricPortCommands : (∀ st < 6, (fabAt st).fabState 15 = st ∧ (fabAt st).canonical = true ∧
      (fabAt st).flt.armed = [] ∧ (fabAt st).fatal = false ∧ (fabAt st).fab.withheld = [] ∧ (fabAt st).takesWrite 12 = true) ∧
    (fabAt 0).fabMayTrain 15 = true ∧ ((fabAt 0).set F.FAB_CFG_AUTO_RETRAIN 1).flag F.FAB_CFG_AUTO_RETRAIN = true ∧
    (fabAt 3).get (F.FAB_PORT_STAT_ROLE.ix 15) ≠ 0 ∧ (fabAt 3).img.first = true ∧ (fabAt 3).fabOpen 15 = true ∧
    (fabAt 4).fabOpen 15 = true ∧ (cold (fabAt 1) 15).portCold 15 = true ∧ (fabAt 1).portCold 15 = false ∧
    (fabAt 3).fabIdentOk 15 ⟨0xAB1, 0, 0, 0, 0, 0, 0, totals⟩ = true ∧
    (fabAt 3).fabIdentOk 15 ⟨0xAB1, 1, 0, 0, 0, 0, 0, totals⟩ = false ∧ (fabAt 3).fab.met.has 15 = false ∧
    blockOk (blockBytes [1, 2, 3, 4, 5, 6, 7, 4095] 9) = true ∧ blockOk (List.replicate 15 0#8 ++ [1#8]) = false ∧
    7 ≤ (((fabAt 4).setFabPort 15 { (fabAt 4).fabPort 15 with bad := 7 }).fabPort 15).bad ∧
    ((fabAt 4).fabPort 15).bad = 0 := by decide +kernel

/-- An image whose PORTS opens region 63's SRAM to PUT and GET and counter 4095 to CTR_ADD (Table FAB-2). -/
def fabImage : List Byte := image [(0x8005, 0, blob 672 [(6, [1#8]), (8, beBytes 2 4095), (10, beBytes 2 1),
  (544, beBytes 6 0x3F000000 ++ [0xC0#8, 0#8] ++ beBytes 8 0x1000000)])]

/-- Version A routes endpoint 5 to port 15, endpoint 6, which is this one, here, and group 3 to port 15. -/
def routed : State :=
  let s := ((((fabAt 4).set F.RTE_VALID_VALID_A 1).set F.FAB_ENDPOINT_ID 6).setAll
    ((List.range 8).map fun v => (F.FAB_CRED_TX.ix 15 v, 100)))
  running { s with fab := { s.fab with uc := [(5, 0x8000000F), (6, 0xC0000000)], mc := [(3, 0x90008000)] } } fabImage

/-- A state with a packet delivered at H1, and that state once it is taken. -/
def holding (s : State) (k : Packet) : State := { s with fab := { s.fab with inbox := [⟨1, 15, 4, true, k⟩] } }
def taken (s : State) : State := { s with fab := { s.fab with inbox := [] } }.countInUse

/-- A packet from endpoint 5 for this one. -/
def pktFrom5 (cls op addr : Nat) (data : List Byte) : Packet :=
  (Packet.sealed { packetOf cls op 6 9 addr 0 false true false data.length data with src := 5 })

/-- Operation 9 of a kind on endpoint 5, with its buffer in region 63. -/
def op9 (kind : OpKind) : State :=
  { routed with fab := { routed.fab with ops := [(9, ⟨kind, ⟨1, false, 5, 0, 0x3F000000, 4, 1, 9, none, 0⟩, 0, 0, none⟩)] } }

theorem witness_PacketAndIssueCommands :
    let k := pktFrom5 2 1 0x3F000000 [1#8, 2#8]
    let w := { routed with fab := { routed.fab with queues := [(8 * 17 + 4, [⟨{ k with dst := 5 }, 17, 4, none, [], true⟩]),
      (8 * 17 + 5, [⟨{ k with dst := 5 }, 17, 5, some 15, [], true⟩])] } }
    let m := { routed with fab := { routed.fab with queues := [(8 * 15 + 4, [⟨k, 15, 4, none, [], true⟩])] } }
    routed.canonical = true ∧ routed.fabState 15 = 4 ∧ k.fecOk = true ∧ k.pcrc = k.crc ∧ k.formOk = true ∧ k.hops < 64 ∧
      k.mepoch = routed.epoch ∧ k.mcast = false ∧ routed.versionOk k.repoch = true ∧
      bit (routed.ucEntry k.repoch k.dst) 31 = true ∧ bit (routed.ucEntry k.repoch k.dst) 30 = true ∧
      newer 0xFFFFFFFF routed.epoch = false ∧ routed.epochOk 0xFFFFFFFF (routed.memberEp 5) = false ∧ w.canonical = true ∧
      w.mute = false ∧ w.held7 17 4 = [⟨{ k with dst := 5 }, 17, 4, none, [], true⟩] ∧ w.choose 17 { k with dst := 5 } = some 15 ∧
      w.mayLeave 17 15 { k with dst := 5 } = true ∧ (w.set (F.FAB_CRED_TX.ix 15 4) 0).mayLeave 17 15 { k with dst := 5 } = false ∧
      w.held7 17 5 = [⟨{ k with dst := 5 }, 17, 5, some 15, [], true⟩] ∧ m.held7 15 4 = [⟨k, 15, 4, none, [], true⟩] ∧ m.canonical = true := by
  decide +kernel

theorem witness_PacketAndIssueCommands_operations : routed.away 5 ∧ Tab.find routed.fab.ops 0xFFFFFFFF = none ∧
    (routed.rangeFaults 0 [(0x3F000000, 4096)] []).1 = false ∧ ((op9 .put).rangeFaults 0 [(0x3F000000, 4)] []).1 = false ∧
    (op9 .put).canonical = true ∧
    Tab.find (op9 .put).fab.ops 9 = some ⟨.put, ⟨1, false, 5, 0, 0x3F000000, 4, 1, 9, none, 0⟩, 0, 0, none⟩ ∧
    0 < (op9 .put).get F.FAB_CFG_RETRIES ∧
    Tab.find (op9 .ctr).fab.ops 9 = some ⟨.ctr, ⟨1, false, 5, 0, 0x3F000000, 4, 1, 9, none, 0⟩, 0, 0, none⟩ := by
  refine ⟨?_, ?_⟩
  · unfold State.away; decide +kernel
  · decide +kernel

/-- What the statements about an operation's target ask of a delivered packet. -/
def targetOk (s : State) (op : Nat) (k : Packet) : Prop :=
  s.canonical = true ∧ s.takePacket 1 op = some (⟨1, 15, 4, true, k⟩, taken s) ∧
    (taken s).ctxRoom 1 (ctxKey k.src k.opId) = true

theorem witness_OperationTargetCommands :
    let put := pktFrom5 2 1 0x3F000000 [1#8, 2#8]
    let get := { pktFrom5 0 3 0x3F000000 [] with len := 64 }
    let ctr := pktFrom5 0 5 (0xFC0000000000 + 64 * 4095) (beBytes 4 3)
    (holding routed put).noRefusals ∧ targetOk (holding routed put) 1 put ∧ targetOk (holding routed get) 3 get ∧ targetOk (holding routed ctr) 5 ctr ∧
    imgWindowOk (taken (holding routed put)).image 1 0x3F000000 2 = true ∧ (taken (holding routed put)).windowBlocks 0x3F000000 2 = [] ∧
    (∀ i < 2, (taken (holding routed put)).plain (0x3F000000 + i) = true) ∧
    ((taken (holding routed put)).rangeFaults 0 [] [(0x3F000000, 2)]).1 = false ∧
    put.last = true ∧ put.pkt = 0 ∧ put.mcast = false ∧ put.poison = false ∧
    Tab.find (taken (holding routed put)).fab.ctx (ctxKey put.src put.opId) = none ∧
    imgWindowOk (taken (holding routed get)).image 0 0x3F000000 64 = true ∧
    ((taken (holding routed get)).rangeFaults 0 [(0x3F000000, 64)] []).1 = false ∧
    ctr.len = 4 ∧ imgCtrOpen (taken (holding routed ctr)).image 4095 = true := by
  unfold targetOk State.noRefusals
  decide +kernel

theorem witness_OperationTargetCommands_away :
    (taken (holding routed (pktFrom5 2 1 0x3F000000 [1#8, 2#8]))).away 5 ∧
    (taken (holding routed { pktFrom5 0 3 0x3F000000 [] with len := 64 })).away 5 := by
  unfold State.away
  decide +kernel

theorem witness_OperationTargetCommands_replies :
    let ack := pktFrom5 1 2 0 []
    let cack := pktFrom5 1 6 0 []
    let dat := pktFrom5 1 4 0 [7#8, 8#8, 9#8, 10#8]
    (holding (op9 .put) ack).takePacket 1 2 = some (⟨1, 15, 4, true, ack⟩, taken (holding (op9 .put) ack)) ∧
    ((taken (holding (op9 .put) ack)).answered .put ack).isSome = true ∧ ack.addr / 2 ^ 40 = 0 ∧
    (holding (op9 .ctr) cack).takePacket 1 6 = some (⟨1, 15, 4, true, cack⟩, taken (holding (op9 .ctr) cack)) ∧
    ((taken (holding (op9 .ctr) cack)).answered .ctr cack).isSome = true ∧ (holding (op9 .get) dat).canonical = true ∧
    (holding (op9 .get) dat).takePacket 1 4 = some (⟨1, 15, 4, true, dat⟩, taken (holding (op9 .get) dat)) ∧
    (taken (holding (op9 .get) dat)).answered .get dat =
      some ⟨.get, ⟨1, false, 5, 0, 0x3F000000, 4, 1, 9, none, 0⟩, 0, 0, none⟩ ∧ dat.len ≠ 0 ∧
    (holding (op9 .get) dat).flt.armed = [] ∧ (taken (holding (op9 .get) dat)).windowBlocks 0x3F000000 4 = [] ∧
    (∀ i < 4, (taken (holding (op9 .get) dat)).plain (0x3F000000 + i) = true) ∧ dat.last = true ∧
    ((taken (holding (op9 .get) dat)).rangeFaults 0 [] [(0x3F000000, 4)]).1 = false ∧ (holding (op9 .put) ack).flt.armed = [] ∧
    (holding (op9 .ctr) cack).flt.armed = [] ∧
    Tab.find ({ routed with fab := { routed.fab with ctx := [(ctxKey 5 9, ⟨1, 1, none, 0⟩)] } }).fab.ctx (ctxKey 5 9) ≠ none := by
  decide +kernel

theorem witness_RoutingCommands : live.canonical = true ∧ live.takesWrite 13 = true ∧ bit 1 (live.get F.RTE_SEL_SEL) = true ∧
    bit 2 (live.get F.RTE_SEL_SEL) = false ∧ live.get F.RTE_WIN_CTL_VERSION = live.get F.RTE_SEL_SEL ∧
    (live.set F.RTE_WIN_CTL_VERSION 1).get F.RTE_WIN_CTL_VERSION ≠ (live.set F.RTE_WIN_CTL_VERSION 1).get F.RTE_SEL_SEL ∧
    ({ live with fab := { live.fab with staging := some [] } }).fab.staging = some [] ∧ live.selSettled = true ∧
    live.fab.inUse (1 - live.get F.RTE_SEL_SEL) = 0 ∧ live.takesWrite 12 = true := by decide +kernel

/-- A chain of one element of each kind over one FP32 chunk of region 63, to endpoint 5 (group 3 for reports and releases),
all fired or none. -/
def elemOf (kind : Nat) (fired : Bool) : Elem :=
  { Elem.fresh ⟨kind, false, false, false, false, 2, 0, 0, if kind = 6 then 3 else 5, 1, 4, 0, 1, 0, 0⟩ with fired := fired, finished := 1, next := if fired then 1 else 0 }
def collOf (fired linger : Bool) : Coll :=
  ⟨9, 77, 7, false, false, 1, true, 0, 0x3F000000, 0x3F800000, 4096, 0, 0, (List.range 8).map fun k => elemOf k fired, linger, some 0, 0, false⟩
def posted (fired : Bool) : State := { routed with col := { routed.col with colls := [collOf fired false] } }

/-- No chunk waits where the one collective posted has no fired REDUCE with chunks left. -/
theorem noneWait_of {s : State} {c : Coll} (h : s.col.colls = [c])
    (k : c.elems.all (fun e => !(e.d.kind == 2 && e.fired && decide (e.next < e.d.nch))) = true) : s.noneWait := by
  intro hub x hx i e he
  rw [h, List.mem_singleton] at hx
  subst hx
  have := List.all_eq_true.mp k e (List.mem_of_getElem? he)
  simp only [State.elemWaits, Bool.not_eq_true', Bool.and_eq_false_iff] at this ⊢
  rcases this with (h1 | h1) | h1 <;> simp [h1]

theorem witness_CollectiveElementAndResultCommands_waits : (posted false).noneWait ∧ routed.noneWait ∧
    (∀ k, (holding (posted true) k).noneWait) :=
  ⟨noneWait_of rfl (by decide +kernel), fun _ _ h => by simp [routed, running] at h; exact absurd h (List.not_mem_nil),
    fun _ => noneWait_of rfl (by decide +kernel)⟩

theorem witness_CollectiveElementAndResultCommands :
    ∀ kind < 8, (posted false).canonical = true ∧ (posted false).flt.armed = [] ∧ (elemOf 2 false).d.keyed = false ∧ (posted false).fires 9 77 kind kind (collOf false false) (elemOf kind false) := by
  unfold State.fires
  decide +kernel

theorem witness_CollectiveElementAndResultCommands_grant :
    let e := { elemOf 1 false with grants := [(0, 2)] }
    let s := { routed with col := { routed.col with colls := [{ collOf false false with elems := [e] }] } }
    s.fires 9 77 0 1 { collOf false false with elems := [e] } e ∧ e.next = 0 ∧ e.d.nch = 1 ∧
      (e.grants.find? fun y => y.1 == e.d.c0) = some (e.d.c0, 2) ∧ (elemOf 5 false).d.nch ≤ (elemOf 5 false).finished := by
  unfold State.fires
  decide +kernel

/-- A COL packet of an opcode from endpoint 5 for chunk 0 of that collective. -/
def colPkt (op : Nat) (data : List Byte) : Packet :=
  { packetOf 3 op 6 77 (colAddr 9 0 0) 0 false true false data.length data with src := 5 }

theorem witness_CollectiveElementAndResultCommands_packets :
    (∀ op ∈ [0x12, 0x13, 0x14, 0x15, 0x16],
      (holding (posted true) (colPkt op [1#8])).takePacket 1 op =
        some (⟨1, 15, 4, true, colPkt op [1#8]⟩, taken (holding (posted true) (colPkt op [1#8]))) ∧
      (holding (posted true) (colPkt op [1#8])).canonical = true ∧
      (taken (holding (posted true) (colPkt op [1#8]))).coll (colKey (colPkt op [1#8])).1 (colPkt op [1#8]).opId =
        some (collOf true false)) ∧
    ((collOf true false).find fun e => e.d.kind == 4 && e.fired && !e.done && !e.written.has 0 &&
      decide (e.d.c0 ≤ 0 ∧ 0 < e.d.c0 + e.d.nch)) = some (4, elemOf 4 true) ∧
    (taken (holding (posted true) (colPkt 0x12 [1#8]))).windowBlocks 0x3F000000 1 = [] ∧
    (taken (holding (posted true) (colPkt 0x12 [1#8]))).plain 0x3F000000 = true ∧
    ((collOf true false).find fun e => e.d.kind == 5 && !e.done) = some (5, elemOf 5 true) ∧
    ((collOf true false).find fun e => e.d.kind == 3 && e.fired && decide (e.d.c0 ≤ 0 ∧ 0 < e.d.c0 + e.d.nch)) = some (3, elemOf 3 true) ∧
    ((collOf true false).find fun e => e.d.kind == 7) = some (7, elemOf 7 true) ∧
    (elemOf 7 true).srcs.contains 5 = false ∧ (elemOf 7 true).done = false ∧
    (holding (posted true) (colPkt 0x12 [1#8])).noRefusals ∧ (holding (posted true) (colPkt 0x14 [])).flt.armed = [] ∧
    ((taken (holding (posted true) (colPkt 0x14 []))).rangeFaults 0
      [(0x3F000000, (collOf true false).chunkLen 0)] []).1 = false := by
  unfold State.noRefusals
  decide +kernel

/-- Chunk 0 being reduced at H1 with two senders' contributions due, and a small accumulator. -/
def chunkSlot (totals : List (Nat × Nat)) : Slot := ⟨9, 77, 2, 0, 0, 0, [0#32, 0#32], false, totals.length, totals, [], [], false⟩
def reducingChunk (totals : List (Nat × Nat)) : State :=
  { posted true with col := { (posted true).col with slots := [(128, chunkSlot totals)] } }

theorem witness_CollectiveDataCommands :
    let p0 := { colPkt 0x10 (beBytes 4 0x3F800000) with last := false }
    let p1 := colPkt 0x10 (beBytes 4 0x3F800000)
    let s0 := holding (reducingChunk []) p0
    let s1 := holding (reducingChunk [(8, 1)]) p1
    s0.canonical = true ∧ s1.canonical = true ∧ s0.flt.armed = [] ∧ s0.noRefusals ∧ s1.noRefusals ∧
      s0.takePacket 1 0x10 = some (⟨1, 15, 4, true, p0⟩, taken s0) ∧ (taken s0).reducing 9 77 0 (128, chunkSlot []) (collOf true false) (elemOf 2 true) ∧
      (chunkSlot []).attempt = (colKey p0).2.1 ∧ (elemOf 2 true).d.keyed = false ∧ p0.last = false ∧
      (chunkSlot []).totals.length ≠ (elemOf 2 true).d.fanin ∧
      s1.takePacket 1 0x10 = some (⟨1, 15, 4, true, p1⟩, taken s1) ∧
      (taken s1).reducing 9 77 0 (128, chunkSlot [(8, 1)]) (collOf true false) (elemOf 2 true) ∧ p1.last = true ∧
      (chunkSlot [(8, 1)]).totals.length + 1 = (elemOf 2 true).d.fanin ∧
      (chunkSlot [(8, 1)]).count = ((chunkSlot [(8, 1)]).totals.map Prod.snd).sum + p1.pkt := by
  unfold State.reducing State.noRefusals
  decide +kernel

theorem witness_CollectiveDataCommands_open :
    let p := colPkt 0x10 (beBytes 4 0x3F800000)
    let n := (((chunkSlot [(8, 1)]).sum 4 0 p.data false).acc.flatMap (wireBytes 4)).length
    let s := taken (holding (reducingChunk [(8, 1)]) p)
    n = 8 ∧ s.windowBlocks 0x3F000000 n = [] ∧ (∀ i < n, s.plain (0x3F000000 + i) = true) := by decide +kernel

theorem witness_CollectiveDataCommands_others :
    let p := colPkt 0x10 [1#8, 2#8, 3#8, 4#8]
    let g := colPkt 0x11 []
    (holding (posted true) p).takePacket 1 0x10 = some (⟨1, 15, 4, true, p⟩, taken (holding (posted true) p)) ∧
      (taken (holding (posted true) p)).slotOf 9 77 0 = none ∧
      (holding (posted false) g).takePacket 1 0x11 = some (⟨1, 15, 4, true, g⟩, taken (holding (posted false) g)) ∧
      (collOf false false).sendElem 0 5 = some (1, elemOf 1 false) ∧ (elemOf 1 false).fired = false ∧
      Tab.find (elemOf 1 false).sent 0 = none ∧ (taken (holding routed g)).coll 9 77 = none ∧
      (routed.col.early.filter fun e => e.hub == 1).length < 1024 := by decide +kernel

theorem witness_CollectiveTimerCommands :
    let s := reducingChunk []
    let m := packetOf 3 0x15 3 77 (colAddr 9 0 0) 0 true true false 16 (List.replicate 16 0#8)
    let r := { routed with col := { routed.col with releases := [⟨9, 77, 6, 1, m⟩] } }
    s.canonical = true ∧ s.mute = false ∧ s.reducing 9 77 0 (128, chunkSlot []) (collOf true false) (elemOf 2 true) ∧
      (chunkSlot []).reissues < s.get F.FAB_CFG_RETRIES ∧ ¬ (chunkSlot []).reissues < (s.set F.FAB_CFG_RETRIES 0).get F.FAB_CFG_RETRIES ∧
      Tab.find s.col.slots (128 * 1 + 0) = some (chunkSlot []) ∧ s.elem 9 77 4 = some (elemOf 4 true) ∧
      (elemOf 4 true).d.kind = 4 ∧ (elemOf 4 true).fired = true ∧ (elemOf 4 true).done = false ∧ 0 < (elemOf 4 true).finished ∧
      s.away (elemOf 4 true).d.peer ∧ r.canonical = true ∧ s.noRefusals ∧
      r.col.releases.find? (fun y => y.group == 9 && y.seq == 77 && y.elem == 6) = some ⟨9, 77, 6, 1, m⟩ ∧ m.mcast = true ∧
      m.cls = 3 ∧ r.awayMc m.dst ∧ s.takesWrite 14 = true ∧
      s.coll 9 77 = some (collOf true false) ∧ (collOf true false).linger = false := by
  unfold State.reducing State.away State.awayMc State.noRefusals
  decide +kernel

/-- Line port 3 with a state of ALIGN_STAT (R237). -/
def aligned (st : Nat) : State := ticking.set (F.LHL_ALIGN_STAT_STATE.ix 3) st

/-- Protection port 3 of a 1+1 group, whose working port's lanes have not locked. -/
def copying : State := (ticking.onLine 3 fun l => { l with txOn := true }).set (F.LHL_PG_CFG_MODE.ix 1) 1

theorem witness_LineFrameCommands :
    let tx := ticking.onLine 3 fun l => { l with txOn := true }
    let c := (aligned 2).onLine 3 fun l => { l with cands := [⟨139264, 2, 5⟩] }
    tx.canonical = true ∧ (tx.line 3).txOn = true ∧ tx.fatal = false ∧ tx.copied 3 = false ∧
      tx.time.running = true ∧ (copying.canonical = true ∧ (copying.line 3).txOn = true ∧ copying.fatal = false ∧
        copying.time.running = true ∧ copying.copied 3 = true ∧ (copying.line 1).txOn = false ∧ copying.bridged 1 = true) ∧ (∀ st < 4, (aligned st).canonical = true ∧ (aligned st).get (F.LHL_ALIGN_STAT_STATE.ix 3) = st ∧
        (aligned st).flt.armed = [] ∧ (aligned st).takesWrite 15 = true) ∧
      ((aligned 3).set (F.LHL_ALIGN_STAT_MISSES.ix 3) 4).get (F.LHL_ALIGN_STAT_MISSES.ix 3) = 4 ∧
      (∀ l < 8, markerOk ((aligned 1).get F.LHL_CFG_ALIGN_TOL) l ((((List.range 8).map laneMarker)[l]?).getD 0) = true) ∧
      ((aligned 1).line 3).cands = [] ∧ c.canonical = true ∧ c.get (F.LHL_ALIGN_STAT_STATE.ix 3) = 2 ∧
      ((c.line 3).cands.find? fun c => decide (c.pos ≤ 278528) && (278528 - c.pos) % frameBytes == 0) = some ⟨139264, 2, 5⟩ ∧
      (ticking.set F.TIM_STAT_VALID 1).flag F.TIM_STAT_VALID = true ∧ ticking.flag F.TIM_STAT_VALID = false := by
  decide +kernel

/-- An image with every line port used and flow 200, which sends to and receives from gateway 0 of site 1 under key slot 8
with a window of 256 and 3 retransmissions at most, a retain buffer of 1 GiB and a shard map of one 2 × 3 matrix (R252, Table
MLR-2). -/
def lineImage : List Byte := image
  [(0x8001, 0, blob 32 [(1, [3#8])]), (0x8002, 0, blob 24 [(7, [1#8]), (18, [0#8, 2#8, 0#8, 3#8])]),
    (0x8004, 0, blob 128 [(0, [2#8]), (2, [0#8, 1#8]), (64, 9#8 :: 0#8 :: beBytes 6 0x3F000000 ++ beBytes 8 0x1000),
      (96, 1#8 :: 0#8 :: beBytes 6 0x3F800000 ++ beBytes 8 0x1000)]),
    (0x8009, 0, blob 144 [(0, [0#8, 1#8]), (32, [0x80#8]), (48, [0x80#8]), (64, [0x80#8]), (80, [0x80#8]),
      (128, [200#8, 0xC0#8, 1#8, 0#8, 31#8]), (136, [0#8, 1#8, 0#8, 3#8, 0x22#8])])]

/-- The record of flow 200. -/
def flow200 : FlowRec := ⟨200, 3, 1, 0, 31, 256, 3, 8, 1⟩

/-- READY with that image: flow 200 runs under link root 0, holds slot 63 of port 3 both ways, and Hopper has buffers for
port 3. -/
def lined : State :=
  let s := ((((running ticking lineImage).set (F.MLR_FLOW_STAT_STATE.ix 200) 1).set (F.CRY_KSLOT_CFG_USE.ix 8) 1).set
    (F.CRY_KSLOT_CFG_ROOT.ix 8) 1).setAll [(F.HOP_POOL_TOTAL_COUNT.ix 6, 5), (F.HOP_MIN_MIN.ix 6 9, 1)]
  { s with cry := { s.cry with roots := [(0, List.replicate 32 1#8)], durable := [(8, 0)] }
           lhl := { s.lhl with pages := [(pageKey 3 0 0 63, 0x80C8), (pageKey 3 1 0 63, 0x80C8)] } }

theorem witness_LineSwitchCommands :
    let a := lined.onLine 3 fun l => { l with armed := some 17 }
    let w := lined.setGroup 1 { lined.group 1 with wtr := true }
    lined.canonical = true ∧ lined.takesWrite 16 = true ∧ lined.flt.armed = [] ∧
      lined.get64 (F.TSI_SWAP_AT_LO_FNUM.ix 3) (F.TSI_SWAP_AT_HI_FNUM.ix 3) < lined.txFnum 3 + 17 ∧
      ¬ (lined.set (F.TSI_SWAP_AT_LO_FNUM.ix 3) 17).get64 (F.TSI_SWAP_AT_LO_FNUM.ix 3) (F.TSI_SWAP_AT_HI_FNUM.ix 3) <
        (lined.set (F.TSI_SWAP_AT_LO_FNUM.ix 3) 17).txFnum 3 + 17 ∧
      a.canonical = true ∧ a.takesWrite 16 = true ∧ (a.line 3).armed = some 17 ∧ a.txFnum 3 + 16 < 17 ∧
      (lined.setBit F.LHL_STAT_SF 3 true).getBit F.LHL_STAT_SF 3 = true ∧
      (lined.setBit F.LHL_STAT_SD 1 true).getBit F.LHL_STAT_SD 1 = true ∧ w.canonical = true ∧ (w.group 1).wtr = true ∧
      lined.takesWrite 15 = true ∧ (lined.set (F.LHL_PG_CFG_MODE.ix 1) 1).get (F.LHL_PG_CFG_MODE.ix 1) = 1 ∧
      ((lined.set (F.LHL_PG_CFG_MODE.ix 1) 1).set (F.LHL_PG_STAT_REQ.ix 1) 7).flag (F.LHL_PG_STAT_SELECTED.ix 1) = false ∧
      toProtection 7 = true ∧ bit (beAt (imgBody lined.image 0x8009 0) (32 + 16 * 3) 1) 7 = true ∧ lined.img.first = true ∧
      lined.causeOn 3 = false ∧ lined.fatal = false ∧ lined.get (F.LHL_ALIGN_STAT_STATE.ix 3) = 0 ∧ lined.portCold (16 + 3) = false ∧
      (cold lined 19).portCold 19 = true ∧ (cold lined 19).canonical = true := by decide +kernel

/-- Header and body of a segment of flow 200, SEQ 0, KIND 4, one block of 16 bytes (Table MLR-1). -/
def segHead30 : List Byte := blob 30 [(0, [0x4D#8, 0x52#8, 0#8, 200#8]), (12, [4#8]), (25, [0x80#8])]
def segBytes : List Byte := segHead30 ++ beBytes 2 (crc16 0xFFFF segHead30) ++ List.replicate 32 5#8
def segState : State := (lined.set F.MBR_STAT_STATE 2).onLine 3 fun l => { l with rx := [(200, List.replicate 16 0#8 ++ segBytes)] }

/-- That gateway in UPD state 7, in which objects of a merge cross. -/
def merging : State := lined.set F.UPD_STEP_STAT_STATE 7

/-- Sites 0 and 1 in the commit set, of which site 1's gateway has no member entry. -/
def lonely : State :=
  let s := lined.set F.MBR_STAT_COMMIT 3
  { s with mbr := { s.mbr with installed := true } }

def handed : SegReq := ⟨200, 2, false, 0, 0, 0, 0x3F000000, 4096, false, 0⟩

theorem witness_SegmentCommands_handoff :
    imgFlow merging.image 200 = some flow200 ∧ merging.canonical = true ∧ (merging.txFlow 200).owed = [] ∧ handed.kind ≠ 1 ∧
      merging.mayCross flow200 handed = true ∧ merging.flowSends flow200 = true ∧ lined.mayCross flow200 handed = false ∧
      ¬ flow200.win ≤ seqAhead (merging.txNextSeq 200) (merging.ackCum 200) ∧
      flow200.win ≤ seqAhead ((merging.set (F.MLR_FLOW_TX_LO_SEQ.ix 200) 256).txNextSeq 200) (merging.ackCum 200) ∧
      (merging.rangeFaults 0 [(handed.addr, min handed.len 16384)] []).1 = false ∧ merging.retainSize = 2 ^ 30 ∧
      merging.mlr.retain = [] ∧ (merging.unsent fun _ => true) = [] := by decide +kernel

theorem witness_SegmentCommands :
    let c := { lined with mlr := { lined.mlr with ctl := [⟨200, []⟩] } }
    lined.canonical = true ∧ flow200.receives = true ∧ segState.canonical = true ∧ segState.fatal = false ∧ segState.cryPaused = false ∧
      segState.flt.armed = [] ∧ imgFlow segState.image 200 = some flow200 ∧
      (bit segState.commitMask flow200.site && segState.absentPeer flow200.site && flow200.gw == imgGw segState.image) = false ∧
      segBytes = skipFill (Tab.get [] (segState.line 3).rx 200).length (Tab.get [] (segState.line 3).rx 200) ∧
      segStart segBytes = true ∧ (parseSeg segBytes).length ≤ segBytes.length ∧
      segState.lineBuffer 3 (parseSeg segBytes).length = none ∧
      kepochOk (parseSeg segBytes).kepoch (segState.get (F.CRY_KSLOT_EPOCH_KEPOCH_MIN.ix flow200.kslot)) = true ∧
      segState.gotSeq 200 (parseSeg segBytes).seq = false ∧ segState.belongs flow200.site (parseSeg segBytes) = true ∧
      (lined.onLine 3 fun l => { l with rx := (segState.line 3).rx }).belongs flow200.site (parseSeg segBytes) = false ∧
      seqLess (parseSeg segBytes).seq (seq48 (segState.rxCum 200 + flow200.win)) = true ∧ (parseSeg segBytes).kind = 4 ∧
      lonely.canonical = true ∧ lonely.fatal = false ∧ lonely.cryPaused = false ∧ imgFlow lonely.image 200 = some flow200 ∧
      (bit lonely.commitMask flow200.site && lonely.absentPeer flow200.site && flow200.gw == imgGw lonely.image) = true ∧
      (200, 0x100) ∉ lonely.mlr.zeroed ∧ lonely.windowBlocks 0x100 4 = [] ∧ (∀ i < 4, lonely.plain (0x100 + i) = true) ∧
      c.mlr.ctl = [⟨200, []⟩] ∧ c.flt.armed = [] ∧ lined.takesWrite 17 = true := by decide +kernel

theorem witness_SegmentCommands_keys : (∃ k ke, merging.txKey flow200 = .key k ke) ∧
    (∃ key, segState.rxKey flow200 (parseSeg segBytes).kepoch = some key) :=
  ⟨⟨_, _, rfl⟩, ⟨_, rfl⟩⟩

/-- No collective runs and nothing waits in any pool of this gateway. -/
theorem witness_SegmentCommands_idle : segState.noRefusals ∧ lonely.noRefusals ∧ lined.noneWait ∧
    (∀ k, (lined.pool k).waiting = []) :=
  ⟨fun _ h => absurd h (List.not_mem_nil), fun _ h => absurd h (List.not_mem_nil), fun _ _ h => absurd h (List.not_mem_nil),
    fun _ => rfl⟩

/-- A message heard on port 3. -/
def hearing (s : State) (h : Heard) : State := { s with lhl := { s.lhl with heard := [h] } }
def quiet (s : State) : State := { s with lhl := { s.lhl with heard := [] } }

/-- An acknowledgement message of a form about flow 200 from SEQ on (Table MLR-3). -/
def ackMsg (form count seq : Nat) : Heard :=
  ⟨3, 0, 1, blob 80 [(0, [200#8, BitVec.ofNat 8 form]), (2, beBytes 6 seq), (8, beBytes 2 count)]⟩

/-- Flow 200 with SEQ 0 retained after three sends. -/
def keeping : State := { lined with mlr := { lined.mlr with
  retain := [⟨200, 0, ⟨200, 2, false, 0, 0, 0, 0x3F000000, 4096, false, 0⟩, [1#8], 0, [], 0, 3⟩] } }

theorem witness_AcknowledgementAndEchoCommands :
    (∀ k < 4, (hearing keeping (ackMsg k 1 0)).canonical = true ∧
      (hearing keeping (ackMsg k 1 0)).takeHeard (isForm k) = some (ackMsg k 1 0, quiet (hearing keeping (ackMsg k 1 0))) ∧
      imgFlow (hearing keeping (ackMsg k 1 0)).image (beAt (ackMsg k 1 0).body 0 1) = some flow200) ∧
    flow200.site < 8 ∧ beAt (ackMsg 0x12 1 0).body 1 1 / 16 = 1 ∧
    (hearing keeping (ackMsg 0x12 1 0)).takeHeard (isForm 2) = some (ackMsg 0x12 1 0, quiet (hearing keeping (ackMsg 0x12 1 0))) ∧
    ((quiet (hearing keeping (ackMsg 0x12 1 0))).takeSource 200 0).isSome = true ∧
    beAt (ackMsg 3 1 0).body 8 2 = 1 ∧ beAt (ackMsg 3 1 0).body 2 6 = keeping.rxCum 200 ∧ (keeping.rxFlow 200).got = [] ∧
    keeping.canonical = true ∧ keeping.fatal = false ∧ (keeping.rxFlow 200).raw = [] ∧ 0 < keeping.slotCount 3 1 200 ∧
    0 < keeping.slotCount 3 0 200 ∧ (keeping.mlr.retain.find? fun y => y.flow == 200 && y.seq == 0) = keeping.mlr.retain.head? ∧
    keeping.mlr.retain.head? ≠ none ∧ keeping.flowState 200 = 1 ∧ keeping.flt.armed = [] ∧
    keeping.pickPort 200 = some 3 := by decide +kernel

theorem witness_AcknowledgementAndEchoCommands_echoes :
    let on := lined.onLine 3 fun l => { l with txOn := true }
    let req : Heard := ⟨3, 65536, 2, beBytes 8 9⟩
    let rep : Heard := ⟨3, 65536, 3, beBytes 8 9 ++ beBytes 8 10 ++ beBytes 8 11⟩
    let w := { hearing lined rep with mlr := { lined.mlr with echoes := [(3, [9])] } }
    on.canonical = true ∧ on.fatal = false ∧ (on.line 3).txOn = true ∧
      ((hearing lined req).takeHeard fun h => h.typ == 2) = some (req, quiet (hearing lined req)) ∧ (hearing lined req).fatal = false ∧
      (w.takeHeard fun h => h.typ == 3) = some (rep, quiet w) ∧ beAt rep.body 0 8 ∈ Tab.get [] w.mlr.echoes rep.port ∧
      rep.port < 4 ∧ w.flt.armed = [] := by decide +kernel

/-- A membership notice of site 7: its epoch, and the reach reports it gives (Table MLR-5). -/
def noticeMsg (epoch : Nat) : Heard :=
  ⟨3, 0, 5, blob 64 [(0, beBytes 4 epoch), (4, [7#8]), (6, [3#8]), (60, [3#8, 0xEA#8, 0x60#8])]⟩

/-- Site 0 of sites 0 and 7 in a partition: site 7 is in the commit set and not heard from. -/
def parted : State := ((lined.set F.MBR_STAT_SITES 0x81).set F.MBR_STAT_COMMIT 0x81).set F.MBR_STAT_REACH 1

theorem witness_MembershipCommands :
    live.canonical = true ∧ live.takesWrite 25 = true ∧ newer 1 live.epoch = true ∧ live.forcedAt 0xB9 (locChip 0x18) = false ∧ newer 0 live.epoch = false ∧
      newer 0x80000000 live.epoch = false ∧
      ((hearing live (noticeMsg 1)).takeHeard fun h => h.typ == 5) = some (noticeMsg 1, quiet (hearing live (noticeMsg 1))) ∧
      newer (beAt (noticeMsg 1).body 0 4) (hearing live (noticeMsg 1)).epoch = true ∧ (hearing live (noticeMsg 1)).fenced = false ∧
      7 ≠ live.site ∧ live.get (F.MBR_REACH_AGE_MS.ix 7) = 0xFFFF ∧ beAt (noticeMsg 0).body (33 + 4 * 7) 2 ≤ 60000 ∧
      parted.canonical = true ∧ parted.getBit F.MBR_STAT_COMMIT 7 = true ∧ parted.getBit F.MBR_STAT_REACH 7 = false ∧
      parted.fenced = false ∧ parted.flag F.MBR_STAT_PIN_HELD = false ∧ parted.mbr.pinCopy = none ∧
      majority parted.sites 0x80 = false ∧ (parted.set F.MBR_CFG_MINORITY 0).flag F.MBR_CFG_MINORITY = false ∧
      parted.get F.UPD_STEP_STAT_STATE < 3 ∧ (parted.set F.MBR_CFG_MINORITY 1).flag F.MBR_CFG_MINORITY = true ∧
      (parted.set F.UPD_STEP_STAT_STATE 2).get F.UPD_STEP_STAT_STATE = 2 ∧ majority 7 3 = true := by decide +kernel

/-- The partition that ends: site 7 is heard from again, hears site 0, and holds the same pinned version. -/
def rejoining : State :=
  let s := (((((lined.set F.MBR_STAT_SITES 0x81).set F.MBR_STAT_COMMIT 1).set F.MBR_STAT_REACH 0x81).set F.MBR_STAT_STATE 2).set
    F.MBR_STAT_PIN_HELD 1).set F.UPD_STEP_STAT_STATE 6
  { s.set (F.MBR_REACH_MASK.ix 7) 0x81 with mbr := { s.mbr with info := [(7, ⟨0x80, 4, 4, 0, 0, 0⟩)], mergeIn := [(7, (100, 4))] } }

theorem witness_PinAndMergeCommands :
    let c := { lined with mbr := { lined.mbr with pinCopy := some (5, 3) } }
    c.canonical = true ∧ c.mbr.pinCopy = some (5, 3) ∧ (imgAreas c.image 9).head? = some (0x3F000000, 0x1000) ∧
      imgAreas c.image 1 = [(0x3F800000, 0x1000)] ∧ 4 * c.ownedParams = 24 ∧ c.windowBlocks 0x3F000000 24 = [] ∧
      (∀ j < 24, c.plain (0x3F000000 + j) = true ∧ c.plain (0x3F800000 + j) = true) ∧
      rejoining.canonical = true ∧ rejoining.get F.MBR_STAT_STATE = 2 ∧ rejoining.flag F.MBR_STAT_PIN_HELD = true ∧
      rejoining.get F.UPD_STEP_STAT_STATE = 6 ∧ live.takesWrite 25 = true := by decide +kernel

theorem witness_PinAndMergeCommands_rejoin :
    rejoining.farSides = [0x80] ∧ rejoining.farSides.any rejoining.rejoins = true ∧ rejoining.mbr.sides = [] ∧
      (rejoining.farSides.filter rejoining.rejoins).all rejoining.sideReady = true := by decide +kernel

/-- That merge with its two sides settled. -/
def joined : State :=
  let s := (rejoining.set F.MBR_STAT_STATE 3).set F.UPD_STEP_STAT_STATE 7
  { s with mbr := { s.mbr with sides := [1, 0x80] } }

theorem witness_PinAndMergeCommands_merge :
    let m := joined
    m.canonical = true ∧ m.mbr.sides ≠ [] ∧ m.get F.MBR_STAT_STATE = 3 ∧ m.get F.UPD_STEP_STAT_STATE = 7 ∧ m.fatal = false ∧ m.fenced = false ∧
      m.mergeSides = [1, 0x80] ∧ bit 0x80 7 = true ∧ m.sites < 256 ∧
      (∀ i < 8, bit m.sites i = m.mergeSides.any fun x => bit x i) := by decide +kernel

theorem witness_HeartbeatTouchIsAccepted : live.canonical = true ∧ deadState.canonical = true := by decide +kernel

theorem witness_HeartbeatLapse :
    let h := { works with img := { works.img with next := some [] } }
    h.canonical = true ∧ h.flag F.MBR_STAT_UNATTENDED = false ∧ h.get F.PWR_STAT_STAGE ≠ 0 ∧ h.img.next ≠ none ∧
      h.applying = false ∧ h.fatal = false := by decide +kernel

/-- A BOLTER_TABLE body of epoch 3 with one window of two blocks at the start of the far tier and its map at the start of
near tier 0 (Table CMP-4). -/
def tableBody : List Byte := blob 556 [(0, beBytes 2 3), (4, [1#8]), (32, beBytes 6 0x20000000000), (40, beBytes 8 0x2000),
  (48, beBytes 6 0x10000000000)]

/-- The far tier over four ACTIVE links, with that table in slot 2 and staged for slot 3; the window's map entries are all
zero (R301), or the first of them is one that is not allowed. -/
def windowed (bad : Bool) : State :=
  let s := (live.set F.PND_STAT_MASK 15).set F.PND_STAT_ACTIVE 15
  { s with cmp := { s.cmp with slots := [(2, tableBody)], staged := [(3, tableBody)] }
           mem := if bad then [(0x10000000000, 0x3F#8)] else [] }

theorem witness_BolterCommands :
    let w := ⟨0x20000000000, 0x2000, 0x10000000000⟩
    let s := windowed false
    s.canonical = true ∧ Tab.find s.cmp.staged 3 = some tableBody ∧ s.get (F.CMP_SLOT_USE_RETAINED.ix 3) = 0 ∧
      (s.set (F.CMP_SLOT_USE_RETAINED.ix 3) 1).get (F.CMP_SLOT_USE_RETAINED.ix 3) ≠ 0 ∧
      s.windowOf 0x20000001FFF = some (2, parseTable tableBody, w) ∧ s.windowOf 0x20000002000 = none ∧
      (∀ j < 2, s.windowOf (0x20000001FFE + j) = some (2, parseTable tableBody, w)) ∧
      (windowed true).canonical = true ∧ (windowed true).windowFault 0x20000000FFF 1 = some (0x20000000000, 5) ∧
      s.windowWhole 0x20000000000 4095 = false ∧ s.windowWhole 0x20000000000 4096 = true ∧ s.flt.armed = [] ∧
      s.takesWrite 18 = true := by decide +kernel

theorem readBlock_of_zero {s : State} {w : BWindow} {a : Nat} (hp : s.poisoned (w.map + 2 * ((a / 4096 * 4096 - w.base) / 4096)) = false)
    (he : beNat (s.readBytes (w.map + 2 * ((a / 4096 * 4096 - w.base) / 4096)) 2) = 0) :
    s.readBlock w a = .data (List.replicate 4096 0#8) := by
  have h0 : bits 0 13 9 = 0 := by decide
  unfold State.readBlock
  simp only [hp, he, h0, ne_eq, not_true_eq_false, or_false, Bool.false_eq_true, if_false, Nat.zero_div, Nat.zero_mod, and_self,
    if_true]

theorem witness_BolterCommands_read : ∀ j < 2, (windowed false).readBlock ⟨0x20000000000, 0x2000, 0x10000000000⟩
    (0x20000001FFE + j) = .data (List.replicate 4096 0#8) := by
  intro j hj
  match j, hj with
  | 0, _ | 1, _ => exact readBlock_of_zero (by decide +kernel) (by decide +kernel)

theorem reaches_of_block {s : State} {b : Nat} (hs : s.pondMask = 15) (hl : s.get F.PND_STAT_ACTIVE = 15)
    (hb : b % 4096 = 0) (h1 : 0x20000000000 ≤ b) (h2 : b < 0x20000002000) {j : Nat} (hj : j < 4096) :
    s.mapped (b + j) = true ∧ s.linkOk (b + j) = true := by
  have hp : popcount 4 15 = 4 := by decide
  have hst : s.storeAt (b + j) = .far := by
    simp only [State.storeAt, storeOf, hs, hp]
    repeat' split
    all_goals first | rfl | omega
  have hln : inLoader (b + j) = false := by
    simp only [inLoader, loaderBase, Bool.and_eq_false_iff, decide_eq_false_iff_not]; omega
  have hk : (b + j - 0x20000000000) / 4096 % max 1 (popcount 4 15) < 4 := by rw [hp]; exact Nat.mod_lt _ (by decide)
  refine ⟨by simp [State.mapped, hst, hln], ?_⟩
  simp only [State.linkOk, hst, State.getBit, hl, linkOf, hs]
  generalize (b + j - 0x20000000000) / 4096 % max 1 (popcount 4 15) = k at hk
  match k, hk with
  | 0, _ | 1, _ | 2, _ | 3, _ => decide

theorem witness_BolterCommands_write : (∀ j < 4096, (windowed false).mapped (0x20000000000 + j) = true ∧
      (windowed false).linkOk (0x20000000000 + j) = true) ∧
    ((List.replicate 4096 0#8).all (· == 0#8)) = true ∧ (List.replicate 4096 (0#8 : Byte)).length = 4096 := by
  refine ⟨fun j hj => reaches_of_block (by decide +kernel) (by decide +kernel) (by decide) (by decide) (by decide) hj, ?_⟩
  decide +kernel

/-- Key slot 9 is a LINE slot of root 4 and key slot 10 a HOST slot of root 4 whose lease runs; link root 4 is installed, and
one request of slot 10 waits. -/
def ciphered : State :=
  let s := live.setAll [(F.CRY_KSLOT_CFG_USE.ix 9, 1), (F.CRY_KSLOT_CFG_ROOT.ix 9, 5), (F.CRY_KSLOT_CFG_USE.ix 10, 2),
    (F.CRY_KSLOT_CFG_ROOT.ix 10, 5)]
  { s with cry := { s.cry with
      roots := [(4, List.replicate 32 1#8)], leased := Marks.add [] 10, sinceSeed := [(1, 65536)]
      queue := [⟨10, 2, 5, List.replicate 32 2#8, [List.replicate 16 3#8]⟩] } }

/-- That engine with a source armed. -/
def cipherArmed (source : Nat) : State :=
  let s := ciphered.set F.FLT_FORCE_LOC_LOC (locChip 0x18)
  { s with flt := { s.flt with armed := Marks.add [] source } }

theorem witness_CipherRequestCommands_forced : (cipherArmed 0xCB).canonical = true ∧ (cipherArmed 0xCC).canonical = true ∧
    (cipherArmed 0xCB).cryPaused = false ∧ (cipherArmed 0xCB).forcedAt 0xCB (locChip 0x18) = true ∧
    (cipherArmed 0xCC).takesWrite 19 = true ∧ (cipherArmed 0xCC).flag F.CRY_HSTAT_BUSY = false ∧
    (cipherArmed 0xCC).cry.leased.has 10 = true ∧ (cipherArmed 0xCC).forcedAt 0xCC (locChip 0x18) = true := by decide +kernel

theorem witness_CipherRequestCommands :
    let r : CryReq := ⟨10, 2, 5, List.replicate 32 2#8, [List.replicate 16 3#8]⟩
    let n := { ciphered with cry := { ciphered.cry with queue := [{ r with use := 1 }] } }
    ciphered.canonical = true ∧ ciphered.cryPaused = false ∧ 65536 ≤ Tab.get 0 ciphered.cry.sinceSeed 1 ∧
      ciphered.cry.queue = [r] ∧ ciphered.flt.armed = [] ∧ (ciphered.rootOf r.root).isSome = true ∧ n.canonical = true ∧
      n.cry.queue = [{ r with use := 1 }] ∧ n.cryPaused = false ∧ ciphered.takesWrite 19 = true ∧
      ciphered.flag F.CRY_HSTAT_BUSY = false ∧ ciphered.cry.leased.has 10 = true ∧ ciphered.cry.leased.has 63 = false := by
  decide +kernel

theorem witness_KeySlotCommands :
    let full := ciphered.set (F.CRY_KSLOT_EPOCH_KEPOCH_TX.ix 9) 0xFFFF
    let sv := ciphered.set F.GEN_STATUS_MODE_MODE 0
    ciphered.canonical = true ∧ ciphered.takesWrite 19 = true ∧ ciphered.maintenance = true ∧ sv.canonical = true ∧
      sv.takesWrite 19 = true ∧ sv.maintenance = false ∧ ciphered.get (F.CRY_KSLOT_CFG_ROOT.ix 9) = 4 + 1 ∧
      ciphered.get (F.CRY_KSLOT_CFG_USE.ix 9) = 1 ∧ ciphered.flt.armed = [] ∧ full.canonical = true ∧
      full.get (F.CRY_KSLOT_CFG_USE.ix 9) = 1 ∧ full.get (F.CRY_KSLOT_EPOCH_KEPOCH_TX.ix 9) = 0xFFFF ∧
      ciphered.get (F.CRY_KSLOT_CFG_USE.ix 10) = 2 ∧ ciphered.cry.leased.has 10 = true := by decide +kernel

/-- The time unit counts, and TIM_SET holds a time; with a set, a step or a slew that waits. -/
def setting : State := ticking.setAll [(F.TIM_SET_SEC_LO_VALUE, 7), (F.TIM_SET_NS_VALUE, 999999999), (F.TIM_ADJ_NS, 0xFFFFFFFF)]
def waiting (st : Option (Nat × Nat)) (d : Option Int) : State :=
  { ticking with time := { ticking.time with nextSet := st, nextStep := d } }
def slewing : State :=
  let s := ticking.set F.TIM_STAT_SLEWING 1
  { s with time := { s.time with sec := 1, slewLeft := -5 } }

theorem witness_TimeChangeCommands :
    let inc := ticking.set F.TIM_INC_LO_INC 0xFFFFFFFF
    ticking.canonical = true ∧ ticking.takesWrite 20 = true ∧ inc.canonical = true ∧
      (Tab.find inc.heldLo 0x01400040).getD (inc.get F.TIM_INC_LO_INC) = 0xFFFFFFFF ∧
      setting.canonical = true ∧ setting.takesWrite 20 = true ∧ setting.get F.TIM_SET_NS_VALUE < 1000000000 ∧
      1000000000 ≤ (setting.set F.TIM_SET_NS_VALUE 1000000000).get F.TIM_SET_NS_VALUE ∧
      (setting.set F.TIM_STAT_VALID 1).flag F.TIM_STAT_VALID = true ∧ setting.maintenance = true ∧ service.maintenance = false ∧
      slewing.canonical = true ∧ slewing.flag F.TIM_STAT_SLEWING = true ∧ slewing.time.running = true ∧
      ((slewing.totalNs * 2 ^ 32 + slewing.time.frac : Nat) : Int) + slewing.time.slewLeft = ((1000000000 * 2 ^ 32 - 5 : Nat) : Int) ∧
      (waiting (some (2 ^ 48 - 1, 999999999)) none).canonical = true ∧
      (waiting (some (2 ^ 48 - 1, 999999999)) none).time.nextSet = some (2 ^ 48 - 1, 999999999) ∧
      (waiting none (some 12)).time.nextStep = some 12 ∧ (waiting none (some 12)).time.nextSet = none ∧
      ((waiting none (some 12)).totalNs : Int) + 12 = ((12 : Nat) : Int) ∧ ticking.time.sec < 2 ^ 48 ∧
      ticking.time.ns < 1000000000 ∧ ticking.time.frac < 2 ^ 32 := by decide +kernel

/-- A Sync of version 2 of 44 bytes, received at line port 2 (R326), and one of version 1. -/
def ptpMsg (version : Nat) : Heard := ⟨2, 65536, 4, blob 44 [(1, beBytes 1 version), (2, beBytes 2 44)]⟩

/-- Messages of port 2 go to ports 1 and 2 and to the host; the host's own waits in TIM_PTP_TXBUF. -/
def forwarding : State := ticking.setAll [(F.TIM_PTP_FWD_PORTS.ix 2, 6), (F.TIM_PTP_FWD_HOST.ix 2, 1)]

theorem witness_ClockAndMessageCommands :
    let lost := { live with causes := live.causes.add F.TIM_EVT_REFCLK_LOSS.key }
    let pps := ((ticking.set F.TIM_PPS_CFG_OUT_EN 1).set F.TIM_STAT_VALID 1).set F.TIM_STAT_PPS_IN_SEEN 1
    live.canonical = true ∧ live.causes.has F.TIM_EVT_REFCLK_LOSS.key = false ∧ lost.canonical = true ∧
      lost.causes.has F.TIM_EVT_REFCLK_LOSS.key = true ∧ ticking.canonical = true ∧ ticking.time.running = true ∧
      ticking.flt.armed = [] ∧ pps.canonical = true ∧ pps.flag F.TIM_STAT_PPS_IN_SEEN = true ∧
      pps.flag F.TIM_PPS_CFG_OUT_EN = true ∧ pps.flag F.TIM_STAT_VALID = true ∧
      ({ pps with time := { pps.time with ppsOut := true } }).time.ppsOut = true ∧
      ticking.takesWrite 20 = true ∧ ticking.flag F.TIM_PTP_TXSTAT_BUSY = false := by decide +kernel

theorem witness_ClockAndMessageCommands_ptp : ∀ v ∈ [1, 2],
    (hearing forwarding (ptpMsg v)).canonical = true ∧
    ((hearing forwarding (ptpMsg v)).takeHeard fun h => h.typ == 4) = some (ptpMsg v, quiet (hearing forwarding (ptpMsg v))) ∧
    (beAt (ptpMsg v).body 1 1 % 16 = 2 ↔ v = 2) ∧ beAt (ptpMsg v).body 2 2 = (ptpMsg v).body.length ∧
    (ptpMsg v).body.length ≤ 254 ∧ bit (forwarding.get (F.TIM_PTP_FWD_PORTS.ix 2)) 1 = true ∧
    forwarding.flag (F.TIM_PTP_FWD_HOST.ix 2) = true := by decide +kernel

/-- A gate list of two entries of 656 ns and 344 ns in a cycle of 1,000 ns, in force and armed on port 3; the standby list
holds one entry of 1,000 ns with every gate open. -/
def gated : State :=
  let g : GateList := ⟨0, 1000, [(0xFFFFFFFF, 656), (1, 656)]⟩
  let s := lined.setAll [(F.SLU_GCYCLE_VALUE.ix 3, 1000), (F.SLU_GENTRIES_VALUE.ix 3, 1), (F.SLU_GCL_GATES_VALUE.ix 3 0, 0xFFFFFFFF),
    (F.SLU_GCL_DUR_VALUE.ix 3 0, 1000), (F.SLU_Q_SHAPE_EN.ix 3 31, 1), (F.SLU_CFG_HIST_EN, 1)]
  { s with slu := { s.slu with gates := [(3, g)], armed := [(3, g)], queues := [(32 * 3 + 31, [⟨⟨200, 0, handed, [], 0, [], 0, 0⟩, false, 0⟩])] } }

theorem witness_SluiceCommands :
    let g : GateList := ⟨0, 1000, [(0xFFFFFFFF, 656), (1, 656)]⟩
    let z := gated.set (F.SLU_GCYCLE_VALUE.ix 3) 999
    gated.canonical = true ∧ gated.time.running = true ∧ gated.slu.held = [] ∧ gated.flag (F.SLU_Q_SHAPE_EN.ix 3 31) = true ∧
      gated.gateOpen 3 31 = true ∧ gated.holdsNew 3 31 = true ∧ gated.flag (F.SLU_PORT_CFG_COMPAT800.ix 3) = false ∧
      gated.flag F.MLR_STAT_THROTTLED = false ∧ Tab.find gated.slu.gates 3 = some g ∧ gated.get (F.SLU_GATE_STAT_ENTRY.ix 3) + 1 <
      g.entries.length ∧ ((g.entries.take (gated.get (F.SLU_GATE_STAT_ENTRY.ix 3) + 1)).map Prod.snd).sum < g.cycle ∧
      g.entries.length ≤ (gated.set (F.SLU_GATE_STAT_ENTRY.ix 3) 1).get (F.SLU_GATE_STAT_ENTRY.ix 3) + 1 ∧
      Tab.find gated.slu.armed 3 = some g ∧ gated.takesWrite 21 = true ∧ gated.flt.armed = [] ∧
      gateOk gated.image (gated.standbyGate 3) = true ∧ z.canonical = true ∧ gateOk z.image (z.standbyGate 3) = false ∧
      gated.flag F.SLU_CFG_HIST_EN = true := by decide +kernel

/-- Transmit ring of lane 8 of port 23 in a state of Table OPT-6, with resonance 40 under it, and failures and wrong tones. -/
def ringed (st fails wrong : Nat) : State :=
  (live.set (ringFld 23 8 true) st).onRing 23 8 true fun r => { r with place := 40, fails := fails, wrong := wrong }

theorem witness_OpticalLaneCommands_rings : (∀ st ∈ [0, 1], (ringed st 2 0).get (ringFld 23 8 true) ≤ 1) ∧
    (∀ st < 4, (ringed st 2 1).canonical = true ∧ (ringed st 2 1).flt.armed = [] ∧ (ringed st 2 1).get (ringFld 23 8 true) = st) ∧
    ((ringed 1 2 0).ring 23 8 true).fails = 2 ∧ ((ringed 1 1 0).ring 23 8 true).fails < 2 ∧
    ((ringed 3 0 1).ring 23 8 true).wrong ≠ 0 ∧ ((ringed 3 0 0).ring 23 8 true).wrong = 0 ∧
    (live.set (ringFld 23 8 false) 0).get (ringFld 23 8 false) ≤ 1 := by decide +kernel

/-- Port 0 commissioned at −10.00 dBm on lane 3, which has one sample of −13.00 dBm. -/
def fading : State :=
  let s := live.setAll [(F.OPT_PORT_STAT_COMMISSIONED.ix 0, 1), (F.OPT_LANE_COMM_B_LOW.ix 0 3, unsigned 16 (-1000)),
    (F.OPT_LANE_COMM_B_HIGH.ix 0 3, unsigned 16 (-1000)), (F.OPT_LANE_COMM_A_LOW.ix 0 3, unsigned 16 (-1000)),
    (F.OPT_LANE_COMM_A_HIGH.ix 0 3, unsigned 16 (-1000)), (F.OPT_LANE_FAR_FAR_FADE.ix 0 3, 200), (F.OPT_CFG_AUTO_MIRROR, 1)]
  s.onLane 0 3 fun x => { x with sum := ⟨-1000, -1000, -1300, -1300⟩, samples := 1 }

theorem witness_OpticalLaneCommands_powers : fading.canonical = true ∧ (fading.optLane 0 3).samples ≠ 0 ∧
    fading.flag (F.OPT_PORT_STAT_COMMISSIONED.ix 0) = true ∧ fading.flt.armed = [] ∧ fading.flag F.OPT_CFG_AUTO_MIRROR = true ∧
    fading.txUse 0 = 0 ∧ (fading.optPort 0).shadowBad = false ∧ fading.rxShadow 0 = 15 := by decide +kernel

/-- The outcome of that window: the receive direction has faded by 3 dB and the transmit direction by 2 dB, whose loss lies
in front of this device's own shadow. -/
theorem witness_OpticalLaneCommands_window : ∃ t, exec (.averagingWindow 0 []) fading = .next t ∧
    300 ≤ t.get (F.OPT_LANE_FADE_RX.ix 0 3) ∧ 200 ≤ t.get (F.OPT_LANE_FADE_TX.ix 0 3) ∧
    t.get (F.OPT_LANE_STAT_LOC.ix 0 3) ≠ 5 ∧ ∀ m < 3, t.get (F.OPT_LANE_FADE_TX.ix 0 m) < 200 := ⟨_, rfl, by decide +kernel⟩

/-- Port 23 has heard three aligned markers of lane 7, which this receiver wants, or it receives that lane on its shadow. -/
def marked (taken : Bool) : State :=
  let s := (live.onOpt 23 fun o => { o with runLane := 7, run := 3 }).onLane 23 7 fun x => { x with wants := true }
  if taken then (s.set (F.OPT_PORT_STAT_RX_SHADOW.ix 23) 7).set (ringFld 23 7 false) 3 else s

/-- A report unit of lane 7's received power (R359) with its CRC, and one with a CRC that fails. -/
def report (good : Bool) : List Byte :=
  let u := beBytes 2 0x6996 ++ beBytes 1 (16 * 7 + 1) ++ [0#8] ++ beBytes 2 500 ++ [0x78#8] ++ List.replicate 7 0#8
  u ++ beBytes 2 (if good then crc16 0 u else crc16 0 u + 1)

theorem witness_OpticalLaneCommands_shadow : (marked false).canonical = true ∧ ((marked false).optPort 23).runLane = 7 ∧
    ((marked false).optPort 23).run = 3 ∧ (marked false).rxShadow 23 = 15 ∧ ((marked false).optLane 23 7).wants = true ∧
    (marked true).canonical = true ∧ (marked true).rxShadow 23 = 7 ∧ (marked true).rxUse 23 ≠ 4 ∧
    (marked true).get (ringFld 23 7 false) = 3 ∧ (marked true).flag (F.OPT_LANE_STAT_RX_LOS.ix 23 7) = false ∧
    (marked true).mirrored 23 7 = true ∧ live.mirrored 23 7 = false ∧ live.flt.armed = [] ∧
    (report true).length = 16 ∧ beAt (report true) 0 2 = 0x6996 ∧ crc16 0 ((report true).take 14) = beAt (report true) 14 2 ∧
    crc16 0 ((report false).take 14) ≠ beAt (report false) 14 2 ∧ beAt (report true) 2 1 = 16 * 7 + 1 ∧
    (fabAt 4).fabActive 15 = true ∧ (pondAt 4).pondState (23 - 20) = 4 := by decide +kernel

/-- A lane mirrored on the transmit shadow of port 20 whose far end no longer uses it. -/
def mirroring : State := (live.set (F.OPT_PORT_STAT_TX_SHADOW.ix 20) 4).set (F.OPT_PORT_STAT_TX_USE.ix 20) 1

/-- Port 23's shadow is idle and its laser lit, so that it sends reports (R359). -/
def reporting : State := { live.set (F.OPT_PORT_STAT_TX_SHADOW.ix 23) 15 with lit := Marks.add [] (laserOf 23 8) }

theorem witness_OpticalLaneCommands_reports : reporting.canonical = true ∧ reporting.txShadow 23 = 15 ∧
    reporting.lit.has (laserOf 23 8) = true ∧ ([⟨-1, -2, -3, -4⟩] : List LanePower)[0]? = some ⟨-1, -2, -3, -4⟩ := by decide +kernel

theorem witness_OpticalLaneCommands_release : mirroring.canonical = true ∧ mirroring.txUse 20 = 1 ∧
    (mirroring.optPort 20).farOn ≠ some (mirroring.txShadow 20) ∧
    mirroring.get (F.OPT_LANE_FADE_TX.ix 20 (mirroring.txShadow 20)) < 150 ∧ (mirroring.optPort 20).next = none ∧
    (mirroring.optPort 20).shadowBad = false := by decide +kernel

/-- Port 15 is ACTIVE and receives reports; a calibration pass stands at a lane and a step, or none runs. -/
def calibrating (lane step : Nat) : State :=
  (((fabAt 4).set (F.OPT_PORT_STAT_REPORTS_OK.ix 15) 1).set (F.OPT_PORT_CAL_LANE.ix 15) lane).onOpt 15 fun o =>
    { o with calStep := step }

theorem witness_CalibrationAndLaserCommands :
    let c := calibrating 15 0
    let m := c.onOpt 15 fun o => { o with commissioning := true }
    c.canonical = true ∧ (c.set F.OPT_CFG_AUTO_CAL 1).flag F.OPT_CFG_AUTO_CAL = true ∧
      (c.set F.OPT_CAL_CFG_CAL_S 3600).get F.OPT_CAL_CFG_CAL_S ≠ 0 ∧ c.fatal = false ∧ c.portUp 15 = true ∧ c.txUse 15 = 0 ∧
      c.txShadow 15 = 15 ∧ c.rxShadow 15 = 15 ∧ c.flag (F.OPT_PORT_STAT_REPORTS_OK.ix 15) = true ∧ (c.optPort 15).calStep = 0 ∧
      9 ≤ c.get (F.OPT_PORT_CAL_LANE.ix 15) ∧ c.takesWrite 22 = true ∧ live.portUp 15 = false ∧
      (c.set (F.OPT_PORT_STAT_TX_USE.ix 15) 3).txUse 15 = 3 ∧ c.flt.armed = [] ∧
      (calibrating 8 5).canonical = true ∧ (calibrating 8 5).get (F.OPT_PORT_CAL_LANE.ix 15) = 8 ∧
      (calibrating 7 5).get (F.OPT_PORT_CAL_LANE.ix 15) < 8 ∧ ((calibrating 7 5).optPort 15).calStep = 5 ∧
      c.maintenance = true ∧ service.maintenance = false ∧ service.takesWrite 22 = true ∧ m.canonical = true ∧
      (m.optPort 15).commissioning = true := by decide +kernel

theorem witness_CalibrationAndLaserCommands_lasers :
    let r := live.set (F.OPT_LASER_RETIRED_RETIRED.ix 6) 0x00800000
    r.canonical = true ∧ r.takesWrite 22 = true ∧ 215 / 32 = 6 ∧ 215 % 32 = 23 ∧ r.portStill (portOfLaser 215) = true ∧
      r.getBit (F.OPT_LASER_RETIRED_RETIRED.ix 6) 23 = true ∧ bit 0x00800000 23 = true ∧
      r.getBit (F.OPT_LASER_RETIRED_RETIRED.ix 6) 22 = false ∧ (fabAt 4).portStill 15 = false ∧
      (cold live 0).laserCold (laserOf 0 0 / 108) = true ∧ live.laserCold 0 = false := by decide +kernel

theorem witness_StatusAndDigestCommands :
    let m := ticking.set F.GEN_DIGEST_STAT_STATE 3
    live.canonical = true ∧ live.maintenance = true ∧ service.canonical = true ∧ service.maintenance = false ∧
      ticking.canonical = true ∧ ticking.time.running = true ∧ ticking.coveredPending = false ∧ ticking.flt.armed = [] ∧
      ticking.digestCompares = false ∧ m.digestCompares = true ∧ ticking.digestState ≠ 5 ∧
      Instr.wf (.tmr [⟨.mbrEpoch, 2, 1⟩]) = true ∧ live.get (tripleFld .mbrEpoch) < 2 ^ (tripleFld .mbrEpoch).width ∧
      1 % 2 ^ (tripleFld .mbrEpoch).width ≠ live.get (tripleFld .mbrEpoch) ∧ 2 < 2 ^ (tripleFld .mbrEpoch).width ∧
      2 ≠ live.get (tripleFld .mbrEpoch) ∧ Tab.find live.gen.copies (tripleFld .mbrEpoch).key = none ∧
      (evtAt 0x01900020).isSome = true ∧ (evtAt 0x00000030).isSome = true ∧ live.takesWrite (0x01900020 / 0x100000) false = true ∧
      live.takesWrite (0x00000030 / 0x100000) true = true := by decide +kernel

theorem witness_RegisterWriteCommands :
    let p : Posted := ⟨25, 0x01900010, 3600⟩
    let q : Posted := ⟨25, 0x01900010, 3601⟩
    let lo : Posted := ⟨20, 0x01400030, 0xFFFFFFFF⟩
    let hi : Posted := ⟨20, 0x01400034, 65535⟩
    let on := fun x => { live with posted := [x] }
    let c := { on hi with heldLo := [(0x01400030, 0xFFFFFFFF)] }
    live.canonical = true ∧ plainReg 0x00000000 = none ∧ plainReg 0x0FFFFFFC = none ∧ (plainReg 0x01900010).isSome = true ∧
      live.takesWrite (0x01900010 / 0x100000) (0x01900010 == 0x0170000C) = true ∧
      (∀ x ∈ [p, q], (on x).canonical = true ∧ ((on x).posted.find? fun q => q.block == 25) = some x ∧ x.addr = 0x01900010) ∧
      (on lo).canonical = true ∧ ((on lo).posted.find? fun q => q.block == 20) = some lo ∧ lo.addr = 0x01400030 ∧
      c.canonical = true ∧ (c.posted.find? fun q => q.block == 20) = some hi ∧ hi.addr = 0x01400034 ∧ hi.value < 65536 ∧
      Tab.find c.heldLo 0x01400030 = some 0xFFFFFFFF := by decide +kernel

/-- OTP key index 3 in a state of Table CTL-6 with some generations used. -/
def keyed (st used : Nat) : State :=
  { live with otp := { live.otp with groups := if used = 0 then [] else [(5, ⟨used, used, beBytes 1 st ++ List.replicate 35 0#8⟩)], loaded := true } }

/-- A certificate area for this device: QKCA, its length, and an identity certificate of serial number 0 (R420). -/
def certArea : List Byte := blob 112 [(0, ascii "QKCA"), (8, beBytes 4 112), (23, [1#8]), (32, beBytes 2 0x0AB1), (34, [0xA1#8]),
  (36, beBytes 2 32)]

/-- Loader slot 3 is open and holds that area. -/
def certSlot : State := (live.setBit F.IMG_STAT_SLOT_OPEN 3 true).writeBytes (slotBase 3) certArea

theorem witness_OtpAndBootStoreCommands_otp :
    let w := { live with otp := { live.otp with write := some ⟨5, [1#8]⟩ } }
    (∀ x ∈ [(0, 0), (1, 1), (2, 2), (1, 4)], (keyed x.1 x.2).canonical = true ∧ (keyed x.1 x.2).takesWrite 1 = true ∧
      (keyed x.1 x.2).otp.write = none ∧ (keyed x.1 x.2).keyState 3 = x.1 ∧ (keyed x.1 x.2).otpUsed (2 + 3) = x.2) ∧
    (keyed 1 1).maintenance = true ∧ (keyed 1 1).img.running = none ∧ w.canonical = true ∧
    w.otp.write = some ⟨5, [1#8]⟩ ∧ w.flt.armed = [] := by decide +kernel

theorem witness_OtpAndBootStoreCommands_boot :
    let o := fun op => { live with boot := { live.boot with op := some op } }
    live.canonical = true ∧ live.takesWrite 27 = true ∧ live.maintenance = true ∧ live.boot.op = none ∧
      works.canonical = true ∧ works.img.running ≠ none ∧ works.get F.PST_STAT_ACTIVE ≠ 1 ∧
      (live.set (validFld 1) 1).flag (validFld 1) = true ∧ live.flag (validFld 0) = false ∧
      (∀ op ∈ [BootOp.writeRunning 1, .activate 1, .verify 1, .writeCert certArea], (o op).canonical = true ∧ (o op).boot.op = some op ∧
        (o op).flt.armed = []) := by decide +kernel

theorem witness_OtpAndBootStoreCommands_cert : certSlot.canonical = true ∧ certSlot.takesWrite 27 = true ∧
    certSlot.maintenance = true ∧ certSlot.boot.op = none ∧ certSlot.slotOpen 3 = true ∧
    certSlot.certNames (certSlot.readBytes (slotBase 3) 112) = true ∧ live.slotOpen 3 = false := by decide +kernel

/-- Snapshots are queued; the current journal bank is full, and the other erased. -/
def journaling (full : Bool) : State :=
  let s := live.set F.PST_STAT_JRN_QUEUED 1
  { s with boot := { s.boot with j0 := if full then (List.range 128).map fun n => (n, .bad) else [] } }

theorem witness_JournalCommands :
    let e := { journaling true with boot := { (journaling true).boot with erasing := some 1, retries := 3 } }
    live.canonical = true ∧ live.takesWrite 27 = true ∧ (journaling false).canonical = true ∧
      (journaling false).flag F.PST_STAT_JRN_QUEUED = true ∧ (journaling false).boot.retries < 4 ∧
      (journaling false).boot.current < 2 ∧ (journaling false).flt.armed = [] ∧
      freePlace ((journaling false).jrnBank (journaling false).boot.current) = some 0 ∧ (journaling true).canonical = true ∧
      freePlace ((journaling true).jrnBank (journaling true).boot.current) = none ∧
      freePlace ((journaling true).jrnBank (1 - (journaling true).boot.current)) = some 0 ∧
      (journaling true).boot.erasing ≠ some (1 - (journaling true).boot.current) ∧ e.canonical = true ∧ e.boot.erasing = some 1 ∧
      e.boot.retries = 3 := by decide +kernel

/-- The quote queue has an entry that waits. -/
def quoting : State :=
  let s := live.setAll [(F.ATT_Q_CFG_EN, 1), (F.ATT_Q_CFG_SIZE, 4), (F.ATT_Q_TAIL_INDEX, 1)]
  { s with pcie := { s.pcie with busMaster := true } }

theorem witness_AttestationCommands :
    let c := { live with boot := { live.boot with cert := certArea } }
    live.canonical = true ∧ certHead live.boot.cert = false ∧ c.canonical = true ∧ certHead c.boot.cert = true ∧
      live.cryPaused = false ∧ (live.set F.CRY_STAT_PAUSED 1).cryPaused = true ∧ live.fatal = false ∧ deadState.fatal = true ∧
      quoting.canonical = true ∧ quoting.flag F.ATT_Q_CFG_EN = true ∧ quoting.fatal = false ∧ quoting.cryPaused = false ∧
      quoting.pcie.busMaster = true ∧ quoting.get F.ATT_Q_HEAD_INDEX ≠ quoting.get F.ATT_Q_TAIL_INDEX := by decide +kernel

theorem witness_SmbusCommands : deadState.canonical = true ∧ live.canonical = true ∧ (live.set F.PWR_STAT_STAGE 0).canonical = true := by
  decide +kernel

/-! Tests whose expected values are the spec's worked examples and tables. -/

/-- R36, worked example: a cell of local block 9 of local region 3 of Q2, and the block. -/
theorem test_location_codes : locCell 569 5 62 = 0x23917E00 ∧ locBlock 569 = 0x63900000 := by decide

/-- R310, worked example: the IV of KEPOCH 7, flow 9 and SEQ 0x12345. -/
theorem test_segment_iv : segIv 7 9 0x12345 = [0x00#8, 0x07#8, 0x09#8, 0x4D#8, 0x00#8, 0x00#8, 0x00#8, 0x01#8, 0x23#8, 0x45#8,
    0x00#8, 0x00#8] := by decide

/-- R151, worked example: the RETAIN address falls on link 3, at the module address given. -/
theorem test_far_tier_link : linkOf 15 0x026C00003000 = 3 ∧ farAddr 15 3 0x001B00000000 = 0x026C00003000 := by decide

/-- R142, worked example: granule 3 of the near tier lies in stack S0, granule 4 in S1. -/
theorem test_near_tier_stack : stackOf 0x010000000C00 = 0 ∧ stackOf 0x010000001000 = 1 := by decide

/-- R338, worked example: 50,000 Mb/s earns 4,000 bytes per refill. -/
theorem test_refill_rate : perRefill 50000 = 4000 * 1024 := by decide

/-- R345, worked example of light: laser 66 serves fabric port 5. -/
theorem test_laser_port : portOfLaser 66 = 5 := by decide

/-- R94, worked example: weights 0.75 and 0.25 of 3.0 × 10⁹ and 1.0 × 10⁹ tokens. -/
theorem test_merge_weights : mergeWeight 3000000000 4000000000 2 = 0x3F400000#32 ∧ mergeWeight 1000000000 4000000000 2 = 0x3E800000#32 := by
  decide +kernel

/-- R316, worked example: the increment of 6.400016 ns. -/
theorem test_time_increment : ∃ t, exec (.timInc 6) (ticking.set F.TIM_INC_LO_INC 0x666772D5) = .next t ∧
    t.time.nextInc = some 0x6666772D5 := ⟨_, rfl, by decide +kernel⟩

/-- R237: the marker of lane 0 and of lane 7 (Table LHL-3), with the lane number and its complement. -/
theorem test_lane_markers : markerOk 0 7 (laneMarker 7) = true ∧ markerOk 0 0 (laneMarker 7) = false := by decide

/-- R393, R405: after power-on reset the stage is 0, the mode MAINTENANCE and no command waits. -/
theorem test_reset : State.reset.get F.PWR_STAT_STAGE = 0 ∧ State.reset.maintenance = true ∧ State.reset.pending = [] := by
  decide +kernel

/-- R397: the reset values of FLT_ERRN_SEL. -/
theorem test_errn_sel_reset : State.reset.get (F.FLT_ERRN_SEL_SEL.ix 5) = 0x21000009 ∧
    State.reset.get (F.FLT_ERRN_SEL_SEL.ix 6) = 0x00000800 ∧ State.reset.get (F.FLT_ERRN_SEL_SEL.ix 7) = 0x00200040 ∧
    State.reset.get (F.FLT_ERRN_SEL_SEL.ix 0) = 0 := by decide +kernel

/-- A step takes the command at the front of the queue: the heartbeat is refreshed, and the rest waits. -/
theorem test_step_front : ∃ t, step { live with pending := [.heartbeatTouch, .pop] } = .next t ∧ t.pending = [.pop] ∧
    t.get F.MBR_HB_LEFT_MS = 1000 * live.get F.MBR_HB_CFG_HB_S % 2 ^ 32 := ⟨_, rfl, by decide +kernel⟩

/-- No row of the table has bits, so no word spells a command. -/
theorem test_no_words : decodeTableWord 32 0 = none ∧ State.reset.withFetchWord 32 0 = State.reset := by decide +kernel

/-- R118, R248, R284: at a second boundary the leases and a running WTR have less time left; one that does not run stays 0. -/
theorem test_time_left : ∃ t, exec .secondBoundary (((ticking.set F.MBR_HB_LEFT_MS 10000).set (F.LHL_PG_STAT_WTR_LEFT.ix 1) 300).set
    (F.IMG_SLOT_LEASE_MS.ix 2) 30000) = .next t ∧ t.get F.MBR_HB_LEFT_MS = 9000 ∧ t.get (F.LHL_PG_STAT_WTR_LEFT.ix 1) = 299 ∧
    t.get (F.IMG_SLOT_LEASE_MS.ix 2) = 29000 ∧ t.get (F.CRY_KSLOT_LEASE_MS.ix 9) = 0 := ⟨_, rfl, by decide +kernel⟩

/-- FIPS 197, appendix C.3: the AES-256 example vector (R12). -/
theorem test_aes256 : Sys2Proof.Machine.aes256 ((List.range 32).map (BitVec.ofNat 8))
    ((List.range 16).map fun i => BitVec.ofNat 8 (17 * i)) = [0x8E#8, 0xA2#8, 0xB7#8, 0xCA#8, 0x51#8, 0x67#8, 0x45#8, 0xBF#8,
      0xEA#8, 0xFC#8, 0x49#8, 0x90#8, 0x4B#8, 0x49#8, 0x60#8, 0x89#8] := by decide +kernel

/-- FIPS 202: the first bytes of SHAKE256 of the empty message (R12). -/
theorem test_shake256 : Sys2Proof.Machine.shake256 [] 8 = [0x46#8, 0xB9#8, 0xDD#8, 0x2B#8, 0x0B#8, 0xA8#8, 0x8D#8, 0x13#8] := by
  decide +kernel

end Sys2Proof.Tests
end

section
/-! PROOFS. The state after reset (O2), and the writes of registers with no row of their own (O57): what a field reads as
once a word has been written to its register, and what each kind of register does with a write. -/

namespace Sys2Proof.Machine

/-! The state after reset. -/

/-- A field reads its listed value after reset, and what its register's table states where none is listed. -/
theorem State.get_reset (f : Fld) : State.reset.get f = (Tab.find resetRegs f.key).getD f.rst := rfl

theorem State.get_reset_of_unlisted (f : Fld) (h : Tab.find resetRegs f.key = none) : State.reset.get f = f.rst :=
  (State.get_reset f).trans (congrArg (Option.getD · f.rst) h)

theorem State.get_reset_of_listed (f : Fld) (v : Nat) (h : Tab.find resetRegs f.key = some v) : State.reset.get f = v :=
  (State.get_reset f).trans (congrArg (Option.getD · f.rst) h)

theorem resetRegs_sorted : Tab.sorted resetRegs = true := by decide

/-- Every table but the register file is empty after reset. -/
theorem State.reset_canonical : State.reset.canonical = true := by
  simp only [State.canonical, Bool.and_eq_true]
  exact ⟨⟨⟨⟨⟨⟨⟨resetRegs_sorted, rfl⟩, rfl⟩, rfl⟩, rfl⟩, rfl⟩, rfl⟩, rfl⟩

theorem State.reset_fatal : State.reset.fatal = false :=
  congrArg (· == 1) (State.get_reset_of_unlisted F.FLT_STAT_FATAL (by decide))

/-- The pages of the Quern dies are numbered from 0 (R10): page 0 reads the table's value, the others a listed one. -/
theorem State.get_reset_dieId : ∀ k < 4, State.reset.get (F.QRN_DIE_ID_DIE.ix k) = k
  | 0, _ => State.get_reset_of_unlisted _ (by decide)
  | 1, _ => State.get_reset_of_listed _ _ (by decide)
  | 2, _ => State.get_reset_of_listed _ _ (by decide)
  | 3, _ => State.get_reset_of_listed _ _ (by decide)
  | k + 4, h => absurd h (by omega)

/-! A word written to the fields of a register. -/

/-- Writes of other fields leave a field. -/
theorem State.get_foldl_set_other (s : State) (l : List Fld) (p : Fld → Fld) (v : Fld → Nat) (g : Fld)
    (h : ∀ f ∈ l, (p f).key ≠ g.key) : (l.foldl (fun t f => t.set (p f) (v f)) s).get g = s.get g := by
  induction l generalizing s with
  | nil => rfl
  | cons f l ih =>
    rw [List.foldl_cons, ih _ fun x hx => h x (.tail _ hx)]
    exact State.get_set_other _ _ _ _ (h f (.head _))

/-- A field of a list of writes reads back its own value, when no other field of the list stands where it does. -/
theorem State.get_foldl_set_mem (s : State) (l : List Fld) (p : Fld → Fld) (v : Fld → Nat) (f : Fld) (hf : f ∈ l)
    (hl : ∀ g ∈ l, g ≠ f → (p g).key ≠ (p f).key) :
    (l.foldl (fun t g => t.set (p g) (v g)) s).get (p f) = v f % 2 ^ (p f).width := by
  induction l generalizing s with
  | nil => exact nomatch hf
  | cons g l ih =>
    have hl' : ∀ x ∈ l, x ≠ f → (p x).key ≠ (p f).key := fun x hx => hl x (.tail _ hx)
    by_cases hm : f ∈ l
    · exact ih _ hm hl'
    · obtain rfl : f = g := (List.mem_cons.mp hf).resolve_right hm
      have hne : ∀ x ∈ l, (p x).key ≠ (p f).key := fun x hx => hl' x hx fun e => hm (e ▸ hx)
      rw [List.foldl_cons, State.get_foldl_set_other _ l p v _ hne, State.get_set_self]

theorem Fld.atAddr_apart (f g : Fld) (a : Nat) (h : f.apart g = true) : (f.atAddr a).key ≠ g.key :=
  Fld.apart_key (f := f.atAddr a) h

/-- Only PORTS of TIM_PTP_FWD takes another value than the word's (R325). -/
theorem fieldValue_of_ne {base : Nat} (h : base ≠ 0x01400200) (addr lo v : Nat) : fieldValue base addr lo v = v := by
  simp [fieldValue, h]

/-- A field apart from a register's fields reads as before a write of the register. -/
theorem State.get_writeFields_apart (s : State) (base addr value : Nat) (l : List Fld) (g : Fld)
    (h : ∀ f ∈ l, f.apart g = true) : (s.writeFields base addr value l).get g = s.get g :=
  State.get_foldl_set_other s _ (fun f => f.atAddr addr) (fun f => fieldValue base addr f.lo (partOf f value)) g
    fun f hf => Fld.atAddr_apart f g addr (h f (List.mem_filter.mp hf).1)

/-- A field of the register written takes its part of the word, and reads as before when that is out of its range. -/
theorem State.get_writeFields (s : State) {base : Nat} (hb : base ≠ 0x01400200) (addr value : Nat) (l : List Fld) (f : Fld)
    (hf : f ∈ l) (hl : ∀ g ∈ l, g ≠ f → g.apart f = true) :
    (s.writeFields base addr value l).get (f.atAddr addr) =
      if s.fieldOk base addr f.lo (partOf f value) = true then partOf f value else s.get (f.atAddr addr) := by
  have hkey : ∀ g ∈ l, g ≠ f → (g.atAddr addr).key ≠ (f.atAddr addr).key := fun g hg hne =>
    Fld.atAddr_apart g (f.atAddr addr) addr (hl g hg hne)
  unfold State.writeFields
  split
  case isTrue hok =>
    refine (State.get_foldl_set_mem s _ (fun g => g.atAddr addr) (fun g => fieldValue base addr g.lo (partOf g value)) f
      (List.mem_filter.mpr ⟨hf, hok⟩) fun g hg => hkey g (List.mem_filter.mp hg).1).trans ?_
    rw [fieldValue_of_ne hb]
    exact Nat.mod_mod _ _
  case isFalse hok =>
    refine State.get_foldl_set_other s _ (fun g => g.atAddr addr) _ _ fun g hg => ?_
    obtain ⟨hg, hgok⟩ := List.mem_filter.mp hg
    exact hkey g hg fun e => hok (e ▸ hgok)

@[simp] theorem State.writeFields_heldLo (s : State) (base addr value : Nat) (l : List Fld) :
    (s.writeFields base addr value l).heldLo = s.heldLo := fold_keep State.heldLo _ _ _ fun _ _ => rfl

/-! What each kind of register does with a write (R403). -/

theorem plainReg_updCntClr : plainReg 0x0080011C = none := by decide

theorem ne_updCntClr_of_plainReg {addr : Nat} {r : RegDesc} (h : plainReg addr = some r) : addr ≠ 0x0080011C := by
  rintro rfl
  rw [plainReg_updCntClr] at h
  exact nomatch h

section
variable {addr : Nat} {r : RegDesc} (s : State) (value : Nat) (h : plainReg addr = some r)
include h

/-- The LO half of a pair is held. -/
theorem State.applyWrite_lo (hr : r.half = .lo) :
    s.applyWrite addr value = { s with heldLo := Tab.insert s.heldLo addr value } := by
  simp only [State.applyWrite, ne_updCntClr_of_plainReg h, if_false, h, hr]

/-- The HI half commits a LO half that is held; the digest covers the register or not. -/
theorem State.applyWrite_hi (hr : r.half = .hi) (lo : Nat) (hlo : Tab.find s.heldLo (addr - 4) = some lo) :
    s.applyWrite addr value =
      let t := (({ s with heldLo := Tab.erase s.heldLo (addr - 4) }).set
        ⟨r.base - 4, 0, 32, 0, 0, 0, 0, addr - r.base⟩ lo).writeFields r.base addr value r.fields
      if r.covered then t.coveredWrite else t := by
  simp only [State.applyWrite, ne_updCntClr_of_plainReg h, if_false, h, hr, hlo]

/-- A register that is written whole takes a word that is not ignored as a whole. -/
theorem State.applyWrite_whole (hr : r.half = .whole) (hok : s.wholeOk r.base addr value = true) :
    s.applyWrite addr value =
      let t := (s.writeFields r.base addr value r.fields).afterWrite r.base addr
      if r.covered then t.coveredWrite else t := by
  simp only [State.applyWrite, ne_updCntClr_of_plainReg h, if_false, h, hr, hok, Bool.not_true, Bool.false_eq_true]

end

/-- A write that takes effect leaves the posted writes. -/
@[simp] theorem State.applyWrite_posted (s : State) (addr value : Nat) : (s.applyWrite addr value).posted = s.posted :=
  (State.applyWrite_reach s addr value).part .posted rfl

/-! GEN_IRQ_MAP, MBR_HB_CFG and the pair TIM_SET_SEC. -/

theorem plainReg_irqMap : ∀ b < 28, plainReg (0x100 + 4 * b) =
    some ⟨0x00000100, [(28, 0x4)], [F.GEN_IRQ_MAP_EN, F.GEN_IRQ_MAP_VEC], false, .whole⟩ := by decide

theorem plainReg_hbCfg : plainReg 0x01900010 = some ⟨0x01900010, [], [F.MBR_HB_CFG_HB_S], true, .whole⟩ := by decide

theorem plainReg_timSetSecLo : plainReg 0x01400030 = some ⟨0x01400030, [], [F.TIM_SET_SEC_LO_VALUE], false, .lo⟩ := by decide

theorem plainReg_timSetSecHi : plainReg 0x01400034 = some ⟨0x01400034, [], [F.TIM_SET_SEC_HI_VALUE], false, .hi⟩ := by decide

/-- The entry of GEN_IRQ_MAP of a block is written whole, and nothing follows the write. -/
theorem State.applyWrite_irqMap (s : State) (b value : Nat) (hb : b < 28) :
    s.applyWrite (0x100 + 4 * b) value =
      s.writeFields 0x100 (0x100 + 4 * b) value [F.GEN_IRQ_MAP_EN, F.GEN_IRQ_MAP_VEC] :=
  State.applyWrite_whole s value (plainReg_irqMap b hb) rfl rfl

theorem State.fieldOk_irqMap (s : State) (addr lo v : Nat) : s.fieldOk 0x100 addr lo v = true := by
  simp [State.fieldOk, fieldRanges]

theorem State.get_irqMap_written (s : State) (b value : Nat) (f : Fld) (hf : f ∈ [F.GEN_IRQ_MAP_EN, F.GEN_IRQ_MAP_VEC]) :
    (s.writeFields 0x100 (0x100 + 4 * b) value [F.GEN_IRQ_MAP_EN, F.GEN_IRQ_MAP_VEC]).get (f.atAddr (0x100 + 4 * b)) =
      partOf f value := by
  rw [State.get_writeFields s (by decide) _ _ _ f hf
    ((by decide : ∀ f ∈ [F.GEN_IRQ_MAP_EN, F.GEN_IRQ_MAP_VEC], ∀ g ∈ [F.GEN_IRQ_MAP_EN, F.GEN_IRQ_MAP_VEC],
      g ≠ f → g.apart f = true) f hf), State.fieldOk_irqMap, if_pos rfl]

theorem Fld.atAddr_irqMap (b : Nat) : F.GEN_IRQ_MAP_EN.atAddr (0x100 + 4 * b) = F.GEN_IRQ_MAP_EN.ix b ∧
    F.GEN_IRQ_MAP_VEC.atAddr (0x100 + 4 * b) = F.GEN_IRQ_MAP_VEC.ix b := by
  simp only [Fld.atAddr, Fld.ix, F.GEN_IRQ_MAP_EN, F.GEN_IRQ_MAP_VEC, Fld.mk.injEq, true_and, and_self]
  omega

/-- MBR_HB_CFG is written whole, and the digest covers it. -/
theorem State.applyWrite_hbCfg (s : State) (value : Nat) : s.applyWrite 0x01900010 value =
    (s.writeFields 0x01900010 0x01900010 value [F.MBR_HB_CFG_HB_S]).coveredWrite :=
  State.applyWrite_whole s value plainReg_hbCfg rfl rfl

/-- HB_S takes a heartbeat lease of 1 to 3600 s. -/
theorem State.fieldOk_hbCfg (s : State) (addr v : Nat) :
    s.fieldOk 0x01900010 addr F.MBR_HB_CFG_HB_S.lo v = true ↔ 1 ≤ v ∧ v ≤ 3600 := by
  simp [State.fieldOk, fieldRanges, F.MBR_HB_CFG_HB_S, inRange]

theorem State.get_applyWrite_hbCfg (s : State) (value : Nat) : (s.applyWrite 0x01900010 value).get F.MBR_HB_CFG_HB_S =
    if 1 ≤ value % 4096 ∧ value % 4096 ≤ 3600 then value % 4096 else s.get F.MBR_HB_CFG_HB_S := by
  have hpart : partOf F.MBR_HB_CFG_HB_S value = value % 4096 := by simp [partOf, F.MBR_HB_CFG_HB_S]
  have hget := State.get_writeFields s (base := 0x01900010) (by decide) 0x01900010 value [F.MBR_HB_CFG_HB_S]
    F.MBR_HB_CFG_HB_S (.head _) (by decide)
  simp only [hpart, State.fieldOk_hbCfg] at hget
  rw [State.applyWrite_hbCfg, (State.coveredWrite_reach _).get _ rfl]
  exact hget

/-- PEND of MBR is no field that the write of MBR_HB_CFG touches. -/
theorem State.get_applyWrite_hbCfg_pend (s : State) (value : Nat) :
    (s.applyWrite 0x01900010 value).get (pendFld 25) = s.get (pendFld 25) := by
  rw [State.applyWrite_hbCfg, (State.coveredWrite_reach _).get _ rfl]
  exact State.get_writeFields_apart _ _ _ _ _ _ (by decide)

/-- TIM_SET_SEC_HI commits the LO half that is held, and takes its own word. -/
theorem State.applyWrite_timSetSecHi (s : State) (value lo : Nat) (hlo : Tab.find s.heldLo 0x01400030 = some lo) :
    s.applyWrite 0x01400034 value = (({ s with heldLo := Tab.erase s.heldLo 0x01400030 }).set F.TIM_SET_SEC_LO_VALUE lo
      ).writeFields 0x01400034 0x01400034 value [F.TIM_SET_SEC_HI_VALUE] :=
  State.applyWrite_hi s value plainReg_timSetSecHi rfl lo hlo

theorem State.fieldOk_timSetSecHi (s : State) (addr lo v : Nat) : s.fieldOk 0x01400034 addr lo v = true := by
  simp [State.fieldOk, fieldRanges]

theorem State.get_timSetSecHi_written (s : State) (value : Nat) (hv : value < 2 ^ 32) :
    (s.writeFields 0x01400034 0x01400034 value [F.TIM_SET_SEC_HI_VALUE]).get F.TIM_SET_SEC_HI_VALUE = value := by
  have hpart : partOf F.TIM_SET_SEC_HI_VALUE value = value := by
    simpa [partOf, F.TIM_SET_SEC_HI_VALUE] using Nat.mod_eq_of_lt hv
  have hget := State.get_writeFields s (base := 0x01400034) (by decide) 0x01400034 value [F.TIM_SET_SEC_HI_VALUE]
    F.TIM_SET_SEC_HI_VALUE (.head _) (by decide)
  rw [State.fieldOk_timSetSecHi, if_pos rfl, hpart] at hget
  exact hget

/-! The two commands. -/

theorem exec_registerWrite (addr value : Nat) (s : State) :
    exec (.registerWrite addr value) s = execRegisterWrite addr value s := rfl

theorem exec_postedWriteDone (block : Nat) (s : State) :
    exec (.postedWriteDone block) s = execPostedWriteDone block s := rfl

/-- A write to a location without writable fields is ignored. -/
theorem exec_registerWrite_ignored (s : State) (addr value : Nat) (h : plainReg addr = none) (hc : addr ≠ 0x0080011C) :
    exec (.registerWrite addr value) s = .next s := by
  simp [exec_registerWrite, execRegisterWrite, h, hc]

/-- GEN answers at every stage, takes writes in FATAL and posts none, so its writes act at once (R376, R392, R404). -/
theorem State.hostWrite_gen (s : State) (f : State → State) : s.hostWrite 0 f true = f s := by
  simp [State.hostWrite, State.answers]

section
variable (s : State) {addr : Nat} (value : Nat) {r : RegDesc} (h : plainReg addr = some r)
include h

/-- A write of GEN takes effect at once. -/
theorem exec_registerWrite_gen (ha : addr < 0x100000) :
    exec (.registerWrite addr value) s = .next (s.applyWrite addr (value % 2 ^ 32)) := by
  have hb : postedBlock addr = none := by simp [postedBlock, Nat.div_eq_of_lt ha]
  simp [exec_registerWrite, execRegisterWrite, h, hb, State.hostWrite_gen]

/-- A write of another block is posted, and PEND reads 1. -/
theorem exec_registerWrite_posted (ha : 0x100000 ≤ addr)
    (ht : s.takesWrite (addr / 0x100000) (addr == 0x0170000C) = true) :
    exec (.registerWrite addr value) s =
      .next (({ s with posted := s.posted ++ [Posted.mk (addr / 0x100000) addr (value % 2 ^ 32)] }).set
        (pendFld (addr / 0x100000)) 1) := by
  have hb : postedBlock addr = some (addr / 0x100000) := if_neg (by omega)
  simp [exec_registerWrite, execRegisterWrite, h, hb, State.hostWrite_takes s _ _ _ false ht]

end

/-- The state as a posted write of a block leaves the queue of posted writes. -/
def State.unpost (s : State) (block : Nat) : State :=
  ({ s with posted := s.posted.filter fun q => q.block != block }).set (pendFld block) 0

/-- A posted write that is done takes effect. -/
theorem exec_postedWriteDone_of_find (s : State) (block : Nat) (p : Posted)
    (h : (s.posted.find? fun q => q.block == block) = some p) :
    exec (.postedWriteDone block) s = .next ((s.unpost block).applyWrite p.addr p.value) := by
  simp [exec_postedWriteDone, execPostedWriteDone, h, State.unpost]

@[simp] theorem State.unpost_posted (s : State) (block : Nat) :
    (s.unpost block).posted = s.posted.filter fun q => q.block != block := rfl

theorem State.get_unpost_apart (s : State) (block : Nat) (f : Fld) (h : (pendFld block).apart f = true) :
    (s.unpost block).get f = s.get f := State.get_set_apart { s with posted := _ } _ _ _ h

theorem State.get_unpost_pend (s : State) (block : Nat) : (s.unpost block).get (pendFld block) = 0 :=
  (State.get_set_self ..).trans (Nat.zero_mod _)

/-- PEND is one bit wide. -/
theorem pendFld_width (block : Nat) : (pendFld block).width = 1 := by
  unfold pendFld
  split <;> rfl

theorem State.get_set_pend (s : State) (block : Nat) : (s.set (pendFld block) 1).get (pendFld block) = 1 :=
  calc (s.set (pendFld block) 1).get (pendFld block)
    _ = 1 % 2 ^ (pendFld block).width := State.get_set_self ..
    _ = 1 % 2 ^ 1 := congrArg (fun w => 1 % 2 ^ w) (pendFld_width block)
    _ = 1 := by decide

/-! The clauses of the statement. -/

theorem registerWrite_posted_spec (s : State) (addr value : Nat) (r : RegDesc) (h : plainReg addr = some r)
    (ha : 0x100000 ≤ addr) (ht : s.takesWrite (addr / 0x100000) (addr == 0x0170000C) = true) :
    ∃ t, exec (.registerWrite addr value) s = .next t ∧ t.get (pendFld (addr / 0x100000)) = 1 ∧
      t.posted = s.posted ++ [⟨addr / 0x100000, addr, value % 2 ^ 32⟩] ∧
      ∀ k, k ≠ (pendFld (addr / 0x100000)).key → Tab.find t.regs k = Tab.find s.regs k :=
  ⟨_, exec_registerWrite_posted s value h ha ht, State.get_set_pend _ _, rfl,
    fun _ hk => State.find_set_ne _ _ _ _ hk.symm⟩

theorem registerWrite_irqMap_spec (s : State) (b value : Nat) (hb : b < 28) (hv : value < 2 ^ 32) :
    ∃ t, exec (.registerWrite (0x100 + 4 * b) value) s = .next t ∧
      t.get (F.GEN_IRQ_MAP_EN.ix b) = value / 2 ^ 7 % 2 ∧ t.get (F.GEN_IRQ_MAP_VEC.ix b) = value % 64 := by
  obtain ⟨hen, hvec⟩ := Fld.atAddr_irqMap b
  refine ⟨_, exec_registerWrite_gen s value (plainReg_irqMap b hb) (by omega), ?_⟩
  rw [Nat.mod_eq_of_lt hv, State.applyWrite_irqMap s b value hb, ← hen, ← hvec, State.get_irqMap_written _ _ _ _ (.head _),
    State.get_irqMap_written _ _ _ _ (.tail _ (.head _))]
  simp [partOf, F.GEN_IRQ_MAP_EN, F.GEN_IRQ_MAP_VEC]

theorem postedWriteDone_hbCfg_spec (s : State) (p : Posted) (hp : (s.posted.find? fun q => q.block == 25) = some p)
    (ha : p.addr = 0x01900010) :
    ∃ t, exec (.postedWriteDone 25) s = .next t ∧ t.get (pendFld 25) = 0 ∧
      (t.posted = s.posted.filter fun q => q.block != 25) ∧
      t.get F.MBR_HB_CFG_HB_S = if 1 ≤ p.value % 4096 ∧ p.value % 4096 ≤ 3600 then p.value % 4096
        else s.get F.MBR_HB_CFG_HB_S := by
  refine ⟨_, exec_postedWriteDone_of_find s 25 p hp, ?_⟩
  rw [ha, State.get_applyWrite_hbCfg_pend, State.get_unpost_pend, State.applyWrite_posted, State.unpost_posted,
    State.get_applyWrite_hbCfg, State.get_unpost_apart s 25 F.MBR_HB_CFG_HB_S (by decide)]
  exact ⟨rfl, rfl, rfl⟩

theorem postedWriteDone_timSetSecLo_spec (s : State) (p : Posted)
    (hp : (s.posted.find? fun q => q.block == 20) = some p) (ha : p.addr = 0x01400030) :
    ∃ t, exec (.postedWriteDone 20) s = .next t ∧ Tab.find t.heldLo 0x01400030 = some p.value ∧
      t.get F.TIM_SET_SEC_LO_VALUE = s.get F.TIM_SET_SEC_LO_VALUE := by
  refine ⟨_, exec_postedWriteDone_of_find s 20 p hp, ?_⟩
  rw [ha, State.applyWrite_lo _ _ plainReg_timSetSecLo rfl]
  exact ⟨Tab.find_insert_same .., State.get_unpost_apart s 20 F.TIM_SET_SEC_LO_VALUE (by decide)⟩

theorem postedWriteDone_timSetSecHi_spec (s : State) (p : Posted) (lo : Nat)
    (hp : (s.posted.find? fun q => q.block == 20) = some p) (ha : p.addr = 0x01400034) (hv : p.value < 65536)
    (hl : lo < 2 ^ 32) (hlo : Tab.find s.heldLo 0x01400030 = some lo) :
    ∃ t, exec (.postedWriteDone 20) s = .next t ∧ t.get F.TIM_SET_SEC_LO_VALUE = lo ∧
      t.get F.TIM_SET_SEC_HI_VALUE = p.value ∧ Tab.find t.heldLo 0x01400030 = none := by
  refine ⟨_, exec_postedWriteDone_of_find s 20 p hp, ?_⟩
  rw [ha, State.applyWrite_timSetSecHi (s.unpost 20) _ lo hlo]
  refine ⟨?_, State.get_timSetSecHi_written _ _ (by omega), ?_⟩
  · rw [State.get_writeFields_apart _ _ _ _ _ _ (by decide), State.get_set_self]
    exact Nat.mod_eq_of_lt hl
  · rw [State.writeFields_heldLo, State.set_heldLo]
    exact Tab.find_erase_same ..

/-! The statements. -/

/-- Settles O2: the tables are empty but for the listed registers, and every other field reads its table's value. -/
theorem resetState : Obligations.ResetState := by
  have hun := State.get_reset_of_unlisted
  exact ⟨State.reset_canonical, fun _ => rfl, rfl, State.reset_fatal, hun _ (by decide), hun _ (by decide), rfl,
    hun _ (by decide), hun _ (by decide), hun _ (by decide), hun _ (by decide), hun _ (by decide), hun _ (by decide),
    State.get_reset_of_listed _ _ (by decide), State.get_reset_dieId, hun⟩

/-- Settles O57: one clause for each way in which a register takes a write. -/
theorem registerWriteCommands : Obligations.RegisterWriteCommands := fun s _ =>
  ⟨exec_registerWrite_ignored s, registerWrite_irqMap_spec s, registerWrite_posted_spec s,
    fun p hp ha _ => postedWriteDone_hbCfg_spec s p hp ha, postedWriteDone_timSetSecLo_spec s,
    postedWriteDone_timSetSecHi_spec s⟩

end Sys2Proof.Machine
end

section
/-! PROOFS. The commands of a region's blocks, its stop and restart, its router and its Tempo (O20): what the operations
beside a retirement keep of the blocks, what a restart leaves of the region's state and of the newest record, and what a
window of Tempo leaves in each region's registers. -/

namespace Sys2Proof.Machine

/-! Sets of numbers. -/

@[simp] theorem Marks.has_add (m : Marks) (g n : Nat) : (m.add g).has n = (m.has n || n == g) := by
  rcases Decidable.em (n = g) with rfl | h
  · simp [Marks.has, Marks.add]
  · simp [Marks.has, Marks.add, Tab.find_insert_ne _ _ _ _ (Ne.symm h), h]

@[simp] theorem Marks.has_del (m : Marks) (g n : Nat) : (m.del g).has n = (m.has n && n != g) := by
  rcases Decidable.em (n = g) with rfl | h
  · simp [Marks.has, Marks.del, Tab.find_erase_same]
  · simp [Marks.has, Marks.del, Tab.find_erase_ne _ _ _ (Ne.symm h), h]

/-! Blocks: what the operations beside a retirement keep. -/

/-- The same blocks are retired, tested and due to retire, and no tile starts where none ran. -/
structure KeepsBlocks (s t : State) : Prop where
  retired : t.qrn.retired = s.qrn.retired
  tested : t.qrn.tested = s.qrn.tested
  due : t.qrn.due = s.qrn.due
  runs : s.qrn.runs = [] → t.qrn.runs = []

theorem KeepsBlocks.of_qrn {s t : State} (h : t.qrn = s.qrn) : KeepsBlocks s t :=
  ⟨h ▸ rfl, h ▸ rfl, h ▸ rfl, fun hr => h ▸ hr⟩

theorem KeepsBlocks.trans {s t u : State} (h : KeepsBlocks s t) (k : KeepsBlocks t u) : KeepsBlocks s u :=
  ⟨k.retired.trans h.retired, k.tested.trans h.tested, k.due.trans h.due, fun hr => k.runs (h.runs hr)⟩

/-- An operation that does not reach the Quern part keeps the blocks. -/
theorem Reach.keepsBlocks {m : Nat} {s t : State} (h : Reach m s t) (hm : m.testBit 48 = false) : KeepsBlocks s t :=
  .of_qrn (h.part .qrn hm)

/-- Such an operation after others that keep the blocks. -/
theorem KeepsBlocks.reach {m : Nat} {s t u : State} (h : KeepsBlocks s t) (k : Reach m t u) (hm : m.testBit 48 = false) :
    KeepsBlocks s u := h.trans (k.keepsBlocks hm)

theorem State.clearTiles_keepsBlocks (s : State) (gone : Nat → Bool) : KeepsBlocks s (s.clearTiles gone) :=
  ⟨rfl, rfl, rfl, fun h => by simp [State.clearTiles, h]⟩

theorem State.dropAll_keepsBlocks (s : State) (r : Nat) : KeepsBlocks s (s.dropAll r) := by
  unfold State.dropAll
  extract_lets mine src s1
  have h1 : KeepsBlocks s s1 :=
    ((Reach.with_sched (Reach.refl 0x2000000000000 s) _ rfl).keepsBlocks rfl).trans (State.clearTiles_keepsBlocks _ _)
  exact (h1.reach (State.finishFlights_reach ..) rfl).reach (State.dropQueued_reach ..) rfl

theorem State.setPos_keepsBlocks (s : State) (p : Tab (List (Option Nat))) :
    KeepsBlocks s { s with qrn := { s.qrn with pos := p } } := ⟨rfl, rfl, rfl, id⟩

theorem State.loadPhase_keepsBlocks (s : State) (r n : Nat) (img : List Byte) (gen : Nat) :
    KeepsBlocks s (s.loadPhase r n img gen) :=
  (((State.setPos_keepsBlocks s _).reach (State.setSpare_reach ..) rfl).trans (.of_qrn (State.setAll_qrn _ _))).reach
    (State.regionEvents_reach ..) rfl

theorem State.switchStopped_keepsBlocks (s : State) (r n : Nat) : KeepsBlocks s (s.switchStopped r n) := by
  unfold State.switchStopped
  extract_lets img s1 due src src2
  have h1 : KeepsBlocks s s1 := (State.dropAll_keepsBlocks s r).trans (State.loadPhase_keepsBlocks ..)
  clear_value s1
  exact h1.trans (.of_qrn rfl)

theorem State.answerDrains_keepsBlocks (s : State) (r : Nat) (l : List DrainReq) :
    KeepsBlocks s (s.answerDrains r l) := by
  induction l generalizing s with
  | nil => exact .of_qrn rfl
  | cons q l ih =>
    have hset := (State.setDrains_reach s r l).keepsBlocks rfl
    match q with
    | .phase _ (some _) =>
      exact (((hset.reach (State.phaseRefused_reach ..) rfl).reach (State.failFlight_reach ..) rfl).reach
        (State.phaseDone_reach ..) rfl).trans (ih _)
    | .phase _ none => exact (hset.reach (State.phaseRefused_reach ..) rfl).trans (ih _)
    | .image _ => exact (hset.trans (State.switchStopped_keepsBlocks ..)).trans (ih _)
    | .test => exact .of_qrn rfl

theorem State.regionRetired_keepsBlocks (s : State) (r : Nat) : KeepsBlocks s (s.regionRetired r) := by
  unfold State.regionRetired
  extract_lets s0 s1 s2
  have h1 : KeepsBlocks s s1 :=
    (((State.flushOuts_reach ..).keepsBlocks rfl).reach (State.setRegionState_reach ..) rfl).trans
      (State.dropAll_keepsBlocks ..)
  have h2 : KeepsBlocks s s2 :=
    ((h1.trans (State.answerDrains_keepsBlocks ..)).reach (State.regionEvents_reach ..) rfl).reach
      (State.raiseQrn_reach ..) rfl
  exact h2.reach (State.matFails_reach ..) rfl

/-! Retirement (R71). -/

/-- A block taken out of service, before its position, its region and its registers follow. -/
def State.markRetired (s : State) (g : Nat) : State :=
  { s with qrn := { s.qrn with retired := s.qrn.retired.add g, tested := s.qrn.tested.del g } }

theorem State.markRetired_due (s : State) (g : Nat) : (s.markRetired g).qrn.due = s.qrn.due := rfl

theorem State.markRetired_runs (s : State) (g : Nat) : (s.markRetired g).qrn.runs = s.qrn.runs := rfl

/-- Position, spare, events and the end of a region without blocks: none of it retires another block. -/
theorem State.takeOut_keepsBlocks (s : State) (g : Nat) : KeepsBlocks (s.markRetired g) (s.takeOut g) := by
  unfold State.takeOut
  extract_lets r b free spare map src s1 s2 src2 s3 s5
  have h2 : KeepsBlocks (s.markRetired g) s2 := .of_qrn rfl
  have h3 : KeepsBlocks s2 s3 := by
    unfold s3
    split
    next p _ =>
      extract_lets s4
      have h4 : KeepsBlocks s2 s4 := State.setPos_keepsBlocks ..
      clear_value s4
      split
      · exact h4.reach (State.setSpare_reach ..) rfl
      · split
        · exact h4.reach (State.setSpare_reach ..) rfl
        · exact h4
    next =>
      split
      · exact .of_qrn rfl
      · exact .of_qrn rfl
  have h5 : KeepsBlocks (s.markRetired g) s5 := (h2.trans h3).reach (State.regionEvents_reach ..) rfl
  split
  · exact h5.trans (State.regionRetired_keepsBlocks s5 r)
  · exact h5

/-- A retirement retires its block, and only it; none becomes due and no tile starts. -/
theorem State.retireNow_blocks (s : State) (g source : Nat) (force : Bool) :
    (∀ n, (s.retireNow g source force).qrn.retired.has n = (s.qrn.retired.has n || n == g)) ∧
      (s.retireNow g source force).qrn.due = s.qrn.due ∧
      (s.qrn.runs = [] → (s.retireNow g source force).qrn.runs = []) := by
  unfold State.retireNow
  split
  case isTrue h =>
    refine ⟨fun n => ?_, rfl, id⟩
    rcases Decidable.em (n = g) with rfl | hn
    · simpa [State.retiredBlock] using h
    · simp [hn]
  case isFalse h =>
    have hq := (State.raiseQrn_reach s (g / 16) source .ce (locBlock g) 0 0 0 true force).keepsBlocks rfl
    have ht := State.takeOut_keepsBlocks (s.raiseQrn (g / 16) source .ce (locBlock g) 0 0 0 true force) g
    refine ⟨fun n => ?_, ?_, fun hr => ht.runs ?_⟩
    · rw [ht.retired, State.markRetired, Marks.has_add, hq.retired]
    · rw [ht.due, State.markRetired_due, hq.due]
    · rw [State.markRetired_runs, hq.runs hr]

/-- Where no tile runs and no retirement waits, a block is retired at once. -/
theorem State.retire_idle (s : State) (g source : Nat) (force : Bool) (hruns : s.qrn.runs = []) (hdue : s.qrn.due = []) :
    s.retire g source force = s.retireNow g source force := by
  have hbusy : s.blockBusy g = false := by simp [State.blockBusy, hruns]
  simp only [State.retire, State.retireNow, hbusy, hdue, List.any_nil, Bool.or_false, Bool.false_eq_true, if_false]
  split <;> rfl

/-- The bits written retire their blocks. -/
theorem State.swRetire_retired (s : State) (r mask : Nat) (l : List Nat) (hruns : s.qrn.runs = []) (hdue : s.qrn.due = [])
    (b : Nat) : (s.swRetire r mask l).qrn.retired.has (16 * r + b) =
      (s.qrn.retired.has (16 * r + b) || (l.contains b && bit mask b)) := by
  induction l generalizing s with
  | nil => simp [State.swRetire]
  | cons c l ih =>
    rw [State.swRetire]
    by_cases hc : bit mask c = true
    · obtain ⟨hret, hdue', hruns'⟩ := State.retireNow_blocks s (16 * r + c) 0x15 false
      rw [if_pos hc, State.retire_idle s _ _ _ hruns hdue, ih _ (hruns' hruns) (hdue'.trans hdue), hret]
      rcases Decidable.em (b = c) with rfl | hb
      · simp [hc]
      · simp [hb, beq_false_of_ne (show 16 * r + b ≠ 16 * r + c by omega)]
    · rw [if_neg hc, ih s hruns hdue]
      rcases Decidable.em (b = c) with rfl | hb
      · simp [hc]
      · simp [hb]

/-! Return to service (R78). -/

/-- A block put back into service, before its position, its region and its registers follow. -/
def State.markInService (s : State) (g : Nat) : State :=
  { s with qrn := { s.qrn with retired := s.qrn.retired.del g } }

/-- Position, spare, events and ENTRY list that follow a block's return change no other block. -/
theorem State.restoreBlock_keepsBlocks (s : State) (r b : Nat) (hret : s.qrn.retired.has (16 * r + b) = true)
    (htested : s.qrn.tested.has (16 * r + b) = true) :
    KeepsBlocks (s.markInService (16 * r + b)) (s.restoreBlock r b) := by
  have hgo : (!s.retiredBlock (16 * r + b) || !s.qrn.tested.has (16 * r + b)) = false := by
    simp [State.retiredBlock, hret, htested]
  unfold State.restoreBlock
  extract_lets g src s1 s2 map vacant src2 s3
  rw [if_neg (by rw [hgo]; decide)]
  have h2 : KeepsBlocks (s.markInService g) s2 := .of_qrn rfl
  have h3 : KeepsBlocks (s.markInService g) s3 := by
    clear_value vacant s2
    cases vacant with
    | some p => exact h2.trans (State.setPos_keepsBlocks ..)
    | none =>
      unfold s3
      dsimp only
      split
      · exact h2.trans (.of_qrn rfl)
      · exact h2
  clear_value s3
  split
  · exact ((h3.reach (State.setRegionState_reach ..) rfl).reach (State.regionEvents_reach ..) rfl).reach
      (State.enterDue_reach ..) rfl
  · exact h3.reach (State.regionEvents_reach ..) rfl

/-- A block that is not retired, or not tested since, does not return. -/
theorem State.restoreBlock_ignored (s : State) (r b : Nat)
    (h : (s.qrn.retired.has (16 * r + b) && s.qrn.tested.has (16 * r + b)) = false) : s.restoreBlock r b = s := by
  unfold State.restoreBlock
  exact if_pos (by rw [← Bool.not_and, State.retiredBlock, h]; rfl)

/-- A block that returns to service is retired no more, and no other block changes. -/
theorem State.restoreBlock_blocks (s : State) (r b : Nat) :
    (∀ n, (s.restoreBlock r b).qrn.retired.has n =
      (s.qrn.retired.has n && !(n == 16 * r + b && s.qrn.tested.has n))) ∧
      (s.restoreBlock r b).qrn.tested = s.qrn.tested := by
  rcases h : s.qrn.retired.has (16 * r + b) && s.qrn.tested.has (16 * r + b) with _ | _
  · rw [State.restoreBlock_ignored s r b h]
    refine ⟨fun n => ?_, rfl⟩
    rcases Decidable.em (n = 16 * r + b) with rfl | hn
    · rcases Bool.and_eq_false_iff.mp h with h | h <;> simp [h]
    · simp [hn]
  · obtain ⟨hret, htested⟩ := Bool.and_eq_true_iff.mp h
    have hk := State.restoreBlock_keepsBlocks s r b hret htested
    refine ⟨fun n => ?_, hk.tested⟩
    rw [hk.retired, State.markInService, Marks.has_del]
    rcases Decidable.em (n = 16 * r + b) with rfl | hn
    · simp [htested]
    · simp [bne, beq_false_of_ne hn]

/-- The bits written return their blocks to service, those that have been tested since they were retired. -/
theorem State.restoreBlocks_retired (s : State) (r mask : Nat) (l : List Nat) (b : Nat) :
    (s.restoreBlocks r mask l).qrn.retired.has (16 * r + b) =
      (s.qrn.retired.has (16 * r + b) && !(l.contains b && bit mask b && s.qrn.tested.has (16 * r + b))) := by
  induction l generalizing s with
  | nil => simp [State.restoreBlocks]
  | cons c l ih =>
    rw [State.restoreBlocks]
    by_cases hc : bit mask c = true
    · obtain ⟨hret, htested⟩ := State.restoreBlock_blocks s r c
      rw [if_pos hc, ih, hret, htested]
      rcases Decidable.em (b = c) with rfl | hb
      · cases s.qrn.retired.has (16 * r + b) <;> cases s.qrn.tested.has (16 * r + b) <;> simp [hc]
      · simp [hb, beq_false_of_ne (show 16 * r + b ≠ 16 * r + c by omega)]
    · rw [if_neg hc, ih]
      rcases Decidable.em (b = c) with rfl | hb
      · simp [hc]
      · simp [hb]

/-! What a Quern fault and the operations of a region leave of its registers; its state (Table QRN-11). -/

/-- A region's state is as before where nothing of the Quern block is reached. -/
theorem Reach.regionState {m : Nat} {s t : State} (h : Reach m s t) (hm : F.QRN_REG_STAT_STATE.out m = true) (r : Nat) :
    t.regionState r = s.regionState r := h.get _ hm

/-- The fields that keep a region's first fault. -/
def firstQrnFlds : List Fld := [F.QRN_FE_LOC_LOC, F.QRN_FE_SRC_SOURCE, F.QRN_FE_SRC_TILE]

theorem State.get_firstQrn_apart (s : State) (r source loc tile : Nat) (g : Fld)
    (h : firstQrnFlds.all (fun f => f.apart g) = true) : (s.firstQrn r source loc tile).get g = s.get g := by
  simp only [firstQrnFlds, List.all_cons, List.all_nil, Bool.and_eq_true, and_true] at h
  obtain ⟨hloc, hsrc, htile⟩ := h
  unfold State.firstQrn
  dsimp only
  split
  · rfl
  · exact (State.get_set_apart _ (F.QRN_FE_SRC_TILE.ix _ _) _ _ htile).trans <|
      (State.get_set_apart _ (F.QRN_FE_SRC_SOURCE.ix _ _) _ _ hsrc).trans <|
      State.get_set_apart _ (F.QRN_FE_LOC_LOC.ix _ _) _ _ hloc

theorem State.get_raiseQrn_apart (s : State) (r source : Nat) (cls : FClass) (loc desc info info2 : Nat) (b f : Bool)
    (g : Fld) (hq : firstQrnFlds.all (fun x => x.apart g) = true) (h : raiseFlds.all (fun x => x.apart g) = true) :
    (s.raiseQrn r source cls loc desc info info2 b f).get g = s.get g :=
  (State.get_raise_apart _ _ _ _ _ _ _ _ _ _ h).trans (State.get_firstQrn_apart _ _ _ _ _ _ hq)

/-! A fault report leaves no source armed where none was (R372). -/

theorem State.evt_armed (s : State) (f : Fld) : (s.evt f).flt.armed = s.flt.armed := by
  unfold State.evt
  split
  · rfl
  · dsimp only
    split <;> rfl

theorem State.countLevel_armed (s : State) (lvl : Nat) (c : FClass) : (s.countLevel lvl c).flt.armed = s.flt.armed := by
  cases c <;> rfl

theorem State.journalRecord_armed (s : State) (x : FaultRec) (b : Bool) :
    (s.journalRecord x b).flt.armed = s.flt.armed := by
  unfold State.journalRecord
  split
  · rfl
  · split <;> rfl

theorem State.react_armed (s : State) (x : FaultRec) : (s.react x).flt.armed = s.flt.armed := by
  unfold State.react
  split
  · dsimp only
    split <;> exact State.evt_armed _ _
  · dsimp only
    split <;> exact State.evt_armed _ _
  · exact State.evt_armed _ _

theorem State.disarm_armed (s : State) (source : Nat) : (s.disarm source).flt.armed = s.flt.armed.del source := rfl

theorem State.raise_armed_nil (s : State) (source : Nat) (cls : FClass) (loc desc info info2 : Nat) (b f : Bool)
    (h : s.flt.armed = []) : (s.raise source cls loc desc info info2 b f).flt.armed = [] := by
  unfold State.raise
  refine (State.react_armed _ _).trans <| (State.journalRecord_armed _ _ _).trans <|
    (State.countLevel_armed _ _ _).trans ?_
  show (if _ then _ else _ : State).flt.armed = []
  split
  · rw [State.disarm_armed, h]
    rfl
  · exact h

theorem State.raiseQrn_armed_nil (s : State) (r source : Nat) (cls : FClass) (loc desc info info2 : Nat) (b f : Bool)
    (h : s.flt.armed = []) : (s.raiseQrn r source cls loc desc info info2 b f).flt.armed = [] :=
  State.raise_armed_nil _ _ _ _ _ _ _ _ _ ((congrArg FltSt.armed ((State.firstQrn_reach ..).part .flt rfl)).trans h)

theorem State.forcedAt_of_armed_nil (s : State) (source loc : Nat) (h : s.flt.armed = []) :
    s.forcedAt source loc = false := by
  rw [State.forcedAt, h]
  rfl

/-! The state of a region. -/

theorem State.regionState_setRegionState (s : State) (r v : Nat) : (s.setRegionState r v).regionState r = v % 16 :=
  State.get_set_self ..

theorem State.regionState_regionEvents (s : State) (r q : Nat) : (s.regionEvents r).regionState q = s.regionState q := by
  unfold State.regionEvents
  exact (State.get_evtIs_apart _ _ _ _ rfl rfl).trans <| (State.get_evtIs_apart _ _ _ _ rfl rfl).trans <|
    (State.get_evtIs_apart _ _ _ _ rfl rfl).trans <| (State.get_evtIs_apart _ _ _ _ rfl rfl).trans <|
    State.get_evtIs_apart _ _ _ _ rfl rfl

/-- The fields of a phase that is loaded stand beside the region's state. -/
theorem State.regionState_loadPhase (s : State) (r n : Nat) (img : List Byte) (gen q : Nat) :
    (s.loadPhase r n img gen).regionState q = s.regionState q := by
  unfold State.loadPhase
  rw [State.regionState_regionEvents]
  exact (State.get_setAll_apart _ _ _ rfl).trans (State.get_setAll_apart _ _ _ rfl)

/-- A STOPPED or RETIRED region keeps its state while it takes a new image's phase (R121). -/
theorem State.regionState_switchStopped (s : State) (r n q : Nat) :
    (s.switchStopped r n).regionState q = s.regionState q := by
  unfold State.switchStopped
  extract_lets img s1 due src src2
  have h1 : s1.regionState q = s.regionState q :=
    (State.regionState_loadPhase ..).trans ((State.dropAll_reach s r).regionState rfl q)
  clear_value s1
  exact h1

theorem State.regionState_switchDue (s : State) (r q : Nat) : (s.switchDue r).regionState q = s.regionState q := by
  unfold State.switchDue
  extract_lets new
  clear_value new
  cases new with
  | nil => rfl
  | cons n t => exact (State.regionState_switchStopped ..).trans ((State.setDrains_reach ..).regionState rfl q)

theorem State.switchDue_of_drains_nil (s : State) (r : Nat) (h : s.drains r = []) : s.switchDue r = s := by
  simp [State.switchDue, h]

theorem State.raiseQrn_newest (s : State) (r source : Nat) (cls : FClass) (loc desc info info2 : Nat) (b f : Bool) :
    (s.raiseQrn r source cls loc desc info info2 b f).newest = some (source, cls, loc) := State.raise_newest ..

/-! The ENTRY list of a region that is not RETIRED is placed into its queues: no descriptor fails, and so no fault is
reported. -/

theorem qRegion_queueFor (r typ : Nat) : qRegion (queueFor r typ) = some r := by
  unfold queueFor
  split <;> rfl

theorem State.place_reach_live (s : State) (q : QueueId) (raw : List Byte) (rep r : Nat) (hq : qRegion q = some r)
    (h : s.regionState r ≠ 5) : Reach 0x2000000000008 s (s.place q raw rep) := by
  unfold State.place
  simp only [hq, beq_false_of_ne h, Bool.false_eq_true, if_false]
  exact (((State.entryOf_reach s q raw rep).mono rfl).step (State.setQueue_reach ..) rfl).step
    (State.countItems_reach ..) rfl

theorem State.feedFrom_reach_live (s : State) (r ref n : Nat) (h : s.regionState r ≠ 5) :
    Reach 0x2000000000008 s (s.feedFrom r ref n) := by
  induction n generalizing s ref with
  | zero => exact Reach.with_sched (Reach.refl _ _) _ rfl
  | succ n ih =>
    rw [State.feedFrom]
    split
    next => exact Reach.with_sched (Reach.refl _ _) _ rfl
    next raw _ =>
      split
      · have hp := s.place_reach_live (queueFor r (beAt raw 0 1)) raw 0 r (qRegion_queueFor ..) h
        exact hp.trans (ih _ _ (by rwa [hp.regionState rfl r]))
      · exact Reach.with_sched (Reach.refl _ _) _ rfl

theorem State.feed_reach_live (s : State) (r : Nat) (h : s.regionState r ≠ 5) : Reach 0x2000000000008 s (s.feed r) := by
  unfold State.feed
  split
  · exact Reach.refl _ _
  · exact Reach.ite (Reach.refl _ _) (State.feedFrom_reach_live _ _ _ _ h)

theorem State.enterDue_reach_live (s : State) (r : Nat) (h : s.regionState r ≠ 5) :
    Reach 0x2000000000008 s (s.enterDue r) := by
  unfold State.enterDue
  split
  · exact Reach.refl _ _
  next ref _ =>
    refine (Reach.with_sched (Reach.refl _ _) { s.sched with entryDue := Tab.erase s.sched.entryDue r } rfl).trans ?_
    unfold State.enter
    exact Reach.ite (Reach.refl _ _) ((Reach.with_sched (Reach.refl _ _) _ rfl).trans (State.feed_reach_live _ _ h))

/-- A STOPPED region restarts (R134): it is IDLE, or goes on draining, and the newest record says so. -/
theorem State.restart_stopped (s : State) (r : Nat) (h : s.regionState r = 4) :
    (s.restart r).regionState r = (if s.drains r = [] then 0 else 2) ∧
      (s.restart r).newest = some (0x53, .ce, locRegion r) := by
  unfold State.restart
  rw [if_pos (by simp [h])]
  extract_lets s1 s2
  have h1 : s1.regionState r = if s.drains r = [] then 0 else 2 := by
    unfold s1
    rw [State.regionState_setRegionState]
    by_cases hd : s.drains r = [] <;> simp [hd]
  have h2 : s2.regionState r = if s.drains r = [] then 0 else 2 :=
    calc s2.regionState r
      _ = (((s1.regionEvents r).evt F.SEQ_EVT_RESTARTED).keepSeq 0x53 (some r) 0 0).regionState r :=
        (State.raise_reach ..).regionState rfl r
      _ = ((s1.regionEvents r).evt F.SEQ_EVT_RESTARTED).regionState r := (State.keepSeq_reach ..).regionState rfl r
      _ = (s1.regionEvents r).regionState r := State.get_evt_apart _ _ _ rfl rfl
      _ = s1.regionState r := State.regionState_regionEvents ..
      _ = _ := h1
  have hnew : s2.newest = some (0x53, .ce, locRegion r) := State.raise_newest ..
  clear_value s2
  have hk := s2.enterDue_reach_live r (by rw [h2]; split <;> decide)
  refine ⟨(hk.regionState rfl r).trans h2, ?_⟩
  rw [← hnew, State.newest, State.newest, show (s2.enterDue r).flt = s2.flt from hk.part .flt rfl]

/-! Scoreboard parity (R34). -/

/-- The region stops with its fault, and the matrices that its loss fails are reported (R86). -/
def State.parityStop (s : State) (r : Nat) : State :=
  (((s.stopRegion r).regionEvents r).raiseQrn r 0x24 .uc (locRegion r)).matFails r (s.regionMatrices r)

/-- What follows the stop: AUTO_RESTART restarts the region outside FATAL (R134); one that stays STOPPED switches at once
to an image being applied (R121). -/
def State.afterStop (s : State) (r : Nat) : State :=
  if s.flag F.SEQ_CFG_AUTO_RESTART && !s.fatal then s.restart r
  else if s.regionState r == 4 then s.switchDue r
  else s

/-- Where no retirement waits, parity stops a region, and the rest follows. -/
theorem exec_scbPar (s : State) (r : Nat) (h4 : s.regionState r ≠ 4) (h5 : s.regionState r ≠ 5) (hdue : s.qrn.due = []) :
    exec (.scbPar r) s = .next ((s.parityStop r).afterStop r) := by
  have hgo : ¬(s.regionState r == 4 || s.regionState r == 5) = true := by simp [h4, h5]
  have hd : (((s.stopRegion r).regionEvents r).raiseQrn r 0x24 .uc (locRegion r)).qrn.due = [] :=
    calc (((s.stopRegion r).regionEvents r).raiseQrn r 0x24 .uc (locRegion r)).qrn.due
      _ = ((s.stopRegion r).regionEvents r).qrn.due := congrArg _ ((State.raiseQrn_reach ..).part .qrn rfl)
      _ = (s.stopRegion r).qrn.due := congrArg _ ((State.regionEvents_reach ..).part .qrn rfl)
      _ = [] := hdue
  have hstop : (s.parityStop r).retireDue
      (((s.stopRegion r).regionEvents r).raiseQrn r 0x24 .uc (locRegion r)).qrn.due = s.parityStop r := by
    rw [hd, State.retireDue]
  exact congrArg Host.Outcome.next ((if_neg hgo).trans (congrArg (State.afterStop · r) hstop))

theorem State.regionState_parityStop (s : State) (r : Nat) : (s.parityStop r).regionState r = 4 :=
  calc (s.parityStop r).regionState r
    _ = (((s.stopRegion r).regionEvents r).raiseQrn r 0x24 .uc (locRegion r)).regionState r :=
      (State.matFails_reach ..).regionState rfl r
    _ = ((s.stopRegion r).regionEvents r).regionState r := State.get_raiseQrn_apart _ _ _ _ _ _ _ _ _ _ _ rfl rfl
    _ = (s.stopRegion r).regionState r := State.regionState_regionEvents ..
    _ = 4 := State.regionState_setRegionState s r 4

/-! The stop leaves AUTO_RESTART, FATAL and the drain requests that wait. -/

theorem State.autoRestart_parityStop (s : State) (r : Nat) :
    (s.parityStop r).flag F.SEQ_CFG_AUTO_RESTART = s.flag F.SEQ_CFG_AUTO_RESTART := by
  have hk : Reach 0xb420208800110 s (s.parityStop r) :=
    ((((State.stopRegion_reach s r).mono rfl).step (State.regionEvents_reach ..) rfl).step
      (State.raiseQrn_reach ..) rfl).step (State.matFails_reach ..) rfl
  rw [State.flag, hk.get _ rfl, State.flag]

theorem State.fatal_matFail (s : State) (r desc : Nat) (m : Option Nat) : (s.matFail r desc m).fatal = s.fatal := by
  refine congrArg (· == 1) (?_ : (s.matFail r desc m).get F.FLT_STAT_FATAL = s.get F.FLT_STAT_FATAL)
  unfold State.matFail
  split
  · rfl
  · dsimp only
    split
    · rfl
    · exact (State.get_raise_apart _ _ _ _ _ _ _ _ _ _ rfl).trans <| (State.get_evt_apart _ _ _ rfl rfl).trans <|
        (State.get_bump_apart _ _ _ _ rfl).trans <| (State.firstUpd_reach ..).get _ rfl

theorem State.fatal_matFails (s : State) (r : Nat) (l : List (Option Nat)) : (s.matFails r l).fatal = s.fatal := by
  induction l generalizing s with
  | nil => rfl
  | cons m l ih => exact (ih _).trans (State.fatal_matFail ..)

theorem State.fatal_parityStop (s : State) (r : Nat) : (s.parityStop r).fatal = s.fatal := by
  have hq : (((s.stopRegion r).regionEvents r).raiseQrn r 0x24 .uc (locRegion r)).get F.FLT_STAT_FATAL =
      s.get F.FLT_STAT_FATAL :=
    (State.get_raiseQrn_apart _ _ _ _ _ _ _ _ _ _ _ rfl rfl).trans <|
      ((State.regionEvents_reach ..).get _ rfl).trans ((State.stopRegion_reach ..).get _ rfl)
  exact (State.fatal_matFails ..).trans (congrArg (· == 1) hq)

theorem State.drains_parityStop (s : State) (r : Nat) : (s.parityStop r).drains r = s.drains r := by
  have hk : Reach 0x8420208800110 (s.stopRegion r) (s.parityStop r) :=
    (((State.regionEvents_reach ..).mono rfl).step (State.raiseQrn_reach ..) rfl).step (State.matFails_reach ..) rfl
  rw [State.drains, show (s.parityStop r).sched = _ from hk.part .sched rfl]
  rfl

/-- The loss of a region outside the step, whose Spindle runs nothing, fails no matrix: parity's record is the newest. -/
theorem State.newest_parityStop (s : State) (r : Nat) (he : s.excluded r = true)
    (hf : ∀ f ∈ s.sched.flights, f.queue ≠ .spin r) : (s.parityStop r).newest = some (0x24, .uc, locRegion r) := by
  have hm : s.regionMatrices r = [none] := by
    have : (s.sched.flights.filter fun f => f.queue == .spin r && decide (0 < f.unit)) = [] := by
      rw [List.filter_eq_nil_iff]
      intro f hmem
      simp [hf f hmem]
    simp [State.regionMatrices, he, this]
  rw [State.parityStop, hm]
  exact State.raiseQrn_newest ..

/-! Registers that clear, and Tempo. -/

/-- A field whose reset value is 0 is listed no more once it clears. -/
theorem State.set_rst_regs (s : State) (f : Fld) (h : f.rst = 0) : (s.set f f.rst).regs = Tab.erase s.regs f.key := by
  simp [State.set, h]

/-- Fields that clear to 0 list no key anew. -/
theorem State.find_clearAll_none (s : State) (l : List Fld) (h0 : ∀ f ∈ l, f.rst = 0) (k : Nat)
    (h : Tab.find s.regs k = none) : Tab.find (s.clearAll l).regs k = none := by
  induction l generalizing s with
  | nil => exact h
  | cons f l ih =>
    refine ih _ (fun x hx => h0 x (.tail _ hx)) ?_
    rw [State.set_rst_regs s f (h0 f (.head _))]
    by_cases hk : f.key = k
    · exact hk ▸ Tab.find_erase_same ..
    · rwa [Tab.find_erase_ne _ _ _ hk]

/-- A field of a list that clears to 0 reads 0. -/
theorem State.get_clearAll_mem (s : State) (l : List Fld) (h0 : ∀ f ∈ l, f.rst = 0) (g : Fld) (hg : g ∈ l) :
    (s.clearAll l).get g = 0 := by
  have hnone : Tab.find (s.clearAll l).regs g.key = none := by
    induction l generalizing s with
    | nil => exact nomatch hg
    | cons f l ih =>
      have h0' : ∀ x ∈ l, x.rst = 0 := fun x hx => h0 x (.tail _ hx)
      rcases List.mem_cons.mp hg with rfl | hg
      · refine State.find_clearAll_none _ l h0' _ ?_
        rw [State.set_rst_regs s g (h0 g (.head _))]
        exact Tab.find_erase_same ..
      · exact ih _ h0' hg
  rw [State.get, hnone]
  exact h0 g hg

/-! Tempo (R41–R43). -/

/-- A field of a region's window on its Quern page. -/
def Fld.regional (f : Fld) : Bool :=
  decide (f.lo < 32) && decide (f.base < 2 ^ 25) && f.off == 0 && f.s1 == 0x100000 && f.s2 == 0x1000

/-- The windows of two regions stand apart. -/
theorem Fld.reg_key_ne {f g : Fld} (hf : f.regional = true) (hg : g.regional = true) {q r : Nat} (h : q ≠ r) :
    (f.reg q).key ≠ (g.reg r).key := by
  simp only [Fld.regional, Bool.and_eq_true, decide_eq_true_eq, beq_iff_eq] at hf hg
  obtain ⟨⟨⟨⟨hfl, hfb⟩, hfo⟩, hf1⟩, hf2⟩ := hf
  obtain ⟨⟨⟨⟨hgl, hgb⟩, hgo⟩, hg1⟩, hg2⟩ := hg
  simp only [Fld.key, Fld.reg, Fld.ix, hfo, hf1, hf2, hgo, hg1, hg2]
  omega

theorem State.get_setAll_other (s : State) (l : List (Fld × Nat)) (g : Fld) (h : ∀ x ∈ l, x.1.key ≠ g.key) :
    (s.setAll l).get g = s.get g := by
  induction l generalizing s with
  | nil => rfl
  | cons x l ih => exact (ih _ fun y hy => h y (.tail _ hy)).trans (State.get_set_other _ _ _ _ (h x (.head _)))

/-- The fields in which a window of Tempo shows a region's rate. -/
def tempoFlds : List Fld := [F.QRN_TEMPO_RATE_BUSY, F.QRN_TEMPO_RATE_RATE_MTS]

theorem tempoFlds_regional : ∀ f ∈ tempoFlds, f.regional = true := by decide

theorem tempoFlds_apart : ∀ f ∈ tempoFlds, F.QRN_EVT_LOW_RATE.apart f = true ∧ F.QRN_EVT_LOW_RATE.seqOf.apart f = true ∧
    firstQrnFlds.all (fun x => x.apart f) = true ∧ raiseFlds.all (fun x => x.apart f) = true := by decide

theorem tempoFlds_apart_slowest : ∀ f ∈ tempoFlds,
    (F.QRN_SLOWEST_REGION.apart f && (F.QRN_SLOWEST_RATE_MTS.apart f && true)) = true := by decide

/-- The condition of a low rate (R43) leaves the rates shown. -/
theorem State.get_lowRate (s : State) (q rate r : Nat) (f : Fld) (hf : f ∈ tempoFlds) :
    (s.lowRate q rate).get (f.reg r) = s.get (f.reg r) := by
  obtain ⟨hlow, hseq, hfirst, hraise⟩ := tempoFlds_apart f hf
  unfold State.lowRate
  extract_lets low lo hi src s1 src2
  have h1 : ∀ x, ({ s1 with qrn := x } : State).get (f.reg r) = s.get (f.reg r) := fun _ => get_of_regs rfl _
  have hs1 : s1.get (f.reg r) = s.get (f.reg r) := get_of_regs rfl _
  clear_value s1
  split
  · rw [State.get_raiseQrn_apart (g := f.reg r) (hq := hfirst) (h := hraise),
      State.get_evt_apart _ (F.QRN_EVT_LOW_RATE.reg q) (f.reg r) hlow hseq]
    exact h1 _
  · split
    · rw [State.get_evtEnd_apart _ (F.QRN_EVT_LOW_RATE.reg q) (f.reg r) hlow]
      exact h1 _
    · exact hs1

/-- The reports of later regions leave a region's rate. -/
theorem State.get_tempo_of_lt (s : State) (q : Nat) (l : List TempoReport) (r : Nat) (h : r < q) (f : Fld)
    (hf : f ∈ tempoFlds) : (s.tempo q l).get (f.reg r) = s.get (f.reg r) := by
  induction l generalizing s q with
  | nil => rfl
  | cons x l ih =>
    rw [State.tempo, ih _ _ (by omega), State.get_lowRate _ _ _ _ _ hf]
    have hne : ∀ g : Fld, g.regional = true → (g.reg q).key ≠ (f.reg r).key := fun g hg =>
      Fld.reg_key_ne hg (tempoFlds_regional f hf) (by omega)
    refine State.get_setAll_other _ _ _ ?_
    simp only [List.forall_mem_cons, List.not_mem_nil, false_implies, implies_true, and_true]
    exact ⟨hne _ rfl, hne _ rfl, hne _ rfl⟩

/-- A report stands in its region's fields. -/
theorem State.get_tempo (s : State) (q : Nat) (l : List TempoReport) (i : Nat) (x : TempoReport) (hx : l[i]? = some x) :
    (s.tempo q l).get (F.QRN_TEMPO_RATE_RATE_MTS.reg (q + i)) = min 65535 (x.completions / 10) ∧
      (s.tempo q l).get (F.QRN_TEMPO_RATE_BUSY.reg (q + i)) = min 255 x.busy := by
  induction l generalizing s q i with
  | nil => simp at hx
  | cons y l ih =>
    rw [State.tempo]
    cases i with
    | succ i =>
      rw [show q + (i + 1) = q + 1 + i by omega]
      exact ih _ _ _ (by simpa using hx)
    | zero =>
      obtain rfl : y = x := by simpa using hx
      simp only [Nat.add_zero]
      rw [State.get_tempo_of_lt _ _ _ _ (by omega) _ (by simp [tempoFlds]),
        State.get_tempo_of_lt _ _ _ _ (by omega) _ (by simp [tempoFlds]),
        State.get_lowRate _ _ _ _ _ (by simp [tempoFlds]), State.get_lowRate _ _ _ _ _ (by simp [tempoFlds])]
      simp only [State.setAll]
      constructor
      · rw [State.get_set_self]
        exact Nat.mod_eq_of_lt (show min 65535 (y.completions / 10) < 2 ^ 16 by omega)
      · rw [State.get_set_apart _ _ _ _ rfl, State.get_set_self]
        exact Nat.mod_eq_of_lt (show min 255 y.busy < 2 ^ 8 by omega)

/-! The clauses of the statement. -/

theorem tempoWindow_spec (s : State) (reports : List TempoReport) (r : Nat) (x : TempoReport)
    (hrun : s.time.running = true) (hr : r < 64) (hx : reports[r]? = some x) :
    ∃ t, exec (.tempoWindow reports) s = .next t ∧
      t.get (F.QRN_TEMPO_RATE_RATE_MTS.reg r) = min 65535 (x.completions / 10) ∧
      t.get (F.QRN_TEMPO_RATE_BUSY.reg r) = min 255 x.busy := by
  have hslow : ∀ (u : State) (d : Nat), ∀ f ∈ tempoFlds, (u.slowestRegion d).get (f.reg r) = u.get (f.reg r) :=
    fun u d f hf => State.get_setAll_apart _ _ (f.reg r) (tempoFlds_apart_slowest f hf)
  have hrate := State.get_tempo s 0 (reports.take 64) r x (by rwa [List.getElem?_take_of_lt hr])
  rw [Nat.zero_add] at hrate
  refine ⟨_, congrArg Host.Outcome.next (if_pos hrun), ?_, ?_⟩
  · simpa only [hslow _ _ F.QRN_TEMPO_RATE_RATE_MTS (by simp [tempoFlds])] using hrate.1
  · simpa only [hslow _ _ F.QRN_TEMPO_RATE_BUSY (by simp [tempoFlds])] using hrate.2

theorem swRetire_spec (s : State) (r mask : Nat) (ht : s.takesWrite (4 + r / 16) = true) (hruns : s.qrn.runs = [])
    (hdue : s.qrn.due = []) : ∃ t, exec (.swRetire r mask) s = .next t ∧
      ∀ b < 16, t.qrn.retired.has (16 * r + b) = (s.qrn.retired.has (16 * r + b) || bit mask b) := by
  refine ⟨_, congrArg Host.Outcome.next (State.hostWrite_act s _ _ ht), fun b hb => ?_⟩
  rw [State.swRetire_retired s r mask _ hruns hdue]
  simp [hb]

theorem qrnBlkRestore_spec (s : State) (r mask : Nat) (ht : s.takesWrite (4 + r / 16) = true) :
    ∃ t, exec (.qrnBlkRestore r mask) s = .next t ∧
      if s.maintenance = true then
        ∀ b < 16, t.qrn.retired.has (16 * r + b) =
          (s.qrn.retired.has (16 * r + b) && !(bit mask b && s.qrn.tested.has (16 * r + b)))
      else t = s := by
  refine ⟨_, congrArg Host.Outcome.next (State.hostWrite_act s _ _ ht), ?_⟩
  split
  case isTrue =>
    intro b hb
    rw [State.restoreBlocks_retired]
    simp [hb]
  case isFalse => rfl

theorem spareCheck_spec (s : State) (r : Nat) (passed : Bool) (hv : s.get (F.QRN_BLK_MAP_SPARE_VALID.reg r) = 1)
    (hc : s.get (F.QRN_RETIRE_CFG_SPARE_CHECK.ix (r / 16)) = 1) (ha : s.flt.armed = []) :
    ∃ t, exec (.spareCheck r passed) s = .next t ∧
      if passed = true then t = s
      else t.qrn.retired.has (16 * r + s.get (F.QRN_BLK_MAP_SPARE_PHYS.reg r)) = true := by
  refine ⟨_, rfl, ?_⟩
  simp only [State.flag, hv, hc, State.forcedAt_of_armed_nil s _ _ ha]
  cases passed with
  | true => rfl
  | false =>
    obtain ⟨hret, -, -⟩ := State.retireNow_blocks s (16 * r + s.get (F.QRN_BLK_MAP_SPARE_PHYS.reg r)) 0x14 false
    exact (hret _).trans (by simp)

theorem scbPar_spec (s : State) (r : Nat) (h4 : s.regionState r ≠ 4) (h5 : s.regionState r ≠ 5) (hdue : s.qrn.due = []) :
    ∃ t, exec (.scbPar r) s = .next t ∧
      (s.flag F.SEQ_CFG_AUTO_RESTART = false → t.regionState r = 4 ∧
        (s.excluded r = true → s.drains r = [] → (∀ f ∈ s.sched.flights, f.queue ≠ .spin r) →
          t.newest = some (0x24, .uc, locRegion r))) ∧
      (s.flag F.SEQ_CFG_AUTO_RESTART = true → s.fatal = false → t.regionState r = if s.drains r = [] then 0 else 2) := by
  have hstop := State.regionState_parityStop s r
  refine ⟨_, exec_scbPar s r h4 h5 hdue, fun hauto => ?_, fun hauto hfatal => ?_⟩
  · simp only [State.afterStop, State.autoRestart_parityStop, hauto, hstop, Bool.false_and, Bool.false_eq_true, if_false,
      beq_self_eq_true, if_true]
    refine ⟨(State.regionState_switchDue ..).trans hstop, fun he hd hf => ?_⟩
    rw [State.switchDue_of_drains_nil _ _ ((State.drains_parityStop s r).trans hd)]
    exact State.newest_parityStop s r he hf
  · simp only [State.afterStop, State.autoRestart_parityStop, State.fatal_parityStop, hauto, hfatal, Bool.not_false,
      Bool.and_self, if_true]
    rw [← State.drains_parityStop s r]
    exact (State.restart_stopped _ r hstop).1

theorem seqRestart_spec (s : State) (r : Nat) (ht : s.takesWrite 3 = true) (h4 : s.regionState r = 4) :
    ∃ t, exec (.seqRestart r) s = .next t ∧
      t.regionState r = (if s.drains r = [] then 0 else 2) ∧ t.newest = some (0x53, .ce, locRegion r) :=
  ⟨_, congrArg Host.Outcome.next (State.hostWrite_act s _ _ ht),
    State.restart_stopped (s.set F.SEQ_RESTART_REGION r) r ((State.get_set_apart _ _ _ _ rfl).trans h4)⟩

theorem State.failFlight_newest (s : State) (sid : Nat) : (s.failFlight sid).newest = s.newest := rfl

theorem State.failFlight_get (s : State) (sid : Nat) (f : Fld) : (s.failFlight sid).get f = s.get f := rfl

theorem flitResent_spec (s : State) (q : QueueId) (r sid : Nat) (second : Bool) (hq : qRegion q = some r)
    (ha : s.flt.armed = []) : ∃ t, exec (.flitResent q sid second) s = .next t ∧
      t.get (F.QRN_CNT_B_FLIT.reg r) = satAdd F.QRN_CNT_B_FLIT.width (s.get (F.QRN_CNT_B_FLIT.reg r)) 1 ∧
      t.newest = some (if second then (0x23, .uc, locRegion r) else (0x22, .ce, locRegion r)) := by
  have hbump : (s.bump (F.QRN_CNT_B_FLIT.reg r)).get (F.QRN_CNT_B_FLIT.reg r) =
      satAdd F.QRN_CNT_B_FLIT.width (s.get (F.QRN_CNT_B_FLIT.reg r)) 1 :=
    (State.get_set_self ..).trans (Nat.mod_eq_of_lt (by
      show min _ (2 ^ 16 - 1) < 2 ^ 16
      omega))
  have hraise : ∀ (u : State) (source : Nat) (cls : FClass) (loc desc : Nat),
      (u.raiseQrn r source cls loc desc).get (F.QRN_CNT_B_FLIT.reg r) = u.get (F.QRN_CNT_B_FLIT.reg r) :=
    fun u source cls loc desc => State.get_raiseQrn_apart _ _ _ _ _ _ _ _ _ _ _ rfl rfl
  have hforced : ((s.bump (F.QRN_CNT_B_FLIT.reg r)).raiseQrn r 0x22 .ce (locRegion r) (s.flightId sid)).forcedAt 0x23
      (locRegion r) = false :=
    State.forcedAt_of_armed_nil _ _ _ (State.raiseQrn_armed_nil _ _ _ _ _ _ _ _ _ _ ha)
  refine ⟨_, rfl, ?_⟩
  simp only [hq, hforced, Bool.or_false]
  cases second with
  | true =>
    simp only [if_true, State.failFlight_get, State.failFlight_newest, hraise, hbump, true_and]
    exact State.raiseQrn_newest ..
  | false =>
    simp only [Bool.false_eq_true, if_false, hraise, hbump, true_and]
    exact State.raiseQrn_newest ..

theorem qrnCntClr_spec (s : State) (r : Nat) (ht : s.takesWrite (4 + r / 16) = true) :
    ∃ t, exec (.qrnCntClr r) s = .next t ∧
      t.get (F.QRN_CNT_A_RETRY.reg r) = 0 ∧ t.get (F.QRN_CNT_A_SRAM_CE.reg r) = 0 ∧
      t.get (F.QRN_CNT_B_SRAM_UC.reg r) = 0 ∧ t.get (F.QRN_CNT_B_FLIT.reg r) = 0 ∧ t.get (F.QRN_CNT_C_NAN.reg r) = 0 ∧
      t.get (F.QRN_CNT_C_INF.reg r) = 0 ∧ t.get (F.QRN_FE_SRC_SOURCE.reg r) = 0 := by
  refine ⟨_, congrArg Host.Outcome.next (State.hostWrite_act s _ _ ht), ?_⟩
  have hclear := State.get_clearAll_mem s
    [F.QRN_CNT_A_RETRY.reg r, F.QRN_CNT_A_SRAM_CE.reg r, F.QRN_CNT_B_SRAM_UC.reg r, F.QRN_CNT_B_FLIT.reg r,
      F.QRN_CNT_C_NAN.reg r, F.QRN_CNT_C_INF.reg r, F.QRN_FE_LOC_LOC.reg r, F.QRN_FE_SRC_SOURCE.reg r,
      F.QRN_FE_SRC_TILE.reg r] (by
        simp only [List.forall_mem_cons, List.not_mem_nil, false_implies, implies_true, and_true]
        exact ⟨rfl, rfl, rfl, rfl, rfl, rfl, rfl, rfl, rfl⟩)
  exact ⟨hclear _ (by simp), hclear _ (by simp), hclear _ (by simp), hclear _ (by simp), hclear _ (by simp),
    hclear _ (by simp), hclear _ (by simp)⟩

/-! The statement. -/

/-- Settles O20: one clause for each command of a region. -/
theorem quernRegionCommands : Obligations.QuernRegionCommands := fun s _ =>
  ⟨tempoWindow_spec s, swRetire_spec s, qrnBlkRestore_spec s, spareCheck_spec s, scbPar_spec s, seqRestart_spec s,
    flitResent_spec s, qrnCntClr_spec s⟩

end Sys2Proof.Machine
end
